-- ==== Sys2Proof/Word.lean ====
section
/-! DEFINITION. The word types of the XJ9640: bytes, 32-bit register words (R9), 40-bit physical addresses. -/

namespace Sys2Proof

/-- One byte of memory or of a telegram. -/
abbrev Byte := BitVec 8

/-- The value of a PERI register: 32 bits, little-endian (R9). -/
abbrev Word := BitVec 32

/-- A 64-bit value of a core or of a fabric request. -/
abbrev DWord := BitVec 64

/-- A 40-bit physical address (R95). -/
abbrev Addr := BitVec 40

end Sys2Proof
end

