-- ==== Sys2Proof/Syntax.lean ====
section
/-! DEFINITION. The commands of the block: one constructor of `Instr` for each row of spec/opcode_table.json, with its
operands. The manual gives the commands no encoding; the operands are what the rule of each row names. -/

namespace Sys2Proof

/-- The initiators of the fabric (R100, R104). -/
inductive Initiator where
  | role (r : Fin 7) | security | solver (n : Fin 4) | loop (n : Fin 2) | metering | canDma | ethRt | xsx | dio
  | sillage | bestEffort (k : Fin 8)
  deriving DecidableEq, Repr

/-- The code of an initiator: OWNER of R100, or the best-effort code of R104. -/
def Initiator.code : Initiator → Nat
  | .role r => r.val | .security => 8 | .solver n => 9 + n.val | .loop n => 13 + n.val | .metering => 15
  | .canDma => 16 | .ethRt => 17 | .xsx => 18 | .dio => 19 | .sillage => 20 | .bestEffort k => 32 + k.val

/-- The 2-bit quality code of R13. -/
inductive Quality where
  | good | held | subst | bad
  deriving DecidableEq, Repr, Inhabited

/-- The code of a quality (R13). -/
def Quality.code : Quality → Nat
  | .good => 0 | .held => 1 | .subst => 2 | .bad => 3

/-- The quality a 2-bit code names (R13). -/
def Quality.ofCode (c : Nat) : Quality :=
  if c % 4 = 0 then .good else if c % 4 = 1 then .held else if c % 4 = 2 then .subst else .bad

/-- The outcome of ECC on the memory a request reads (R99). -/
inductive Ecc where
  | ok | corrected | uncorrected
  deriving DecidableEq, Repr

/-- An uncorrectable flash read during a validation (R575): a byte of the slot that fails from a step of R68 on (1, 6 or 8; a byte
that the steps before read well fails at a later one), or the image of a bank of a partition at step 16. -/
inductive BadRead where
  | byte (ofs step : Nat)
  | image (part : Nat) (bankB : Bool)
  deriving DecidableEq, Repr

/-- What ends a solver job for its memory: an uncorrectable error in an operand, or an access error of the engine's DMA at an
address (R165). -/
inductive MemErr where
  | ecc | dma (addr : Addr) (write : Bool)
  deriving DecidableEq, Repr

/-- The atomic operations of a fabric request (R93, R103; the A extension). -/
inductive AmoOp where
  | swap | add | xor | and | or | min | max | minu | maxu
  deriving DecidableEq, Repr

/-- The access kinds of a fabric request (R93, R103, FAB_ERR_INFO.ACCESS). -/
inductive FabKind where
  | read | write | amo (op : AmoOp) | lr | sc | fetch
  deriving DecidableEq, Repr

/-- A fabric request: kind, address, size in bytes, data written, and the outcome of ECC (R93, R99). -/
structure FabReq where
  /-- Access kind. -/
  kind : FabKind
  /-- Physical address. -/
  addr : Addr
  /-- Bytes, 1 to 64. -/
  size : Nat
  /-- Bytes written, least significant first. -/
  data : List Byte
  /-- Outcome of ECC on the bytes read. -/
  ecc : Ecc
  /-- The 64-byte line of D-TCM that a beat of a role's DMA channel moves (R105); of no use in another request. -/
  line : Fin 4096
  deriving DecidableEq, Repr

/-- Conditions of a branch (RV64I). -/
inductive BrOp where
  | eq | ne | lt | ge | ltu | geu
  deriving DecidableEq, Repr

/-- Widths of a load (RV64I). -/
inductive LdOp where
  | b | h | w | d | bu | hu | wu
  deriving DecidableEq, Repr

/-- Widths of a store (RV64I). -/
inductive StOp where
  | b | h | w | d
  deriving DecidableEq, Repr

/-- Integer operations (RV64I). -/
inductive AluOp where
  | add | sub | sll | slt | sltu | xor | srl | sra | or | and | addw | subw | sllw | srlw | sraw
  deriving DecidableEq, Repr

/-- Multiplications and divisions (RV64M). -/
inductive MulOp where
  | mul | mulh | mulhsu | mulhu | mulw | div | divu | rem | remu | divw | divuw | remw | remuw
  deriving DecidableEq, Repr

/-- Floating-point operations with a floating-point result (the F and D extensions); `cvt` converts from the other format. -/
inductive FpOp where
  | add | sub | mul | div | sqrt | madd | msub | nmsub | nmadd | sgnj | sgnjn | sgnjx | min | max | cvt
  deriving DecidableEq, Repr

/-- Floating-point operations with an integer result (the F and D extensions). -/
inductive FpIntOp where
  | eq | lt | le | classify | move | toW | toWu | toL | toLu
  deriving DecidableEq, Repr

/-- Floating-point operations with an integer operand (the F and D extensions). -/
inductive IntFpOp where
  | move | ofW | ofWu | ofL | ofLu
  deriving DecidableEq, Repr

/-- The forms of a CSR instruction (Zicsr). -/
inductive CsrOp where
  | rw | rs | rc
  deriving DecidableEq, Repr

/-- One RV64GC instruction as a core issues it (R91, R92). A compressed instruction is its expanded form; the command says
whether it was compressed. -/
inductive CoreInstr where
  | lui (rd : Fin 32) (imm : BitVec 20)
  | auipc (rd : Fin 32) (imm : BitVec 20)
  | jal (rd : Fin 32) (off : BitVec 21)
  | jalr (rd rs1 : Fin 32) (off : BitVec 12)
  | branch (op : BrOp) (rs1 rs2 : Fin 32) (off : BitVec 13)
  | load (op : LdOp) (rd rs1 : Fin 32) (off : BitVec 12)
  | store (op : StOp) (rs1 rs2 : Fin 32) (off : BitVec 12)
  | aluImm (op : AluOp) (rd rs1 : Fin 32) (imm : BitVec 12)
  | alu (op : AluOp) (rd rs1 rs2 : Fin 32)
  | mul (op : MulOp) (rd rs1 rs2 : Fin 32)
  | amo (op : AmoOp) (dbl : Bool) (rd rs1 rs2 : Fin 32)
  | lr (dbl : Bool) (rd rs1 : Fin 32)
  | sc (dbl : Bool) (rd rs1 rs2 : Fin 32)
  | fload (dbl : Bool) (rd rs1 : Fin 32) (off : BitVec 12)
  | fstore (dbl : Bool) (rs1 rs2 : Fin 32) (off : BitVec 12)
  | fp (op : FpOp) (dbl : Bool) (rm : Fin 8) (rd rs1 rs2 rs3 : Fin 32)
  | fpToInt (op : FpIntOp) (dbl : Bool) (rm : Fin 8) (rd rs1 rs2 : Fin 32)
  | intToFp (op : IntFpOp) (dbl : Bool) (rm : Fin 8) (rd rs1 : Fin 32)
  | csr (op : CsrOp) (rd rs1 : Fin 32) (addr : BitVec 12)
  | csrImm (op : CsrOp) (rd : Fin 32) (imm : BitVec 5) (addr : BitVec 12)
  | fence | fenceI | ecall | ebreak | mret | wfi | illegal
  deriving DecidableEq, Repr

/-- The read-shadow groups of the frame sequencer (R56). -/
inductive FsGroup where
  | tnc | tb | tickTb
  deriving DecidableEq, Repr

/-- What the supply and the pins do while a drydown runs (R510 to R513): the completion times of steps 1 to 6 in µs (a
shorter list when the bus reaches HOLD_MIN before step 6), the hold voltage before and after in 10 mV, an input that
became PRESENT, and a reset that arose. -/
structure DrydownRun where
  /-- Completion times of the steps that completed, in µs from the start of the drydown. -/
  times : List Nat
  /-- Hold voltage at the start, 10 mV. -/
  holdStart : Nat
  /-- Hold voltage at the end of step 6, 10 mV. -/
  holdEnd : Nat
  /-- VIN_A became PRESENT before the end of step 6. -/
  aBack : Bool
  /-- VIN_B became PRESENT before the end of step 6. -/
  bBack : Bool
  /-- A RESET_N, watchdog or software reset arose (R508). -/
  reset : Bool
  /-- A clock fault ended the drydown after the last of `times` (R508). -/
  clock : Bool
  /-- Modulator bits of the decimation edge on which the metering capture of step 3 falls (R337). -/
  edge : List (Fin 96 × List Bool)
  deriving DecidableEq, Repr

/-- A twin frame as it arrives: header fields, payload and tag (R533). -/
structure TwinIn where
  /-- SEQ. -/
  seq : Nat
  /-- PART. -/
  part : Nat
  /-- COMMIT. -/
  commit : Nat
  /-- The payload, LEN bytes. -/
  payload : List Byte
  /-- The 16-byte tag. -/
  tag : List Byte
  deriving DecidableEq, Repr

/-- A CAN frame on the bus (R345, R354 to R356). -/
structure CanFrame where
  /-- 29-bit identifier. -/
  ide : Bool
  /-- FD format. -/
  fdf : Bool
  /-- Error state indicator. -/
  esi : Bool
  /-- Classical remote frame. -/
  rtr : Bool
  /-- Identifier. -/
  id : BitVec 29
  /-- Data length code. -/
  dlc : Fin 16
  /-- Data bytes. -/
  data : List Byte
  /-- TB[31:0] at the start of frame (R54, R356). -/
  sof : BitVec 32
  deriving DecidableEq, Repr

/-- A bus error as a port sees it (R347, R351): as transmitter, as receiver, as receiver that finds a dominant bit after its
error flag, or a recessive res bit. -/
inductive CanErr where
  | tx (lec : Fin 7) | rx (lec : Fin 7) | rxDominant (lec : Fin 7) | res
  deriving DecidableEq, Repr

/-- The fault conditions of a field channel (R421). -/
inductive DioFault where
  | wireBreak | overload | thermal | mismatch | undervoltage
  deriving DecidableEq, Repr

/-- How a received frame is addressed above its VLAN (R380, R381). -/
inductive EthKind where
  /-- UDP to a port. -/
  | udp (dport : Nat)
  /-- EtherType 0x88F7. -/
  | ptp
  /-- A fragment, IPv4 options or an extension header that is dropped. -/
  | unsupported
  /-- Any other frame addressed to the module. -/
  | other
  deriving DecidableEq, Repr

/-- A received Ethernet frame (R377, R380, R381). -/
structure EthIn where
  /-- Length in bytes. -/
  len : Nat
  /-- The FCS is right. -/
  fcsOk : Bool
  /-- VID of its tag; 0 for an untagged or priority-tagged frame. -/
  vid : Nat
  /-- What it carries. -/
  kind : EthKind
  /-- Bytes that wait in the receive FIFO when it arrives. -/
  waiting : Nat
  deriving DecidableEq, Repr

/-- A PTP event message that a port receives or sends (R384). -/
structure PtpMsg where
  /-- messageType. -/
  type : Nat
  /-- Sent, not received. -/
  sent : Bool
  /-- sequenceId. -/
  seq : Nat
  /-- domainNumber. -/
  domain : Nat
  /-- Interface index. -/
  iface : Nat
  /-- sourcePortIdentity, 10 bytes. -/
  source : List Byte
  deriving DecidableEq, Repr

/-- The read-shadow groups of the PTP block (R408). -/
inductive PtpGroup where
  | time | ref
  deriving DecidableEq, Repr

/-- A telegram as the exchange engine receives it (R387). -/
structure XsxIn where
  /-- Interface index. -/
  iface : Nat
  /-- Source address, 16 bytes. -/
  addr : List Byte
  /-- Source UDP port. -/
  port : Nat
  /-- The datagram. -/
  bytes : List Byte
  deriving DecidableEq, Repr

/-- A frame of the service channel as it arrives (R401); TYPE is that of the command. -/
structure SvcIn where
  /-- MAGIC is right. -/
  magic : Bool
  /-- FLAGS. -/
  flags : Nat
  /-- SEQ. -/
  seq : Nat
  /-- LEN. -/
  len : Nat
  /-- Payload. -/
  payload : List Byte
  /-- Tag. -/
  tag : List Byte
  deriving DecidableEq, Repr

/-- The commands of the XJ9640, in the order of spec/opcode_table.json; each constructor is one row. -/
inductive Instr where
  /-- REGISTER_WRITE (R10). -/
  | registerWrite (who : Initiator) (addr : Addr) (v : Word)
  /-- CORE_INSTRUCTION (R92); the errors of its fetch and of its TCM access. -/
  | coreInstruction (p : Fin 9) (short : Bool) (i : CoreInstr) (ecc : Ecc × Ecc)
  /-- FABRIC_REQUEST (R93). -/
  | fabricRequest (who : Initiator) (q : FabReq)
  /-- MIRROR_CONSISTENCY_POINT (R113). -/
  | mirrorConsistencyPoint (r : Fin 7)
  /-- MIRROR_APPLY (R113). -/
  | mirrorApply (r : Fin 7)
  /-- LOCKSTEP_FAILURE (R111). -/
  | lockstepFailure (pairs : List (Fin 8))
  /-- MIGRATION_COMMAND (R116). -/
  | migrationCommand (who : Initiator) (v : Word)
  /-- MIGRATION (R117). -/
  | migration
  /-- MIGRATION_RESUME (R117). -/
  | migrationResume (ecc : Ecc)
  /-- COLLECTOR_SWEEP (R107). -/
  | collectorSweep
  /-- FAB_COL_RELEASE (R125). -/
  | fabColRelease (who : Initiator) (v : Word)
  /-- TOP_TICK (R34). -/
  | topTick
  /-- HEART_TICK (R34). -/
  | heartTick (temp : BitVec 16)
  /-- BASE_TICK (R34). -/
  | baseTick
  /-- LOOP_PASS (R253). -/
  | loopPass (mism ecc : List (Fin 1024))
  /-- LOOP_HARD_DEADLINE (R255). -/
  | loopHardDeadline
  /-- OUTPUT_INSTANT (R36). -/
  | outputInstant
  /-- SECOND_PULSE_EDGE (R40). -/
  | secondPulseEdge (dt : Nat)
  /-- DISCIPLINE_HOLDOVER (R43). -/
  | disciplineHoldover
  /-- CLOCK_FAULT (R51). -/
  | clockFault
  /-- FS_SHADOW_OPEN_READ (R56). -/
  | fsShadowOpenRead (who : Initiator) (g : FsGroup)
  /-- FS_SHADOW_CLOSE_READ (R56). -/
  | fsShadowCloseRead (who : Initiator) (g : FsGroup)
  /-- FS_STEER_WRITE (R43). -/
  | fsSteerWrite (who : Initiator) (v : Word)
  /-- LOAD (R72). -/
  | load (who : Initiator) (bad : Option BadRead)
  /-- CONFIGURE (R76). -/
  | configure (who : Initiator) (slotB : Bool) (bad : Option BadRead)
  /-- CONFIGURE_SWITCH (R76). -/
  | configureSwitch
  /-- AMEND (R82). -/
  | amend (who : Initiator)
  /-- COMMIT_ROLLBACK (R74). -/
  | commitRollback (who : Initiator)
  /-- ERASE (R72). -/
  | erase (who : Initiator) (slotB : Bool)
  /-- AMENDMENT_APPLY (R84). -/
  | amendmentApply
  /-- AMENDMENT_FLASH_COPY (R86). -/
  | amendmentFlashCopy
  /-- FIRMWARE_VERIFY (R477). -/
  | firmwareVerify (bist : List (Fin 8))
  /-- BOOT_ACCORD_SELECT (R71). -/
  | bootAccordSelect (badA badB : Option BadRead)
  /-- CONFIGURE_COMPLETE (R502). -/
  | configureComplete
  /-- SOLVER_SUBMIT (R153). -/
  | solverSubmit (who : Initiator) (n : Fin 4) (v : Word)
  /-- DESCRIPTOR_FETCH (R154). -/
  | descriptorFetch (n : Fin 4)
  /-- SOLVER_JOB_START (R154). -/
  | solverJobStart (n : Fin 4)
  /-- SOLVER_OPERATION (R144). -/
  | solverOperation (n : Fin 4) (cor : Nat)
  /-- ITERATION_BOUNDARY (R168). -/
  | iterationBoundary (n : Fin 4)
  /-- SOLVER_STOP_INSTANT (R195); the corrected errors that the work up to the stop met. -/
  | solverStopInstant (n : Fin 4) (cor : Nat)
  /-- RESULT_RECORD_HANDOVER (R151). -/
  | resultRecordHandover (n : Fin 4)
  /-- SOLVER_WITHDRAW (R155). -/
  | solverWithdraw (who : Initiator) (n : Fin 4) (v : Word)
  /-- SOLVER_CANCEL (R201). -/
  | solverCancel (who : Initiator) (n : Fin 4)
  /-- SOLVER_DISABLE (R156). -/
  | solverDisable (who : Initiator) (n : Fin 4)
  /-- HEADROOM_CLEAR (R138). -/
  | headroomClear (who : Initiator) (n : Fin 4)
  /-- SOLVER_MEMORY_FAULT (R165): the engine and the fault. -/
  | solverMemoryFault (f : Fin 4 × MemErr)
  /-- COOP_JOB_START (R161). -/
  | coopJobStart (n : Fin 4)
  /-- COOP_TIMEOUT (R161). -/
  | coopTimeout (n : Fin 4)
  /-- SOLVE_AMENDMENT_WRITE (R159). -/
  | solveAmendmentWrite (n : Fin 4)
  /-- HYDRAULIC_ACCEPTANCE (R216). -/
  | hydraulicAcceptance
  /-- NETWORK_STATE_PUBLISH (R222). -/
  | networkStatePublish
  /-- PROTECTION_TRIGGER (R233). -/
  | protectionTrigger (objs : List Nat)
  /-- PROTECTION_ACCEPTANCE (R234). -/
  | protectionAcceptance
  /-- LOOP_ENABLE (R249). -/
  | loopEnable (who : Initiator) (n : Fin 2) (i : Fin 1024)
  /-- LOOP_DISABLE (R250). -/
  | loopDisable (who : Initiator) (n : Fin 2) (i : Fin 1024)
  /-- LOOP_HOLD (R250). -/
  | loopHold (who : Initiator) (n : Fin 2) (i : Fin 1024)
  /-- LOOP_RELEASE (R250). -/
  | loopRelease (who : Initiator) (n : Fin 2) (i : Fin 1024)
  /-- LOOP_RECORD_WRITE (R256). -/
  | loopRecordWrite (who : Initiator) (n : Fin 2) (v : Word)
  /-- LOOP_TAKEOVER (R261). -/
  | loopTakeover
  /-- LOOP_ENGINE_DISABLE (R266). -/
  | loopEngineDisable (who : Initiator) (n : Fin 2)
  /-- TASK_RELEASE (R271). -/
  | taskRelease (p : Fin 4) (t : Fin 8)
  /-- TASK_COMMIT (R272). -/
  | taskCommit (p : Fin 4) (t : Fin 8) (vars : List (Nat × Byte)) (outs : List (Nat × Int × Quality))
  /-- TASK_OVERRUN (R276). -/
  | taskOverrun (p : Fin 4) (t : Fin 8)
  /-- PARTITION_RECOVERY_ENTRY (R279). -/
  | partitionRecoveryEntry (p : Fin 4)
  /-- RESUME (R280). -/
  | resume (who : Initiator) (p : Fin 4)
  /-- RECOVER (R279). -/
  | recover (who : Initiator) (p : Fin 4)
  /-- STAGE (R292). -/
  | stage (who : Initiator) (p : Fin 4)
  /-- OLC_STAGED (R292). -/
  | olcStaged (p : Fin 4)
  /-- UNSTAGE (R292). -/
  | unstage (who : Initiator) (p : Fin 4)
  /-- OLC_SWITCH (R294). -/
  | olcSwitch (p : Fin 4)
  /-- CHECKPOINT_WRITE (R298). -/
  | checkpointWrite (p : Fin 4)
  /-- FORCE_SET (R287). -/
  | forceSet (who : Initiator) (p : Fin 4)
  /-- FORCE_RELEASE (R287). -/
  | forceRelease (who : Initiator) (p : Fin 4)
  /-- FORCE_RELEASE_ALL (R287). -/
  | forceReleaseAll (who : Initiator) (p : Fin 4)
  /-- METER_DECIMATION (R310). -/
  | meterDecimation (bits : List (Fin 96 × List Bool))
  /-- METER_WINDOW_END (R321). -/
  | meterWindowEnd (pt : Fin 48)
  /-- MCLK_CLOCK_LOST (R311). -/
  | mclkClockLost (g : Fin 12)
  /-- MCLK_CLOCK_RESUME (R311). -/
  | mclkClockResume (g : Fin 12)
  /-- THERMAL_PUBLISH (R334). -/
  | thermalPublish
  /-- PULSE_END (R329). -/
  | pulseEnd (j : Fin 16)
  /-- MTR_CAPTURE_REQUEST (R337). -/
  | mtrCaptureRequest (who : Initiator)
  /-- METER_CAPTURE_DONE (R337). -/
  | meterCaptureDone
  /-- MTR_SHADOW_OPEN_READ (R327). -/
  | mtrShadowOpenRead (who : Initiator) (ofs : BitVec 16)
  /-- MTR_SHADOW_CLOSE_READ (R327). -/
  | mtrShadowCloseRead (who : Initiator) (ofs : BitVec 16)
  /-- CAN_MB_RX_FRAME (R354). -/
  | canMbRxFrame (n : Fin 8) (f : CanFrame)
  /-- STATION_INPUT_FRAME (R364). -/
  | stationInputFrame (n : Fin 8) (f : CanFrame)
  /-- STATION_HEARTBEAT (R368). -/
  | stationHeartbeat (n : Fin 8) (f : CanFrame)
  /-- FRAME_SET_EXPIRY (R364). -/
  | frameSetExpiry (n : Fin 8) (st : Fin 64)
  /-- CAN_MB_TXREQ (R357). -/
  | canMbTxreq (who : Initiator) (n : Fin 8) (k : Fin 64)
  /-- CAN_MB_ABORT (R357). -/
  | canMbAbort (who : Initiator) (n : Fin 8) (k : Fin 64)
  /-- CAN_TX_COMPLETE (R357); the timestamp of the start of frame and the measured transmitter delay. -/
  | canTxComplete (n : Fin 8) (ok : Bool) (at_ : BitVec 32 × BitVec 8)
  /-- CAN_TX_TIMEOUT (R357). -/
  | canTxTimeout (n : Fin 8) (k : Fin 64)
  /-- CAN_MB_RELEASE (R355). -/
  | canMbRelease (who : Initiator) (n : Fin 8) (k : Fin 64)
  /-- CAN_MB_CONFIG_WRITE (R358). -/
  | canMbConfigWrite (who : Initiator) (n : Fin 8) (k : Fin 64) (r : Fin 3) (v : Word)
  /-- CAN_ERROR (R351). -/
  | canError (n : Fin 8) (e : CanErr)
  /-- BUS_OFF_RECOVERY (R352). -/
  | busOffRecovery (n : Fin 8)
  /-- CAN_RECOVER (R352). -/
  | canRecover (who : Initiator) (n : Fin 8)
  /-- CAN_BUS_DOMINANT (R353). -/
  | canBusDominant (n : Fin 8)
  /-- LISTEN (R359). -/
  | listen (who : Initiator) (n : Fin 8)
  /-- NORMAL (R359). -/
  | normal (who : Initiator) (n : Fin 8)
  /-- HEARTBEAT_CHECK (R369). -/
  | heartbeatCheck (n : Fin 8) (st : Fin 64)
  /-- ETH_RX_FRAME (R381). -/
  | ethRxFrame (n : Fin 4) (f : EthIn)
  /-- ETH_LINK_CHANGE (R407). -/
  | ethLinkChange (n : Fin 4) (up : Bool)
  /-- ETH_COUNTER_CLEAR (R408). -/
  | ethCounterClear (who : Initiator) (n : Fin 4)
  /-- XSX_REPORT (R391). -/
  | xsxReport (t : XsxIn)
  /-- PTP_TIMESTAMP (R384). -/
  | ptpTimestamp (n : Fin 4) (m : PtpMsg)
  /-- PTP_SECOND_ROLLOVER (R385). -/
  | ptpSecondRollover
  /-- PTP_STEP (R386). -/
  | ptpStep (who : Initiator) (v : Word)
  /-- PTP_ADJ_WRITE (R383). -/
  | ptpAdjWrite (who : Initiator) (v : Word)
  /-- PTP_SHADOW_OPEN_READ (R408). -/
  | ptpShadowOpenRead (who : Initiator) (g : PtpGroup)
  /-- PTP_SHADOW_CLOSE_READ (R408). -/
  | ptpShadowCloseRead (who : Initiator) (g : PtpGroup)
  /-- MODBUS_CONNECT (R397). -/
  | modbusConnect (addr : List Byte)
  /-- MODBUS_IDLE_CLOSE (R397). -/
  | modbusIdleClose (c : Fin 8)
  /-- READ_COILS (R398). -/
  | readCoils (c : Fin 8) (start qty : BitVec 16)
  /-- READ_DISCRETE_INPUTS (R398). -/
  | readDiscreteInputs (c : Fin 8) (start qty : BitVec 16)
  /-- READ_HOLDING_REGISTERS (R398). -/
  | readHoldingRegisters (c : Fin 8) (start qty : BitVec 16)
  /-- READ_INPUT_REGISTERS (R398). -/
  | readInputRegisters (c : Fin 8) (start qty : BitVec 16)
  /-- WRITE_SINGLE_COIL (R399). -/
  | writeSingleCoil (c : Fin 8) (start value : BitVec 16)
  /-- WRITE_SINGLE_REGISTER (R399). -/
  | writeSingleRegister (c : Fin 8) (start value : BitVec 16)
  /-- WRITE_MULTIPLE_COILS (R399). -/
  | writeMultipleCoils (c : Fin 8) (start : BitVec 16) (values : List Bool)
  /-- WRITE_MULTIPLE_REGISTERS (R399). -/
  | writeMultipleRegisters (c : Fin 8) (start : BitVec 16) (values : List (BitVec 16))
  /-- READ_WRITE_MULTIPLE_REGISTERS (R399). -/
  | readWriteMultipleRegisters (c : Fin 8) (rstart rqty wstart : BitVec 16) (values : List (BitVec 16))
  /-- READ_DEVICE_IDENTIFICATION (R400). -/
  | readDeviceIdentification (c : Fin 8) (code obj : Byte)
  /-- MODBUS_UNKNOWN_FUNCTION (R397). -/
  | modbusUnknownFunction (c : Fin 8) (fc : Byte)
  /-- HELLO (R402). -/
  | hello (x : Fin 2) (f : SvcIn)
  /-- PROVE (R402). -/
  | prove (x : Fin 2) (f : SvcIn)
  /-- SERVICE_STATUS (R403). -/
  | serviceStatus (x : Fin 2) (f : SvcIn)
  /-- SCADA_READ (R403). -/
  | scadaRead (x : Fin 2) (f : SvcIn)
  /-- HIST_READ (R403). -/
  | histRead (x : Fin 2) (f : SvcIn)
  /-- SILLAGE_EXPORT (R531). -/
  | sillageExport (x : Fin 2) (f : SvcIn)
  /-- PUT (R403). -/
  | putData (x : Fin 2) (f : SvcIn)
  /-- COMMIT (R403). -/
  | commit (x : Fin 2) (f : SvcIn) (bad : Option BadRead)
  /-- FORCE (R403). -/
  | force (x : Fin 2) (f : SvcIn)
  /-- ACCORD_CMD (R403). -/
  | accordCmd (x : Fin 2) (f : SvcIn) (bad : Option BadRead)
  /-- SERVICE_CLOSE (R402). -/
  | serviceClose (x : Fin 2) (f : SvcIn)
  /-- SERVICE_SESSION_TIMEOUT (R402). -/
  | serviceSessionTimeout (x : Fin 2)
  /-- DIO_FILTER_CONFIRM (R412). -/
  | dioFilterConfirm (ch : Fin 48) (wire level : Bool)
  /-- DIO_CHANNEL_FAULT (R421). -/
  | dioChannelFault (ch : Fin 48) (f : DioFault)
  /-- DIO_LINK_LOSS (R578). -/
  | dioLinkLoss (b : Fin 6)
  /-- DIO_LINK_RETURN (R578). -/
  | dioLinkReturn (b : Fin 6)
  /-- EVENT_ASSERTION (R432). -/
  | eventAssertion (srcs : List (Fin 320))
  /-- COALESCE_TIMEOUT (R440). -/
  | coalesceTimeout (src : Fin 320)
  /-- EVENT_ENTRY (R437). -/
  | eventEntry (t : Fin 9)
  /-- EVDONE (R438). -/
  | evdone (t : Fin 9) (src : Fin 512)
  /-- EVH_SWGEN (R431). -/
  | evhSwgen (who : Initiator) (v : Word)
  /-- EVH_CTRL_WRITE (R441). -/
  | evhCtrlWrite (who : Initiator) (v : Word)
  /-- EVH_PEND_CLEAR (R441). -/
  | evhPendClear (who : Initiator) (k : Fin 10) (v : Word)
  /-- EVH_SOURCE_CONFIG_WRITE (R433). -/
  | evhSourceConfigWrite (who : Initiator) (src : Fin 320) (coal : Bool) (v : Word)
  /-- PAIR_REST (R443). -/
  | pairRest (t : Fin 9)
  /-- RTC_SECONDS_ADVANCE (R447). -/
  | rtcSecondsAdvance
  /-- RTC_SET (R449). -/
  | rtcSet (who : Initiator)
  /-- RTC_SET_APPLY (R449). -/
  | rtcSetApply
  /-- RTC_TRIM_CORRECTION (R452). -/
  | rtcTrimCorrection (k : Fin 512)
  /-- RTC_OSC_FAIL (R453). -/
  | rtcOscFail
  /-- RTC_BACKUP_POWER_ON (R453). -/
  | rtcBackupPowerOn
  /-- RTC_SUPPLY_DIP (R515). -/
  | rtcSupplyDip
  /-- RTC_SHADOW_OPEN_READ (R448). -/
  | rtcShadowOpenRead (who : Initiator)
  /-- RTC_SHADOW_CLOSE_READ (R448). -/
  | rtcShadowCloseRead (who : Initiator)
  /-- KEY_COMMAND_QUEUE (R463). -/
  | keyCommandQueue (who : Initiator) (v : Word)
  /-- DERIVE (R462). -/
  | derive
  /-- GENERATE (R464). -/
  | generate
  /-- IMPORT (R464). -/
  | importKey
  /-- REPLACE (R473). -/
  | replace
  /-- INVALIDATE (R469). -/
  | invalidate (who : Initiator) (k : Fin 512)
  /-- INVALIDATION_EFFECT (R470). -/
  | invalidationEffect
  /-- KEY_ERASE (R464). -/
  | keyErase
  /-- SIGN (R468). -/
  | sign
  /-- VERIFY (R466). -/
  | verify
  /-- MAC (R464). -/
  | mac
  /-- QUOTE (R480). -/
  | quote
  /-- ADVANCE (R479). -/
  | advance
  /-- ACC_NONCE (R484). -/
  | accNonce (who : Initiator)
  /-- OPEN_CR (R484). -/
  | openCr (who : Initiator) (level : Fin 4)
  /-- OPEN_PW (R483). -/
  | openPw (who : Initiator) (level : Fin 4)
  /-- ACC_CLOSE (R485). -/
  | accClose (who : Initiator)
  /-- ACCESS_EXPIRY (R485). -/
  | accessExpiry
  /-- LOCK_EXPIRY (R486). -/
  | lockExpiry
  /-- NONCE_EXPIRY (R484). -/
  | nonceExpiry
  /-- UART_NONCE (R487). -/
  | uartNonce
  /-- UART_OPEN_CR (R487). -/
  | uartOpenCr (level : Byte) (expiry : Word) (resp : List Byte)
  /-- UART_OPEN_PW (R487). -/
  | uartOpenPw (level : Byte) (pw : List Byte)
  /-- UART_CLOSE (R487). -/
  | uartClose
  /-- UART_STATUS (R487). -/
  | uartStatus
  /-- UART_KEY_CMD (R487). -/
  | uartKeyCmd (cmd : Byte) (slot aux : BitVec 16) (arg : List Byte)
  /-- PROVISION (R488). -/
  | provision (value : List Byte)
  /-- POWER_ON (R499). -/
  | powerOn (b : Bool)
  /-- VIN_LOSS (R493). -/
  | vinLoss (b : Bool)
  /-- VIN_RETURN (R493). -/
  | vinReturn (b : Bool)
  /-- DRYDOWN_TRIGGER (R510). -/
  | drydownTrigger (d : DrydownRun)
  /-- DRYDOWN (R510). -/
  | drydown (who : Initiator) (d : DrydownRun)
  /-- DRYDOWN_HALT (R512). -/
  | drydownHalt (who : Initiator) (d : DrydownRun)
  /-- POWER_OFF (R496). -/
  | powerOff
  /-- HOLD_READY (R495). -/
  | holdReady
  /-- HOLD_FAULT (R495). -/
  | holdFault
  /-- VBAT_MEASURE (R517). -/
  | vbatMeasure (mv : BitVec 16)
  /-- RESET_N (R506). -/
  | resetN (low : Bool)
  /-- SW_RESET (R506). -/
  | swReset (who : Initiator)
  /-- WATCHDOG_EXPIRY (R507). -/
  | watchdogExpiry
  /-- WATCHDOG_KICK (R507). -/
  | watchdogKick (who : Initiator) (v : Word)
  /-- MODE_REQUEST (R503). -/
  | modeRequest (who : Initiator) (v : Word)
  /-- SILLAGE_ENTRY (R524). -/
  | sillageEntry
  /-- SIL_PUT (R526). -/
  | silPut (who : Initiator) (v : Word)
  /-- SILLAGE_CAPTURE_REQUEST (R528). -/
  | sillageCaptureRequest (who : Initiator)
  /-- SILLAGE_CAPTURE (R530). -/
  | sillageCapture
  /-- SILLAGE_HOLD_WRITE (R521). -/
  | sillageHoldWrite (who : Initiator) (v : Byte)
  /-- CLAIM_REQUEST (R535). -/
  | claimRequest
  /-- TWIN_GATE_OPEN (R535). -/
  | twinGateOpen
  /-- CLAIM_IN_CHANGE (R537). -/
  | claimInChange (level : Bool)
  /-- TWIN_BACKOFF_EXPIRY (R536). -/
  | twinBackoffExpiry
  /-- TWIN_HEARTBEAT (R540). -/
  | twinHeartbeat (f : TwinIn)
  /-- DELTA (R541). -/
  | delta (f : TwinIn)
  /-- TWIN_LOOPS (R541). -/
  | twinLoops (f : TwinIn)
  /-- TWIN_BASE (R541). -/
  | twinBase (f : TwinIn)
  /-- RESYNC (R541). -/
  | resync (f : TwinIn)
  /-- SWITCHOVER (R541). -/
  | switchover (who : Initiator) (v : Word)
  /-- DOMINANT_CLEAR (R353). -/
  | dominantClear (n : Fin 8)
  /-- DIO_FAULT_CLEAR (R421). -/
  | dioFaultClear (ch : Fin 48) (f : DioFault)
  /-- HOLD_READY_LOSS (R495). -/
  | holdReadyLoss
  /-- RTC_OSC_RETURN (R453). -/
  | rtcOscReturn
  /-- DEBUG_HALT (R481). -/
  | debugHalt (p : Fin 9) (halt : Bool)
  deriving DecidableEq, Repr

end Sys2Proof
end

