-- ==== Sys2Proof/Machine/Bits.lean ====
section
/-! DEFINITION. Bit fields, byte strings, rounding and saturation (R9, R60, R131 to R135), and the sparse tables and
the byte memory that the state holds. -/

namespace Sys2Proof.Machine

/-! ### Bit fields of register values -/

/-- The field [hi:lo] of a register value. -/
def fld (v hi lo : Nat) : Nat := v / 2 ^ lo % 2 ^ (hi + 1 - lo)

/-- Bit `i` of a register value. -/
def bitAt (v i : Nat) : Bool := v / 2 ^ i % 2 == 1

/-- A value placed as a field of `w` bits at bit `lo`. -/
def put (x lo w : Nat) : Nat := x % 2 ^ w * 2 ^ lo

/-- A flag placed at bit `i`. -/
def flag (b : Bool) (i : Nat) : Nat := if b then 2 ^ i else 0

/-- The bits of a list of flags, the first at bit 0. -/
def packBits : List Bool → Nat
  | [] => 0
  | b :: bs => (if b then 1 else 0) + 2 * packBits bs

/-! ### Counters -/

/-- One more, stopping at `max` (a saturating counter). -/
def satInc (max n : Nat) : Nat := if n < max then n + 1 else n

/-- A sum that stops at `max`. -/
def satAdd (max n k : Nat) : Nat := min max (n + k)

/-- One more, modulo 2 ^ w. -/
def wrapInc (w n : Nat) : Nat := (n + 1) % 2 ^ w

/-! ### Signed values -/

/-- The two's-complement reading of the low `w` bits. -/
def toSigned (w v : Nat) : Int :=
  let x := v % 2 ^ w
  if x < 2 ^ (w - 1) then (x : Int) else (x : Int) - (2 ^ w : Nat)

/-- The low `w` bits of an integer in two's complement. -/
def ofSigned (w : Nat) (x : Int) : Nat := (x % ((2 ^ w : Nat) : Int)).toNat

/-- Clamp to the range lo to hi. -/
def clampI (x lo hi : Int) : Int := min (max x lo) hi

/-- `sat32` of R133 and of Loop Engines: the range −2^31 to 2^31 − 1. -/
def sat32 (x : Int) : Int := clampI x (-2147483648) 2147483647

/-- A value is written with saturation (R133). -/
def saturates (x : Int) : Bool := sat32 x != x

/-- `rnd`: the quotient num / den rounded to nearest, ties to even (R133); den = 0 gives 0. -/
def rndDiv (num : Int) (den : Nat) : Int :=
  let d : Int := den
  let q := num / d
  let r := num % d
  if 2 * r < d then q
  else if d < 2 * r then q + 1
  else if q % 2 = 0 then q else q + 1

/-- Arithmetic shift right: rounds towards minus infinity (R41, R42). -/
def ashr (x : Int) (k : Nat) : Int := x / ((2 ^ k : Nat) : Int)

/-- The magnitude of an integer. -/
def absI (x : Int) : Int := if x < 0 then -x else x

/-- ⌈a / b⌉ (0 for b = 0). -/
def ceilDiv (a b : Nat) : Nat := (a + b - 1) / b

/-- The least common multiple of a list of periods (R269). -/
def lcmList : List Nat → Nat
  | [] => 1
  | x :: xs => Nat.lcm x (lcmList xs)

/-- The floor of the square root, bit by bit from 2 ^ k down. -/
def isqrtAux : Nat → Nat → Nat → Nat
  | 0, _, r => r
  | k + 1, n, r => if (r + 2 ^ k) * (r + 2 ^ k) ≤ n then isqrtAux k n (r + 2 ^ k) else isqrtAux k n r

/-- The floor of the square root of a value below 2 ^ 192. -/
def isqrt (n : Nat) : Nat := isqrtAux 96 n 0

/-! ### Byte strings -/

/-- The value of a little-endian byte string (R9, R58). -/
def leNat : List Byte → Nat
  | [] => 0
  | b :: bs => b.toNat + 256 * leNat bs

/-- The little-endian byte string of `n` bytes of a value. -/
def toLe : Nat → Nat → List Byte
  | 0, _ => []
  | n + 1, v => BitVec.ofNat 8 v :: toLe n (v / 256)

/-- `n` bytes from offset `o` of a byte string (shorter at its end). -/
def slice (bs : List Byte) (o n : Nat) : List Byte := (bs.drop o).take n

/-- The little-endian field of `n` bytes at offset `o`. -/
def leAt (bs : List Byte) (o n : Nat) : Nat := leNat (slice bs o n)

/-- `n` zero bytes. -/
def zeros (n : Nat) : List Byte := List.replicate n 0

/-- Every byte is 0. -/
def allZero (bs : List Byte) : Bool := bs.all (· == 0)

/-- A byte string padded with zeros to `n` bytes (never cut). -/
def padTo (n : Nat) (bs : List Byte) : List Byte := bs ++ zeros (n - bs.length)

/-- The 2-bit codes of a list, four per byte, lowest first (R363). -/
def packCodes : List Nat → List Byte
  | [] => []
  | [a] => [BitVec.ofNat 8 (a % 4)]
  | [a, b] => [BitVec.ofNat 8 (a % 4 + 4 * (b % 4))]
  | [a, b, c] => [BitVec.ofNat 8 (a % 4 + 4 * (b % 4) + 16 * (c % 4))]
  | a :: b :: c :: d :: rest =>
    BitVec.ofNat 8 (a % 4 + 4 * (b % 4) + 16 * (c % 4) + 64 * (d % 4)) :: packCodes rest

/-! ### Sparse tables -/

/-- A sparse table: pairs of a key and a value, keys strictly rising. -/
abbrev Tbl (α : Type) := List (Nat × α)

/-- The entry of a key. -/
def Tbl.get? {α : Type} (k : Nat) : List (Nat × α) → Option α
  | [] => none
  | (j, x) :: t => if j = k then some x else Tbl.get? k t

/-- The entry of a key, or the table's default. -/
def Tbl.getD {α : Type} (t : List (Nat × α)) (k : Nat) (d : α) : α := (Tbl.get? k t).getD d

/-- The table with the entry of a key replaced or inserted in order. -/
def Tbl.set {α : Type} (k : Nat) (x : α) : List (Nat × α) → List (Nat × α)
  | [] => [(k, x)]
  | (j, y) :: t => if j = k then (k, x) :: t else if k < j then (k, x) :: (j, y) :: t else (j, y) :: Tbl.set k x t

/-- The table without a key. -/
def Tbl.del {α : Type} (k : Nat) (t : List (Nat × α)) : List (Nat × α) := t.filter (fun p => p.1 != k)

/-- The table with one entry changed, from its default where it has none. -/
def Tbl.upd {α : Type} (t : List (Nat × α)) (k : Nat) (d : α) (f : α → α) : List (Nat × α) :=
  Tbl.set k (f (Tbl.getD t k d)) t

/-! ### Byte memory

A memory is a list of address and byte pairs, addresses strictly rising, and no byte that equals what an unlisted
address reads as. An unlisted address reads as 0 (R127 for system and solver SRAM; DESIGN CHOICE, log entry 30, for the rest). -/

/-- A byte memory in canonical form. -/
abbrev Mem := List (Nat × Byte)

/-- What an unlisted address reads as. -/
def Mem.blank : Byte := 0

/-- One byte of memory. -/
def Mem.read (a : Nat) : Mem → Byte
  | [] => Mem.blank
  | (j, b) :: t => if j = a then b else Mem.read a t

/-- One byte written, keeping the canonical form. -/
def Mem.write (a : Nat) (x : Byte) : Mem → Mem
  | [] => if x = Mem.blank then [] else [(a, x)]
  | (j, b) :: t =>
    if j = a then (if x = Mem.blank then t else (a, x) :: t)
    else if a < j then (if x = Mem.blank then (j, b) :: t else (a, x) :: (j, b) :: t)
    else (j, b) :: Mem.write a x t

/-- `n` bytes from address `a`. -/
def Mem.readN (m : Mem) (a : Nat) : Nat → List Byte
  | 0 => []
  | n + 1 => Mem.read a m :: Mem.readN m (a + 1) n

/-- A byte string written from address `a`. -/
def Mem.writeN (m : Mem) (a : Nat) : List Byte → Mem
  | [] => m
  | b :: bs => Mem.writeN (Mem.write a b m) (a + 1) bs

/-- The memory without the bytes of a range (they read as unlisted). -/
def Mem.erase (m : Mem) (a n : Nat) : Mem := m.filter (fun p => p.1 < a || a + n ≤ p.1)

/-- The canonical form: keys strictly rising, no listed byte equal to an unlisted one. -/
def Mem.wf : Mem → Bool
  | [] => true
  | [(_, b)] => b != Mem.blank
  | (j, b) :: (k, c) :: t => b != Mem.blank && j < k && Mem.wf ((k, c) :: t)

/-- A little-endian value of `n` bytes at an address. -/
def Mem.le (m : Mem) (a n : Nat) : Nat := leNat (Mem.readN m a n)

/-- A signed 32-bit word at an address. -/
def Mem.s32 (m : Mem) (a : Nat) : Int := toSigned 32 (Mem.le m a 4)

/-- `n` signed 32-bit words from an address. -/
def Mem.s32s (m : Mem) (a : Nat) : Nat → List Int
  | 0 => []
  | n + 1 => Mem.s32 m a :: Mem.s32s m (a + 4) n

/-- A list of signed 32-bit words written from an address. -/
def Mem.putS32s (m : Mem) (a : Nat) : List Int → Mem
  | [] => m
  | x :: xs => Mem.putS32s (Mem.writeN m a (toLe 4 (ofSigned 32 x))) (a + 4) xs

/-! ### Fixed arrays -/

/-- One element of a fixed array changed. -/
def upd {α : Type} {n : Nat} (v : Vector α n) (i : Fin n) (f : α → α) : Vector α n := v.set i (f v[i])

/-- Every element of a vector changed by a function. -/
def vmap {α β : Type} {n : Nat} (v : Vector α n) (f : α → β) : Vector β n := Vector.ofFn fun i => f v[i]

/-- An element put into a list that ascends by a key, after those of an equal key. -/
def insertBy {α : Type} (key : α → Nat) (x : α) : List α → List α
  | [] => [x]
  | y :: l => if key x < key y then x :: y :: l else y :: insertBy key x l

/-- A list in ascending order of a key; elements of an equal key keep their order. -/
def sortBy {α : Type} (key : α → Nat) (l : List α) : List α := l.foldl (fun m x => insertBy key x m) []

/-- Bytes of a value by its type code (R362), and 8 for a 64-bit unsigned value (R398). -/
def typeBytes (t : Nat) : Nat := if t ≤ 2 then 1 else if t ≤ 4 then 2 else if t ≤ 7 then 4 else 8

/-- The value that the low bits of a word spell in a type: a BOOL is its bit 0, a REAL its 32 bits (R362). -/
def typedValue (t raw : Nat) : Int :=
  if t = 0 then (if bitAt raw 0 then 1 else 0)
  else if t = 1 ∨ t = 3 ∨ t = 5 ∨ t = 7 then toSigned (8 * typeBytes t) raw
  else (raw % 256 ^ typeBytes t : Nat)

end Sys2Proof.Machine
end

