-- ==== Sys2Proof/Machine/StateFab.lean ====
section
/-! DEFINITION. State of the core pairs, the image lanes, the fabric and the collector (R91 to R127). -/

namespace Sys2Proof.Machine

/-- The architectural state of a lockstep pair: both cores hold the same (R91, R111). -/
structure Core where
  /-- Program counter. -/
  pc : DWord
  /-- Integer registers x0 to x31; x0 is read as 0 (R91, the RISC-V unprivileged specification). -/
  x : Vector DWord 32
  /-- Floating-point registers f0 to f31. -/
  f : Vector DWord 32
  /-- fcsr, 8 bits. -/
  fcsr : DWord
  /-- Machine mode (true) or user mode (R91). -/
  machine : Bool
  /-- mstatus.MIE. -/
  mie : Bool
  /-- mstatus.MPIE. -/
  mpie : Bool
  /-- mstatus.MPP is machine mode. -/
  mpp : Bool
  /-- mie register: the machine external interrupt enable and the other bits. -/
  mieReg : DWord
  /-- mtvec. -/
  mtvec : DWord
  /-- mepc. -/
  mepc : DWord
  /-- mcause. -/
  mcause : DWord
  /-- mtval. -/
  mtval : DWord
  /-- mscratch. -/
  mscratch : DWord
  /-- Both cores have executed WFI and wait (R443). -/
  wfi : Bool
  /-- mcounteren. -/
  mcounteren : DWord
  /-- CORE cycles spent from issue to issue (R92), which mcycle shows. -/
  cycles : Nat
  /-- Master-VCO cycle from which the next instruction can issue (R92, R93). -/
  at_ : Nat
  /-- mstatus.MPRV. -/
  mprv : Bool
  /-- mstatus.TW. -/
  tw : Bool
  /-- Instructions retired, which minstret shows. -/
  instret : Nat
  deriving DecidableEq, Repr

/-- A core with every register at 0, in machine mode. -/
def Core.reset : Core :=
  { pc := 0, x := Vector.replicate 32 0, f := Vector.replicate 32 0, fcsr := 0, machine := true, mie := false,
    mpie := false, mpp := true, mieReg := 0, mtvec := 0, mepc := 0, mcause := 0, mtval := 0, mscratch := 0,
    wfi := false, mcounteren := 0, cycles := 0, at_ := 0, mprv := false, tw := false,
    instret := 0 }

/-- A pair: the cores, their tightly coupled memories and the marks of the mirrored region (R94, R113). -/
structure Pair where
  /-- Architectural state of the two cores. -/
  core : Core
  /-- I-TCM, offsets 0 to 0x7_FFFF. -/
  itcm : Mem
  /-- D-TCM, offsets 0 to 0x3_FFFF. -/
  dtcm : Mem
  /-- Dirty 64-byte lines of the mirrored region, line numbers within D-TCM, rising (R113). -/
  dirty : List Nat
  /-- The port is isolated and the pair has stopped (R111). -/
  isolated : Bool
  /-- A core of the pair is held halted by the debug module (R481, R507). -/
  debugHalt : Bool
  deriving DecidableEq, Repr

/-- A pair after a reset. -/
def Pair.reset : Pair :=
  { core := Core.reset, itcm := [], dtcm := [], dirty := [], isolated := false, debugHalt := false }

/-- The PAIR block, the lanes and the migration in progress (R111 to R126). -/
structure Pairs where
  /-- PAIR0 to PAIR7, then the security core pair. -/
  p : Vector Pair 9
  /-- PAIR_STATUS.FAILED. -/
  failed : Vector Bool 8
  /-- PAIR_STATUS.BIST_FAIL. -/
  bist : Vector Bool 8
  /-- PAIR_STATUS.SPARE_ROLE: 0 to 6, 14 FAILED, 15 none. -/
  spareRole : Nat
  /-- The pair whose STRUCT role is 7. -/
  spare : Fin 8
  /-- PAIR_PLACE: the pair that holds each role. -/
  place : Vector (Fin 8) 7
  /-- PAIR_EPOCH: the placement epoch of each role, 16 bits. -/
  epoch : Vector Nat 7
  /-- PAIR_MIG_STATUS.ARMED. -/
  armed : Bool
  /-- PAIR_MIG_STATUS.RUNNING. -/
  running : Bool
  /-- PAIR_MIG_STATUS.DONE. -/
  done : Bool
  /-- PAIR_MIG_STATUS.ROLE. -/
  migRole : Nat
  /-- Master-VCO cycle of the write that armed the migration (R116, R123). -/
  armedAt : Nat
  /-- Master-VCO cycle of instant 1 of the running migration (R117). -/
  migAt : Nat
  /-- Sealed mirror log of each role that waits for its apply phase: line number and 64 bytes (R113). -/
  log : Vector (Option (List (Nat × List Byte))) 7
  /-- Consistency points sealed by each role since START. -/
  sealedCount : Vector Nat 7
  deriving DecidableEq, Repr

/-- The PAIR block after a reset (R125, R127). -/
def Pairs.reset : Pairs :=
  { p := Vector.replicate 9 Pair.reset, failed := Vector.replicate 8 false, bist := Vector.replicate 8 false,
    spareRole := 15, spare := 7, place := #v[0, 1, 2, 3, 4, 5, 6], epoch := Vector.replicate 7 0, armed := false,
    running := false, done := false, migRole := 0, armedAt := 0, migAt := 0, log := Vector.replicate 7 none,
    sealedCount := Vector.replicate 7 0 }

/-- A record posted to the collector with its side-band (R106). -/
structure Rec where
  /-- The 64 bytes of the record. -/
  data : List Byte
  /-- Destination role 0 to 6, or 7 for none. -/
  role : Nat
  /-- Placement epoch that the producer holds for the role. -/
  epoch : Nat
  deriving DecidableEq, Repr

/-- One collector producer: its post queue and its ring (R106 to R108). -/
structure Producer where
  /-- Post queue, oldest first, at most 4. -/
  queue : List Rec
  /-- Completions held because the queue is full, oldest first (R108). -/
  held : List Rec
  /-- Index of the next ring entry written. -/
  wr : Nat
  /-- Ring entries that firmware has not released. -/
  fill : Nat
  deriving DecidableEq, Repr

/-- A producer with empty queue and ring (R127). -/
def Producer.reset : Producer := { queue := [], held := [], wr := 0, fill := 0 }

/-- The answer that an initiator's latest fabric request or register access received (R93, R98). -/
structure Answer where
  /-- Read data. -/
  data : Nat
  /-- The answer is an error (R98). -/
  err : Bool
  /-- Round position of the grant. -/
  pos : Nat
  /-- Master-VCO cycle of the grant. -/
  grant : Nat
  /-- Master-VCO cycle at which data or acknowledgement reach the port (R103). -/
  ready : Nat
  deriving DecidableEq, Repr

/-- An answer of a register access that has its own command. -/
def Answer.ofData (d : Nat) : Answer := { data := d, err := false, pos := 0, grant := 0, ready := 0 }

/-- The fabric, its error record and the collector (R98 to R110, R125). -/
structure Fabric where
  /-- Slot table, one byte a round position (FAB_SLOT0 to FAB_SLOT63). -/
  slots : List Nat
  /-- Best-effort table, two bytes an entry (FAB_BE0 to FAB_BE3). -/
  be : List Nat
  /-- Weighted round robin of R104: entry served last, and grants it still has. -/
  wrr : Nat × Nat
  /-- Best-effort requests that wait for a grant, oldest first (R104). -/
  waiting : List (Initiator × FabReq)
  /-- FAB cycle from which the next best-effort position can be granted: every position serves one request (R104). -/
  beNext : Nat
  /-- FAB_ERR_INFO.VALID. -/
  errValid : Bool
  /-- FAB_ERR_INFO.CAUSE. -/
  errCause : Nat
  /-- FAB_ERR_INFO.ACCESS. -/
  errAccess : Nat
  /-- FAB_ERR_INFO.OWNER. -/
  errOwner : Nat
  /-- FAB_ERR_INFO.POSITION. -/
  errPos : Nat
  /-- FAB_ERR_ADDR, 40 bits. -/
  errAddr : Nat
  /-- FAB_ECC.UNCORRECTED. -/
  eccUnc : Nat
  /-- FAB_ECC.CORRECTED. -/
  eccCor : Nat
  /-- FAB_COL_STALE.COUNT, saturating at 1,023. -/
  staleCount : Nat
  /-- FAB_COL_STALE.PRODUCER. -/
  staleProd : Nat
  /-- FAB_COL_STALE.EPOCH. -/
  staleEpoch : Nat
  /-- FAB_COL_STALL.COUNT. -/
  stallCount : Nat
  /-- FAB_COL_STALL.PRODUCER. -/
  stallProd : Nat
  /-- Collector producers 0 to 47; one without an entry is empty. -/
  prod : List (Nat × Producer)
  /-- LR reservations: initiator code and 64-byte granule (R103). -/
  resv : List (Nat × Nat)
  /-- Latest answer of each initiator, keyed by its code. -/
  answers : List (Nat × Answer)
  deriving DecidableEq, Repr

/-- The fabric after a reset (R125, R127). -/
def Fabric.reset : Fabric :=
  { slots := List.replicate 256 0, be := List.replicate 16 0, wrr := (7, 0), waiting := [], beNext := 0, errValid := false, errCause := 0,
    errAccess := 0, errOwner := 0, errPos := 0, errAddr := 0, eccUnc := 0, eccCor := 0, staleCount := 0,
    staleProd := 0, staleEpoch := 0, stallCount := 0, stallProd := 0, prod := [], resv := [], answers := [] }

end Sys2Proof.Machine
end

