-- ==== Sys2Proof/Machine/StateAccord.lean ====
section
/-! DEFINITION. The accord's header, STRUCT, MEMORY, FABRIC, FRAMES and TWIN sections as the running module holds them
(R59, R63, R64, R533), amendments (R80, R81), and the registers and stores of the accord unit (R70 to R90). -/

namespace Sys2Proof.Machine

/-- STRUCT (R63). -/
structure StructCfg where
  /-- ROLE of PAIR0 to PAIR7. -/
  roles : Vector (Fin 8) 8
  /-- PARTITIONS: partitions P1 to P4 in use. -/
  parts : Vector Bool 4
  /-- FALLBACK, 1 to 4. -/
  fallback : Nat
  /-- RESTART is warm. -/
  warm : Bool
  /-- OVERRUN_N, 1 to 255. -/
  overrunN : Nat
  /-- STAGGER in top notes, 1 to 255. -/
  stagger : Nat
  /-- TWIN_USE. -/
  twin : Bool
  deriving DecidableEq, Repr, Inhabited

/-- One region of the MEMORY section: its place, its owner and the access it permits (R64, R98). -/
structure Region where
  /-- First address. -/
  base : Nat
  /-- Bytes. -/
  size : Nat
  /-- Initiator code of the owner (R100, R104). -/
  owner : Nat
  /-- Reads and fetches permitted. -/
  read : Bool
  /-- Writes and AMOs permitted. -/
  write : Bool
  deriving DecidableEq, Repr, Inhabited

/-- MEMORY: regions, block grants, collector rings, mirrored regions and lane positions (R64, R106, R112, R298). -/
structure MemoryCfg where
  /-- Regions with owner and access. -/
  regions : List Region
  /-- Register blocks granted: block number (bits [22:16] of the PERI address) and initiator code. -/
  grants : List (Nat × Nat)
  /-- Collector rings: producer, address of the ring, length in records, owning role (R106, R577). -/
  rings : List (Nat × Nat × Nat × Nat)
  /-- Mailbox queues 30 to 47 and the role that each is assigned to (R106, R577). -/
  queues : List (Nat × Nat)
  /-- Destination role of each producer's own records. -/
  dest : List (Nat × Nat)
  /-- Mirrored region of each role: offset in D-TCM and length (R112). -/
  mirror : List (Nat × Nat × Nat)
  /-- Roles 0 to 5 granted a DRAM region for their DMA channel (R105). -/
  dmaRoles : List Nat
  /-- Address of the sillage region (R521). -/
  silBase : Nat
  /-- Addresses of the two metering mirror buffers (R336). -/
  mtrMirror : Nat × Nat
  /-- Checkpoint buffers of each partition: partition, address of buffer 0, address of buffer 1, size (R297). -/
  ckpt : List (Nat × Nat × Nat × Nat)
  /-- Metering mirror positions k_m of the metering engine (R336). -/
  mtrKm : Nat
  /-- Lane positions k_m of each partition (R298). -/
  partKm : List (Nat × Nat)
  /-- Image regions of the tasks: partition 1 to 4, task, addresses of the input image and of the pending output image (R268). -/
  images : List (Nat × Nat × Nat × Nat)
  /-- Input buffers of the stations in system SRAM: port, station and the addresses of its two buffers (R364). -/
  stnBufs : List (Nat × Nat × Nat × Nat)
  /-- Address of the station test image (R275). -/
  testImg : Nat
  /-- Address of the substation table (R392). -/
  substBase : Nat
  /-- Staging regions of the targets of PUT, 0 to 3: address and length (R403). -/
  staging : List (Nat × Nat)
  /-- Sillage writer positions k_s (R530). -/
  silKs : Nat
  deriving DecidableEq, Repr, Inhabited

/-- FRAMES (R64; the layout is that of the worked example of The Accord). -/
structure FramesCfg where
  /-- PERIOD. -/
  period : Nat
  /-- H. -/
  h : Nat
  /-- B. -/
  b : Nat
  /-- SRC. -/
  src : Nat
  /-- KP_SHIFT. -/
  kpShift : Nat
  /-- KI_SHIFT. -/
  kiShift : Nat
  /-- LOCK_WIN. -/
  lockWin : Nat
  /-- GLITCH_WIN. -/
  glitchWin : Nat
  deriving DecidableEq, Repr, Inhabited

/-- TWIN (R533). -/
structure TwinCfg where
  /-- The interface with the TWIN role. -/
  iface : Nat
  /-- Key-store slot of the tag key. -/
  key : Nat
  /-- PARTNER_MAC. -/
  mac : Nat
  /-- BACKOFF_MAX, 1 to 16 top notes. -/
  backoffMax : Nat
  deriving DecidableEq, Repr, Inhabited

/-- The accord header (R59) and the accord digest (R66). -/
structure HeaderCfg where
  /-- SEQUENCE. -/
  seq : Nat
  /-- ROLLBACK. -/
  rollback : Nat
  /-- PROFILE is ESTATE. -/
  estate : Bool
  /-- SIGNER. -/
  signer : Nat
  /-- Accord digest of R66. -/
  digest : List Byte
  /-- Name from HEAD, 48 bytes (R62). -/
  name : List Byte
  deriving DecidableEq, Repr, Inhabited

/-- One amendment record (R81). -/
structure AmdRecord where
  /-- SECTION. -/
  sect : Nat
  /-- TABLE. -/
  table : Nat
  /-- INDEX. -/
  index : Nat
  /-- FIELD. -/
  field : Nat
  /-- COUNT. -/
  count : Nat
  /-- The value. -/
  value : List Byte
  deriving DecidableEq, Repr, Inhabited

/-- An accepted amendment (R80, R82). -/
structure Amendment where
  /-- NUMBER. -/
  number : Nat
  /-- EFFECTIVE. -/
  effective : Nat
  /-- BNC of the base tick at which it takes effect. -/
  due : Nat
  /-- Its records. -/
  records : List AmdRecord
  /-- Its bytes. -/
  bytes : List Byte
  deriving DecidableEq, Repr, Inhabited

/-- The commands of SYS_ACD_CTRL. -/
inductive AcdCmd where
  | load | configure | amend | commitRollback | erase
  deriving DecidableEq, Repr

/-- The code of an accord command. -/
def AcdCmd.code : AcdCmd → Nat
  | .load => 1 | .configure => 2 | .amend => 3 | .commitRollback => 4 | .erase => 5

/-- The accord slots: A and B. -/
inductive Slot where
  | a | b
  deriving DecidableEq, Repr

/-- The other slot. -/
def Slot.other : Slot → Slot
  | .a => .b | .b => .a

/-- The code of a slot: 0 A, 1 B. -/
def Slot.code : Slot → Nat
  | .a => 0 | .b => 1

/-- A LOAD that is writing its slot or a COMMIT_ROLLBACK that is writing its fuses: what stands when it ends (R72, R73, R75). -/
structure AcdWork where
  /-- The slot that a LOAD writes. -/
  slot : Option Slot
  /-- The bytes of the image: its header is written last. -/
  bytes : List Byte
  /-- SEQUENCE of the image. -/
  seq : Nat
  /-- The byte that the read-back cannot correct, with the type of its section. -/
  bad : Option (Nat × Nat)
  /-- Level that the OTP accord counter advances to. -/
  level : Nat
  /-- Master-VCO cycle of the end. -/
  endAt : Nat
  deriving DecidableEq, Repr

/-- The accord unit: SYS_ACD registers, flash slots, MRAM pointer, amendment logs and journal (R70 to R90). -/
structure AccordUnit where
  /-- SYS_ACD_SRC_LO and SYS_ACD_SRC_HI: DRAM address of the image. -/
  src : Nat
  /-- SYS_ACD_SRC_LEN, 25 bits. -/
  len : Nat
  /-- SYS_ACD_STATUS.BUSY: the command that is running. -/
  busy : Option AcdCmd
  /-- What a running LOAD or COMMIT_ROLLBACK still has to write. -/
  work : Option AcdWork
  /-- FALLBACK. -/
  fallback : Bool
  /-- ACTIVE. -/
  active : Option Slot
  /-- A_VALID. -/
  aValid : Bool
  /-- B_VALID. -/
  bValid : Bool
  /-- LAST_CMD. -/
  lastCmd : Nat
  /-- ERR. -/
  err : Nat
  /-- ERR_SECTION. -/
  errSection : Nat
  /-- SYS_ACD_ERR_OFS. -/
  errOfs : Nat
  /-- SYS_ACD_SEQ_A. -/
  seqA : Nat
  /-- SYS_ACD_SEQ_B. -/
  seqB : Nat
  /-- Amendments accepted and not yet applied, in NUMBER order. -/
  pending : List Amendment
  /-- SYS_ACD_AMD.APPLIED. -/
  appliedNum : Nat
  /-- SYS_ACD_RBK.ACCORD_LEVEL. -/
  accordLevel : Nat
  /-- SYS_ACD_RBK.OTP_LEVEL. -/
  otpLevel : Nat
  /-- Contents of flash slot A. -/
  slotA : List Byte
  /-- Contents of flash slot B. -/
  slotB : List Byte
  /-- MRAM pointer to the active slot (R70). -/
  ptr : Slot
  /-- Amendment log of slot A. -/
  logA : List (List Byte)
  /-- Amendment log of slot B. -/
  logB : List (List Byte)
  /-- MRAM journal: applied amendments whose flash copy is not complete, with the slot of their log (R86). -/
  journal : List (Slot × List Byte)
  /-- An accord has been applied since the last reset: RWL fields are read-only (R10, R11). -/
  locked : Bool
  /-- A CONFIGURE command accepted and validated, which waits for the next base tick (R76), or the slot that the boot uses;
  with the BNC at its acceptance. -/
  target : Option (Slot × Nat)
  /-- Step 2 of R76 is done, and step 3 follows at this master-VCO cycle: instant 4 of the base tick's top note. -/
  halted : Option Nat
  /-- Steps 2 to 4 of R76 are done, and the switch waits for the solver engines to end their cancelled jobs. -/
  stopped : Bool
  deriving DecidableEq, Repr

/-- The accord unit with empty slots (R90). -/
def AccordUnit.reset : AccordUnit :=
  { src := 0, len := 0, busy := none, work := none, fallback := false, active := none, aValid := false, bValid := false,
    lastCmd := 0, err := 0, errSection := 0, errOfs := 0, seqA := 0, seqB := 0, pending := [], appliedNum := 0, accordLevel := 0,
        otpLevel := 0,
    slotA := [], slotB := [], ptr := .a, logA := [], logB := [], journal := [], locked := false, target := none,
    halted := none, stopped := false }

end Sys2Proof.Machine
end

