-- ==== Sys2Proof/Machine/StateCan.lean ====
section
/-! DEFINITION. State of the CAN FD ports and the station link (R345 to R376), and the port and station records as the running
module holds them. -/

namespace Sys2Proof.Machine

/-- One port record of PINS (R346). -/
structure CanCfg where
  /-- PORT. -/
  port : Nat
  /-- FLAGS. -/
  flags : Nat
  /-- DEST_ROLE. -/
  dest : Nat
  /-- BTN. -/
  btn : Nat
  /-- BTD. -/
  btd : Nat
  /-- STN_BASE. -/
  base : Nat
  deriving DecidableEq, Repr, Inhabited

/-- One item of a station (R362). -/
structure StnItem where
  /-- OFFSET. -/
  ofs : Nat
  /-- TYPE. -/
  type : Nat
  /-- BIT. -/
  bit : Nat
  /-- FLAGS bit 0: staggered. -/
  stag : Bool
  /-- SAFE, 32 bits. -/
  safe : Nat
  /-- The loop output entry that writes an output item, if a loop does (R251, R366). -/
  loop : Option Nat
  deriving DecidableEq, Repr, Inhabited

/-- One station record of DISTRICT (R362). -/
structure StnCfg where
  /-- PORT. -/
  port : Nat
  /-- STATION. -/
  st : Nat
  /-- IN_LEN. -/
  inLen : Nat
  /-- OUT_LEN. -/
  outLen : Nat
  /-- Input items. -/
  ins : List StnItem
  /-- Output items. -/
  outs : List StnItem
  /-- HB_DIV. -/
  hbDiv : Nat
  /-- HB_DUE in µs. -/
  hbDue : Nat
  /-- MISS_N. -/
  missN : Nat
  /-- RETRY. -/
  retry : Nat
  /-- HOLD_TN. -/
  holdTn : Nat
  /-- OUT_DIV. -/
  outDiv : Nat
  /-- SET_WIN in µs. -/
  setWin : Nat
  deriving DecidableEq, Repr, Inhabited

/-- States of a port (R351, R375). -/
inductive CanState where
  | active | passive | busOff | disabled
  deriving DecidableEq, Repr, Inhabited

/-- The code of a port state. -/
def CanState.code : CanState → Nat
  | .active => 0 | .passive => 1 | .busOff => 2 | .disabled => 3

/-- One message buffer (R354 to R358, R375). -/
structure MsgBuf where
  /-- CANn_MBk_CFG. -/
  cfg : Nat
  /-- Identifier. -/
  id : Nat
  /-- Mask. -/
  mask : Nat
  /-- Primary of a receive buffer. -/
  prim : Option CanFrame
  /-- Shadow of a receive buffer. -/
  shadow : Option CanFrame
  /-- OVERRUN. -/
  overrun : Bool
  /-- TX_DONE. -/
  txDone : Bool
  /-- TX_FAIL. -/
  txFail : Bool
  /-- FRAMES. -/
  frames : Nat
  /-- The 16 data words of a transmit buffer. -/
  data : List Nat
  /-- STAMP of the latest successful transmission. -/
  stamp : Nat
  /-- A transmit request: TNC of the request, −1 before the first top tick of START, and attempts lost to errors. -/
  pend : Option (Int × Nat)
  deriving DecidableEq, Repr

/-- A message buffer after a reset. -/
def MsgBuf.reset : MsgBuf :=
  { cfg := 0, id := 0, mask := 0, prim := none, shadow := none, overrun := false, txDone := false, txFail := false,
    frames := 0, data := List.replicate 16 0, stamp := 0, pend := none }

/-- States of a station (R283, R375). -/
inductive StnState where
  | good | lost | returning
  deriving DecidableEq, Repr

/-- The code of a station state in CANn_STN_STATE. -/
def StnState.code : StnState → Nat
  | .good => 1 | .lost => 2 | .returning => 3

/-- The refresh of a returning station (R371). -/
inductive Refresh where
  /-- None is asked for. -/
  | none
  /-- It is due at the next output instant. -/
  | due
  /-- Its frames are queued. -/
  | queued
  /-- Its last frame was sent, at a value of TB[31:0]. -/
  | sent (tb : Nat)
  deriving DecidableEq, Repr

/-- One declared station (R364 to R371). -/
structure Station where
  /-- State at the station engine. -/
  state : StnState
  /-- The next latch makes the station GOOD. -/
  goodNext : Bool
  /-- State as latched. -/
  lState : StnState
  /-- TNC of the latch since which inputs are HELD; none with inputs BAD from the start (R284, R376). -/
  heldFrom : Option Nat
  /-- Consecutive failed checks. -/
  misses : Nat
  /-- A valid heartbeat since the previous check. -/
  beat : Bool
  /-- FLAGS and BOOTS of the latest heartbeat. -/
  word : Nat
  /-- UPTIME of the latest heartbeat. -/
  uptime : Nat
  /-- Current input block. -/
  block : List Byte
  /-- The current input buffer in system SRAM is the second one (R364). -/
  side : Bool
  /-- TNC[31:0] of its acceptance. -/
  age : Nat
  /-- Block as latched. -/
  lBlock : List Byte
  /-- AGE as latched. -/
  lAge : Nat
  /-- FLAGS and BOOTS as latched. -/
  lWord : Nat
  /-- PERI cycle in which the current block was accepted, with the block, the AGE and the mark of `goodNext` before it (R283). -/
  fresh : Option (Nat × List Byte × Nat × Bool)
  /-- TNC of the latest heartbeat check (R369). -/
  checked : Option Nat
  /-- Held first frame of a set. -/
  held : Option CanFrame
  /-- Sequence number of the last accepted set. -/
  lastSeq : Option Nat
  /-- Refresh. -/
  refresh : Refresh
  /-- Sequence number of the next output set. -/
  outSeq : Nat
  deriving DecidableEq, Repr

/-- A declared station at the first latch of START (R376). -/
def Station.start : Station :=
  { state := .lost, goodNext := false, lState := .lost, heldFrom := none, misses := 0, beat := false, word := 0,
    uptime := 0, block := [], side := false, age := 0, lBlock := [], lAge := 0, lWord := 0, fresh := none, checked := none,
        held := none, lastSeq := none, refresh := .none,
    outSeq := 0 }

/-- One queued output frame of the station link (R366, R367). -/
structure OutFrame where
  /-- Station. -/
  st : Nat
  /-- Frame index of a set. -/
  idx : Nat
  /-- Bytes. -/
  data : List Byte
  /-- Attempts lost to errors. -/
  tries : Nat
  /-- It belongs to a refresh. -/
  refresh : Bool
  deriving DecidableEq, Repr

/-- One CAN port (R375). -/
structure CanPort where
  /-- CANn_CTRL configuration bits [7:0]: PXHD, BOFF_AUTO, STN_EN, TDC_EN, BRS_EN, FD_EN, 0, ENABLE. -/
  ctrl : Nat
  /-- CANn_CTRL.RECOVER. -/
  recover : Bool
  /-- CANn_BTN. -/
  btn : Nat
  /-- CANn_BTD. -/
  btd : Nat
  /-- STATE. -/
  state : CanState
  /-- Restricted operation by a LISTEN command. -/
  listen : Bool
  /-- DOMINANT. -/
  dominant : Bool
  /-- LEC. -/
  lec : Nat
  /-- REC. -/
  rec_ : Nat
  /-- TEC. -/
  tec : Nat
  /-- TDCV. -/
  tdcv : Nat
  /-- CANn_ERR, bits [9:0]. -/
  err : Nat
  /-- CANn_EVT_EN. -/
  evtEn : Nat
  /-- CANn_STN_BASE. -/
  base : Nat
  /-- LOSSES. -/
  losses : Nat
  /-- REFRESHES. -/
  refreshes : Nat
  /-- INCOMPLETE. -/
  incomplete : Nat
  /-- DISCARDED. -/
  discarded : Nat
  /-- Message buffers that differ from their reset. -/
  bufs : List (Nat × MsgBuf)
  /-- Declared stations. -/
  stns : List (Nat × Station)
  /-- Queued output frames, oldest first. -/
  outQ : List OutFrame
  /-- A full refresh of every GOOD station is due at the next output instant (R360). -/
  refreshGood : Bool
  /-- ACCEPTED, LOST and RETURNED since the previous acceptance record (R373). -/
  marks : List Nat × List Nat × List Nat
  /-- INCOMPLETE and DISCARDED since the previous acceptance record. -/
  counts : Nat × Nat
  /-- Writes of CFG, ID and MASK that wait for the next bus idle, oldest first: buffer, register and value (R358). -/
  cfgWait : List (Nat × Nat × Nat)
  /-- DRYDOWN has stopped the port: 1 while the frame in transmission may complete, 2 after it (R376). -/
  stop : Nat
  deriving DecidableEq, Repr

/-- A port after a reset (R375, R376). -/
def CanPort.reset : CanPort :=
  { ctrl := 0, recover := false, btn := 0x003E0F0F, btd := 0x01844008, state := .disabled, listen := false,
    dominant := false, lec := 0, rec_ := 0, tec := 0, tdcv := 0, err := 0, evtEn := 0xFF, base := 0, losses := 0,
    refreshes := 0, incomplete := 0, discarded := 0, bufs := [], stns := [], outQ := [], refreshGood := false,
    marks := ([], [], []), counts := (0, 0), cfgWait := [], stop := 0 }

/-- A port leaves restricted operation: a full refresh of its GOOD stations is due (R360). -/
def CanPort.leaveListen (p : CanPort) : CanPort :=
  if p.listen then { p with listen := false, refreshGood := true } else p

end Sys2Proof.Machine
end

