-- ==== Sys2Proof/Machine/StateDio.lean ====
section
/-! DEFINITION. State of the isolated field I/O (R410 to R429, R578) and the DIO part of PINS as the running module holds
it. -/

namespace Sys2Proof.Machine

/-- One channel entry of the DIO part of PINS (R410). -/
structure DioChanCfg where
  /-- MODE: 0 OFF, 1 and 2 INPUT, 3 and 4 COUNTER, 5 OUTPUT. -/
  mode : Nat
  /-- FILTER. -/
  filter : Nat
  /-- FLAGS. -/
  flags : Nat
  /-- MISMATCH_TN. -/
  mismatch : Nat
  deriving DecidableEq, Repr, Inhabited

/-- The DIO part of PINS (R410). -/
structure DioCfg where
  /-- DEST_ROLE. -/
  dest : Nat
  /-- The 48 channel entries. -/
  ch : List DioChanCfg
  deriving DecidableEq, Repr, Inhabited

/-- The link of a bank (R578). -/
inductive DioLink where
  /-- The link has not started, or the bank is not in use. -/
  | off
  /-- No frames are received. -/
  | down
  /-- Frames are received. -/
  | up
  /-- Frames have returned at a master-VCO cycle, and the inputs stay BAD until 10 ms later. -/
  | back (at_ : Nat)
  deriving DecidableEq, Repr

/-- One field channel. -/
structure DioChan where
  /-- Filtered state of the input stage (R412). -/
  filt : Bool
  /-- A confirmed wire break (R414). -/
  wire : Bool
  /-- The current limit has acted for 2 ms (R421). -/
  exceeded : Bool
  /-- The switch is shut down (R416). -/
  therm : Bool
  /-- Readback mismatch at the latest latch (R421). -/
  mism : Bool
  /-- Rising edges counted (R413). -/
  cnt : Nat
  /-- A rising edge confirmed in the PERI cycle of the coming latch, which the latch after it counts (R413). -/
  edge : Bool
  /-- Latched state. -/
  state : Bool
  /-- Latched quality is BAD (R423). -/
  bad : Bool
  /-- Quality BAD at the latest latch with PROBE = 0xFF (R423). -/
  keep : Bool
  /-- Latched count. -/
  lcnt : Nat
  /-- Value commanded at the latest instant 4. -/
  cmd : Bool
  /-- Driven state (R417). -/
  driven : Bool
  /-- TNC of the top note in which the driven state last changed. -/
  drvTnc : Nat
  deriving DecidableEq, Repr

/-- A channel after a reset. -/
def DioChan.reset : DioChan :=
  { filt := false, wire := false, exceeded := false, therm := false, mism := false, cnt := 0, edge := false, state := false, bad := false,
    keep := false, lcnt := 0, cmd := false, driven := false, drvTnc := 0 }

/-- One bank of eight channels. -/
structure DioBank where
  /-- Link. -/
  link : DioLink
  /-- VFb is below its undervoltage threshold (R421). -/
  uv : Bool
  /-- DIO_BANKb_PROBE. -/
  probe : Nat
  /-- DIO_BANKb_ASIDE. -/
  aside : Nat
  /-- DIO_BANKb_TEST. -/
  test : Nat
  /-- PROBE, ASIDE and TEST before a write that came in the PERI cycle of an output instant still to be taken, or later (R417). -/
  old : Option (Nat × Nat × Nat)
  /-- PROBE as it crossed the barrier at the latest instant 4 (R417). -/
  fProbe : Nat
  /-- ASIDE as it crossed the barrier. -/
  fAside : Nat
  /-- Latched fault bit (R422). -/
  fault : Bool
  deriving DecidableEq, Repr

/-- A bank after a reset. -/
def DioBank.reset : DioBank :=
  { link := .off, uv := false, probe := 0xFF, aside := 0, test := 0, old := none, fProbe := 0xFF, fAside := 0, fault := false }

/-- The DIO block. -/
structure Dio where
  /-- Channels 8b + c. -/
  ch : Vector DioChan 48
  /-- Banks. -/
  bank : Vector DioBank 6
  /-- DIO_CTRL.ENABLE. -/
  enable : Nat
  /-- DIO_STATUS.FAULT_STICKY. -/
  sticky : Nat
  /-- DIO_STATUS.SAFE. -/
  safe : Bool
  /-- The first output instant of START has come (R419). -/
  live : Bool
  /-- DIO_EVT_EN. -/
  evtEn : Nat
  deriving DecidableEq, Repr

/-- The DIO block after a reset (R429). -/
def Dio.reset : Dio :=
  { ch := Vector.replicate 48 DioChan.reset, bank := Vector.replicate 6 DioBank.reset, enable := 0, sticky := 0,
    safe := false, live := false, evtEn := 0x3FF }

end Sys2Proof.Machine
end

