-- ==== Sys2Proof/Machine/StateKey.lean ====
section
/-! DEFINITION. State of the key store, the OTP counters, field access and the service UART (R457 to R491), and the TRUST
section as the running module holds it. -/

namespace Sys2Proof.Machine

/-- The TRUST section (R482). -/
structure TrustCfg where
  /-- ACCESS_KEY. -/
  accessKey : Nat
  /-- PW_SLOT for VIEW, SERVICE and DEBUG. -/
  pwSlot : List Nat
  /-- PW_HOLD in minutes. -/
  pwHold : Nat
  /-- METHODS. -/
  methods : Nat
  /-- CR_LEVEL_MAX. -/
  crMax : Nat
  /-- PW_LEVEL_MAX. -/
  pwMax : Nat
  /-- KEYCMD_LEVEL. -/
  keyLevel : Nat
  /-- ACCORD. -/
  accord : List Nat
  /-- AMEND. -/
  amend : List Nat
  /-- EXPORT. -/
  exports : List Nat
  deriving DecidableEq, Repr, Inhabited

/-- The states of a slot (R459). -/
inductive KeyState where
  | empty | active | pending | orphaned
  deriving DecidableEq, Repr, Inhabited

/-- The code of a slot state (R458). -/
def KeyState.code : KeyState → Nat
  | .empty => 0 | .active => 1 | .pending => 2 | .orphaned => 3

/-- The types of a key (R458). -/
inductive KeyType where
  | none | secret | sk | pk | password
  deriving DecidableEq, Repr, Inhabited

/-- The code of a key type (R458). -/
def KeyType.code : KeyType → Nat
  | .none => 0 | .secret => 1 | .sk => 2 | .pk => 3 | .password => 4

/-- The type a code names; any other code names none. -/
def KeyType.ofCode (c : Nat) : KeyType :=
  if c = 1 then .secret else if c = 2 then .sk else if c = 3 then .pk else if c = 4 then .password else .none

/-- A slot record (R458). -/
structure KeySlot where
  /-- KEY_ID. -/
  id : Nat
  /-- PARENT, or none. -/
  parent : Option Nat
  /-- TYPE. -/
  type : KeyType
  /-- STATE. -/
  state : KeyState
  /-- POLICY. -/
  policy : Nat
  /-- DEPTH. -/
  depth : Nat
  /-- GENERATION. -/
  gen : Nat
  /-- MATERIAL without its unused bytes. -/
  mat : List Byte
  /-- KCV of a SECRET256. -/
  kcv : List Byte
  deriving DecidableEq, Repr, Inhabited

/-- An empty slot. -/
def KeySlot.blank : KeySlot :=
  { id := 0, parent := .none, type := .none, state := .empty, policy := 0, depth := 0, gen := 0, mat := [], kcv := [] }

/-- A key command as it stands in the queue (R463, R487). -/
structure KeyReq where
  /-- CMD. -/
  cmd : Nat
  /-- AUX. -/
  aux : Nat
  /-- SLOT. -/
  slot : Nat
  /-- Address of the argument block. -/
  arg : Nat
  /-- Initiator. -/
  who : Initiator
  /-- Argument block of a UART frame. -/
  uart : Option (List Byte)
  deriving DecidableEq, Repr

/-- The command that runs, with the slot and the parent as read at its start (R474). -/
structure KeyRun where
  /-- The command. -/
  req : KeyReq
  /-- The named slot at the start. -/
  slot : KeySlot
  /-- The slot AUX names at the start. -/
  aux : KeySlot
  /-- Master-VCO cycle of the start. -/
  at_ : Nat
  /-- An invalidation covering its key was requested while it ran (R470). -/
  revoked : Bool
  deriving DecidableEq, Repr

/-- A journal entry (R457, R469, R473). -/
inductive KeyJournal where
  /-- REVOKE of the slots named. -/
  | revoke (slots : List Nat)
  /-- A replacement of a slot without its COMMIT marker. -/
  | replacing (slot : Nat)
  deriving DecidableEq, Repr

/-- A reply of the service UART (R487). -/
structure UartReply where
  /-- TYPE + 0x80. -/
  type : Nat
  /-- Result. -/
  result : Nat
  /-- Reply payload. -/
  payload : List Byte
  deriving DecidableEq, Repr

/-- The key store, the KEY registers, field access and the ACC registers. -/
structure Keys where
  /-- Slots that are not empty, other than the fixed slots 0 to 3 and 5. -/
  slots : List (Nat × KeySlot)
  /-- Key files of public keys, by slot. -/
  files : List (Nat × List Byte)
  /-- Journal. -/
  journal : List KeyJournal
  /-- A journal entry was completed or discarded at boot: source 276 at the first top note of START (R475). -/
  bootMark : Bool
  /-- OTP rollback counters (R478). -/
  otp : Vector Nat 32
  /-- Commands queued, oldest first. -/
  queue : List KeyReq
  /-- The command that runs. -/
  run : Option KeyRun
  /-- KEY_ARG. -/
  arg : Nat
  /-- KEY_STATUS.REVOKED_DONE. -/
  revDone : Bool
  /-- KEY_STATUS.FW_FALLBACK. -/
  fwFallback : Bool
  /-- KEY_STATUS.LAST_CMD. -/
  lastCmd : Nat
  /-- KEY_STATUS.ERR. -/
  err : Nat
  /-- KEY_RESULT.REVOKED. -/
  resRevoked : Bool
  /-- KEY_RESULT.ATTEMPTS. -/
  attempts : Nat
  /-- KEY_SLOT_SEL. -/
  sel : Nat
  /-- KEY_EVT_EN. -/
  evtEn : Nat
  /-- Level open (R481). -/
  level : Nat
  /-- ACC_STATUS.METHOD. -/
  method : Nat
  /-- Master-VCO cycle at which the opening ends. -/
  openEnd : Nat
  /-- Access fell below SERVICE in COMMISSIONING or TEST since the latest top tick (R504). -/
  fell : Bool
  /-- F. -/
  fails : Nat
  /-- Master-VCO cycle at which the lock ends. -/
  lockEnd : Option Nat
  /-- The held nonce and the master-VCO cycle of its issue. -/
  nonce : Option (List Byte × Nat)
  /-- Nonces that went stale or were replaced since the reset (R484). -/
  gone : List (List Byte)
  /-- ACC_NONCE as last written. -/
  nonceReg : List Byte
  /-- ACC_EXPIRY. -/
  expiry : Nat
  /-- ACC_RESP words. -/
  resp : List Nat
  /-- ACC_PW words. -/
  pw : List Nat
  /-- ACC_PW_LEN. -/
  pwLen : Nat
  /-- Latest reply of the service UART. -/
  uart : Option UartReply
  deriving DecidableEq, Repr

/-- A key store as delivered: only the fixed slots hold keys, and every counter is 0. -/
def Keys.reset : Keys :=
  { slots := [], files := [], journal := [], bootMark := false, otp := Vector.replicate 32 0, queue := [], run := none,
    arg := 0, revDone := false, fwFallback := false, lastCmd := 0, err := 0, resRevoked := false, attempts := 0, sel := 0,
    evtEn := 0xFFF, level := 0, method := 0, openEnd := 0, fell := false, fails := 0, lockEnd := none, nonce := none,
    gone := [], nonceReg := [], expiry := 0, resp := List.replicate 8 0, pw := List.replicate 16 0, pwLen := 0,
    uart := none }

/-- The held nonce goes: it is stale, or another replaces it (R484). -/
def Keys.dropNonce (q : Keys) : Keys :=
  { q with nonce := none, gone := q.gone ++ (q.nonce.map (·.1)).toList }

end Sys2Proof.Machine
end

