-- ==== Sys2Proof/Machine/StateLoop.lean ====
section
/-! DEFINITION. State of the loop engines: loop records, engine tables and registers (R242 to R267), and the LOOPS section
as the running module holds it. -/

namespace Sys2Proof.Machine

/-- Where a bound input entry takes its value from at the input latch (R29, R222, R230, R247, R263). -/
inductive Src where
  /-- Nothing is bound. -/
  | none
  /-- A value of a CAN station's input block: port, station, value number (R364). -/
  | station (port st value : Nat)
  /-- A 32-bit word of a CAN station's input block: port, station, word (R339). -/
  | stationWord (port st word : Nat)
  /-- A published metering quantity, by its word in the metering window (R327). -/
  | meter (word : Nat)
  /-- A quantity of the substation table: substation index, quantity number (R391). -/
  | substation (idx q : Nat)
  /-- A value of the published network state: network, position (R222). -/
  | net (k pos : Nat)
  /-- A set-point item of a partition's output image: partition 1 to 4, item (R248, R271). -/
  | program (part item : Nat)
  /-- STATE word of a station: the code of CANn_STN_STATE in [1:0], FLAGS in [15:8], BOOTS in [31:16] (R283, R368; DESIGN CHOICE,
  log entry 59). -/
  | stationState (port st : Nat)
  /-- AGE of a station (R283). -/
  | stationAge (port st : Nat)
  /-- A plan variable as the programs see it, with the quality of the ladder (R273, R281). -/
  | target (var : Nat)
  /-- The ladder level (R273). -/
  | level
  /-- TNC (0), BNC (1), HPOS (2), BPOS (3), module state (4), RTC_SECONDS (5), RTC_TIME (6), RTC_DATE (7) (R273). -/
  | sys (k : Nat)
  /-- STAGGER_WAIT of an output (R304). -/
  | staggerWait (key : Nat)
  /-- The pulse count of a DIO channel (R273). -/
  | dioCount (ch : Nat)
  /-- A plan variable of the committed target image: number, gain Q2.29, offset; and the set-point item of the fallback
  partition that stands in for it at level RULES (R28, R230, R231). -/
  | dispatch (var : Nat) (gain ofs : Int) (item : Nat)
  /-- The filtered state of a DIO channel (R412). -/
  | dio (ch : Nat)
  /-- A flex group's applied shift (0) or its mean flow one horizon step earlier (1), for the regressors of R235. -/
  | flex (group q : Nat)
  /-- A loop's output entry, for a partition's input image (R251). -/
  | loopOut (kind entry : Nat)
  deriving DecidableEq, Repr, Inhabited

/-- One section of a loop: coefficients Q2.29 and states at 2^−29 (R244). -/
structure LoopSection where
  /-- B0. -/
  b0 : Int
  /-- B1. -/
  b1 : Int
  /-- B2. -/
  b2 : Int
  /-- A1. -/
  a1 : Int
  /-- A2. -/
  a2 : Int
  /-- S1, 64 bits signed. -/
  s1 : Int
  /-- S2, 64 bits signed. -/
  s2 : Int
  deriving DecidableEq, Repr, Inhabited

/-- A loop record (R263) with the marks the engine keeps beside it. -/
structure Loop where
  /-- INPUT, 11 bits. -/
  input : Nat
  /-- IN_GAIN, Q2.29. -/
  inGain : Int
  /-- IN_OFS. -/
  inOfs : Int
  /-- SP_SRC [31:30]: 0 FIXED, 1 PROGRAM, 2 DISPATCH. -/
  spKind : Nat
  /-- SP_SRC [10:0]. -/
  spEntry : Nat
  /-- SP_FIXED. -/
  spFixed : Int
  /-- SP_DB, unsigned. -/
  spDb : Nat
  /-- RAMP, unsigned. -/
  ramp : Nat
  /-- UMIN. -/
  umin : Int
  /-- UMAX. -/
  umax : Int
  /-- RLIM, unsigned. -/
  rlim : Nat
  /-- DEST [31:30]. -/
  destKind : Nat
  /-- DEST [10:0]. -/
  destEntry : Nat
  /-- OUT_GAIN, Q2.29. -/
  outGain : Int
  /-- RATE [27:24] SEC_BUDGET. -/
  budget : Nat
  /-- RATE [19:16] divisor code. -/
  rate : Nat
  /-- RATE [9:0] phase. -/
  phase : Nat
  /-- MASK [31:29] PRESET_SEC. -/
  presetSec : Nat
  /-- MASK [28] PRESET_EN. -/
  presetEn : Bool
  /-- MASK [23:16] INTEG. -/
  integ : Nat
  /-- MASK [7:0] ENABLE. -/
  secs : Nat
  /-- MODE [31] ENABLED. -/
  enabled : Bool
  /-- Hold causes in the order they were set; the first is reported (R250). -/
  causes : List Nat
  /-- MODE [26] RAMPING. -/
  ramping : Bool
  /-- MODE [25]. -/
  limited : Bool
  /-- MODE [23:0], samples that ran steps 1 to 10. -/
  samples : Nat
  /-- W. -/
  w : Int
  /-- T_REF. -/
  tRef : Int
  /-- U_LAST. -/
  uLast : Int
  /-- U_INIT. -/
  uInit : Int
  /-- Sections 0 to 7. -/
  sect : Vector LoopSection 8
  /-- The next sample is the first after enabling (R249). -/
  first : Bool
  /-- w := PV and the ramp restart at the next sample that runs (R250). -/
  restart : Bool
  /-- The target of the previous sample, or the target when the loop was enabled (R248). -/
  tPrev : Option Int
  /-- An accepted record write has reached the record since its ECC error (R250). -/
  rewritten : Bool
  deriving DecidableEq, Repr, Inhabited

/-- What a pass has done (R264). -/
structure PassWork where
  /-- SAMPLED. -/
  sampled : Nat
  /-- SHADOWED. -/
  shadowed : Nat
  /-- MISMATCH. -/
  mismatch : Nat
  /-- LATE. -/
  late : Nat
  /-- LIMITED. -/
  limited : Nat
  /-- Lowest id that mismatched. -/
  firstMis : Option Nat
  /-- Section saturations. -/
  sat : Nat
  /-- FAB cycles used. -/
  cycles : Nat
  /-- A loop was held with cause INPUT_BAD. -/
  inBad : Bool
  deriving DecidableEq, Repr, Inhabited

/-- A pass that runs, from instant 2 to the hand-over of its frame record (R253). -/
structure LoopPass where
  /-- TNC of the top note. -/
  tnc : Nat
  /-- Master-VCO cycle of instant 2. -/
  at_ : Nat
  /-- Loops that the main pass has still to sample. -/
  main : List Nat
  /-- Loops that the shadow pass has still to recompute, each with its record before the sample (R258). -/
  check : List (Nat × Loop)
  /-- Loops whose recomputation differs. -/
  mism : List Nat
  /-- Loops that the mirror has still to copy; none before it begins (R260). -/
  copy : Option (List Nat)
  /-- What the pass has done. -/
  wk : PassWork
  deriving DecidableEq, Repr

/-- One loop engine (R263, R266). -/
structure LoopEngine where
  /-- LEn_CTRL.ENABLE. -/
  enable : Bool
  /-- LEn_CTRL.TAKEOVER. -/
  takeover : Bool
  /-- LEn_STATUS.FAILED. -/
  failed : Bool
  /-- LEn_STATUS.HOSTING. -/
  hosting : Bool
  /-- LEn_STATUS.HELD. -/
  held : Nat
  /-- TNC of the top note in which the engine was marked as failing; it fails at the next top tick (R261). -/
  failing : Option Nat
  /-- LEn_WADDR.LOOP. -/
  waddrLoop : Nat
  /-- LEn_WADDR.WORD. -/
  waddrWord : Nat
  /-- LEn_PASS.SAMPLED. -/
  passSampled : Nat
  /-- LEn_PASS.CYCLES. -/
  passCycles : Nat
  /-- LEn_SHADOW.MISMATCHES. -/
  mismatches : Nat
  /-- LEn_SHADOW.FIRST. -/
  first : Nat
  /-- LEn_ERR, bits [6:0]. -/
  err : Nat
  /-- LEn_EVT_EN. -/
  evtEn : Nat
  /-- Own loop records by loop id. -/
  own : List (Nat × Loop)
  /-- Standby copy of the partner's records by loop id (R260). -/
  standby : List (Nat × Loop)
  /-- Input table: entries by number; an entry that is not listed is 0 with quality GOOD (R267). -/
  inp : List (Nat × (Int × Quality))
  /-- The pass that runs (R253). -/
  pass : Option LoopPass
  /-- LOOPS amendment records to be written before the next pass (R257). -/
  amd : List AmdRecord
  /-- Master-VCO cycle at which the amendment window opens (R257). -/
  amdFrom : Nat
  deriving DecidableEq, Repr

/-- A loop engine after a reset (R266, R267). -/
def LoopEngine.reset : LoopEngine :=
  { enable := false, takeover := false, failed := false, hosting := false, held := 0, failing := none, waddrLoop := 0,
    waddrWord := 0, passSampled := 0, passCycles := 0, mismatches := 0, first := 0x3FF, err := 0, evtEn := 0xFF,
    own := [], standby := [], inp := [], pass := none, amd := [], amdFrom := 0 }

/-- The two engines with their output entries (R250, R251). -/
structure Loops where
  /-- LE0 and LE1. -/
  le : Vector LoopEngine 2
  /-- Output entries as the engines wrote them, by 2,048 × kind + entry. -/
  out : List (Nat × (Int × Quality))
  /-- Output entries in effect since the latest instant 4 (R36, R253). -/
  eff : List (Nat × (Int × Quality))
  /-- Time-proportioning of the latest sample note: DIO channel and top notes on, to start at instant 4 (R251). -/
  tpoNew : List (Nat × Nat)
  /-- Channels that time-proportioning holds on: channel and TNC of the note in which it switches off (R251). -/
  tpoOn : List (Nat × Nat)
  /-- TNC of the top note of the latest LOOP_PASS (R253). -/
  passTnc : Option Nat
  deriving DecidableEq, Repr

/-- The loops after a reset (R267). -/
def Loops.reset : Loops := { le := Vector.replicate 2 LoopEngine.reset, out := [], eff := [], tpoNew := [], tpoOn := [], passTnc := none }

/-- LOOPS: records, bindings and the engines in use (R64, R249, R260, R264). -/
structure LoopsCfg where
  /-- Loop records by id. -/
  loops : List (Nat × Loop)
  /-- Loops enabled at the first top note of START. -/
  atStart : List Nat
  /-- Bound input entries: engine, entry and source. -/
  binds : List (Nat × Nat × Src)
  /-- TAKEOVER. -/
  takeover : Bool
  /-- Engines that LOOPS uses. -/
  uses : Vector Bool 2
  /-- Destination role of the frame records (R264). -/
  dest : Nat
  deriving DecidableEq, Repr, Inhabited

end Sys2Proof.Machine
end

