-- ==== Sys2Proof/Machine/StateMeter.lean ====
section
/-! DEFINITION. State of the metering engine: decimators, windows, energy registers, pulse outputs, thermal points, mirror
records and registers (R308 to R344), and the METER section as the running module holds it. -/

namespace Sys2Proof.Machine

/-- Modes of an MCLK pin (R309). -/
inductive MclkMode where
  | off | output | twinShared
  deriving DecidableEq, Repr, Inhabited

/-- One channel record (R339). -/
structure ChanCfg where
  /-- CHANNEL. -/
  ch : Nat
  /-- KIND is current. -/
  current : Bool
  /-- FS in mV or mA. -/
  fs : Nat
  /-- OFFSET. -/
  offset : Int
  /-- G[0..15]. -/
  g : List Nat
  /-- Φ[0..15]. -/
  phi : List Int
  deriving DecidableEq, Repr, Inhabited

/-- One AC or DC point record (R339). -/
structure PointCfg where
  /-- POINT. -/
  pt : Nat
  /-- KIND: 0 1P2W, 1 3P3W, 2 3P4W; DC points carry 3. -/
  kind : Nat
  /-- DIR. -/
  dir : Bool
  /-- Channels in the order of R317. -/
  ch : List Nat
  deriving DecidableEq, Repr, Inhabited

/-- One thermal record (R339). -/
structure ThermCfg where
  /-- POINT. -/
  pt : Nat
  /-- FLOW_KIND is FLOW_RATE. -/
  rate : Bool
  /-- FLOW_LOC is the return pipe. -/
  ret : Bool
  /-- FLOW_SRC. -/
  flow : Nat
  /-- TF_SRC. -/
  tf : Nat
  /-- TR_SRC. -/
  tr : Nat
  /-- PULSE_ML. -/
  pulseMl : Nat
  /-- P_KPA. -/
  kpa : Nat
  /-- DT_MIN in m°C. -/
  dtMin : Nat
  deriving DecidableEq, Repr, Inhabited

/-- One pulse record (R339). -/
structure PulseCfg where
  /-- DIO_CH. -/
  ch : Nat
  /-- SRC_KIND: 0 AC, 1 DC, 2 thermal. -/
  kind : Nat
  /-- SRC_POINT. -/
  pt : Nat
  /-- SRC_REG. -/
  reg : Nat
  /-- WIDTH_MS. -/
  width : Nat
  /-- PC. -/
  pc : Nat
  deriving DecidableEq, Repr, Inhabited

/-- METER with the MCLK modes of PINS (R309, R339). -/
structure MeterCfg where
  /-- MODK is 10 MHz. -/
  slow : Bool
  /-- DEST_ROLE. -/
  dest : Nat
  /-- Group table: SOURCE is PROGRAM, PARTITION, VAR_OFS. -/
  groups : List (Bool × Nat × Nat)
  /-- Channel records. -/
  chans : List ChanCfg
  /-- AC point records. -/
  ac : List PointCfg
  /-- DC point records. -/
  dc : List PointCfg
  /-- Thermal records. -/
  therm : List ThermCfg
  /-- Pulse records. -/
  pulses : List PulseCfg
  /-- MCLK modes of the groups. -/
  mclk : List MclkMode
  deriving DecidableEq, Repr, Inhabited

/-- One channel's decimator and correction chain (R312 to R315, R320). -/
structure Decim where
  /-- Integrators of the sinc3 filter, modulo 2^64. -/
  integ : Nat × Nat × Nat
  /-- Comb delays of the sinc3 filter, modulo 2^64. -/
  comb : Nat × Nat × Nat
  /-- Latest bit and the length of its run. -/
  run : Bool × Nat
  /-- STUCK. -/
  stuck : Bool
  /-- Decimation periods in a row without a run of 256. -/
  clean : Nat
  /-- Decimation periods left to settle. -/
  settle : Nat
  /-- The latest decimation period was one of settling (R320). -/
  settling : Bool
  /-- Samples after stage 4, newest first, at most 4. -/
  hist : List Int
  /-- Samples after stage 5, newest first, at most 63. -/
  outs : List Int
  /-- The latest sample was overranged. -/
  exceeded : Bool
  /-- The latest decimation period had a sample. -/
  live : Bool
  /-- Gain in use. -/
  g : Nat
  /-- Phase in use. -/
  phi : Int
  deriving DecidableEq, Repr, Inhabited

/-- Sums of a window (R319 to R322): one entry per measuring element. -/
structure Win where
  /-- N, samples not excluded. -/
  n : Nat
  /-- Excluded samples. -/
  ex : Nat
  /-- A channel overranged. -/
  exceeded : Bool
  /-- A temperature fallback was active. -/
  fall : Bool
  /-- Σ v². -/
  v2 : List Int
  /-- Σ i². -/
  i2 : List Int
  /-- Σ v·i. -/
  vi : List Int
  /-- Σ v_H·i_d. -/
  vq : List Int
  /-- Σ v, for DC. -/
  sv : Int
  /-- Σ i, for DC. -/
  si : Int
  /-- Positive-going zero crossings of the first voltage channel. -/
  m : Nat
  /-- First crossing, as numerator and denominator in samples. -/
  first : Int × Int
  /-- Last crossing. -/
  last : Int × Int
  /-- Previous sample of the first voltage channel. -/
  prev : Option Int
  deriving DecidableEq, Repr, Inhabited

/-- One AC or DC point (R321, R324, R328). -/
structure MPoint where
  /-- The open window. -/
  win : Win
  /-- Published quantity words of R343, by word. -/
  q : List Nat
  /-- Energy registers with their residues. -/
  e : List (Nat × Nat)
  /-- WINDOWS. -/
  windows : Nat
  /-- EXCLUDED. -/
  excluded : Nat
  /-- Quality of the quantities. -/
  qual : Quality
  /-- Quality of the frequency. -/
  fq : Quality
  /-- QUAL bit 4. -/
  exceeded : Bool
  /-- QUAL bit 5. -/
  fall : Bool
  deriving DecidableEq, Repr, Inhabited

/-- One pulse output (R329). -/
structure PulseSt where
  /-- Residue. -/
  res : Nat
  /-- Register value in the previous snapshot. -/
  last : Nat
  /-- Pulses queued. -/
  queued : Nat
  /-- OVF. -/
  ovf : Bool
  /-- On since the instant 4 of this top note. -/
  onAt : Option Nat
  /-- TNC of the latest falling edge. -/
  fell : Option Nat
  deriving DecidableEq, Repr, Inhabited

/-- One thermal point (R332 to R334, R343). -/
structure ThermSt where
  /-- HEAT in mWh with its residue. -/
  heat : Nat × Nat
  /-- COOL in mWh with its residue. -/
  cool : Nat × Nat
  /-- VOLUME in L with its residue. -/
  vol : Nat × Nat
  /-- FAULT_MS with its residue. -/
  fault : Nat × Nat
  /-- TF in m°C. -/
  tf : Int
  /-- TR in m°C. -/
  tr : Int
  /-- FLOW in L/h. -/
  flow : Nat
  /-- POWER in W. -/
  power : Int
  /-- Quality. -/
  qual : Quality
  /-- REV. -/
  rev : Bool
  /-- HEART_NOTES. -/
  notes : Nat
  /-- Pulse count at the previous heart tick. -/
  count : Nat
  deriving DecidableEq, Repr, Inhabited

/-- The inputs of one thermal point as latched at a heart tick. -/
structure ThermIn where
  /-- Thermal point. -/
  pt : Nat
  /-- Flow: pulse count, or L/h. -/
  flow : Int × Quality
  /-- T_f in m°C. -/
  tf : Int × Quality
  /-- T_r in m°C. -/
  tr : Int × Quality
  deriving DecidableEq, Repr, Inhabited

/-- A point as a mirror record saves it. -/
structure PointSave where
  /-- Point index. -/
  pt : Nat
  /-- Registers with residues. -/
  e : List (Nat × Nat)
  /-- EXCLUDED. -/
  ex : Nat
  /-- The pending window. -/
  win : Win
  /-- What the pending window adds to the registers under the accord that it was measured by (R338). -/
  inc : List (Nat × Nat)
  deriving DecidableEq, Repr, Inhabited

/-- What a mirror record saves (R336). -/
structure MtrRecord where
  /-- SEQ. -/
  seq : Nat
  /-- The record is a CAPTURE. -/
  capture : Bool
  /-- TNC. -/
  tnc : Nat
  /-- RTC seconds. -/
  rtc : Nat
  /-- AC and DC points: index, registers with residues, EXCLUDED and the pending window. -/
  points : List PointSave
  /-- Pulse outputs with what each is bound to. -/
  pulses : List (PulseCfg × PulseSt)
  /-- Thermal points. -/
  therm : List (Nat × ThermSt)
  deriving DecidableEq, Repr, Inhabited

/-- The bytes of a mirror buffer that holds a record, with VALID as said: the chapter names MAGIC, SEQ, the kind, TNC, the
time and VALID, and
gives no offsets (R336; DESIGN CHOICE, log entry 5). -/
opaque Config.mirrorImage : Bool → MtrRecord → List Byte

/-- The metering engine (R342, R343). -/
structure Meter where
  /-- Decimation edges since PLL A locked (R310). -/
  edges : Nat
  /-- Decimation edges at the first tick of START (R340). -/
  startEdges : Nat
  /-- Decimators of the channels. -/
  dec : List (Nat × Decim)
  /-- Points: AC a at a, DC d at 32 + d. -/
  pts : List (Nat × MPoint)
  /-- Pulse outputs. -/
  pulses : List PulseSt
  /-- Thermal points. -/
  therm : List (Nat × ThermSt)
  /-- Thermal inputs latched at the latest heart tick: flow, T_f, T_r, with the length of the heart note in PERI cycles. -/
  thermIn : Option (Nat × List ThermIn)
  /-- Master-VCO cycle of the latest heart tick. -/
  heartAt : Nat
  /-- MTR_STATUS.TEMP_FALLBACK, by group. -/
  fallback : Vector Bool 12
  /-- MTR_STATUS.GROUP_LOST, by group. -/
  lost : Vector Bool 12
  /-- MTR_OVR, by channel. -/
  ovr : List Nat
  /-- MTR_EVT_EN. -/
  evtEn : Nat
  /-- Mirror buffers with a valid record. -/
  bufs : Option MtrRecord × Option MtrRecord
  /-- MTR_MIRROR_INFO.BUF. -/
  newest : Bool
  /-- A mirror write that runs: the master-VCO cycle at which it ends, whether it goes to the second buffer, and its record
  (R336). -/
  writing : Option (Nat × Bool × MtrRecord)
  /-- MTR_MIRROR_INFO.CYCLES. -/
  cycles : Nat
  /-- MTR_TEMP. -/
  temp : Nat
  /-- MTR_OUT_CAPTURE. -/
  outCapture : Nat
  /-- MTR_OUT_RESTART. -/
  outRestart : Nat
  /-- MTR_OUT_INFO.RTC, RESTORED, RESET_KIND. -/
  outInfo : Nat × Nat × Nat
  /-- MTR_CTRL.CAPTURE: a capture was requested. -/
  capReq : Bool
  /-- The capture edge has been processed. -/
  capEdge : Bool
  /-- Decimation edges of the reference group since the capture edge, in standby (R311, R337). -/
  skipped : Nat
  /-- The restore of R338 has run since the reset. -/
  restored : Bool
  /-- Frozen high words: initiator and low-word offset (R327). -/
  shadows : List ((Nat × Nat) × Nat)
  deriving DecidableEq, Repr

/-- The metering engine after a reset, with the mirror buffers kept (R344). -/
def Meter.reset (bufs : Option MtrRecord × Option MtrRecord) (newest : Bool) : Meter :=
  { edges := 0, startEdges := 0, dec := [], pts := [], pulses := [], therm := [], thermIn := none, heartAt := 0,
    fallback := Vector.replicate 12 false, lost := Vector.replicate 12 false, ovr := [], evtEn := 0xFFF, bufs := bufs,
    newest := newest, writing := none, cycles := 0, temp := 0, outCapture := 0, outRestart := 0, outInfo := (0, 0, 0), capReq := false,
    capEdge := false, skipped := 0, restored := false, shadows := [] }

end Sys2Proof.Machine
end

