-- ==== Sys2Proof/Machine/StateNet.lean ====
section
/-! DEFINITION. State of the Ethernet ports, the PTP clock, the exchange engine, the Modbus server, the service channel and
the historian (R377 to R409), and the COMMS section as the running module holds it. -/

namespace Sys2Proof.Machine

/-- One port record of COMMS (R378). -/
structure EthCfg where
  /-- PORT. -/
  port : Nat
  /-- MODE is 1000BASE-X. -/
  baseX : Bool
  /-- RX_DELAY in ns. -/
  rxDelay : Nat
  /-- TX_DELAY in ns. -/
  txDelay : Nat
  deriving DecidableEq, Repr, Inhabited

/-- One interface record of COMMS (R378). -/
structure IfCfg where
  /-- PORT. -/
  port : Nat
  /-- ROLES: bit 0 SUBSTATION, 1 SCADA, 2 PTP, 3 TWIN. -/
  roles : Nat
  /-- VID, 0 for untagged. -/
  vid : Nat
  /-- PCP. -/
  pcp : Nat
  /-- PLEN4. -/
  plen4 : Nat
  /-- PLEN6. -/
  plen6 : Nat
  /-- FLAGS: bit 0 IPv4, bit 1 IPv6, bit 2 PTP over Layer 2. -/
  flags : Nat
  /-- IPV4. -/
  ipv4 : List Byte
  /-- GW4. -/
  gw4 : List Byte
  /-- IPV6. -/
  ipv6 : List Byte
  deriving DecidableEq, Repr, Inhabited

/-- One entry of the Modbus map (R398). -/
structure MapEntry where
  /-- TABLE. -/
  table : Nat
  /-- FLAGS. -/
  flags : Nat
  /-- START. -/
  start : Nat
  /-- COUNT. -/
  count : Nat
  /-- KIND. -/
  kind : Nat
  /-- TYPE. -/
  type : Nat
  /-- REF. -/
  ref : Nat
  /-- SUB. -/
  sub : Nat
  deriving DecidableEq, Repr, Inhabited

/-- One entry of the historian list (R405). -/
structure HistEntry where
  /-- KIND. -/
  kind : Nat
  /-- TYPE. -/
  type : Nat
  /-- CADENCE is base. -/
  base : Bool
  /-- PART. -/
  part : Nat
  /-- REF. -/
  ref : Nat
  deriving DecidableEq, Repr, Inhabited

/-- COMMS (R378). -/
structure CommsCfg where
  /-- Port records. -/
  ports : List EthCfg
  /-- Interface records. -/
  ifs : List IfCfg
  /-- Modbus allow list: address and number of leading bits compared. -/
  allow : List (List Byte × Nat)
  /-- DEST_ROLE. -/
  dest : Nat
  /-- Modbus map. -/
  mb : List MapEntry
  /-- Historian list. -/
  hist : List HistEntry
  /-- XSX_PORT. -/
  xsxPort : Nat
  /-- XSX_KEY. -/
  xsxKey : Nat
  /-- SVC_KEY. -/
  svcKey : Nat
  /-- MB_IDLE in s. -/
  mbIdle : Nat
  /-- PTP_DOMAIN. -/
  ptpDomain : Nat
  /-- PTP_FLAGS. -/
  ptpFlags : Nat
  deriving DecidableEq, Repr, Inhabited

/-- Where a received frame goes (R381). -/
inductive EthDest where
  | xsx | ptp | twin | role | dropped
  deriving DecidableEq, Repr

/-- One Ethernet port (R408). -/
structure EthPort where
  /-- ETHn_CTRL.ENABLE. -/
  enable : Bool
  /-- ETHn_CTRL.MODE. -/
  mode : Bool
  /-- LINK; SYNC and AN_DONE follow it. -/
  link : Bool
  /-- FIFO_PEAK. -/
  peak : Nat
  /-- ETHn_RX_FRAMES. -/
  rx : Nat
  /-- ETHn_TX_FRAMES. -/
  tx : Nat
  /-- ETHn_DROP.FIFO. -/
  dFifo : Nat
  /-- ETHn_DROP.VID. -/
  dVid : Nat
  /-- ETHn_DROP.FCS. -/
  dFcs : Nat
  /-- ETHn_DROP.PROTO. -/
  dProto : Nat
  /-- ETHn_EVT_EN. -/
  evtEn : Nat
  /-- Where the latest received frame went. -/
  dest : Option EthDest
  deriving DecidableEq, Repr

/-- A port after a reset (R408). -/
def EthPort.reset : EthPort :=
  { enable := false, mode := false, link := false, peak := 0, rx := 0, tx := 0, dFifo := 0, dVid := 0, dFcs := 0,
    dProto := 0, evtEn := 0xF, dest := none }

/-- The PTP block (R383 to R386, R408). The clock is held as its value at one NET edge. -/
structure Ptp where
  /-- PTP_CTRL.ENABLE. -/
  enable : Bool
  /-- PTP_CTRL.PPS_OUT. -/
  ppsOut : Bool
  /-- Time at the NET edge `edge`, in 2^−32 ns. -/
  time : Nat
  /-- NET edge of `time`, counted from the lock of PLL A. -/
  edge : Nat
  /-- PTP_ADJ. -/
  adj : Int
  /-- ADJ_LIMIT. -/
  adjLimit : Bool
  /-- PULSES. -/
  pulses : Nat
  /-- Seconds of the latest rollover or step. -/
  pulseSec : Nat
  /-- PTP_REF_TB. -/
  refTb : Nat
  /-- PTP_REF_SEC. -/
  refSec : Nat
  /-- PTP_EVT_EN. -/
  evtEn : Nat
  /-- Frozen PTP_SEC_HI and PTP_NS by initiator. -/
  shTime : List (Nat × Nat × Nat)
  /-- Frozen PTP_REF_TB_HI by initiator. -/
  shRef : List (Nat × Nat)
  deriving DecidableEq, Repr

/-- The PTP block after a power-on (R408, R409). -/
def Ptp.reset : Ptp :=
  { enable := false, ppsOut := false, time := 0, edge := 0, adj := 0, adjLimit := false, pulses := 0, pulseSec := 0,
    refTb := 0, refSec := 0, evtEn := 7, shTime := [], shRef := [] }

/-- A telegram that the exchange engine sends (R387, R395, R396). -/
structure XsxOut where
  /-- Interface index. -/
  iface : Nat
  /-- Destination address. -/
  addr : List Byte
  /-- Destination UDP port. -/
  port : Nat
  /-- The telegram with its tag. -/
  bytes : List Byte
  deriving DecidableEq, Repr

/-- The exchange engine (R387 to R396, R408). -/
structure Xsx where
  /-- XSX_CTRL.ENABLE. -/
  enable : Bool
  /-- XSX_CTRL.POLLER. -/
  poller : Bool
  /-- XSX_RUN. -/
  run : Nat
  /-- XSX_ACCEPTED. -/
  accepted : Nat
  /-- Rejections by cause 1 to 8. -/
  rej : Vector Nat 8
  /-- XSX_LAST_REJ: cause and SUBST. -/
  last : Nat × Nat
  /-- XSX_EVT_EN. -/
  evtEn : Nat
  /-- SEQ of the next telegram sent. -/
  seq : Nat
  /-- Reports accepted, reports rejected and SHIFTs sent since the previous heart record. -/
  since : Nat × Nat × Nat
  /-- Telegrams of the latest round. -/
  sent : List XsxOut
  /-- Rounds on the wire: the master-VCO cycle at which each ends, and whether it is a SHIFT round. -/
  rounds : List (Nat × Bool)
  /-- Telegrams whose entries are written after the next base-tick update. -/
  held : List XsxIn
  deriving DecidableEq, Repr

/-- The exchange engine after a reset (R408). -/
def Xsx.reset : Xsx :=
  { enable := false, poller := false, run := 0, accepted := 0, rej := Vector.replicate 8 0, last := (0, 0), evtEn := 0x1F,
    seq := 0, since := (0, 0, 0), sent := [], rounds := [], held := [] }

/-- A Modbus reply: function code with data, or with bit 7 and an exception code (R397, R398). -/
structure MbReply where
  /-- Function code. -/
  fc : Nat
  /-- The rest of the reply. -/
  data : List Byte
  deriving DecidableEq, Repr

/-- A Modbus connection (R397). -/
structure MbConn where
  /-- Client address. -/
  addr : List Byte
  /-- Master-VCO cycle of the latest request. -/
  used : Nat
  /-- Latest reply. -/
  reply : Option MbReply
  deriving DecidableEq, Repr

/-- A frame of the service channel that the module sends (R401). -/
structure SvcFrame where
  /-- TYPE. -/
  type : Nat
  /-- SEQ. -/
  seq : Nat
  /-- Payload. -/
  payload : List Byte
  /-- Tag. -/
  tag : List Byte
  deriving DecidableEq, Repr

/-- A service session (R402). -/
structure SvcSess where
  /-- The session is open: PROVE has been accepted. -/
  ready : Bool
  /-- CLIENT_ID. -/
  client : Nat
  /-- NC. -/
  nc : List Byte
  /-- NM. -/
  nm : List Byte
  /-- K_sess. -/
  key : List Byte
  /-- SEQ of the next frame received. -/
  seqIn : Nat
  /-- SEQ of the next frame sent. -/
  seqOut : Nat
  /-- Master-VCO cycle of the latest frame. -/
  used : Nat
  deriving DecidableEq, Repr

/-- The historian (R405, R406). -/
structure Hist where
  /-- Byte offset in the ring of the next record. -/
  pos : Nat
  /-- Records in flash, newest first, each with its offset. -/
  ring : List (Nat × List Byte)
  /-- Records in the DRAM buffer, oldest first. -/
  buf : List (List Byte)
  /-- The GAP record of this start has been formed. -/
  gapDone : Bool
  deriving DecidableEq, Repr

/-- An empty historian. -/
def Hist.reset : Hist := { pos := 0, ring := [], buf := [], gapDone := false }

/-- The Ethernet ports and everything above them. -/
structure Net where
  /-- ETH0 to ETH3. -/
  eth : Vector EthPort 4
  /-- PTP. -/
  ptp : Ptp
  /-- XSX. -/
  xsx : Xsx
  /-- Modbus connections. -/
  mb : Vector (Option MbConn) 8
  /-- The latest TCP connection attempt to port 502: the connection, or none when it was refused. -/
  mbLast : Option (Option Nat)
  /-- Modbus writes that wait for the next input latch: partition, symbol, value (R399). -/
  mbWait : List (Nat × Nat × Nat)
  /-- Modbus values in the input images, with quality GOOD: partition, symbol, value. -/
  mbImg : List (Nat × Nat × Nat)
  /-- Service sessions. -/
  svc : Vector (Option SvcSess) 2
  /-- The frames sent in answer to the latest event of each session, in order. -/
  svcOut : Vector (List SvcFrame) 2
  /-- A plan committed over the service channel that has not yet been judged (R404). -/
  plan : Option (List Byte)
  /-- Historian. -/
  hist : Hist
  deriving DecidableEq, Repr

/-- The blocks after a power-on, with the historian ring as found (R409). -/
def Net.reset (ptp : Ptp) (hist : Hist) : Net :=
  { eth := Vector.replicate 4 EthPort.reset, ptp := ptp, xsx := Xsx.reset, mb := Vector.replicate 8 none, mbLast := none,
    mbWait := [], mbImg := [], svc := Vector.replicate 2 none, svcOut := Vector.replicate 2 [], plan := none,
    hist := hist }

end Sys2Proof.Machine
end

