-- ==== Sys2Proof/Machine/StateDistrict.lean ====
section
/-! DEFINITION. The objects that DISTRICT declares and the jobs that SOLVE declares for them (R14 to R25, R210 to R236). Numbers
with a fraction are words at the scale that their docstring names; the byte form of the section is open (log entry 5). -/

namespace Sys2Proof.Machine

/-- One job that the role submits: engine, problem, offset of its descriptor in system SRAM and the descriptor's bytes, in
which the role fills DEADLINE, EPOCH and TAG. -/
structure JobCfg where
  /-- Engine. -/
  engine : Fin 4
  /-- Problem. -/
  problem : Nat
  /-- Offset of the descriptor in system SRAM. -/
  ofs : Nat
  /-- The 64 bytes of the descriptor. -/
  bytes : List Byte
  deriving DecidableEq, Repr, Inhabited

/-! ### Hydraulic topology (R17 to R23) -/

/-- A network node (R14, R17). -/
structure NodeCfg where
  /-- Identifier. -/
  id : Nat
  /-- Its network. -/
  net : Nat
  /-- It is the network's reference node. -/
  ref : Bool
  /-- Holding pressure of a reference node, at the pressure scale. -/
  hold : Int
  /-- ρ·g·z, at the pressure scale (R212). -/
  elev : Int
  deriving DecidableEq, Repr, Inhabited

/-- The kind of a branch with what its hydraulic relation needs (R19); a coefficient k is at the scale of the network's block of
coefficients. -/
inductive BranchKind where
  /-- PIPE: length in mm, diameter in mm and roughness in µm. -/
  | pipe (len diam rough : Nat)
  /-- PUMP: the pump, and k of its internal loss with the quadratic term of its curve (R213). -/
  | pump (pump : Nat) (k : Int)
  /-- VALVE: its characteristic and the loop output that commands its opening. -/
  | valve (curve : Nat) (cmd : Src)
  /-- PLANT: the plant and k of its heat exchanger. -/
  | plant (plant : Nat) (k : Int)
  /-- STORE: the store and k. -/
  | store (store : Nat) (k : Int)
  deriving DecidableEq, Repr, Inhabited

/-- A branch with its declared direction (R18, R19). -/
structure BranchCfg where
  /-- Identifier. -/
  id : Nat
  /-- From-node. -/
  src : Nat
  /-- To-node. -/
  dst : Nat
  /-- Kind. -/
  kind : BranchKind
  deriving DecidableEq, Repr, Inhabited

/-- A pipe segment; the segments of one branch stand in order from its from-node (R20, R218). -/
structure SegCfg where
  /-- Identifier. -/
  id : Nat
  /-- Its PIPE branch. -/
  branch : Nat
  /-- Declared loss coefficient. -/
  loss : Nat
  /-- Ground temperature, at the temperature scale. -/
  ground : Int
  deriving DecidableEq, Repr, Inhabited

/-- A pump (R21, R213). -/
structure PumpCfg where
  /-- Identifier. -/
  id : Nat
  /-- Shut-off head H0 of the curve, at the pressure scale. -/
  h0 : Int
  /-- Rated speed. -/
  rated : Int
  /-- The loop output that commands its speed. -/
  cmd : Src
  deriving DecidableEq, Repr, Inhabited

/-- A plant with the temperature of the thermal metering point at its outlet into each network it serves (R21, R219). -/
structure PlantCfg where
  /-- Identifier. -/
  id : Nat
  /-- Network and outlet temperature in m°C. -/
  outlet : List (Nat × Src)
  deriving DecidableEq, Repr, Inhabited

/-- A store (R21, R223). -/
structure StoreCfg where
  /-- Identifier. -/
  id : Nat
  /-- Measured stored energy, at the plan's scale. -/
  energy : Src
  /-- Standing loss of a step, at the plan's scale. -/
  standing : Int
  /-- v_term: value of the energy left at the last step. -/
  term : Int
  deriving DecidableEq, Repr, Inhabited

/-- A substation (R22, R23). -/
structure SubstCfg where
  /-- Identifier. -/
  id : Nat
  /-- Supply node. -/
  supply : Nat
  /-- Return node. -/
  ret : Nat
  /-- Flex group. -/
  group : Nat
  /-- Declared share of the group's shift and predicted flow, Q2.29 (R213, R230). -/
  share : Int
  deriving DecidableEq, Repr, Inhabited

/-- A flex group (R23, R223, R235, R236). -/
structure GroupCfg where
  /-- Identifier. -/
  id : Nat
  /-- Regressors, at most 16: the present value, and the forecast of each horizon step where a program writes one. -/
  phi : List (Src × List Src)
  /-- Declared parameters of the model, in force until the first update. -/
  theta : List Int
  /-- Largest prediction error that still updates the model, in g/s. -/
  bound : Nat
  /-- Demand in plan units of a flow of 1 g/s, Q2.29. -/
  gain : Int
  /-- E_dn, lower comfort bound of a window. -/
  down : Int
  /-- E_up, upper comfort bound. -/
  up : Int
  /-- w_c: weight of a squared shift. -/
  weight : Int
  /-- Set-point item of the fallback partition that stands in for the group's shift at level RULES (R28). -/
  item : Nat
  deriving DecidableEq, Repr, Inhabited

/-! ### Electrical topology (R24, R25) -/

/-- A feeder, identified by its AC metering point (R24). -/
structure FeederCfg where
  /-- Identifier. -/
  id : Nat
  /-- Import limit, at the plan's scale. -/
  impMax : Int
  /-- Export limit. -/
  expMax : Int
  /-- Import tariff table. -/
  impTariff : Nat
  /-- Export tariff table. -/
  expTariff : Nat
  deriving DecidableEq, Repr, Inhabited

/-- A battery string, identified by its DC metering point (R25, R225). -/
structure StringCfg where
  /-- Identifier. -/
  id : Nat
  /-- E_res. -/
  eRes : Int
  /-- P_res. -/
  pRes : Int
  /-- P_dis, rated discharge power. -/
  pDis : Int
  /-- Largest stored energy. -/
  eMax : Int
  /-- Largest charge power. -/
  pMax : Int
  /-- η at the coefficient scale. -/
  eta : Int
  /-- Measured stored energy. -/
  energy : Src
  deriving DecidableEq, Repr, Inhabited

/-! ### The dispatch problem (R223 to R236) -/

/-- A variable of one horizon step (R223): output and ramp of a plant output, energy and charge rate of a store, import and export
of a feeder, energy and charge power of a string, shift of a group, unserved heat or cold. -/
inductive PlanVar where
  | out (k : Nat) | ramp (k : Nat) | energy (k : Nat) | rate (k : Nat) | imp (k : Nat) | exp (k : Nat) | batt (k : Nat)
  | charge (k : Nat) | shift (k : Nat) | unserved (cold : Bool)
  deriving DecidableEq, Repr, Inhabited

/-- One output quantity of a plant (R223, R224). -/
structure OutCfg where
  /-- Number of the output: `PlanVar.out` and `PlanVar.ramp` name it. -/
  id : Nat
  /-- The plant. -/
  plant : Nat
  /-- It feeds the heating balance (false) or the cooling balance (true). -/
  feeds : Option Bool
  /-- Coefficient in the electrical balance, at the coefficient scale: 1, −1/COP, −1/EER or 0. -/
  electric : Int
  /-- It is coupled to another output by y = α·y', α at the coefficient scale. -/
  coupled : Option (Nat × Int)
  /-- Fuel tariff table with 1/η_el at the coefficient scale. -/
  fuel : Option (Nat × Int)
  /-- w_r: weight of a squared ramp. -/
  rampW : Int
  /-- Declared limits of the output. -/
  lo : Int
  /-- Upper limit. -/
  hi : Int
  /-- Declared limits of the ramp. -/
  rampLo : Int
  /-- Upper limit. -/
  rampHi : Int
  /-- Measured output. -/
  measured : Src
  deriving DecidableEq, Repr, Inhabited

/-- Declared limits of a store's energy and charge rate (R223). -/
structure StoreBox where
  /-- The store. -/
  id : Nat
  /-- It serves the cooling balance. -/
  cold : Bool
  /-- Limits of the energy. -/
  eLo : Int
  /-- Upper limit. -/
  eHi : Int
  /-- Limits of the charge rate. -/
  vLo : Int
  /-- Upper limit. -/
  vHi : Int
  deriving DecidableEq, Repr, Inhabited

/-- The event that a protection trigger is bound to (R233): a plant trip from an input, an open feeder breaker, discharge at a string's DC
metering point beyond a threshold, or a request from a program. -/
inductive TripCause where
  | input (src : Src) | breaker (feeder : Nat) (src : Src) | discharge (string threshold : Nat) | request (part item : Nat)
  deriving DecidableEq, Repr, Inhabited

/-- What a trigger's event is read from. -/
def TripCause.src : TripCause → Src
  | .input s | .breaker _ s => s
  | .discharge _ _ => .none
  | .request p i => .program p i

/-- An object that a trigger can trip: its number, its variables and the event that DISTRICT binds to it (R233). -/
structure TripCfg where
  /-- Object. -/
  obj : Nat
  /-- Variables whose upper bounds become 0. -/
  vars : List PlanVar
  /-- Event. -/
  cause : TripCause
  deriving DecidableEq, Repr, Inhabited

/-- A tariff table: its period in seconds, and the values with the seconds of the period from which each holds, ascending (R224;
DESIGN CHOICE, log entry 56). -/
structure TariffCfg where
  /-- Period in seconds. -/
  period : Nat
  /-- Start within the period, and value. -/
  steps : List (Nat × Int)
  deriving DecidableEq, Repr, Inhabited

/-- A critical pair: its network and the plan variables of its row (R223). -/
structure PairCfg where
  /-- Network. -/
  net : Nat
  /-- Variables of the row. -/
  vars : List PlanVar
  deriving DecidableEq, Repr, Inhabited

/-- A bounded SPMV job of the residual of an imported plan (R232): the block that takes its part of the plan, the first variable
and their count, and the first row of its product. -/
structure ProductCfg where
  /-- The job. -/
  job : JobCfg
  /-- Position of the block of x. -/
  blk : Nat
  /-- First variable. -/
  first : Nat
  /-- Variables. -/
  count : Nat
  /-- First row. -/
  row : Nat
  deriving DecidableEq, Repr, Inhabited

/-- The adaptation job: the position of the block of its inputs (R235). -/
structure AdaptCfg where
  /-- The job. -/
  job : JobCfg
  /-- Position of the block with θ, φ, sample and weight of each group. -/
  blk : Nat
  /-- Parameters of a model, at most 16. -/
  p : Nat
  /-- Binary places of a product θ·φ. -/
  places : Nat
  deriving DecidableEq, Repr, Inhabited

/-- The dispatch as DISTRICT and SOLVE declare it (R223 to R236). -/
structure DispatchCfg where
  /-- Segment jobs of the group's members, the leader first. -/
  seg : List JobCfg
  /-- Protection job. -/
  prot : Option JobCfg
  /-- Adaptation job. -/
  rls : Option AdaptCfg
  /-- Residual jobs of an imported plan (R232). -/
  imp : List ProductCfg
  /-- Variables of one horizon step, in their order. -/
  vars : List PlanVar
  /-- Horizon steps. -/
  horizon : Nat
  /-- Binary places of the coefficients. -/
  places : Nat
  /-- Δt at the coefficient scale. -/
  dt : Int
  /-- Plant outputs. -/
  outs : List OutCfg
  /-- Limits of the stores. -/
  stores : List StoreBox
  /-- Limits of the shift of a group, by group. -/
  shiftBox : List (Nat × Int × Int)
  /-- Largest unserved heat and cold. -/
  unservedMax : Int
  /-- ρ_H and ρ_C. -/
  rho : Int × Int
  /-- Losses of the heating balance and gains of the cooling balance. -/
  losses : Src × Src
  /-- Site load: the present value, and the forecast of each horizon step where a program writes one. -/
  site : Src × List Src
  /-- Tariff tables. -/
  tariffs : List TariffCfg
  /-- Critical pairs. -/
  pairs : List PairCfg
  /-- The objects that a trigger can trip (R233). -/
  trip : List TripCfg
  /-- PLAN_SOURCE: 0 BUILTIN, 1 IMPORT, 2 IMPORT_ELSE_BUILTIN. -/
  source : Nat
  /-- Address of the dispatch status record (R241). -/
  statusAddr : Nat
  deriving DecidableEq, Repr, Inhabited

/-- One hydraulic network with its jobs (R212 to R221). -/
structure NetCfg where
  /-- Identifier. -/
  id : Nat
  /-- It is a cooling network. -/
  cold : Bool
  /-- Hydraulic job. -/
  hyd : JobCfg
  /-- Transport job. -/
  tr : JobCfg
  /-- Position of the hydraulic problem's block of node draws w. -/
  wBlk : Nat
  /-- Position of the block of branch constants c. -/
  cBlk : Nat
  /-- Position of the block of branch coefficients k. -/
  kBlk : Nat
  /-- Position of the block of the holding pressure. -/
  refBlk : Nat
  /-- Position of the block of branch flows. -/
  qBlk : Nat
  /-- Position of the hydraulic problem's factor block (R226). -/
  facBlk : Nat
  /-- Position of the transport problem's block of segment inputs. -/
  segBlk : Nat
  /-- Binary places of a parcel's mass. -/
  massPlaces : Nat
  /-- Binary places of a temperature. -/
  tempPlaces : Nat
  deriving DecidableEq, Repr, Inhabited

/-- DISTRICT (R14, R64). -/
structure DistrictCfg where
  /-- Networks. -/
  nets : List NetCfg
  /-- Network nodes. -/
  nodes : List NodeCfg
  /-- Branches. -/
  branches : List BranchCfg
  /-- Pipe segments. -/
  segs : List SegCfg
  /-- Plants. -/
  plants : List PlantCfg
  /-- Stores. -/
  stores : List StoreCfg
  /-- Pumps. -/
  pumps : List PumpCfg
  /-- Substations, ascending. -/
  substs : List SubstCfg
  /-- Flex groups. -/
  groups : List GroupCfg
  /-- Feeders. -/
  feeders : List FeederCfg
  /-- Battery strings. -/
  strings : List StringCfg
  /-- Thermal metering points. -/
  thermal : List Nat
  /-- The dispatch, when a problem is declared. -/
  disp : Option DispatchCfg
  /-- Missing-report limit (R29, R393). -/
  missLimit : Nat
  deriving DecidableEq, Repr, Inhabited

/-- The objects of a list with the parameters of an amended list, matched by position: `f old new` keeps what is structural
(R16). -/
def amendList {α : Type} (f : α → α → α) (old new : List α) : List α := old.mapIdx fun i x => match new[i]? with
  | some y => f x y
  | none => x

/-- The parameters of a branch: its loss coefficient (R16). -/
def BranchKind.withParams (old new : BranchKind) : BranchKind :=
  match old, new with
  | .pipe _ _ _, .pipe l d r => .pipe l d r
  | .pump p _, .pump _ k => .pump p k
  | .valve _ cmd, .valve c _ => .valve c cmd
  | .plant p _, .plant _ k => .plant p k
  | .store p _, .store _ k => .store p k
  | x, _ => x

/-- The dispatch with amended parameters: limits, costs, weights, tariffs and model coefficients; variables, bindings and jobs stay
(R16, R210). -/
def DispatchCfg.withParams (old new : DispatchCfg) : DispatchCfg :=
  { old with
    outs := amendList (fun x y => { y with id := x.id, plant := x.plant, feeds := x.feeds, measured := x.measured,
                                           coupled := x.coupled.map fun c => (c.1, (y.coupled.map (·.2)).getD c.2),
                                           fuel := x.fuel.map fun c => (c.1, (y.fuel.map (·.2)).getD c.2) }) old.outs new.outs
    stores := amendList (fun x y => { y with id := x.id, cold := x.cold }) old.stores new.stores
    shiftBox := amendList (fun x y => (x.1, y.2)) old.shiftBox new.shiftBox
    unservedMax := new.unservedMax, rho := new.rho
    tariffs := amendList (fun _ y => y) old.tariffs new.tariffs }

/-- DISTRICT with amended parameters: what R16 calls structural keeps its value. -/
def DistrictCfg.withParams (old new : DistrictCfg) : DistrictCfg :=
  { old with
    nodes := amendList (fun x y => { x with hold := y.hold }) old.nodes new.nodes
    branches := amendList (fun x y => { x with kind := x.kind.withParams y.kind }) old.branches new.branches
    segs := amendList (fun x y => { x with loss := y.loss, ground := y.ground }) old.segs new.segs
    stores := amendList (fun x y => { x with standing := y.standing, term := y.term }) old.stores new.stores
    pumps := amendList (fun x y => { x with h0 := y.h0, rated := y.rated }) old.pumps new.pumps
    substs := amendList (fun x y => { x with share := y.share }) old.substs new.substs
    groups := amendList (fun x y => { x with theta := y.theta, bound := y.bound, gain := y.gain, down := y.down, up := y.up,
                                             weight := y.weight }) old.groups new.groups
    feeders := amendList (fun x y => { x with impMax := y.impMax, expMax := y.expMax }) old.feeders new.feeders
    strings := amendList (fun x y => { x with eRes := y.eRes, pRes := y.pRes, pDis := y.pDis, eMax := y.eMax, pMax := y.pMax,
                                              eta := y.eta }) old.strings new.strings
    disp := match old.disp, new.disp with | some x, some y => some (x.withParams y) | x, _ => x
    missLimit := new.missLimit }

/-- The quadratic weight of a variable: w_r of a ramp and w_c of a shift. -/
def DistrictCfg.weight (d : DistrictCfg) (c : DispatchCfg) (v : PlanVar) : Int :=
  match v with
  | .ramp k => match c.outs.find? fun o => o.id == k with | some o => o.rampW | none => 0
  | .shift k => match d.groups.find? fun o => o.id == k with | some o => o.weight | none => 0
  | .out _ | .energy _ | .rate _ | .imp _ | .exp _ | .batt _ | .charge _ | .unserved _ => 0

/-- The diagonal of P of one step, when a dispatch is declared (R224). -/
def DistrictCfg.weights (d : DistrictCfg) : List Int := match d.disp with | some c => c.vars.map (d.weight c) | none => []

/-- One row of the dispatch: entries by variable of the whole horizon at the coefficient scale, and its bounds at the plan's
scale (R223). -/
structure Row where
  /-- Variable and coefficient. -/
  entries : List (Nat × Int)
  /-- Lower bound. -/
  lo : Int
  /-- Upper bound. -/
  hi : Int
  deriving DecidableEq, Repr

/-- A dispatch problem: diagonal weights, linear costs and rows (R223, R224). -/
structure Qp where
  /-- Diagonal of P. -/
  p : List Int
  /-- Linear costs. -/
  q : List Int
  /-- Rows, step by step. -/
  rows : List Row
  deriving DecidableEq, Repr

/-- Identifiers of the declared substations, ascending (R395). -/
def DistrictCfg.substIds (c : DistrictCfg) : List Nat := sortBy id (c.substs.map (·.id))

end Sys2Proof.Machine
end

