-- ==== Sys2Proof/Machine/StatePlan.lean ====
section
/-! DEFINITION. State of the network model and the dispatch, which the district services role keeps (R210 to R241). -/

namespace Sys2Proof.Machine

/-- The state of one network (R216 to R222). -/
structure NetState where
  /-- Flows and pressures: the accepted solution, one flow a branch and then one pressure a node. -/
  sol : List Int
  /-- Quality of flows and pressures. -/
  quality : Quality
  /-- Consecutive rejections. -/
  rejects : Nat
  /-- Words of the accepted hydraulic factor (R226). -/
  fac : List Int
  /-- Arrival temperature and delay of each segment: the accepted transport result. -/
  arr : List Int
  /-- Index of the heart note in which it was accepted (R222). -/
  arrIdx : Int
  /-- Temperature and birth of each node (R219). -/
  nodes : List (Int × Int)
  /-- Quality of arrival temperatures and delays. -/
  arrQ : Quality
  /-- Selector of the parcel buffers (R217). -/
  sel : Bool
  /-- Snapshot of the flows of the network's substations, in g/s (R213). -/
  flows : List (Nat × Int × Quality)
  /-- Snapshot of the commanded openings and speeds, by branch (R213). -/
  cmds : List (Nat × Int)
  deriving DecidableEq, Repr, Inhabited

/-- A network before its first accepted record: no state, BAD (DEDUCED, log entry 14). -/
def NetState.start : NetState :=
  { sol := [], quality := .bad, rejects := 0, fac := [], arr := [], arrIdx := 0, nodes := [], arrQ := .bad, sel := false,
    flows := [], cmds := [] }

/-- A plan: its words, the base note in which it was built and where it came from (R238, R241). -/
structure Plan where
  /-- Variables, step by step, clamped into their boxes. -/
  words : List Int
  /-- Base note in which it was built. -/
  bnc : Nat
  /-- It was imported. -/
  imported : Bool
  /-- TNC of its parameter snapshot (R234). -/
  snap : Nat
  deriving DecidableEq, Repr, Inhabited

/-- The parameter snapshot of a dispatch: the measured state, the forecasts and the tariffs of each step (R223, R224, R235). -/
structure DispIn where
  /-- Measured plant outputs, by output. -/
  outs : List (Nat × Int)
  /-- Measured energies of the stores. -/
  stores : List (Nat × Int)
  /-- Measured energies of the strings. -/
  strings : List (Nat × Int)
  /-- Heating demand with losses, step by step. -/
  heat : List Int
  /-- Cooling demand with gains. -/
  cold : List Int
  /-- Site load. -/
  site : List Int
  /-- Qualities of the heating demand, the cooling demand and the site load of each step: SUBST where a current value is carried forward
  (R235). -/
  quals : List (Quality × Quality × Quality)
  /-- The value of each tariff table at each step. -/
  tariffs : List (List Int)
  /-- Shifts applied in the steps before step 0, newest first: group and shift (R223). -/
  past : List (List (Nat × Int))
  deriving DecidableEq, Repr, Inhabited

/-- What one flex group has gathered in the present base note for its sample (R235, R236). -/
structure GroupSum where
  /-- Sum of the group's flow over the heart notes. -/
  sum : Int
  /-- Heart notes. -/
  count : Nat
  /-- Every substation of the group had quality GOOD. -/
  good : Bool
  deriving DecidableEq, Repr, Inhabited

/-- What the district services role holds (R213 to R241). -/
structure Planner where
  /-- Working state of each network. -/
  nets : List NetState
  /-- Published state of each network (R222). -/
  pub : List NetState
  /-- Records that the role has taken from its rings: engine and bytes (R125). -/
  inbox : List (Nat × List Byte)
  /-- DEADLINE of the hydraulic jobs of this heart note. -/
  hydTag : Nat
  /-- DEADLINE of the transport jobs of this heart note. -/
  trTag : Nat
  /-- Instants of R221 done in this heart note: acceptance and publication. -/
  judged : Bool
  /-- The network state of this heart note is published. -/
  published : Bool
  /-- DEADLINE of the latest segment of this base note. -/
  segTag : Option Nat
  /-- Its records have not been taken yet. -/
  segWait : Bool
  /-- Segments run in the present base note (R241). -/
  segments : Nat
  /-- A segment of this base note posted CONVERGED (R227). -/
  segDone : Bool
  /-- The leader's latest record of this base note. -/
  lastRec : List Byte
  /-- ITERATIONS over all segments of the base note. -/
  iters : Nat
  /-- PIVREG_COUNT over members and segments of the base note. -/
  piv : Nat
  /-- Flags of all records of the base note. -/
  flags : Nat
  /-- The first segment of the base note used SHIFT, a new factor. -/
  shifted : Bool
  /-- The matrix changed in this base note (R226). -/
  newFactor : Bool
  /-- Base note after the one whose segment last saved the warm slot (R228). -/
  savedBnc : Option Nat
  /-- TNC of the parameter snapshot of this base note. -/
  snap : Nat
  /-- The parameter snapshot of this base note. -/
  inp : DispIn
  /-- Shifts applied in the horizon steps before the present one, newest first. -/
  past : List (List (Nat × Int))
  /-- Quantised delays of the flex groups, in horizon steps (R220). -/
  deltas : List (Nat × Nat)
  /-- Head-limit sensitivities of the critical pairs (R226). -/
  sens : List (List Int)
  /-- Entries of the matrix A of the latest segments (R226). -/
  matrix : List (List (Nat × Int))
  /-- The image armed for the next base tick (R230). -/
  armed : Option Plan
  /-- Code of the latest rejection (R229, R232). -/
  reject : Nat
  /-- The last accepted plan. -/
  plan : Option Plan
  /-- The committed target image: value by plan variable. -/
  image : List (Nat × Int)
  /-- Level: 0 PLAN, 1 CARRIED, 2 RULES (R237). -/
  level : Nat
  /-- The committed targets are those of level RULES. -/
  rules : Bool
  /-- Consecutive base notes without an accepted plan. -/
  carried : Nat
  /-- DEADLINE of the protection job in flight and TNC of its trigger. -/
  prot : Option (Nat × Nat)
  /-- The state measured at that trigger (R233, R234). -/
  protIn : DispIn
  /-- Triggers latched while a protection job is in flight (R233). -/
  latched : List Nat
  /-- TNC of the latest latched trigger, and the state measured at it (R233, R234). -/
  latchIn : Nat × DispIn
  /-- Tripped objects, whose upper bounds are 0. -/
  tripped : List Nat
  /-- Protection targets armed for the next top tick, with the TNC of their trigger. -/
  protArmed : Option (List (Nat × Int) × Nat)
  /-- Protection targets are in force, with the TNC of their trigger. -/
  protActive : Option Nat
  /-- TNC of the latest trigger. -/
  trigTnc : Nat
  /-- An imported plan that is being judged and the DEADLINE of its residual jobs (R232). -/
  imp : Option (List Byte × Nat)
  /-- DEADLINE of the adaptation job in flight, and the models that its samples update. -/
  rlsTag : Option (Nat × Nat)
  /-- Selector of the adaptation's parameter sets (R236). -/
  rlsSel : Bool
  /-- Parameters of each model (R235). -/
  theta : List (Nat × List Int)
  /-- Flow gathered in the present base note, by flex group. -/
  sums : List (Nat × GroupSum)
  /-- Models updated in the base note (R241). -/
  adapted : Nat
  /-- Mean flow of each flex group in the base note that ended when the present horizon step began. -/
  lag : List (Nat × Int)
  /-- Shifts of the flex groups in force (R230). -/
  groupShifts : List (Nat × Int)
  /-- Shifts sent to the substations: substation and value (R230). -/
  shifts : List (Nat × Int)
  deriving DecidableEq, Repr

/-- The planner before the first base note of START: no plan, level RULES (R239). -/
def Planner.reset : Planner :=
  { nets := [], pub := [], inbox := [], hydTag := 0, trTag := 0, judged := true, published := true, segTag := none,
    segWait := false, segments := 0, segDone := false, lastRec := [], iters := 0, piv := 0, flags := 0, shifted := false,
    newFactor := false, savedBnc := none, snap := 0, inp := default, past := [], deltas := [], sens := [], matrix := [],
    armed := none, reject := 0, plan := none, image := [], level := 2, rules := true, carried := 0, prot := none,
        protIn := default, latched := [],
    latchIn := default,
    tripped := [], protArmed := none, protActive := none, trigTnc := 0, imp := none, rlsTag := none, rlsSel := false, theta := [],
    sums := [], adapted := 0, lag := [], groupShifts := [], shifts := [] }

end Sys2Proof.Machine
end

