-- ==== Sys2Proof/Machine/StateProg.lean ====
section
/-! DEFINITION. State of the cyclic programs: tasks, images, forces, online changes, stagger queue and registers (R268 to
R307), and the PROGRAMS section with its bindings as the running module holds them. -/

namespace Sys2Proof.Machine

/-- One task record (R269). -/
structure TaskCfg where
  /-- PERIOD in top notes. -/
  period : Nat
  /-- MARGIN in FAB cycles. -/
  margin : Nat
  /-- WCET in CORE cycles. -/
  wcet : Nat
  /-- ENTRY. -/
  entry : Nat
  /-- C_COMMIT in FAB cycles. -/
  cCommit : Nat
  /-- IN_LEN. -/
  inLen : Nat
  /-- OUT_LEN. -/
  outLen : Nat
  deriving DecidableEq, Repr, Inhabited

/-- Where an output item goes (R271, R304). -/
inductive OutDest where
  /-- A DIO output channel. -/
  | dio (ch : Nat)
  /-- A station output item: port, station, item. -/
  | station (port st item : Nat)
  /-- A set-point entry of the loops. -/
  | setpoint
  deriving DecidableEq, Repr, Inhabited

/-- One output item of a task: its number, its place in the partition's output image, its type, its destination and its recovery
action (R279, R316). -/
structure OutItem where
  /-- Item number within the partition. -/
  item : Nat
  /-- Offset of the value in the partition's output image. -/
  ofs : Nat
  /-- Type code of R362, and 8 for a 64-bit unsigned value. -/
  type : Nat
  /-- Destination. -/
  dest : OutDest
  /-- The recovery action is SAFE and not HOLD. -/
  safe : Bool
  deriving DecidableEq, Repr, Inhabited

/-- The bindings of one partition (R273, R287, R291). -/
structure PartBind where
  /-- Input items of each task. -/
  ins : List (List Src)
  /-- Output items of each task. -/
  outs : List (List OutItem)
  /-- I/O-bound input symbols: symbol, task, position. -/
  inSym : List (Nat × Nat × Nat)
  /-- I/O-bound output symbols: symbol, item. -/
  outSym : List (Nat × Nat)
  /-- Symbol map of the active image (R291). -/
  symmap : List Byte
  /-- Initial values of the committed area. -/
  ivt : List Byte
  deriving DecidableEq, Repr, Inhabited

/-- One partition record (R269) with its bindings. -/
structure PartCfg where
  /-- PARTITION, 1 to 4. -/
  part : Nat
  /-- Task records in use. -/
  tasks : List TaskCfg
  /-- ACTIVE_BANK is B. -/
  bankB : Bool
  /-- FORCE_MAX. -/
  forceMax : Nat
  /-- DATA_LEN. -/
  dataLen : Nat
  /-- MAJOR. -/
  major : Nat
  /-- DIGEST_A. -/
  digA : List Byte
  /-- DIGEST_B. -/
  digB : List Byte
  /-- SYMMAP_DIGEST. -/
  symDig : List Byte
  /-- MIGMAP_DIGEST. -/
  migDig : List Byte
  /-- Bindings. -/
  bind : PartBind
  deriving DecidableEq, Repr, Inhabited

/-- PROGRAMS and the staggered outputs (R269, R304). -/
structure ProgCfg where
  /-- Partition records. -/
  parts : List PartCfg
  /-- Staggered outputs by output key. -/
  stagger : List Nat
  deriving DecidableEq, Repr, Inhabited

/-- An image: value and quality by item. -/
abbrev Img := List (Nat × (Int × Quality))

/-- One force: a symbol and a 64-bit value (R287). -/
structure Force where
  /-- Symbol identity. -/
  symbol : Nat
  /-- Value, 64 bits. -/
  value : Nat
  deriving DecidableEq, Repr, Inhabited

/-- One task (R271, R272, R278). -/
structure TaskSt where
  /-- A cycle runs. -/
  running : Bool
  /-- TNC of the release of the running or latest cycle, from the first release on. -/
  rel : Option Nat
  /-- Input items latched at instant 1 of the latest due tick. -/
  latched : List (Int × Quality)
  /-- Input image held by the running cycle. -/
  inImg : List (Int × Quality)
  /-- Working copies of the task's own variables, by offset in the committed area (R271). -/
  own : List (Nat × Byte)
  /-- Working copies of its read set (R274). -/
  reads : List (Nat × Byte)
  /-- Forces that apply to the running cycle. -/
  forces : List Force
  /-- Pending output image with its commit mark. -/
  pend : Option Img
  /-- Output image in effect. -/
  img : Img
  /-- Consecutive overruns. -/
  consec : Nat
  deriving DecidableEq, Repr, Inhabited

/-- A change package (R291). -/
structure Package where
  /-- Code bank. -/
  bank : List Byte
  /-- Initial-value table. -/
  ivt : List Byte
  /-- Runs: KIND, SRC, DST, LEN. -/
  runs : List (Nat × Nat × Nat × Nat)
  /-- Symbol map. -/
  sym : List Byte
  /-- New DATA_LEN. -/
  dataLen : Nat
  /-- OLD_DIGEST. -/
  oldDig : List Byte
  /-- Image digest. -/
  imgDig : List Byte
  /-- Migration-map digest. -/
  migDig : List Byte
  deriving DecidableEq, Repr, Inhabited

/-- One partition. -/
structure PartSt where
  /-- Tasks 0 to 7. -/
  tasks : Vector TaskSt 8
  /-- The partition is in RECOVERY. -/
  recovery : Bool
  /-- RECOVERY is entered at the next tick: task, consecutive overruns, and TNC of the present note (R278, R279). -/
  recNext : Option (Nat × Nat × Nat)
  /-- A RESUME waits for the next major boundary (R280). -/
  resumeNext : Bool
  /-- The active bank is B. -/
  bankB : Bool
  /-- Digest of the active bank. -/
  digest : List Byte
  /-- Digest of the active symbol map. -/
  symDig : List Byte
  /-- Active symbol map. -/
  symmap : List Byte
  /-- Initial values. -/
  ivt : List Byte
  /-- Present DATA_LEN. -/
  dataLen : Nat
  /-- PROG_OVRp.TOTAL. -/
  total : Nat
  /-- PROG_OVRp.TASK. -/
  lastTask : Nat
  /-- PROG_RSTp.SEQ source. -/
  rstSeq : Nat
  /-- PROG_RSTp.KIND. -/
  rstKind : Nat
  /-- A commit sealed in the present top note (R298). -/
  sealedNote : Bool
  /-- A commit has sealed since the tick of the latest checkpoint (R300). -/
  unsaved : Bool
  /-- A checkpoint of the tick is being written: its TNC, whether it is full and the module state code at the tick (R297, R298). -/
  ckpt : Option (Nat × Bool × Nat)
  /-- The next checkpoint writes every line. -/
  full : Bool
  /-- SEQ of the next checkpoint. -/
  seq : Nat
  /-- Active forces, in the order they were set. -/
  forces : List Force
  /-- State of the latest package: 0 IDLE, 1 STAGING, 2 STAGED, 3 AUTHORISED, 4 DONE, 5 REFUSED. -/
  olc : Nat
  /-- The package. -/
  pkg : Option Package
  /-- Master-VCO cycle at which the bank of the package began to be written (R292). -/
  stageAt : Nat
  /-- TNC of the major boundary before which the switch takes place. -/
  switchAt : Nat
  /-- The most recent online change that an amendment has authorised: flash keeps its maps with the amendment log (R295, R303). -/
  lastPkg : Option Package
  deriving DecidableEq, Repr, Inhabited

/-- A partition after a reset (R307). -/
def PartSt.reset : PartSt :=
  { tasks := Vector.replicate 8 default, recovery := false, recNext := none, resumeNext := false, bankB := false,
    digest := [], symDig := [], symmap := [], ivt := [], dataLen := 0, total := 0, lastTask := 0, rstSeq := 0,
    rstKind := 0, sealedNote := false, unsaved := false, ckpt := none, full := true, seq := 0, forces := [], olc := 0, pkg := none,
        stageAt := 0,
    switchAt := 0, lastPkg := none }

/-- An output instant that has not come yet (R36, R37). -/
structure OutDue where
  /-- Its master-VCO cycle. -/
  at_ : Nat
  /-- TNC of its top note. -/
  tnc : Nat
  /-- HPOS of its top note. -/
  hpos : Nat
  /-- BPOS of its top note. -/
  bpos : Nat
  /-- BNC of its top note. -/
  bnc : Nat
  /-- Outputs and stagger queue of its top note, where the instant falls on the next top tick (R37). -/
  late : Option (List (Nat × (Int × Quality)) × List (Nat × Nat))
  deriving DecidableEq, Repr

/-- The PROG block (R304, R306). -/
structure Programs where
  /-- P1 to P4. -/
  p : Vector PartSt 4
  /-- PROG_OLC_SRC. -/
  olcSrc : Nat
  /-- PROG_OLC_STATUS.PART. -/
  olcPart : Nat
  /-- PROG_OLC_STATUS.ERR. -/
  olcErr : Nat
  /-- PROG_OLC_STATUS.DEFERRALS. -/
  deferrals : Nat
  /-- PROG_OLC_GAP.C_SWITCH. -/
  cSwitch : Nat
  /-- PROG_OLC_GAP.G. -/
  gap : Nat
  /-- PROG_FORCE_SYM. -/
  forceSym : Nat
  /-- PROG_FORCE_VAL, 64 bits. -/
  forceVal : Nat
  /-- PROG_FORCE_STATUS.ERR. -/
  forceErr : Nat
  /-- Partition of the latest force command. -/
  forcePart : Nat
  /-- Output values in effect by output key (R304). -/
  outs : List (Nat × (Int × Quality))
  /-- Set-point items in effect by 65,536 × partition + item. -/
  setpts : List (Nat × (Int × Quality))
  /-- Stagger queue: TNC of the entry tick and output key, in release order. -/
  queue : List (Nat × Nat)
  /-- TNC of the latest release since the queue was cleared. -/
  lastRel : Option Nat
  /-- Values of staggered station items as TEST drove them, by output key (R275, R304). -/
  test : List (Nat × Int)
  /-- Output instants to come, oldest first. -/
  outDue : List OutDue
  deriving DecidableEq, Repr

/-- The PROG block after a reset (R306, R307). -/
def Programs.reset : Programs :=
  { p := Vector.replicate 4 PartSt.reset, olcSrc := 0, olcPart := 0, olcErr := 0, deferrals := 0, cSwitch := 0, gap := 0,
    forceSym := 0, forceVal := 0, forceErr := 0, forcePart := 0, outs := [], setpts := [], queue := [], lastRel := none,
    test := [], outDue := [] }

end Sys2Proof.Machine
end

