-- ==== Sys2Proof/Machine/StateSolver.lean ====
section
/-! DEFINITION. State of the solver engines: descriptors, jobs, queues, factor caches and registers (R128 to R209). The
solver SRAM itself (directory, operand area, headroom table, gather store) is in the byte memory. -/

namespace Sys2Proof.Machine

/-- A solver operation with the blocks it names, as positions in the problem's block list (R144). FACT and the solves with a
factor name the stage of the factor: RICCATI has one for each horizon step, every other program one. -/
inductive SolverOp where
  | spmv (y a x : Nat) | loadg (x : Nat) | vadd (d a b : Nat) | vsub (d a b : Nat) | vscale (d a c : Nat)
  | vmul (d a b : Nat) | copy (d a : Nat) | boxproj (d a lo hi : Nat) | dot (d a b : Nat) | norm2sq (d a : Nat)
  | norminf (d a : Nat) | vrecip (d a : Nat) | recip (d a : Nat) | sqrt (d a : Nat) | headloss (h j k q : Nat)
  | assemble (d p x : Nat) | fact (m st : Nat) | fsolve (d b st : Nat) | bsolve (d b st : Nat) | dsolve (d b st : Nat)
  | transport (d x i r : Nat) | rls (d q a g p : Nat) | xchg (a lo hi : Nat)
  deriving DecidableEq, Repr

/-- The operations that the solve programs in the engine's ROM are built from (R128, R147, R199). -/
inductive OpKind where
  | spmv | vadd | vsub | boxproj | norminf | vrecip | headloss | assemble | fact (st : Nat) | fsolve (st : Nat)
  | bsolve (st : Nat) | dsolve | transport | rls | xchg
  deriving DecidableEq, Repr

/-- An operation of the ROM with the block positions that the problem wires to it. -/
def SolverOp.ofKind (k : OpKind) (w : List Nat) : SolverOp :=
  let x := fun i => w.getD i 0
  match k with
  | .spmv => .spmv (x 0) (x 1) (x 2)
  | .vadd => .vadd (x 0) (x 1) (x 2)
  | .vsub => .vsub (x 0) (x 1) (x 2)
  | .boxproj => .boxproj (x 0) (x 1) (x 2) (x 3)
  | .norminf => .norminf (x 0) (x 1)
  | .vrecip => .vrecip (x 0) (x 1)
  | .headloss => .headloss (x 0) (x 1) (x 2) (x 3)
  | .assemble => .assemble (x 0) (x 1) (x 2)
  | .fact st => .fact (x 0) st
  | .fsolve st => .fsolve (x 0) (x 1) st
  | .bsolve st => .bsolve (x 0) (x 1) st
  | .dsolve => .dsolve (x 0) (x 1) 0
  | .transport => .transport (x 0) (x 1) (x 2) (x 3)
  | .rls => .rls (x 0) (x 1) (x 2) (x 3) (x 4)
  | .xchg => .xchg (x 0) (x 1) (x 2)

/-- The operations of one iteration of a program, from the ROM: program, horizon steps, and whether a group runs it, which ends
each iteration with the exchange of the boundary state (R147, R160). -/
def romIteration (program horizon : Nat) (group : Bool) : List OpKind :=
  match program with
  | 1 => [.spmv]
  | 2 => [.fact 0]
  | 3 => [.fsolve 0, .dsolve, .bsolve 0]
  | 4 => ((List.range horizon).flatMap fun t => [.fact t, .fsolve t]) ++ (List.range horizon).reverse.map .bsolve
  | 5 => [.boxproj]
  | 6 => [.spmv, .fsolve 0, .dsolve, .bsolve 0, .spmv, .vadd, .vadd, .vadd, .vadd, .boxproj, .norminf, .norminf]
      ++ (if group then [.xchg] else [])
  | 7 => [.headloss, .vrecip, .assemble, .fact 0, .fsolve 0, .dsolve, .bsolve 0, .spmv, .vadd, .vadd, .norminf]
  | 8 => [.transport]
  | 9 => [.rls]
  | _ => []

/-- The operations of a program's prologue: the FACT of ADMM_QP (R168). -/
def romPrologue (program : Nat) : List OpKind := if program = 6 then [.fact 0] else []

/-- The operations that evaluate the residuals of a starting point (R199). -/
def romResidual (program : Nat) : List OpKind :=
  match program with
  | 4 => [.spmv, .vsub, .norminf]
  | 6 => [.spmv, .vsub, .norminf, .spmv, .vsub, .norminf]
  | 7 => [.headloss, .spmv, .vadd, .norminf]
  | _ => []

/-- ROM operations with their wiring. -/
def wired (ks : List OpKind) (ws : List (List Nat)) : List SolverOp := ks.mapIdx fun i k => .ofKind k (ws.getD i [])

/-- What SOLVE declares for one problem beside its directory entry (R140, R64). -/
structure ProblemCfg where
  /-- Engine 0 to 3. -/
  engine : Nat
  /-- Problem id, 0 to 255. -/
  problem : Nat
  /-- The 64-byte directory entry (R140). -/
  dir : List Byte
  /-- Blocks of the iterate, in the order of R175. -/
  sol : List Nat
  /-- Scalar block of the primal residual. -/
  primal : Option Nat
  /-- Scalar block of the dual residual. -/
  dual : Option Nat
  /-- Block of the objective, two words. -/
  obj : Option Nat
  /-- Result blocks marked as gather operands (R142). -/
  gather : List Nat
  /-- Block that the IN_PTR transfer fills. -/
  inBlk : Option Nat
  /-- Block that the AUX_PTR transfer fills. -/
  auxBlk : Option Nat
  /-- Block that goes to OUT_PTR in place of the solution: the parcels of TRANSPORT (DEDUCED, log entry 55). -/
  outBlk : Option Nat
  /-- Offset of output buffer 0. -/
  outBase : Nat
  /-- Bytes from one output buffer to the next. -/
  outStride : Nat
  /-- Blocks of the declared start vector, none for zero (R176). -/
  start : List Nat
  /-- The two factor blocks of each stage (R181). -/
  factor : List (Nat × Nat)
  /-- Permutation block of the elimination order (R143). -/
  perm : Option Nat
  /-- Block positions of the prologue's operations. -/
  wirePro : List (List Nat)
  /-- Block positions of the operations of one iteration. -/
  wireIter : List (List Nat)
  /-- Block positions of the operations that evaluate a starting point. -/
  wireRes : List (List Nat)
  deriving DecidableEq, Repr, Inhabited

/-- SOLVE: problems, engine groups and the parameters of R210. -/
structure SolveCfg where
  /-- Declared problems. -/
  problems : List ProblemCfg
  /-- Words loaded into the solver SRAM of each engine in CONFIGURE: engine, offset, bytes. -/
  image : List (Nat × Nat × List Byte)
  /-- Member masks of the groups, by engine (R160). -/
  coop : Vector Nat 4
  /-- Guard setting g, 0 to 8 (R136). -/
  guard : Nat
  /-- K, base notes for which a plan may be carried. -/
  k : Nat
  /-- HYD_ITER. -/
  hydIter : Nat
  /-- HYD_DL in top notes. -/
  hydDl : Nat
  /-- TRACK_TN in top notes. -/
  trackTn : Nat
  /-- HYD_ACCEPT. -/
  hydAccept : Nat
  /-- HYD_HOLD. -/
  hydHold : Nat
  /-- PARCEL_MIN. -/
  parcelMin : Nat
  /-- STEP_BN. -/
  stepBn : Nat
  /-- COMFORT_W. -/
  comfortW : Nat
  /-- DELAY_HYST. -/
  delayHyst : Nat
  /-- SEG_CAP. -/
  segCap : Nat
  /-- ACCEPT_P. -/
  acceptP : Nat
  /-- ACCEPT_D. -/
  acceptD : Nat
  /-- BATT_TOL in Wh. -/
  battTol : Nat
  /-- 1 kWh at the scale of the plan's energies. -/
  kwh : Nat
  /-- σ of the factored matrix, at the coefficient scale (R224). -/
  sigma : Nat
  /-- ρ of the factored matrix, at the coefficient scale (R224). -/
  penalty : Nat
  /-- LAMBDA in 0.0001. -/
  lambda : Nat
  /-- PROT_DL in top notes. -/
  protDl : Nat
  deriving DecidableEq, Repr, Inhabited

/-- SOLVE with amended values: tolerances and weights that R210 marks as amendable, and PIVMIN and PIVREG of each problem; problems,
shapes and the other parameters stay (R61, R210). -/
def SolveCfg.withParams (old new : SolveCfg) : SolveCfg :=
  { old with
    k := new.k, hydAccept := new.hydAccept, acceptP := new.acceptP, acceptD := new.acceptD, battTol := new.battTol
    problems := old.problems.mapIdx fun i x => match new.problems[i]? with
      | some y => { x with dir := x.dir.take 0x18 ++ (y.dir.drop 0x18).take 8 ++ x.dir.drop 0x20 }
      | none => x }

/-- A job descriptor (R149). -/
structure Desc where
  /-- CLASS. -/
  cls : Nat
  /-- PROGRAM. -/
  program : Nat
  /-- PROBLEM. -/
  problem : Nat
  /-- DEADLINE. -/
  deadline : Nat
  /-- MARGIN. -/
  margin : Nat
  /-- ITER_CAP. -/
  iterCap : Nat
  /-- SAT_LIMIT. -/
  satLimit : Nat
  /-- TOL_PRIMAL. -/
  tolP : Nat
  /-- TOL_DUAL. -/
  tolD : Nat
  /-- WARM_SLOT. -/
  warmSlot : Nat
  /-- FLAGS. -/
  flags : Nat
  /-- EPOCH. -/
  epoch : Nat
  /-- RESULT_SLOT. -/
  resultSlot : Nat
  /-- DEST_ROLE. -/
  dest : Nat
  /-- COOP. -/
  coop : Nat
  /-- IN_PTR, 64 bits. -/
  inPtr : Nat
  /-- OUT_PTR, 64 bits. -/
  outPtr : Nat
  /-- AUX_PTR, 64 bits. -/
  auxPtr : Nat
  /-- TAG. -/
  tag : Nat
  /-- Reserved bytes and reserved FLAGS bits are 0. -/
  clean : Bool
  deriving DecidableEq, Repr

/-- One queued job: descriptor offset in system SRAM, the descriptor once fetched and the VCO cycle at which the fetch is
complete (R153, R154). -/
structure Queued where
  /-- Offset of the descriptor in system SRAM. -/
  ofs : Nat
  /-- The fetched descriptor and the master-VCO cycle at which the engine holds it. -/
  got : Option (Desc × Nat)
  /-- Master-VCO cycle of the submission (R157). -/
  at_ : Nat
  deriving DecidableEq, Repr

/-- The best iterate held by a job (R170). -/
structure Held where
  /-- Key of R170. -/
  key : Nat
  /-- PRIMAL_RES. -/
  primal : Nat
  /-- DUAL_RES. -/
  dual : Nat
  /-- OBJECTIVE, 64 bits. -/
  obj : Nat
  /-- The words of the iterate. -/
  words : List Int
  deriving DecidableEq, Repr

/-- The running job of an engine. -/
structure Job where
  /-- Descriptor offset in system SRAM. -/
  ofs : Nat
  /-- Descriptor. -/
  d : Desc
  /-- Master-VCO cycle of the job's first SOLV cycle. -/
  startAt : Nat
  /-- Iterations completed. -/
  iters : Nat
  /-- Held best. -/
  held : Option Held
  /-- The starting point. -/
  start : List Int
  /-- It came from a warm slot. -/
  warm : Bool
  /-- Saturations, saturating at 0xFFFF_FFFF (R134). -/
  sat : Nat
  /-- Saturations counted before the switch of R190. -/
  satBase : Nat
  /-- PIVREG_COUNT. -/
  piv : Nat
  /-- PIVCOL, at most 8. -/
  pivCol : List Nat
  /-- CYCLES so far. -/
  cycles : Nat
  /-- FACT_REUSED: the job switched to its cached factor (R190). -/
  reused : Bool
  /-- FACT_INCOMPLETE. -/
  incomplete : Bool
  /-- A cancel is pending: the master-VCO cycle at which it reached the job (R157, R201). -/
  cancel : Option Nat
  /-- A member of the group exceeded its saturation limit or met a memory error, at this master-VCO cycle: the leader ends the
  group at the next boundary (R162, R207). -/
  rangePend : Option Nat
  /-- Operations of the present iteration still to run (R147, R168). -/
  ops : List SolverOp
  /-- The job uses its cached factor and runs no FACT: KEEP_FACTOR with the valid bit set at the start (R182). -/
  keep : Bool
  /-- Stages of the present factorisation that are complete; 0 outside one. -/
  built : Nat
  /-- Master-VCO cycle of the latest iteration boundary. -/
  boundAt : Nat
  /-- Bytes that fabric writes have replaced in the engine's SRAM while the present operation runs: address and old byte
  (R158). -/
  old : List (Nat × Byte)
  deriving DecidableEq, Repr

/-- A record waiting for its hand-over, with the fields the registers show (R151). -/
structure OutRec where
  /-- The collector record. -/
  post : Rec
  /-- STATUS. -/
  status : Nat
  /-- FLAGS. -/
  flags : Nat
  /-- PIVREG_COUNT above 0. -/
  piv : Bool
  /-- Master-VCO cycle from which the record can be handed over (R151, R155, R156). -/
  at_ : Nat
  /-- The record of a job that started, whose hand-over ends SEn_CTRL.CANCEL (R166). -/
  ran : Bool
  /-- Descriptor offset of the job. -/
  ofs : Nat
  deriving DecidableEq, Repr

/-- One solver engine (R128, R166). -/
structure SolverEngine where
  /-- SEn_CTRL.ENABLE. -/
  enable : Bool
  /-- SEn_CTRL.CANCEL reads 1 until the record is handed over. -/
  cancelReq : Bool
  /-- SEn_CTRL.HR_CLEAR pending. -/
  hrPend : Bool
  /-- Jobs queued, head first, at most 16. -/
  queue : List Queued
  /-- The running job. -/
  job : Option Job
  /-- Records waiting for their hand-over, oldest first. -/
  out : List OutRec
  /-- ENABLE was cleared and queued jobs are still to be posted CANCELLED (R156). -/
  draining : Bool
  /-- QUIESCENT will be reported by source 64 + 8n + 5 after a disable or a cancel. -/
  quietEvt : Bool
  /-- LAST_STATUS. -/
  lastStatus : Nat
  /-- LAST_FLAGS. -/
  lastFlags : Nat
  /-- SEn_CUR_PROG.ITERATIONS. -/
  curIter : Nat
  /-- SEn_CUR_PROG.PROBLEM. -/
  curProblem : Nat
  /-- SEn_CUR_PROG.PROGRAM. -/
  curProgram : Nat
  /-- SEn_SAT. -/
  sat : Nat
  /-- SEn_CYCLES. -/
  cycles : Nat
  /-- SEn_ERR.DESC_CAUSE. -/
  descCause : Nat
  /-- SEn_ERR.DMA_ERR. -/
  dmaErr : Bool
  /-- SEn_ERR.COOP_ERR. -/
  coopErr : Bool
  /-- SEn_ERR.REFUSED. -/
  refused : Bool
  /-- SEn_ERR.QFULL. -/
  qfull : Bool
  /-- SEn_ERR.WITHDRAW_MISS. -/
  missed : Bool
  /-- SEn_ERR.BAD_DESC. -/
  badDesc : Bool
  /-- SEn_EVT_EN. -/
  evtEn : Nat
  /-- SEn_COOP.MEMBERS. -/
  coop : Nat
  /-- SEn_JOBS. -/
  jobs : Nat
  /-- Cached factor of each problem: problem id, valid bit, selector (R181). -/
  cache : List (Nat × Bool × Bool)
  /-- Amended SOLVE values that wait for the running job's record, with the master-VCO cycle at which they fell due (R31, R159). -/
  amends : List (AmdRecord × Nat)
  /-- Master-VCO cycle of the latest hand-over (R154, R156). -/
  lastHand : Nat
  /-- Descriptor offset and master-VCO cycle of the latest natural end of a job (R157). -/
  lastEnd : Option (Nat × Nat)
  deriving DecidableEq, Repr

/-- An engine after a reset (R166, R167). -/
def SolverEngine.reset : SolverEngine :=
  { enable := false, cancelReq := false, hrPend := false, queue := [], job := none, out := [], draining := false,
    quietEvt := false, lastStatus := 0, lastFlags := 0, curIter := 0, curProblem := 0, curProgram := 0, sat := 0,
    cycles := 0, descCause := 0, dmaErr := false, coopErr := false, refused := false, qfull := false, missed := false,
    badDesc := false, evtEn := 255, coop := 0, jobs := 0, cache := [], amends := [], lastHand := 0, lastEnd := none }

end Sys2Proof.Machine
end

