-- ==== Sys2Proof/Machine/StateRun.lean ====
section
/-! DEFINITION. The running accord: the content of its sections as CONFIGURE step 7 applies them (R64, R76). -/

namespace Sys2Proof.Machine

/-- The content of the running accord. -/
structure RunCfg where
  /-- Header and accord digest. -/
  hdr : HeaderCfg
  /-- STRUCT. -/
  str : StructCfg
  /-- MEMORY. -/
  mem : MemoryCfg
  /-- FRAMES. -/
  frames : FramesCfg
  /-- SOLVE. -/
  solve : SolveCfg
  /-- LOOPS. -/
  loops : LoopsCfg
  /-- DISTRICT. -/
  dist : DistrictCfg
  /-- PROGRAMS. -/
  prog : ProgCfg
  /-- METER. -/
  meter : MeterCfg
  /-- Port records of PINS. -/
  can : List CanCfg
  /-- Station records of DISTRICT. -/
  stns : List StnCfg
  /-- TWIN. -/
  twin : TwinCfg
  /-- The DIO part of PINS. -/
  dio : DioCfg
  /-- PPS_OUT of PINS (R385). -/
  ppsOut : Bool
  /-- TRUST. -/
  trust : TrustCfg
  /-- COMMS. -/
  comms : CommsCfg
  deriving DecidableEq, Repr, Inhabited

end Sys2Proof.Machine
end

