-- ==== Sys2Proof/Config.lean ====
section
/-! DEFINITION. What the manual leaves open: values that no rule fixes, functions of external standards, and the contents
of accord sections whose byte layout no chapter gives. Each is a constant without a body, so no proof can see it. -/

namespace Sys2Proof.Config

open Sys2Proof.Machine

/-! ### Free values (DESIGN CHOICE, log entry 2) -/

/-- A free natural number, by the count of free values drawn before it. -/
opaque freeNat : Nat → Nat
/-- A fresh free value: modulator bits that a command of a write of PWR_CTRL does not carry. -/
opaque freeBits : Nat → List (Fin 96 × List Bool)
/-- Free random bytes of the random source: draw number, length. -/
opaque freeBytes : Nat → Nat → List Byte

/-- The target of a loop that has had none and whose set-point entry has quality BAD, by its id (R248, log entry 59). -/
opaque freeTarget : Nat → Nat

/-! ### External standards (PRESUMED, log entry 3) -/

/-- SHAKE256 (FIPS 202): message and output length in bytes. -/
opaque shake256 : List Byte → Nat → List Byte
/-- KMAC256 (SP 800-185): key, message, output length in bytes, customisation string. -/
opaque kmac256 : List Byte → List Byte → Nat → List Byte → List Byte
/-- ML-DSA-65 verification (FIPS 204): public key, message, context, signature. -/
opaque mldsaVerify : List Byte → List Byte → List Byte → List Byte → Bool
/-- ML-DSA-65 public key of a secret key (FIPS 204). -/
opaque mldsaPublic : List Byte → List Byte
/-- ML-DSA-65 hedged signing (FIPS 204): secret key, message, context, random bytes; the signature and the number of
attempts it took. -/
opaque mldsaSign : List Byte → List Byte → List Byte → List Byte → List Byte × Nat

/-! ### Solver numerics whose order of rounding no rule gives (DESIGN CHOICE, log entry 6) -/

/-- The pivot that FACT forms for its next column at SCALE2: the matrix with its scale, the scale of L and SCALE2 of the factor, the
elimination order, and what FACT has stored so far (each column's pivot as tested, its reciprocal and its entries). -/
opaque factPivot : List Int × Nat → Nat × Nat → List Int → List Int → Int
/-- The rounded entries below the diagonal of that column at the scale of L: as above, then the pivot as tested, its reciprocal and the
number of entries. -/
opaque factColumn : List Int × Nat → Nat × Nat → List Int → List Int → Int → Int → Nat → List Int
/-- Result of FSOLVE (false) or BSOLVE (true) at the scale given last: the words of the factor with the scale of L and SCALE2, and the
right side with its scale. -/
opaque factorSolve : Bool → List Int × Nat × Nat → List Int × Nat → Nat → List Int
/-- Temperature and age that TRANSPORT reports for a segment from which nothing left: its parcels (R218 states neither). -/
opaque stillSegment : List Int → Int × Int
/-- One model of RLS updated: forgetting factor, covariance and input words, each with its scale, and the scale of the parameters;
parameters and covariance. -/
opaque rlsModel : Nat → List Int × Nat → List Int × Nat → Nat → List Int × List Int
/-- The words that an amendment record writes into the solver SRAM of an engine: offset and bytes. -/
opaque solveWrites : AmdRecord → List (Nat × List Byte)

/-! ### What the district services role computes by relations that no chapter gives (DESIGN CHOICE, log entry 5) -/

/-- k of a pipe from its length, diameter and roughness, at a scale (R19). -/
opaque pipeLoss : Nat → Nat → Nat → Nat → Int
/-- k of a valve from its characteristic and its commanded opening, at a scale (R19, R213). -/
opaque valveLoss : Nat → Int → Nat → Int
/-- a_s in 2^−30 from a segment's loss coefficient and the length of a heart note in PERI cycles (R218). -/
opaque segDecay : Nat → Nat → Int
/-- Temperature and birth of a node before anything has arrived there: network and node (R219 states none). -/
opaque firstNode : Nat → Nat → Int × Int
/-- Birth of the water that a substation returns, from the index of the heart note and the birth at its supply node (R219 states
none). -/
opaque returnBirth : Int → Int → Int
/-- Coefficients of the head-limit row of a critical pair, one for each of its variables: pair, accepted hydraulic factor of its network
(R226); and its available head: pair, accepted solution, snapshot of the commands (R223). -/
opaque headRow : Nat → List Int → Nat → List Int
opaque headAvail : Nat → List Int → List (Nat × Int) → Int
/-- Where the words of a dispatch problem stand in the solver SRAM of one engine: 0 to 3 a member of the group, 4 the protection
problem; the problem and the matrix to be factored; offsets and words. -/
opaque placeQp : Nat → Qp → List (List (Nat × Int)) → List (Nat × List Int)

/-! ### Numerics of metering (DESIGN CHOICE, log entry 8) -/

/-- Output of the fixed 63-tap Hilbert transformer on 63 samples, newest first (R321). -/
opaque hilbert : List Int → Int
/-- Temperature of a REAL variable in 0.01 °C (R316). -/
opaque realToCenti : Nat → Int
/-- Saturation pressure in kPa at a temperature in m°C (R333). -/
opaque saturation : Int → Int
/-- The specific volume v of region 1 of IAPWS-IF97 in m³/kg, as the bits of a 64-bit floating-point number, at a temperature in m°C and
a pressure in kPa (R332). -/
opaque specVolume : Int → Nat → Nat
/-- The specific enthalpy h of region 1 of IAPWS-IF97 in J/kg, as the bits of a 64-bit floating-point number, at a temperature in m°C and
a pressure in kPa (R332). -/
opaque specEnthalpy : Int → Nat → Nat

/-! ### Entries of the sillage without a listed number (DESIGN CHOICE, log entry 7) -/

/-- The number of an entry that a rule asks for and R523 does not list: 0 an online change done, 1 a change of the dispatch
level, 2 a hydraulic or transport record with flags, 3 a plan with flags, 4 an adaptation. -/
opaque entryNumber : Nat → Nat

/-- The variables of a task in the code of an image digest, as Prali assigned them: the ranges (offset, length) of the committed area
that the task writes, and those of its read set (R274; the spec gives them no layout). -/
opaque taskVars : List Byte → Nat → List (Nat × Nat) × List (Nat × Nat)
/-- The bytes of a task's input image and of its pending output image, with their qualities: digest of the image, task, content
(R268, R273; Prali lays them out). -/
opaque inBytes : List Byte → Nat → List (Int × Quality) → List Byte
opaque outBytes : List Byte → Nat → Img → List Byte
/-- The symbol map that flash holds with the image of a digest (R303). -/
opaque flashSymmap : List Byte → Option (List Byte)

/-- What SCADA_READ answers: list, first index, count, and the number of free values drawn. -/
opaque scadaData : Nat → Nat → Nat → Nat → List Byte

/-! ### Constants of the device (DESIGN CHOICE, log entry 4) -/

/-- The 16-byte device uid. -/
opaque deviceUid : List Byte
/-- The 256-bit fused secret of slot 0 (R460). -/
opaque deviceRoot : List Byte
/-- The public keys of slots 1 and 2, written at manufacture (R460). -/
opaque firmwareKey : List Byte
opaque factoryKey : List Byte
/-- The image in firmware slot A (false) or B (true) of managed flash (R476). -/
opaque firmware : Bool → List Byte
/-- The MRAM pointer to the active firmware slot names B (R476). -/
opaque firmwarePtr : Bool
/-- mvendorid (0), marchid (1) and mimpid (2) of the cores, and the hart number of each core pair from 8 on. -/
opaque coreId : Nat → DWord
/-- Content of the boot ROM (R95). -/
opaque bootRom : Nat → Byte
/-- MAC address base of the fuse block (R377). -/
opaque macBase : Nat
/-- Entry point at which a role resumes after a migration, by role (R117). -/
opaque resumeEntry : Nat → DWord
/-- Entry point at which a role starts, by role (R76). -/
opaque startEntry : Nat → DWord

/-! ### Sections whose layout no chapter gives (DESIGN CHOICE, log entry 5) -/

/-- Content of the MEMORY section. -/
opaque memorySection : List Byte → MemoryCfg
/-- TCM images of the MEMORY section by role: offset in the master-copy area and bytes. -/
opaque tcmImage : List Byte → Nat → List (Nat × List Byte)
/-- Routing, priorities and coalescing in the supervisor image of the MEMORY section: source, EVH_SRCs_CFG, EVH_SRCs_COAL (R433). -/
opaque hubRoutes : List Byte → List (Nat × Nat × Nat)
/-- Content of the SOLVE section. -/
opaque solveSection : List Byte → SolveCfg
/-- Content of the LOOPS section, without the first state of each loop. -/
opaque loopsSection : List Byte → LoopsCfg
/-- Content of the DISTRICT section. -/
opaque districtSection : List Byte → DistrictCfg
/-- The station records of the DISTRICT section (R362), each with the loop entries bound to its output items. -/
opaque stationRecords : List Byte → List (List Byte × List (Option Nat))
/-- The parts of the PINS section: the DIO part (R410), the port records (R346), the MCLK modes by group and PPS_OUT. -/
opaque pinsDio : List Byte → List Byte
opaque pinsCan : List Byte → List (List Byte)
opaque pinsMclk : List Byte → List MclkMode
opaque pinsPps : List Byte → Bool
/-- The bindings of a partition, by the digest of its active image and its number (R273, R287, R291). -/
opaque bindings : List Byte → Nat → PartBind
/-- Managed flash holds the image of a digest in a bank of a partition: partition, bank B (R68). -/
opaque flashHolds : Nat → Bool → List Byte → Bool
/-- Offset within the value of a section of an item, by section type, value and item number. -/
opaque itemOfs : Nat → List Byte → Nat → Nat
/-- The first item of PINS that names a pin a second time or a function that its pin does not permit (R64): the offset within the
value. -/
opaque pinFault : List Byte → Option Nat
/-- The first object of DISTRICT of a class that R14 does not list: the offset within the value. -/
opaque districtFault : List Byte → Option Nat
/-- The first cross-reference of an accord that the model does not spell out and that fails: section and offset (R15, R68). -/
opaque crossFault : List Byte → Option (Nat × Nat)
/-- What an amendment record fails: field not amendable (false) or value out of its limits (true), with its error code; none when
it is fit (R61, R82). -/
opaque amendFault : AmdRecord → List Byte → Option (Bool × Nat)
/-- The accord's sections with an amendment record applied, for DISTRICT and SOLVE content (R84). -/
opaque amendDistrict : AmdRecord → DistrictCfg → DistrictCfg
opaque amendSolve : AmdRecord → SolveCfg → SolveCfg

/-! ### Payloads of the mirror frames, whose layout no rule gives (R541, DESIGN CHOICE, log entry 5) -/

/-- Payloads of the DELTA frames of a commit: dirty lines and output image, at most 22 lines a frame. -/
opaque deltaPayloads : List (Nat × List Byte) → Img → List (List Byte)
/-- Payloads of the DELTA frames of a whole committed area. -/
opaque areaPayloads : List Byte → Img → List (List Byte)
/-- Lines that a DELTA payload carries: line number within D-TCM and bytes. -/
opaque deltaLines : List Byte → List (Nat × List Byte)
/-- Items of the committed output image that a DELTA payload carries. -/
opaque deltaImage : List Byte → Img
/-- The DELTA payload is the last of its commit. -/
opaque deltaLast : List Byte → Bool
/-- The DELTA payload belongs to a whole committed area, sent on RESYNC. -/
opaque deltaWhole : List Byte → Bool
/-- Payload of a LOOPS frame: U_LAST by loop. -/
opaque loopsPayload : List (Nat × Int) → List Byte
/-- U_LAST by loop that a LOOPS payload carries. -/
opaque loopsULast : List Byte → List (Nat × Int)
/-- Payload of a BASE frame: warm slots by engine, offset and bytes, the dispatch status record and the accepted plan. -/
opaque basePayload : List (Nat × Nat × List Byte) → List Byte → Option Plan → List Byte
/-- Warm slots that a BASE payload carries. -/
opaque baseWarm : List Byte → List (Nat × Nat × List Byte)
/-- The accepted plan that a BASE payload carries. -/
opaque basePlan : List Byte → Option Plan

/-! ### Amendments (R79, R87, R293; DESIGN CHOICE, log entry 5) -/

/-- The discard cause of entry 0x141 for an amendment that CONFIGURE (false), or DRYDOWN or a reset (true) discards. -/
opaque discardCause : Bool → Nat
/-- The digest of a partition record that a TABLE and a FIELD of a PROGRAMS record name: that of the idle bank (false) or of the
migration map (true); none for every other field (R61, R269). -/
opaque progField : Nat → Nat → Option Bool

end Sys2Proof.Config
end

