-- ==== Sys2Proof/Machine/StateHub.lean ====
section
/-! DEFINITION. State of the event hub (R430 to R446) and of the real-time clock (R447 to R456). -/

namespace Sys2Proof.Machine

/-- The four states of a source on one target route (R439). -/
inductive RouteState where
  | inactive | pending | active | activePending
  deriving DecidableEq, Repr

/-- One target route of a source: EVH_SRCs_CFG, EVH_SRCs_COAL, its state and its counter (R433, R439, R440). -/
structure Route where
  /-- EVH_SRCs_CFG.ENABLE. -/
  enable : Bool
  /-- EVH_SRCs_CFG.TARGET, 15 for none. -/
  target : Nat
  /-- EVH_SRCs_CFG.PRIORITY, 8 bits. -/
  prio : Nat
  /-- EVH_SRCs_COAL.TIME in µs, 16 bits. -/
  time : Nat
  /-- EVH_SRCs_COAL.COUNT, 1 to 255. -/
  count : Nat
  /-- State of R439. -/
  st : RouteState
  /-- Assertion counter, saturating at 65,535 (R440). -/
  counter : Nat
  /-- Master-VCO cycle of the first assertion counted (R440). -/
  first : Option Nat
  /-- PERI edge of the latest assertion: another on the same edge is the same assertion (R432). -/
  lastEdge : Option Nat
  /-- A change of routing that waits for the completion of an active route: target, priority, enable. -/
  later : Option (Nat × Nat × Bool)
  /-- A change of coalescing that waits for the completion of an active route: time, count. -/
  laterCoal : Option (Nat × Nat)
  deriving DecidableEq, Repr

/-- Reset value of a route: EVH_SRCs_CFG 0x000F_0000, EVH_SRCs_COAL 0x0000_0001 (R445). -/
def Route.reset : Route :=
  { enable := false, target := 15, prio := 0, time := 0, count := 1, st := .inactive, counter := 0, first := none,
    lastEdge := none, later := none, laterCoal := none }

/-- Reset value of the fixed second route of sources 32 to 39 to target 8 (R433). -/
def Route.fixed : Route := { Route.reset with enable := true, target := 8 }

/-- One entry of an active stack: source, second route, count handed to EVCLAIM (R436, R437). -/
structure Active where
  /-- Source number. -/
  src : Nat
  /-- The entry came over the fixed second route of R433. -/
  second : Bool
  /-- Assertions gathered by the delivery. -/
  count : Nat
  deriving DecidableEq, Repr

/-- One target of the hub (R430). -/
structure Target where
  /-- EVH_TGTt_CFG.PRIGROUP. -/
  prigroup : Nat
  /-- EVH_TGTt_CFG.REST_EN. -/
  restEn : Bool
  /-- EVH_TGTt_STATE.DONE_ERR. -/
  doneErr : Bool
  /-- EVH_TGTt_STATE.HELD (R444). -/
  held : Bool
  /-- EVH_TGTt_STATE.RESTING (R443). -/
  resting : Bool
  /-- Master-VCO cycle at which the save of R443 ends. -/
  saveEnd : Nat
  /-- Active stack, top first, at most 8 deep (R436). -/
  stack : List Active
  /-- The delivery signalled at the pair's port, with the master-VCO cycle of the signal (R442). -/
  port : Option (Nat × Bool × Nat)
  deriving DecidableEq, Repr

/-- Reset value of a target: EVH_TGTt_CFG 0x0007_0000, EVH_TGTt_STATE 0x0000_01FF (R445). -/
def Target.reset : Target :=
  { prigroup := 7, restEn := false, doneErr := false, held := false, resting := false, saveEnd := 0, stack := [],
    port := none }

/-- The event hub. -/
structure Hub where
  /-- EVH_CTRL.DISABLE. -/
  disable : Bool
  /-- Targets 0 to 8. -/
  tgt : Vector Target 9
  /-- Routes of sources 0 to 319; a source without an entry holds its reset value. -/
  routes : List (Nat × Route)
  /-- Fixed second routes of sources 32 to 39 (R433). -/
  second : List (Nat × Route)
  deriving DecidableEq, Repr

/-- The hub after any reset (R446). -/
def Hub.reset : Hub :=
  { disable := false, tgt := Vector.replicate 9 Target.reset, routes := [], second := [] }

/-- A calendar time: seconds since 2000-01-01 00:00:00 within the 200 years of R447. -/
abbrev Cal := Nat

/-- One alarm: RTC_ALMa_VAL and RTC_ALMa_CTRL (R450). -/
structure Alarm where
  /-- WEEKDAY, 3 bits. -/
  wday : Nat
  /-- MONTH, 4 bits. -/
  month : Nat
  /-- DAY, 5 bits. -/
  day : Nat
  /-- HOUR, 5 bits. -/
  hour : Nat
  /-- MIN, 6 bits. -/
  min : Nat
  /-- SEC, 6 bits. -/
  sec : Nat
  /-- ENABLE. -/
  enable : Bool
  /-- CATCHUP. -/
  catchup : Bool
  /-- MASK, 6 bits. -/
  mask : Nat
  deriving DecidableEq, Repr

/-- Reset value of an alarm (R454). -/
def Alarm.reset : Alarm :=
  { wday := 0, month := 0, day := 0, hour := 0, min := 0, sec := 0, enable := false, catchup := false, mask := 0 }

/-- Staged fields of RTC_SET_TIME and RTC_SET_DATE. -/
structure SetFields where
  /-- HOUR, 5 bits. -/
  hour : Nat
  /-- MIN, 6 bits. -/
  min : Nat
  /-- SEC, 6 bits. -/
  sec : Nat
  /-- YEAR, 8 bits. -/
  year : Nat
  /-- MONTH, 4 bits. -/
  month : Nat
  /-- DAY, 5 bits. -/
  day : Nat
  deriving DecidableEq, Repr

/-- The real-time clock and its registers (R447 to R456). -/
structure Rtc where
  /-- Seconds since 2000-01-01 00:00:00, within 200 years (R447). -/
  t : Cal
  /-- RTC_SUBSEC.COUNT: the prescaler, 15 bits. -/
  sub : Nat
  /-- Staged fields of RTC_SET_TIME and RTC_SET_DATE. -/
  stage : SetFields
  /-- RTC_CTRL.SET: a set scheduled and not yet applied (R449), with its checked time and the master-VCO cycle of its write. -/
  pend : Option (Cal × Nat)
  /-- Master-VCO cycle of the RTC edge on which the latest set was applied. -/
  setAt : Option Nat
  /-- RTC_STATUS.LOST. -/
  lost : Bool
  /-- RTC_STATUS.SUSPECT. -/
  suspect : Bool
  /-- RTC_STATUS.SET_ERR. -/
  setErr : Bool
  /-- RTC_STATUS.SKIPPED_A. -/
  skipA : Bool
  /-- RTC_STATUS.SKIPPED_B. -/
  skipB : Bool
  /-- RTC_STATUS.STEP_BACK. -/
  stepBack : Bool
  /-- RTC_STATUS.WRAP. -/
  wrap : Bool
  /-- RTC_STATUS.OSC_FAIL. -/
  oscFail : Bool
  /-- The crystal has stopped (R453). -/
  stopped : Bool
  /-- RTC_TRIM.DIR as written: true SKIP. -/
  trimSkip : Bool
  /-- RTC_TRIM.VALUE as written, 9 bits. -/
  trimVal : Nat
  /-- Direction in force in the present window. -/
  curSkip : Bool
  /-- Count in force in the present window. -/
  curVal : Nat
  /-- Corrections made in the present window of 2^20 RTC cycles (R452). -/
  corr : Nat
  /-- Alarm A. -/
  almA : Alarm
  /-- Alarm B. -/
  almB : Alarm
  /-- RTC_EVT_EN.EN, 8 bits. -/
  evtEn : Nat
  /-- Shadows of each initiator: RTC_TIME, RTC_DATE, RTC_SECONDS (R448). -/
  shadows : List (Nat × Nat × Nat × Nat)
  deriving DecidableEq, Repr

/-- The RTC block after the backup domain's own power-on (R453, R454). -/
def Rtc.reset : Rtc :=
  { t := 0, sub := 0, stage := { hour := 0, min := 0, sec := 0, year := 0, month := 1, day := 1 }, pend := none,
    setAt := none, lost := true, suspect := false, setErr := false, skipA := false, skipB := false, stepBack := false,
    wrap := false, oscFail := false, stopped := false, trimSkip := false, trimVal := 0, curSkip := false,
    curVal := 0, corr := 0, almA := Alarm.reset, almB := Alarm.reset, evtEn := 255, shadows := [] }

end Sys2Proof.Machine
end

