-- ==== Sys2Proof/Machine/StateSys.lean ====
section
/-! DEFINITION. State of the SYS block: module state and mode (R5, R8, R503), frame sequencer (R32 to R57) and the
read shadows of each initiator (R56). -/

namespace Sys2Proof.Machine

/-- The nine module states of R5. -/
inductive ModState where
  | boot | configure | start | service | commissioning | test | recovery | drydown | safeHold
  deriving DecidableEq, Repr

/-- The code of a module state (R5). -/
def ModState.code : ModState → Nat
  | .boot => 0 | .configure => 1 | .start => 2 | .service => 3 | .commissioning => 4
  | .test => 5 | .recovery => 6 | .drydown => 7 | .safeHold => 8

/-- The reset kinds of R8. -/
inductive ResetKind where
  | powerOn | resetN | watchdog | software | drydownEnd
  deriving DecidableEq, Repr

/-- The code of a reset kind (R8). -/
def ResetKind.code : ResetKind → Nat
  | .powerOn => 0 | .resetN => 1 | .watchdog => 2 | .software => 3 | .drydownEnd => 4

/-- The operating modes of R505. -/
inductive OpMode where
  | service | commissioning | test
  deriving DecidableEq, Repr

/-- SYS_STATE and SYS_MODE_REQ (R5, R8, R503, R505). -/
structure Sys where
  /-- SYS_STATE.STATE. -/
  state : ModState
  /-- SYS_STATE.PREV_STATE. -/
  prev : ModState
  /-- SYS_STATE.RESET_KIND. -/
  kind : ResetKind
  /-- The operating mode of R505. -/
  mode : OpMode
  /-- SYS_MODE_REQ.ERR. -/
  reqErr : Nat
  /-- An accepted mode request that waits for the next top tick (R503). -/
  reqMode : Option OpMode
  deriving DecidableEq, Repr

/-- The discipline states of R43. -/
inductive DState where
  | free | acquire | locked | holdover
  deriving DecidableEq, Repr

/-- The code of a discipline state (R43). -/
def DState.code : DState → Nat
  | .free => 0 | .acquire => 1 | .locked => 2 | .holdover => 3

/-- The read shadows of one initiator: TNC_HI, POS and BNC; TB_HI; TICK_TB_HI (R56). -/
structure FsShadow where
  /-- TNC_HI, POS and BNC as register values. -/
  tnc : Option (Nat × Nat × Nat)
  /-- TB_HI. -/
  tb : Option Nat
  /-- TICK_TB_HI. -/
  tickTb : Option Nat
  deriving DecidableEq, Repr

/-- The frame sequencer (R32 to R57). -/
structure FrameSeq where
  /-- SYS_FS_PERIOD.PERIOD, 20 bits. -/
  period : Nat
  /-- SYS_FS_NEST.H, 10 bits. -/
  h : Nat
  /-- SYS_FS_NEST.B, 10 bits. -/
  b : Nat
  /-- SYS_FS_DISC_CFG.GLITCH_WIN, 16 bits. -/
  glitchWin : Nat
  /-- SYS_FS_DISC_CFG.LOCK_WIN, 4 bits. -/
  lockWin : Nat
  /-- SYS_FS_DISC_CFG.KI_SHIFT, 4 bits. -/
  kiShift : Nat
  /-- SYS_FS_DISC_CFG.KP_SHIFT, 4 bits. -/
  kpShift : Nat
  /-- SYS_FS_DISC_CFG.SRC: 0 FREE, 1 PPS, 2 PTP. -/
  src : Nat
  /-- SYS_FS_STEER.RATE, signed 32 bits. -/
  rate : Int
  /-- SYS_FS_STATUS.CLK_FAULT. -/
  clkFault : Bool
  /-- SYS_FS_STATUS.RANGE. -/
  range : Bool
  /-- SYS_FS_STATUS.DSTATE. -/
  dstate : DState
  /-- SYS_FS_PHASE.E, signed 32 bits. -/
  e : Int
  /-- SYS_FS_GLITCH.MISSING, 16 bits saturating. -/
  missing : Nat
  /-- SYS_FS_GLITCH.DISCARDED, 16 bits saturating. -/
  discarded : Nat
  /-- TNC, 64 bits (R34). -/
  tnc : Nat
  /-- HPOS, 10 bits (R34). -/
  hpos : Nat
  /-- BPOS, 10 bits (R34). -/
  bpos : Nat
  /-- BNC, 32 bits (R34). -/
  bnc : Nat
  /-- SYS_FS_TICK_TB, 64 bits (R46). -/
  tickTb : Nat
  /-- SYS_FS_NOTE_LEN.LEN, 20 bits (R42). -/
  noteLen : Nat
  /-- The integral term of R41. -/
  integ : Int
  /-- The fractional part of R42, 0 to 65,535. -/
  acc : Nat
  /-- Consecutive edges with |e| ≤ LOCK_WIN (R43). -/
  lockRun : Nat
  /-- Consecutive discarded edges (R43). -/
  discardRun : Nat
  /-- Consecutive accepted edges with RATE at its limit (R45). -/
  limitRun : Nat
  /-- TNC, offset and note length of the previous edge that passed the test of R44. -/
  lastEdge : Option (Nat × Int × Nat)
  /-- The first top tick of START has come. -/
  started : Bool
  /-- The master-VCO cycle of the latest top tick. -/
  tickAt : Nat
  /-- The latest top tick is a heart tick that has not been taken (R34). -/
  heartDue : Bool
  /-- The latest heart tick is a base tick that has not been taken (R34). -/
  baseDue : Bool
  /-- The shadows of each initiator, keyed by its code (R56). -/
  shadows : List (Nat × FsShadow)
  deriving DecidableEq, Repr

/-- The reset values of the frame sequencer (R56, R57). -/
def FrameSeq.reset : FrameSeq :=
  { period := 100000, h := 100, b := 50, glitchWin := 1000, lockWin := 10, kiShift := 4, kpShift := 2, src := 0,
    rate := 0, clkFault := false, range := false, dstate := .free, e := 0, missing := 0, discarded := 0, tnc := 0,
    hpos := 0, bpos := 0, bnc := 0, tickTb := 0, noteLen := 100000, integ := 0, acc := 0, lockRun := 0,
    discardRun := 0, limitRun := 0, lastEdge := none, started := false, tickAt := 0, heartDue := false,
    baseDue := false, shadows := [] }

/-- SYS_STATE, SYS_MODE_REQ and the mode after a reset of a kind (R8, R520). -/
def Sys.reset (k : ResetKind) : Sys :=
  { state := .boot, prev := .boot, kind := k, mode := .service, reqErr := 0, reqMode := none }

end Sys2Proof.Machine
end

