-- ==== Sys2Proof/Machine/StatePower.lean ====
section
/-! DEFINITION. State of the power block (R492 to R520), of the sillage (R521 to R532) and of the twin interlock and
mirror (R533 to R546). -/

namespace Sys2Proof.Machine

/-- The causes of a drydown (PWR_DD_INFO.CAUSE). -/
inductive DdCause where
  | none | supplyLoss | command | commandHalt
  deriving DecidableEq, Repr

/-- The code of a drydown cause. -/
def DdCause.code : DdCause → Nat
  | .none => 0 | .supplyLoss => 1 | .command => 2 | .commandHalt => 3

/-- The drydown record, kept over every reset (R511, R520). -/
structure DdRecord where
  /-- CAUSE. -/
  cause : DdCause
  /-- The open marker of the record: set before step 1, cleared by the close marker of step 6 (R511). -/
  isOpen : Bool
  /-- PWR_DD_INFO.OPEN: found open at boot. -/
  foundOpen : Bool
  /-- RETURNED. -/
  returned : Bool
  /-- RESTART. -/
  restart : Bool
  /-- HELD_RESET. -/
  heldReset : Bool
  /-- HOLD_LOW. -/
  holdLow : Bool
  /-- PWR_DD_STEP1 to PWR_DD_STEP6 in µs, 0xFF_FFFF for a step not completed. -/
  steps : Vector Nat 6
  /-- JOBS, saturating at 65,535. -/
  jobs : Nat
  /-- PWR_DD_TIME.US. -/
  time : Nat
  /-- PWR_DD_HOLD.START in 10 mV. -/
  holdStart : Nat
  /-- PWR_DD_HOLD.END in 10 mV. -/
  holdEnd : Nat
  /-- PWR_DD_COUNT.TOTAL, saturating at 65,535. -/
  total : Nat
  /-- PWR_DD_COUNT.OPEN, saturating at 65,535. -/
  opens : Nat
  deriving DecidableEq, Repr

/-- The drydown record of a module that has run none. -/
def DdRecord.blank : DdRecord :=
  { cause := .none, isOpen := false, foundOpen := false, returned := false, restart := false, heldReset := false,
    holdLow := false, steps := Vector.replicate 6 0, jobs := 0, time := 0, holdStart := 0, holdEnd := 0, total := 0,
    opens := 0 }

/-- The power block. -/
structure Power where
  /-- The internal converters run (R496). -/
  powered : Bool
  /-- Halted after step 7 of drydown (R512, R513). -/
  halted : Bool
  /-- The halt came from DRYDOWN_HALT (R513). -/
  haltCmd : Bool
  /-- RESET_N is low and holds the module in reset (R506). -/
  inReset : Bool
  /-- PWR_STATUS.A_OK. -/
  aOk : Bool
  /-- PWR_STATUS.B_OK. -/
  bOk : Bool
  /-- PWR_STATUS.HOLD_READY. -/
  holdReady : Bool
  /-- PWR_STATUS.HOLD_FAULT. -/
  holdFault : Bool
  /-- PWR_STATUS.HOLD_SW. -/
  holdSw : Bool
  /-- PWR_STATUS.QUAL. -/
  qual : Bool
  /-- Master-VCO cycle at which the present qualification began (R510). -/
  qualAt : Nat
  /-- PWR_STATUS.VBAT_LOW. -/
  vbatLow : Bool
  /-- PWR_VIN.VIN_A in 10 mV. -/
  vinA : Nat
  /-- PWR_VIN.VIN_B in 10 mV. -/
  vinB : Nat
  /-- PWR_HOLD.HOLD in 10 mV. -/
  hold : Nat
  /-- PWR_HOLD.VBAT in mV. -/
  vbat : Nat
  /-- PWR_WDT_CFG.LOCK. -/
  wdtLock : Bool
  /-- PWR_WDT_CFG.TIMEOUT in ms. -/
  wdtTimeout : Nat
  /-- A 0x5A has been written and waits for 0xA5 (R507). -/
  kicked : Bool
  /-- Master-VCO cycle at which the watchdog count was last restarted; while the watchdog is paused, the cycles it has counted
  (R507). -/
  wdtFrom : Nat
  /-- The debug module holds a core of the pair of role 0 halted, which pauses the watchdog (R507). -/
  wdtPaused : Bool
  /-- The drydown record. -/
  dd : DdRecord
  /-- The latest boot found the drydown record open: source 295 at START (R498). -/
  ddMark : Bool
  /-- PWR_EVT_EN.EN, 8 bits. -/
  evtEn : Nat
  /-- FAULT_N is low (R509). -/
  faultN : Bool
  /-- The firmware has been verified since the reset (R477). -/
  fwOk : Bool
  /-- Master-VCO cycle at which START was entered (instant 10 of R499). -/
  startAt : Nat
  /-- Master-VCO cycles from `startAt` to the first top tick: 8 ms after a reset of any kind, 0 after a CONFIGURE command (R499,
  R501). -/
  lead : Nat
  /-- START was entered after a power-on or a drydown end, so that the NET, CAN and DIO domains are powered in turn
  (R499, R501). -/
  cold : Bool
  /-- A RESET_N, watchdog or software reset that waits for the captures of R337 and R528. -/
  deferred : Option ResetKind
  /-- BOOT_SEL pin (R557). -/
  bootSel : Bool
  deriving DecidableEq, Repr

/-- The power block right after a power-on through VIN_A. -/
def Power.reset : Power :=
  { powered := true, halted := false, haltCmd := false, inReset := false, aOk := true, bOk := false,
    holdReady := false, holdFault := false, holdSw := false, qual := false, qualAt := 0, vbatLow := false, vinA := 0, vinB := 0,
    hold := 0, vbat := 0, wdtLock := false, wdtTimeout := 2000, kicked := false, wdtFrom := 0, wdtPaused := false,
    dd := DdRecord.blank, ddMark := false, evtEn := 255, faultN := true, fwOk := false, startAt := 0, lead := 0, cold := true,
        deferred := none,
    bootSel := false }

/-- One sillage entry as it waits in the writer's queue (R522). -/
structure SilEntry where
  /-- TB at the PERI edge of the entry. -/
  tb : Nat
  /-- TNC[31:0] at that edge. -/
  tnc : Nat
  /-- Block code of R522. -/
  block : Nat
  /-- Port, engine, partition or role of the block. -/
  inst : Nat
  /-- Class of R522: 0 information, 1 change, 2 warning, 3 fault, 4 security. -/
  cls : Nat
  /-- Number, 12 bits. -/
  num : Nat
  /-- PAYLOAD, at most 16 bytes; bytes not named are 0. -/
  payload : List Byte
  deriving DecidableEq, Repr

/-- One capture slot (R530). -/
structure Capture where
  /-- VALID holds 0x0000_A5A5. -/
  valid : Bool
  /-- REASON of R528. -/
  reason : Nat
  /-- COUNT, 1 to 512. -/
  count : Nat
  /-- SEQ. -/
  seq : Nat
  /-- FIRST, index of the oldest entry. -/
  first : Nat
  /-- RTC seconds. -/
  rtc : Nat
  /-- TB at the capture instant. -/
  tb : Nat
  /-- TNC at the capture instant. -/
  tnc : Nat
  /-- SYS_STATE at the capture instant. -/
  sysState : Nat
  /-- RTC validity: 0 valid, 1 SUSPECT, 2 LOST. -/
  rtcValid : Nat
  /-- The entries, 32 bytes each. -/
  entries : List (List Byte)
  deriving DecidableEq, Repr

/-- An empty capture slot. -/
def Capture.blank : Capture :=
  { valid := false, reason := 0, count := 0, seq := 0, first := 0, rtc := 0, tb := 0, tnc := 0, sysState := 0,
    rtcValid := 0, entries := [] }

/-- A signed export that runs on the security core pair (R531, R532). -/
structure SilExport where
  /-- Master-VCO cycle at which it is complete. -/
  endAt : Nat
  /-- The session that asked for it, while that session stands. -/
  link : Option (Fin 2)
  /-- SEQ of the frame that asked for it. -/
  seq : Nat
  /-- The export with its SIGN TLV; none where 256 attempts give no signature (R468). -/
  body : Option (List Byte)
  deriving DecidableEq, Repr

/-- The sillage writer, its region and its registers (R521 to R532, R545). -/
structure Sillage where
  /-- The ring header holds MAGIC (R527). -/
  magic : Bool
  /-- HEAD, 32 bits. -/
  head : Nat
  /-- LOST, 32 bits saturating. -/
  lost : Nat
  /-- HOLD, 8 bits. -/
  hold : Nat
  /-- CAP_SEQ. -/
  capSeq : Nat
  /-- Ring entries by index modulo 4,096, 32 bytes each (R521). -/
  ring : List (Nat × List Byte)
  /-- Entries whose ring write waits while a capture runs (R529). -/
  ringWait : List (Nat × List Byte)
  /-- The newest entries with their indices, newest first, at most 512: the capture window (R524). -/
  window : List (Nat × List Byte)
  /-- The writer's queue, oldest first, at most 64 (R524). -/
  queue : List SilEntry
  /-- Losses since the previous entry 0x142, and the index of the first (R525). -/
  losses : Nat × Nat
  /-- Capture slots 0 to 7. -/
  caps : Vector Capture 8
  /-- A capture that runs: its slot and its frozen content (R529). -/
  running : Option (Nat × Capture)
  /-- SIL_CTRL.CAPTURE reads 1 until the capture is written. -/
  capReq : Bool
  /-- An export that runs, shown by SIL_STATUS.EXPORT_BUSY (R531, R532). -/
  exporting : Option SilExport
  /-- First FAB cycle in which the writer can accept another entry (R524). -/
  nextAt : Nat
  /-- SIL_STATUS.CAP_REFUSED. -/
  capRefused : Bool
  /-- SIL_STATUS.LOST. -/
  lostFlag : Bool
  /-- SIL_STATUS.INIT. -/
  init : Bool
  /-- SIL_STATUS.LAST_SLOT. -/
  lastSlot : Nat
  /-- SIL_STATUS.LAST_REASON. -/
  lastReason : Nat
  /-- SIL_CAP_SEL.SLOT. -/
  capSel : Fin 8
  /-- Staging words SIL_PUT0 to SIL_PUT3 of each initiator (R526). -/
  put : List (Nat × List Nat)
  /-- SIL_EVT_EN.EN, 8 bits, shared with the twin (R544). -/
  evtEn : Nat
  deriving DecidableEq, Repr

/-- A sillage whose region has just been initialised (R527). -/
def Sillage.reset : Sillage :=
  { magic := true, head := 0, lost := 0, hold := 0, capSeq := 0, ring := [], ringWait := [], window := [], queue := [],
    losses := (0, 0), caps := Vector.replicate 8 Capture.blank, running := none, capReq := false, exporting := none, nextAt := 0,
    capRefused := false, lostFlag := false, init := false, lastSlot := 0, lastReason := 0, capSel := 0, put := [],
    evtEn := 255 }

/-- The twin states of R539. -/
inductive TwinState where
  | none | seeking | active | standby | released
  deriving DecidableEq, Repr

/-- The code of a twin state (R539). -/
def TwinState.code : TwinState → Nat
  | .none => 0 | .seeking => 1 | .active => 2 | .standby => 3 | .released => 4

/-- The state a code names (R540); a code above 4 names none. -/
def TwinState.ofCode : Nat → TwinState
  | 1 => .seeking | 2 => .active | 3 => .standby | 4 => .released | _ => .none

/-- One partition's commit as it arrives in DELTA frames (R541). -/
structure MirrorCommit where
  /-- COMMIT of the frames. -/
  commit : Nat
  /-- Dirty lines gathered so far: address in the mirrored region and bytes. -/
  lines : List (Nat × List Byte)
  /-- Committed output image gathered so far. -/
  image : List (Nat × (Int × Quality))
  deriving DecidableEq, Repr

/-- A twin frame this module has sent (R533, R540, R541). -/
structure TwinFrame where
  /-- TYPE. -/
  type : Nat
  /-- SEQ. -/
  seq : Nat
  /-- PART. -/
  part : Nat
  /-- COMMIT. -/
  commit : Nat
  /-- The payload. -/
  payload : List Byte
  /-- The 16-byte tag. -/
  tag : List Byte
  deriving DecidableEq, Repr

/-- The twin interlock, states and mirror (R533 to R546). -/
structure Twin where
  /-- TWIN_STATUS.STATE. -/
  state : TwinState
  /-- CLAIM_OUT. -/
  claimOut : Bool
  /-- CLAIM_IN, filtered. -/
  claimIn : Bool
  /-- GATE. -/
  gate : Bool
  /-- Master-VCO cycle from which CLAIM_OUT stands alone: the settle time of R535 counts from it. -/
  settleFrom : Option Nat
  /-- TWIN_SEL as read at reset. -/
  sel : Bool
  /-- PARTNER_SEL. -/
  partnerSel : Bool
  /-- PARTNER_STATE. -/
  partnerState : TwinState
  /-- SYNC. -/
  sync : Bool
  /-- SYNC flag of the partner's latest heartbeat. -/
  partnerSync : Bool
  /-- MISSED, saturating at 15. -/
  missed : Nat
  /-- An authenticated heartbeat has arrived since the previous check (R540). -/
  beat : Bool
  /-- Heart notes in a row whose heartbeat reported another CLAIM_IN level than this CLAIM_OUT (R537). -/
  wireRun : Nat
  /-- CLAIM_WIRE. -/
  claimWire : Bool
  /-- SEL_EQUAL. -/
  selEqual : Bool
  /-- DIGEST. -/
  digest : Bool
  /-- The partner's accord digest differs at present. -/
  digestDiff : Bool
  /-- LINK. -/
  link : Bool
  /-- GAP. -/
  gap : Bool
  /-- TAG. -/
  tag : Bool
  /-- Commits of P1 to P4 reported and not yet applied; TWIN_LAG shows at most 255. -/
  lag : Vector Nat 4
  /-- TAKEOVERS, saturating at 65,535. -/
  takeovers : Nat
  /-- CONFLICTS, saturating at 65,535. -/
  conflicts : Nat
  /-- A random back-off runs: TNC of the top note in which it ends (R536). -/
  backoff : Option Nat
  /-- A switchover waits for the next heart tick (R541). -/
  releasePend : Bool
  /-- SEQ of the next frame sent. -/
  seqOut : Nat
  /-- SEQ of the latest frame received. -/
  seqIn : Option Nat
  /-- Commits this module has sealed for P1 to P4. -/
  sealedOut : Vector Nat 4
  /-- The last commit applied for P1 to P4. -/
  applied : Vector Nat 4
  /-- Commits of P1 to P4 arriving in DELTA frames. -/
  gather : Vector (Option MirrorCommit) 4
  /-- Any mirror frame has been applied since START (R543). -/
  mirrored : Bool
  /-- U_LAST of every enabled loop from the last LOOPS frame (R541). -/
  uLast : List (Nat × Int)
  /-- Dispatch status record and accepted plan from the last BASE frame, with the base note of arrival (R541). -/
  base : Option (Nat × List Byte)
  /-- Partitions whose whole committed area the partner has asked for (R541). -/
  resync : Vector Bool 4
  /-- Partitions P1 to P4 whose whole committed area this module, as standby, still waits for (R541). -/
  stale : Vector Bool 4
  /-- The partner's latest heartbeat carried RELEASED (R539, R540). -/
  partnerReleased : Bool
  /-- Actions of R543 that wait after the gate opened: 2 output instant, 3 top tick, 5 base tick, and 40 + p the major
  boundary of partition P(p + 1). -/
  takeover : List Nat
  /-- The latest frames sent, newest first, at most 64. -/
  sent : List TwinFrame
  deriving DecidableEq, Repr

/-- The twin block after a reset (R545, R546). -/
def Twin.reset (sel claimIn : Bool) : Twin :=
  { state := .none, claimOut := false, claimIn := claimIn, gate := false, settleFrom := none, sel := sel,
    partnerSel := false, partnerState := .none, sync := false, partnerSync := false, missed := 0, beat := false,
    wireRun := 0, claimWire := false, selEqual := false, digest := false, digestDiff := false, link := false,
    gap := false, tag := false, lag := Vector.replicate 4 0, takeovers := 0, conflicts := 0, backoff := none,
    releasePend := false, seqOut := 0, seqIn := none, sealedOut := Vector.replicate 4 0,
    applied := Vector.replicate 4 0, gather := Vector.replicate 4 none, mirrored := false, uLast := [],
    base := none, resync := Vector.replicate 4 false, stale := Vector.replicate 4 false, partnerReleased := false,
    takeover := [], sent := [] }

end Sys2Proof.Machine
end

