-- ==== Sys2Proof/Machine/State.lean ====
section
/-! DEFINITION. The state of the module: every register, buffer, counter, mode and pin that the manual names, the queue
of waiting commands, and the reasons a step can stop. -/

namespace Sys2Proof.Machine

/-- The state of the module. Time is held as the count of master-VCO cycles since PLL A locked, the origin that R573 gives
the fabric round; every synchronous domain divides it (R47). -/
structure State where
  /-- Master-VCO cycles (4,000 MHz) since PLL A locked (R47, R573). -/
  now : Nat
  /-- The model's own counter of free values drawn (DESIGN CHOICE, log entry 2). -/
  free : Nat
  /-- SYS_STATE and the operating mode. -/
  sys : Sys
  /-- Frame sequencer. -/
  fs : FrameSeq
  /-- Event hub. -/
  hub : Hub
  /-- Real-time clock. -/
  rtc : Rtc
  /-- Power block. -/
  pwr : Power
  /-- Sillage. -/
  sil : Sillage
  /-- Twin. -/
  twin : Twin
  /-- Core pairs and image lanes. -/
  pairs : Pairs
  /-- Fabric and collector. -/
  fab : Fabric
  /-- Accord unit. -/
  acc : AccordUnit
  /-- Solver engines SE0 to SE3. -/
  se : Vector SolverEngine 4
  /-- Loop engines LE0 and LE1. -/
  loops : Loops
  /-- Network model and dispatch of the district services role. -/
  plan : Planner
  /-- Cyclic programs. -/
  prog : Programs
  /-- Metering engine. -/
  mtr : Meter
  /-- CAN0 to CAN7. -/
  can : Vector CanPort 8
  /-- Field I/O. -/
  dio : Dio
  /-- Key store, field access and service UART. -/
  key : Keys
  /-- Ethernet, PTP, exchange, Modbus, service channel and historian. -/
  net : Net
  /-- The running accord; `acc.active` says whether there is one. -/
  run : RunCfg
  /-- System SRAM, solver SRAM, retention MRAM and DRAM by physical address (R95). -/
  mem : Mem
  /-- The model's own record for R12: a PERI cycle, and the register bits set in it, each as (register address, bit): W1C bits
  that the hardware set, and W1S bits that were written while an earlier request stood. -/
  setBits : Nat × List (Nat × Nat)
  /-- Commands waiting, first in first out. -/
  pending : List Instr
  deriving DecidableEq, Repr

/-- The reasons a step can fault: none. Every command of the table has an effect that the manual gives, and an access
error of the fabric is such an effect (R98). -/
inductive Fault where
  deriving DecidableEq, Repr

/-- The reasons a step can be refused. -/
inductive Refusal where
  /-- Raised by the dispatch for a command that has no meaning yet. Safe: the model stops. -/
  | notModelled (mnemonic : String)
  deriving DecidableEq, Repr

/-- The module right after a power-on reset through VIN_A: state BOOT, every register at its reset value, memory with
nothing listed (R8, R57, R90, R127, R446, R453, R520, R546). -/
def State.reset : State :=
  { now := 0, free := 0, sys := Sys.reset .powerOn, fs := FrameSeq.reset, hub := Hub.reset, rtc := Rtc.reset,
    pwr := Power.reset, sil := Sillage.reset, twin := Twin.reset false false, pairs := Pairs.reset,
    fab := Fabric.reset, acc := AccordUnit.reset, se := Vector.replicate 4 SolverEngine.reset,
    loops := Loops.reset, plan := Planner.reset, prog := Programs.reset, mtr := Meter.reset (none, none) false,
    can := Vector.replicate 8 CanPort.reset,
    dio := Dio.reset, key := Keys.reset, net := Net.reset Ptp.reset Hist.reset, run := default, mem := [], setBits := (0, []),
        pending := [] }

end Sys2Proof.Machine
end

