-- ==== Sys2Proof/Machine/Ops.lean ====
section
/-! DEFINITION. Shared operations over the state: time and the clock domains (R47, R573), module conditions, grants
(R89, R98), and changes of one sub-state. -/

namespace Sys2Proof.Machine

/-! ### Time -/

/-- Master-VCO cycles of one PERI cycle (R47). -/
def periV : Nat := 40

/-- Master-VCO cycles of one FAB cycle (R47). -/
def fabV : Nat := 10

/-- Master-VCO cycles of one SOLV cycle (R47). -/
def solvV : Nat := 5

/-- Master-VCO cycles of one SEC cycle (R47). -/
def secV : Nat := 20

/-- Master-VCO cycles of 1 µs (R47). -/
def usV : Nat := 4000

/-- TB: one count per 10 PERI cycles since PLL A locked (R34, R46, R57). -/
def State.tb (s : State) : Nat := s.now / 400

/-- Round position of the present FAB cycle (R573). -/
def State.pos (s : State) : Nat := s.now / fabV % 256

/-- The state at a later time; time never runs back. -/
def State.to (t : Nat) (s : State) : State := { s with now := max s.now t }

/-- The state some cycles later. -/
def State.wait (d : Nat) (s : State) : State := { s with now := s.now + d }

/-- The first PERI edge at or after a master-VCO cycle (R47, R48). -/
def periEdge (t : Nat) : Nat := ceilDiv t periV * periV

/-- Master-VCO cycle of the next top tick: the end of the present note, or the PERI edge at which START's first note begins
(R42, R499, R501). -/
def State.nextTick (s : State) : Nat :=
  if s.fs.started then s.fs.tickAt + periV * s.fs.noteLen else periEdge (s.pwr.startAt + s.pwr.lead)

/-! ### Module conditions -/

/-- The module runs: powered, not halted and not held in reset; a reset that waits for its captures has not yet taken effect
(R337, R496, R506, R513). -/
def State.alive (s : State) : Bool := s.pwr.powered && !s.pwr.halted && !(s.pwr.inReset && s.pwr.deferred.isNone)

/-- Notes run: every state from START on, but not DRYDOWN; in SAFE_HOLD, when they ran before it (R5, R35, R499, R511). -/
def State.notesRun (s : State) : Bool :=
  s.alive && (match s.sys.state with
    | .start | .service | .commissioning | .test | .recovery => true
    | .safeHold => s.acc.locked && s.fs.started
    | .boot | .configure | .drydown => false)

/-- One of the four running states in which CONFIGURE commands and amendments are accepted (R76, R82). -/
def State.running (s : State) : Bool :=
  match s.sys.state with
  | .service | .commissioning | .test | .recovery => true
  | .boot | .configure | .start | .drydown | .safeHold => false

/-- The plant may be acted on: START or a running state (R5). -/
def State.acting (s : State) : Bool := s.alive && (s.running || s.sys.state == .start)

/-! ### Bits set in the present PERI cycle (R12) -/

/-- A register bit is set in the present PERI cycle. -/
def State.setBit (addr i : Nat) (s : State) : State :=
  { s with setBits := (s.now / periV,
      if s.setBits.1 = s.now / periV then (addr, i) :: s.setBits.2 else [(addr, i)]) }

/-- A register bit is set in the present PERI cycle when a condition holds. -/
def State.setIf (c : Bool) (addr i : Nat) (s : State) : State := if c then s.setBit addr i else s

/-- A register bit has been set in the present PERI cycle. -/
def State.setNow (s : State) (addr i : Nat) : Bool :=
  s.setBits.1 == s.now / periV && s.setBits.2.contains (addr, i)

/-- The hardware clears a W1S bit of a register in the present PERI cycle. -/
def State.dropBit (addr i : Nat) (s : State) : State := s.setBit addr (i + 32)

/-- The hardware has cleared a W1S bit in the present PERI cycle: a 1 written in the same cycle leaves the bit set (R12). -/
def State.droppedNow (s : State) (addr i : Nat) : Bool := s.setNow addr (i + 32)

/-- The ones of a value written to W1C bits of a register that clear: a bit that the hardware set in the same PERI cycle stays
set (R12). -/
def State.clears (s : State) (addr v : Nat) : Nat :=
  ((List.range 32).map fun i => if bitAt v i && !s.setNow addr i then 2 ^ i else 0).sum

/-- The CORE edge at which a core issues its next instruction (R47, R54). -/
def Core.issueAt (now : Nat) (c : Core) : Nat := ceilDiv (max now c.at_) 4 * 4

/-- The CORE edge at which a pair issues its next instruction. -/
def State.issue (s : State) (p : Fin 9) : Nat := s.pairs.p[p].core.issueAt s.now

/-! ### Initiators and grants -/

/-- The supervisor role (R89). -/
def isSuper (w : Initiator) : Bool := w == .role 0

/-- The supervisor role or the security core pair (R89, R125, R445, R454, R519). -/
def isSuperSec (w : Initiator) : Bool := w == .role 0 || w == .security

/-- Number of the register block of a PERI address: bits [22:16] (R95). -/
def blockOf (addr : Nat) : Nat := addr / 65536 % 128

/-- MEMORY grants the initiator the register block. Until an accord is applied there is no MEMORY section to check, and
every initiator is taken as granted (DEDUCED, log entry 9). -/
def State.granted (s : State) (w : Initiator) (blk : Nat) : Bool :=
  !s.acc.locked || s.run.mem.grants.contains (blk, w.code)

/-- A region of MEMORY lets the initiator make the access over the whole range; before an accord every access is taken as
granted (DEDUCED, log entry 9). -/
def State.regionOk (s : State) (w : Initiator) (a n : Nat) (write : Bool) : Bool :=
  !s.acc.locked || s.run.mem.regions.any fun r =>
    r.owner == w.code && decide (r.base ≤ a) && decide (a + n ≤ r.base + r.size) && (if write then r.write else r.read)

/-! ### Changes of one sub-state -/

/-- The state with SYS changed. -/
def State.modSys (f : Sys → Sys) (s : State) : State := { s with sys := f s.sys }

/-- The state with the frame sequencer changed. -/
def State.modFs (f : FrameSeq → FrameSeq) (s : State) : State := { s with fs := f s.fs }

/-- The state with the event hub changed. -/
def State.modHub (f : Hub → Hub) (s : State) : State := { s with hub := f s.hub }

/-- The state with the real-time clock changed. -/
def State.modRtc (f : Rtc → Rtc) (s : State) : State := { s with rtc := f s.rtc }

/-- The state with the power block changed. -/
def State.modPwr (f : Power → Power) (s : State) : State := { s with pwr := f s.pwr }

/-- The state with the sillage changed. -/
def State.modSil (f : Sillage → Sillage) (s : State) : State := { s with sil := f s.sil }

/-- The state with the twin changed. -/
def State.modTwin (f : Twin → Twin) (s : State) : State := { s with twin := f s.twin }

/-- The state with the pairs changed. -/
def State.modPairs (f : Pairs → Pairs) (s : State) : State := { s with pairs := f s.pairs }

/-- The state with the fabric changed. -/
def State.modFab (f : Fabric → Fabric) (s : State) : State := { s with fab := f s.fab }

/-- The state with the accord unit changed. -/
def State.modAcc (f : AccordUnit → AccordUnit) (s : State) : State := { s with acc := f s.acc }

/-- The state with one solver engine changed. -/
def State.modSe (n : Fin 4) (f : SolverEngine → SolverEngine) (s : State) : State := { s with se := upd s.se n f }

/-- The state with the loop engines changed. -/
def State.modLoops (f : Loops → Loops) (s : State) : State := { s with loops := f s.loops }

/-- The state with one loop engine changed. -/
def State.modLe (n : Fin 2) (f : LoopEngine → LoopEngine) (s : State) : State :=
  s.modLoops fun l => { l with le := upd l.le n f }

/-- The state with the planner changed. -/
def State.modPlan (f : Planner → Planner) (s : State) : State := { s with plan := f s.plan }

/-- The state with the PROG block changed. -/
def State.modProg (f : Programs → Programs) (s : State) : State := { s with prog := f s.prog }

/-- The state with one partition changed. -/
def State.modPart (p : Fin 4) (f : PartSt → PartSt) (s : State) : State :=
  s.modProg fun q => { q with p := upd q.p p f }

/-- The state with the metering engine changed. -/
def State.modMtr (f : Meter → Meter) (s : State) : State := { s with mtr := f s.mtr }

/-- The state with one CAN port changed. -/
def State.modCan (n : Fin 8) (f : CanPort → CanPort) (s : State) : State := { s with can := upd s.can n f }

/-- The state with the DIO block changed. -/
def State.modDio (f : Dio → Dio) (s : State) : State := { s with dio := f s.dio }

/-- The state with the key store or field access changed. -/
def State.modKey (f : Keys → Keys) (s : State) : State := { s with key := f s.key }

/-- The state with the network blocks changed. -/
def State.modNet (f : Net → Net) (s : State) : State := { s with net := f s.net }

/-- The state with the exchange engine changed. -/
def State.modXsx (f : Xsx → Xsx) (s : State) : State := s.modNet fun n => { n with xsx := f n.xsx }

/-- The state with the PTP block changed. -/
def State.modPtp (f : Ptp → Ptp) (s : State) : State := s.modNet fun n => { n with ptp := f n.ptp }

/-- The state with one Ethernet port changed. -/
def State.modEth (k : Fin 4) (f : EthPort → EthPort) (s : State) : State :=
  s.modNet fun n => { n with eth := upd n.eth k f }

/-- The state with the register value an initiator reads, when it has a command of its own. -/
def State.answer (w : Initiator) (d : Nat) (s : State) : State :=
  s.modFab fun f => { f with answers := Tbl.set w.code (Answer.ofData d) f.answers }

/-! ### Writes of shared memory -/

/-- A write breaks the reservations that other initiators hold on its 64-byte granules; the writer is named by its code (R103). -/
def Fabric.breakOthers (code a n : Nat) (f : Fabric) : Fabric :=
  { f with resv := f.resv.filter fun r => r.1 == code || !(decide (a / 64 ≤ r.2) && decide (r.2 ≤ (a + (n - 1)) / 64)) }

/-- The engine whose solver SRAM holds an address (R95). -/
def seOf (a : Nat) : Option (Fin 4) :=
  if 0x20000000 ≤ a ∧ a < 0x24000000 ∧ a % 0x01000000 < 0x800000 then some ⟨(a - 0x20000000) / 0x01000000 % 4, by omega⟩
  else none

/-- The bytes that a write replaces in the solver SRAM of a running engine, kept until its operation ends: an element that the
operation read before the write had its old value (R158). -/
def State.keepOld (a n : Nat) (s : State) : State :=
  match seOf a with
  | some e =>
    match s.se[e].job with
    | some j => s.modSe e fun x => { x with
        job := some { j with old := j.old ++ (List.range n).map fun i => (a + i, Mem.read (a + i) s.mem) } }
    | none => s
  | none => s

/-- Bytes written to shared memory by an initiator, or by a block that is none: the reservations of others on those granules
break (R103), and a running solver operation may still have read the bytes replaced (R158). -/
def State.busWrite (code a : Nat) (bs : List Byte) (s : State) : State :=
  let s1 := s.keepOld a bs.length
  ({ s1 with mem := Mem.writeN s1.mem a bs }).modFab (Fabric.breakOthers code a bs.length)

/-- Code of a writer that holds no reservation of its own. -/
def noCode : Nat := 64

/-- The pair of a role runs: it has not failed, and the role is not between instants 1 and 4 of a migration (R111, R117). -/
def State.roleUp (s : State) (r : Fin 7) : Bool :=
  !s.pairs.p[s.pairs.place[r].castSucc].isolated && !(s.pairs.running && s.pairs.migRole == r.val)

/-- The debug module and its system-bus access are open: field access at DEBUG, with JTAG debug among TRUST's METHODS where an accord runs
(R477, R481, R482). -/
def State.debugOpen (s : State) : Bool :=
  s.key.level == 3 && decide (s.now < s.key.openEnd) && (!s.acc.locked || bitAt s.run.trust.methods 3)

/-- An initiator's commands reach the module: it is alive, and the pair whose role makes them runs. A failed pair's port is isolated,
the slots of its role stay idle, and the spare is held until instant 4; debug system-bus access needs DEBUG (R111, R116, R117, R481). -/
def State.acts (s : State) (w : Initiator) : Bool :=
  s.alive && (match w with
    | .role r => s.roleUp r
    | .bestEffort k => (k.val != 7 || s.roleUp 6) && (k.val != 3 || s.debugOpen)
    | .security | .solver _ | .loop _ | .metering | .canDma | .ethRt | .xsx | .dio | .sillage => true)

/-- The pair that serves a target of the hub (R430). -/
def State.pairOfTarget (s : State) (t : Fin 9) : Option (Fin 9) :=
  if h : t.val < 7 then some ((s.pairs.place[t.val]).castSucc)
  else if t.val = 7 then (if s.pairs.spareRole = 15 then some s.pairs.spare.castSucc else none)
  else some 8

end Sys2Proof.Machine
end

