-- ==== Sys2Proof/Machine/Flags.lean ====
section
/-! DEFINITION. Events and entries: how a source assertion is counted, made due, selected and signalled (R430 to R444),
and how an entry reaches the sillage writer's queue (R522 to R525). -/

namespace Sys2Proof.Machine

/-! ### Routes of the hub -/

/-- The configured route of a source. -/
def Hub.route (h : Hub) (src : Nat) : Route := Tbl.getD h.routes src Route.reset

/-- The fixed second route of a source 32 to 39 (R433). -/
def Hub.route2 (h : Hub) (src : Nat) : Route := Tbl.getD h.second src Route.fixed

/-- The route that a pair of source and route kind names. -/
def Hub.routeOf (h : Hub) (src : Nat) (second : Bool) : Route := if second then h.route2 src else h.route src

/-- The hub with one route changed. -/
def Hub.setRoute (h : Hub) (src : Nat) (second : Bool) (r : Route) : Hub :=
  if second then { h with second := Tbl.set src r h.second } else { h with routes := Tbl.set src r h.routes }

/-- A route becomes due (R439). -/
def Route.makeDue (r : Route) : Route :=
  { r with st := match r.st with
      | .inactive => .pending | .pending => .pending | .active => .activePending | .activePending => .activePending }

/-- One assertion reaches a route on a PERI edge: the counter increments, and the route becomes due when it reaches COUNT; a second
assertion on the same edge counts as the same one (R432, R440). -/
def Route.count1 (edge : Nat) (r : Route) : Route :=
  if r.lastEdge = some edge then r
  else
    let r' := { r with counter := satInc 65535 r.counter, first := if r.counter = 0 then some edge else r.first,
                       lastEdge := some edge }
    if r.count ≤ r'.counter then r'.makeDue else r'

/-- A route whose counter has reached COUNT is due, also where a new rule lowered COUNT (R440). -/
def Route.recheck (r : Route) : Route := if r.counter ≠ 0 ∧ r.count ≤ r.counter then r.makeDue else r

/-- A route is pending on its target (R439). -/
def Route.isPending (r : Route) : Bool := r.st == .pending || r.st == .activePending

/-- Group priority of a priority under PRIGROUP g: bits [7:g+1] (R434). -/
def groupOf (g prio : Nat) : Nat := prio / 2 ^ (g + 1)

/-- A route can be taken by its target: enabled, with no hold and no global DISABLE (R441), and an accord applied
(R446). -/
def State.deliverable (s : State) (r : Route) (t : Fin 9) : Bool :=
  r.enable && r.target == t.val && !s.hub.disable && !s.hub.tgt[t].held && s.acc.locked

/-- The more urgent of two candidates: priority, then source number (R435). -/
def urgent (a b : Option (Nat × Nat × Bool)) : Option (Nat × Nat × Bool) :=
  match a, b with
  | none, b => b
  | a, none => a
  | some x, some y => if y.1 < x.1 || (y.1 == x.1 && y.2.1 < x.2.1) then some y else some x

/-- The candidate that one table entry gives a target: priority, source and route kind. -/
def State.candidate (s : State) (t : Fin 9) (second : Bool) (e : Nat × Route) : Option (Nat × Nat × Bool) :=
  if e.2.st == .pending && s.deliverable e.2 t then some (e.2.prio, e.1, second) else none

/-- The source that the hub selects for a target among its deliverable pending routes (R435, R436): the most urgent one,
if its group is strictly more urgent than that of the top of the stack, and the stack has room. -/
def State.select (s : State) (t : Fin 9) : Option (Nat × Bool) :=
  let best := (s.hub.routes.map (s.candidate t false) ++ s.hub.second.map (s.candidate t true)).foldl urgent none
  let tg := s.hub.tgt[t]
  match best with
  | none => none
  | some (p, src, k) =>
    match tg.stack with
    | [] => some (src, k)
    | top :: _ =>
      if tg.stack.length < 8 && groupOf tg.prigroup p < groupOf tg.prigroup (s.hub.routeOf top.src top.second).prio
      then some (src, k) else none

/-- Some deliverable source of a target is pending (R441, R443). -/
def State.anyPending (s : State) (t : Fin 9) : Bool :=
  (s.hub.routes.any fun e => (s.candidate t false e).isSome) || (s.hub.second.any fun e => (s.candidate t true e).isSome)

/-- FAB cycles a delivery to a target takes beyond its base count, for a route that becomes deliverable at a master-VCO cycle: the
restart and restore of a resting pair, and the rest of a save that is running (R442, R443). -/
def State.restDelay (s : State) (base : Nat) (t : Fin 9) : Nat :=
  let tg := s.hub.tgt[t]
  if tg.resting then ceilDiv (tg.saveEnd - base) fabV + 28 else 0

/-- The port of a target is signalled when the hub selects a source for it, `lat` FAB cycles after the master-VCO cycle at which
the route became deliverable (R442). A delivery already signalled stands while its source stays pending (R441). -/
def State.signal (base lat : Nat) (t : Fin 9) (s : State) : State :=
  let tg := s.hub.tgt[t]
  match s.select t, tg.port with
  | some (src, k), none =>
    let at_ := base + fabV * (lat + s.restDelay base t)
    { s with hub := { s.hub with tgt := s.hub.tgt.set t { tg with port := some (src, k, at_), resting := false } } }
  | some (src, k), some (_, _, at_) =>
    { s with hub := { s.hub with tgt := s.hub.tgt.set t { tg with port := some (src, k, at_) } } }
  | none, some (src, k, at_) =>
    let keep := (s.hub.routeOf src k).st == .pending && !tg.held
    { s with hub := { s.hub with
        tgt := s.hub.tgt.set t { tg with port := if keep then some (src, k, at_) else none } } }
  | none, none => s

/-- The ports of all targets are looked at again, from the first PERI edge at or after the present cycle (R48, R432). -/
def State.signalAll (lat : Nat) (s : State) : State :=
  (List.finRange 9).foldl (fun s t => s.signal (periEdge s.now) lat t) s

/-- One assertion of a source reaches its configured route and, for sources 32 to 39, the fixed second route (R433,
R440). -/
def State.assertOne (src : Nat) (s : State) : State :=
  let h1 := s.hub.setRoute src false ((s.hub.route src).count1 (periEdge s.now))
  let h2 := if 32 ≤ src ∧ src ≤ 39 then h1.setRoute src true ((h1.route2 src).count1 (periEdge s.now)) else h1
  { s with hub := h2 }

/-- A source asserts: it reaches the hub on the first PERI edge at or after its own, is counted there, and its targets are
signalled 7 FAB cycles later (R432, R442). -/
def State.raise (src : Nat) (s : State) : State := (s.assertOne src).signalAll 7

/-- A block's event i asserts source base + i when bit i of the block's EVT_EN is set; otherwise it leaves no trace
(R441). -/
def State.raiseEn (en base i : Nat) (s : State) : State := if bitAt en i then s.raise (base + i) else s

/-! ### Entries of the sillage -/

/-- An entry is raised: it joins the writer's queue, or is lost when the queue is full (R524, R525). -/
def State.enter (e : SilEntry) (s : State) : State :=
  if s.sil.queue.length < 64 then
    { s with sil := { s.sil with queue := s.sil.queue ++ [e] } }
  else
    let first := if s.sil.losses.1 = 0 then (s.sil.head + s.sil.queue.length) % 2 ^ 32 else s.sil.losses.2
    (({ s with sil := { s.sil with
        losses := (s.sil.losses.1 + 1, first), lost := satInc (2 ^ 32 - 1) s.sil.lost, lostFlag := true } }).setBit 0x40600104 28).raiseEn
      s.sil.evtEn 296 1

/-- An entry with the time of the present PERI edge (R522). -/
def State.entry (s : State) (block inst cls num : Nat) (payload : List Byte) : SilEntry :=
  { tb := s.tb, tnc := s.fs.tnc % 2 ^ 32, block := block, inst := inst, cls := cls, num := num, payload := payload }

/-- A block writes a sillage entry (R522, R523). -/
def State.log (block inst cls num : Nat) (payload : List Byte) (s : State) : State :=
  s.enter (s.entry block inst cls num payload)

/-- Block codes of R522. -/
def silSYS : Nat := 0x01
/-- FAB. -/
def silFAB : Nat := 0x02
/-- PAIR. -/
def silPAIR : Nat := 0x03
/-- EVH. -/
def silEVH : Nat := 0x04
/-- RTC. -/
def silRTC : Nat := 0x05
/-- SE. -/
def silSE : Nat := 0x06
/-- LE. -/
def silLE : Nat := 0x07
/-- MTR. -/
def silMTR : Nat := 0x08
/-- CAN. -/
def silCAN : Nat := 0x09
/-- ETH, PTP. -/
def silETH : Nat := 0x0A
/-- XSX. -/
def silXSX : Nat := 0x0B
/-- DIO. -/
def silDIO : Nat := 0x0C
/-- KEY, ACC. -/
def silKEY : Nat := 0x0D
/-- PWR. -/
def silPWR : Nat := 0x0E
/-- SIL. -/
def silSIL : Nat := 0x0F
/-- PROG. -/
def silPROG : Nat := 0x10
/-- TWIN. -/
def silTWIN : Nat := 0x11

/-! ### Errors of the fabric's memories (R98, R99) -/

/-- Corrected errors of on-chip memory are counted in FAB_ECC (R99). -/
def State.corrected (k : Nat) (s : State) : State := s.modFab fun f => { f with eccCor := satAdd 65535 f.eccCor k }

/-- An uncorrectable error of on-chip memory is counted in FAB_ECC, with source 49 (R99). -/
def State.uncorrected (s : State) : State := (s.modFab fun f => { f with eccUnc := satInc 65535 f.eccUnc }).raise 49

/-- FAB_ERR_INFO (R125). -/
def Fabric.errInfo (f : Fabric) : Nat :=
  flag f.errValid 31 + put f.errCause 16 2 + put f.errAccess 14 2 + put f.errOwner 8 6 + put f.errPos 0 8

/-- An access error as the fabric records it: OWNER, ACCESS, CAUSE, address and round position (R98, R125). -/
structure AccessError where
  /-- OWNER. -/
  owner : Nat
  /-- ACCESS. -/
  access : Nat
  /-- CAUSE. -/
  cause : Nat
  /-- Address. -/
  addr : Nat
  /-- POSITION. -/
  pos : Nat
  deriving DecidableEq, Repr

/-- FAB_ERR_INFO.ACCESS of an access kind. -/
def kindCode : FabKind → Nat
  | .read => 0 | .write => 1 | .amo _ => 2 | .lr => 2 | .sc => 2 | .fetch => 3

/-- An access error: recorded when no earlier one stands, with source 48 and an entry (R98). OWNER is the code of R100, or the
best-effort code less 0x20 with bit 5 set, which is the code itself. -/
def State.accessError (e : AccessError) (s : State) : State :=
  let s1 := s.modFab fun f =>
    if f.errValid then f
    else { f with errValid := true, errCause := e.cause, errAccess := e.access, errOwner := e.owner, errPos := e.pos,
                  errAddr := e.addr }
  ((if s.fab.errValid then s1 else s1.setBit 0x40030120 31).raise 48).log silFAB 0 3 48 (toLe 4 s1.fab.errInfo ++ toLe 5 e.addr
      ++ toLe 1 e.owner)

/-- Block and instance of R522 for a PERI address. -/
def silOf (addr : Nat) : Nat × Nat :=
  let k := blockOf addr
  if k = 0 then (silSYS, 0) else if k = 1 then (silEVH, 0) else if k = 2 then (silRTC, 0) else if k = 3 then (silFAB, 0)
  else if k = 4 then (silPAIR, 0) else if 0x10 ≤ k ∧ k ≤ 0x13 then (silSE, k - 0x10)
  else if k = 0x14 ∨ k = 0x15 then (silLE, k - 0x14) else if k = 0x18 then (silMTR, 0)
  else if 0x20 ≤ k ∧ k ≤ 0x27 then (silCAN, k - 0x20) else if 0x30 ≤ k ∧ k ≤ 0x33 then (silETH, k - 0x30)
  else if k = 0x34 then (silETH, 0) else if k = 0x35 then (silXSX, 0) else if k = 0x40 then (silDIO, 0)
  else if k = 0x50 ∨ k = 0x51 then (silKEY, 0)
  else if k = 0x60 then (if addr % 65536 < 256 then (silPWR, 0) else (silSIL, 0))
  else if k = 0x70 then (silPROG, 0) else (silTWIN, 0)

/-- A register write is refused: entry 0x140 with class 4 for an initiator without a grant and class 2 for an RWL field
after the accord has been applied (R11, R523). -/
def State.refuse (cls addr : Nat) (w : Initiator) (v : Nat) (s : State) : State :=
  let b := silOf addr
  s.log b.1 b.2 cls 0x140 (toLe 8 addr ++ toLe 1 w.code ++ toLe 4 v)

/-- A register write that only some initiators may make: `ok` says whether this one may. -/
def State.guardWrite (ok : Bool) (addr : Nat) (w : Initiator) (v : Nat) (f : State → State) (s : State) : State :=
  if ok then f s else s.refuse 4 addr w v

/-! ### SYS_STATE -/

/-- A state transition: STATE and PREV_STATE change, source 9 asserts and an entry is written (R5, R502). -/
def State.enterState (m : ModState) (s : State) : State :=
  if s.sys.state = m then s
  else
    let s1 := s.modSys fun y => { y with state := m, prev := y.state }
    (s1.raise 9).log silSYS 0 1 9 (toLe 4 (s1.sys.kind.code * 256 + s1.sys.prev.code * 16 + m.code))

end Sys2Proof.Machine
end

