-- ==== Sys2Proof/Machine/Checkpoint.lean ====
section
/-! DEFINITION. The master copy of a role, its sealed log, and the checkpoints of a partition (R96, R112 to R114, R268, R297 to
R300). -/

namespace Sys2Proof.Machine

/-- First address of the master-copy area of a role (R96). -/
def masterBase (r : Nat) : Nat := 0x10000000 + r * 0xD0000

/-- The bytes of a memory in a range, as a memory of its own. -/
def Mem.window (m : Mem) (a n : Nat) : Mem :=
  (m.filter fun p => a ≤ p.1 && p.1 < a + n).map fun p => (p.1 - a, p.2)

/-- The lane applies a sealed log to the master copy (R113 phase 3). -/
def State.applyLog (r : Fin 7) (s : State) : State :=
  match s.pairs.log[r] with
  | none => s
  | some lines =>
    { s with
      mem := lines.foldl (fun m l => Mem.writeN m (masterBase r.val + 0x80000 + 64 * l.1) l.2) s.mem
      pairs := { s.pairs with log := s.pairs.log.set r none } }

/-- The record of a partition that is in use. -/
def State.partCfg (s : State) (p : Fin 4) : Option PartCfg := s.run.prog.parts.find? fun c => c.part == p.val + 1

/-- The role of a partition (R268). -/
def partRole (p : Fin 4) : Fin 7 := ⟨p.val + 1, by omega⟩

/-- Offset of the committed variables in D-TCM: the mirrored region of the role (R112, R268). -/
def State.dataOfs (s : State) (p : Fin 4) : Nat :=
  ((s.run.mem.mirror.find? fun m => m.1 == p.val + 1).map (·.2.1)).getD 0

/-- The committed variables in the master copy. -/
def State.masterData (s : State) (p : Fin 4) : List Byte :=
  Mem.readN s.mem (masterBase (p.val + 1) + 0x80000 + s.dataOfs p) s.prog.p[p].dataLen

/-- The two checkpoint buffers of a partition. -/
def State.ckptBufs (s : State) (p : Fin 4) : Option (Nat × Nat) :=
  (s.run.mem.ckpt.find? fun c => c.1 == p.val + 1).map fun c => (c.2.1, c.2.2.1)

/-- A buffer holds a valid checkpoint (R297). -/
def State.ckptValid (s : State) (a : Nat) : Bool :=
  Mem.le s.mem a 4 == 0x4B434A58 && Mem.le s.mem (a + 0xFC) 4 == 0xA5A5

/-- The newest valid checkpoint buffer (R303). -/
def State.ckptNewest (s : State) (p : Fin 4) : Option Nat :=
  match s.ckptBufs p with
  | none => none
  | some (a, b) =>
    match s.ckptValid a, s.ckptValid b with
    | true, true => some (if Mem.le s.mem (a + 8) 8 < Mem.le s.mem (b + 8) 8 then b else a)
    | true, false => some a
    | false, true => some b
    | false, false => none

/-- A checkpoint header with VALID (R297). -/
def State.ckptHeader (s : State) (p : Fin 4) (tnc : Nat) (full : Bool) (st : Nat) : List Byte :=
  let x := s.prog.p[p]
  toLe 4 0x4B434A58 ++ toLe 1 (p.val + 1) ++ toLe 1 st ++ toLe 1 (if x.recovery then 1 else 0)
    ++ toLe 1 (if full then 1 else 0) ++ toLe 8 x.seq ++ toLe 8 tnc ++ toLe 4 x.dataLen ++ zeros 4
    ++ (padTo 64 x.digest).take 64 ++ (padTo 64 x.symDig).take 64 ++ zeros 92 ++ toLe 4 0xA5A5

/-- The buffer that does not hold the newest valid checkpoint. -/
def State.ckptDst (s : State) (p : Fin 4) : Option Nat :=
  (s.ckptBufs p).map fun c => if s.ckptNewest p = some c.1 then c.2 else c.1

/-- The other checkpoint buffer. -/
def State.ckptOther (s : State) (p : Fin 4) (a : Nat) : Option Nat := (s.ckptBufs p).map fun c => if a = c.1 then c.2 else c.1

/-- A checkpoint is written from the master copy, as it stood at the tick, into the buffer that does not hold the newest valid
one. SEQ restarts at CONFIGURE, so that the first checkpoint after it, once valid, clears VALID of the other buffer, whose SEQ may be
higher (R297, R298, R303; DESIGN CHOICE, log entry 26). -/
def State.writeCkpt (p : Fin 4) (tnc : Nat) (full : Bool) (st : Nat) (s : State) : State :=
  match s.ckptDst p with
  | none => s.modPart p fun x => { x with ckpt := none }
  | some dst =>
    let m1 := Mem.writeN s.mem (dst + 0xFC) (zeros 4)
    let m2 := Mem.writeN m1 (dst + 256) (s.masterData p)
    let m3 := Mem.writeN m2 dst (s.ckptHeader p tnc full st)
    let m4 := match s.ckptOther p dst with
      | some a => if s.prog.p[p].seq = 1 then Mem.writeN m3 (a + 0xFC) (zeros 4) else m3
      | none => m3
    { s with mem := m4 }.modPart p fun x =>
      { x with seq := wrapInc 64 x.seq, full := false, ckpt := none }

/-- The running checkpoint of a partition ends (R298). -/
def State.endCkpt (p : Fin 4) (s : State) : State :=
  match s.prog.p[p].ckpt with
  | some (tnc, full, st) => s.writeCkpt p tnc full st
  | none => s

/-- The partition whose role it is. -/
def rolePart (r : Fin 7) : Option (Fin 4) := if h : 1 ≤ r.val ∧ r.val ≤ 4 then some ⟨r.val - 1, by omega⟩ else none

/-- A checkpoint of the role's partition runs, so that an apply phase waits (R299). -/
def State.ckptRuns (s : State) (r : Fin 7) : Bool :=
  match rolePart r with | some p => s.prog.p[p].ckpt.isSome | none => false

/-- An apply phase that could not wait longer: the checkpoint it waits for ends first (R299). -/
def State.applyWait (r : Fin 7) (s : State) : State :=
  match s.pairs.log[r], rolePart r with
  | some _, some p => (s.endCkpt p).applyLog r
  | some _, none => s.applyLog r
  | none, _ => s

end Sys2Proof.Machine
end

