-- ==== Sys2Proof/Machine/EventHub.lean ====
section
/-! DEFINITION. The event hub: assertion, coalescing, entry, completion, rest and its registers (R430 to R446). -/

namespace Sys2Proof.Machine

/-- The core takes a trap: mepc holds the pc, mcause and mtval the cause, MPIE the old MIE, MIE clears, the mode becomes
machine mode and the pc goes to the vector (R437; the RISC-V trap rules, PRESUMED, log entry 12). -/
def Core.trap (c : Core) (interrupt : Bool) (code : Nat) (tval : DWord) : Core :=
  let base := c.mtvec &&& ~~~(3 : DWord)
  let target := if interrupt && c.mtvec &&& 1 == 1 then base + BitVec.ofNat 64 (4 * code) else base
  { c with mepc := c.pc, mcause := BitVec.ofNat 64 code ||| (if interrupt then (1 : DWord) <<< 63 else 0),
           mtval := tval, mpie := c.mie, mie := false, mpp := c.machine, machine := true, pc := target, wfi := false }

/-- The state with the core of a pair changed. -/
def State.modCore (p : Fin 9) (f : Core → Core) (s : State) : State :=
  s.modPairs fun q => { q with p := upd q.p p fun r => { r with core := f r.core } }

/-! ### Commands -/

/-- EVENT_ASSERTION: the sources that pulse on one PERI edge; a source named twice counts as one assertion (R432, R440). -/
def execEventAssertion (srcs : List (Fin 320)) (s : State) : Host.Outcome State Fault Refusal :=
  if s.alive then
    .next (((srcs.map (·.val)).eraseDups.foldl (fun s k => s.assertOne k) s).signalAll 7)
  else .next s

/-- The first 1 µs strobe, every 100 PERI cycles from the lock of PLL A, that comes more than TIME µs after a cycle
(R440). -/
def strobeAfter (first time : Nat) : Nat := ((first + time * usV) / usV + 1) * usV

/-- COALESCE_TIMEOUT: TIME is not 0 and the counter at least 1, so the source becomes due once (R440). -/
def execCoalesceTimeout (src : Fin 320) (s : State) : Host.Outcome State Fault Refusal :=
  let r := s.hub.route src
  match s.alive && r.time != 0 && decide (1 ≤ r.counter), r.first with
  | true, some t0 =>
    .next ((((s.to (strobeAfter t0 r.time)).modHub fun h => h.setRoute src false r.makeDue).setBit
      (0x40010100 + 4 * (src.val / 32)) (src.val % 32)).signalAll 7)
  | _, _ => .next s

/-- The claim of a source at entry: the route becomes active and hands its counter to the stack (R437, R440). -/
def State.claim (t : Fin 9) (src : Nat) (second : Bool) (s : State) : State :=
  let r := s.hub.routeOf src second
  let tg := s.hub.tgt[t]
  s.modHub fun h =>
    { h.setRoute src second { r with st := .active, counter := 0, first := none } with
      tgt := h.tgt.set t { tg with
        stack := { src := src, second := second, count := r.counter } :: tg.stack, port := none, resting := false } }

/-- The time of an entry: the signal reaches the core w + 1 CORE cycles after the port, and the first handler instruction follows 8
CORE cycles after that, or after the instruction still in progress then (R54, R442). -/
def Core.enterAt (sig : Nat) (c : Core) : Core :=
  let edge := ceilDiv sig 4 * 4
  let taken := max (edge + 4) c.at_
  { c with at_ := taken + 32, cycles := c.cycles + (taken - max edge c.at_) / 4 + 8 }

/-- EVENT_ENTRY: a signalled delivery is entered once MIE is set: the source is claimed and pushed, MIE clears and the
pair goes to its handler (R437, R442). -/
def execEventEntry (t : Fin 9) (s : State) : Host.Outcome State Fault Refusal :=
  match s.alive, s.hub.tgt[t].port, s.pairOfTarget t with
  | true, some (src, k, at_), some p =>
    let pr := s.pairs.p[p]
    if pr.core.mie && !pr.isolated && !pr.debugHalt then
      .next ((((s.to at_).claim t src k).modCore p fun c => (c.trap true 11 0).enterAt at_).signal (periEdge (s.to at_).now) 7 t)
    else .next s
  | _, _, _ => .next s

/-- The route of a completed handler: inactive, or pending again (R438, R439), with a waiting change of its routing
applied. -/
def Route.complete (r : Route) : Route :=
  let st := match r.st with
    | .activePending => RouteState.pending | .active => .inactive | .pending => .pending | .inactive => .inactive
  let r1 := match r.laterCoal with
    | none => { r with st := st } | some (t, c) => Route.recheck { r with st := st, time := t, count := c, laterCoal := none }
  match r1.later with
  | none => r1
  | some (t, p, e) =>
    if t = r1.target then { r1 with prio := p, enable := e, later := none }
    else { r1 with st := .inactive, counter := 0, first := none, target := t, prio := p, enable := e, later := none }

/-- A write of EVDONE at a target: the stack pops when it names the top; otherwise DONE_ERR and entry 0x14A (R438). -/
def State.evDone (at_ : Nat) (t : Fin 9) (src : Nat) (s : State) : State :=
  let tg := s.hub.tgt[t]
  match tg.stack with
  | top :: rest =>
    if top.src = src then
      let r := (s.hub.routeOf top.src top.second).complete
      (s.modHub fun h => { h.setRoute top.src top.second r with tgt := h.tgt.set t { tg with stack := rest } }).signal
        ((ceilDiv at_ fabV + 1) * fabV) 3 t
    else
      ((s.modHub fun h => { h with tgt := h.tgt.set t { tg with doneErr := true } }).setBit (0x40010040 + 4 * t.val)
        29).log silEVH 0 2 0x14A
        (toLe 2 src ++ toLe 2 top.src ++ toLe 1 t.val)
  | [] =>
    ((s.modHub fun h => { h with tgt := h.tgt.set t { tg with doneErr := true } }).setBit (0x40010040 + 4 * t.val)
        29).log silEVH 0 2 0x14A
      (toLe 2 src ++ toLe 2 0x1FF ++ toLe 1 t.val)

/-- EVDONE (R438). -/
def execEvdone (t : Fin 9) (src : Fin 512) (s : State) : Host.Outcome State Fault Refusal :=
  .next (if s.alive then s.evDone (match s.pairOfTarget t with | some p => s.issue p | none => s.now) t src.val else s)

/-- EVH_SWGEN: any initiator with a grant of the EVH block asserts source 304 + INDEX (R431, R445). -/
def State.evhSwgen (w : Initiator) (v : Nat) (s : State) : State :=
  s.guardWrite (s.granted w 1) 0x40010004 w v fun s => s.raise (304 + v % 16)

/-- EVH_SWGEN. -/
def execEvhSwgen (who : Initiator) (v : Word) (s : State) : Host.Outcome State Fault Refusal :=
  .next (if s.acts who then s.evhSwgen who v.toNat else s)

/-- DISABLE takes effect at a PERI edge: a delivery whose signal comes later than the edge is not made, and one already signalled
stands (R441). -/
def Hub.setDisable (on : Bool) (edge : Nat) (h : Hub) : Hub :=
  { h with disable := on, tgt := if on then vmap h.tgt fun g => { g with port := g.port.filter fun x => decide (x.2.2 < edge) } else h.tgt }

/-- A write of EVH_CTRL: DISABLE holds or releases all deliveries (R441, R445). -/
def State.evhCtrl (w : Initiator) (v : Nat) (s : State) : State :=
  s.guardWrite (isSuperSec w) 0x40010000 w v fun s =>
    (s.modHub (Hub.setDisable (bitAt v 0) (periEdge s.now))).signalAll 7

/-- EVH_CTRL_WRITE. -/
def execEvhCtrlWrite (who : Initiator) (v : Word) (s : State) : Host.Outcome State Fault Refusal :=
  .next (if s.acts who then s.evhCtrl who v.toNat else s)

/-- The hub target of an initiator's own role (R430, R445). -/
def ownTarget (w : Initiator) : Nat :=
  match w with
  | .role r => r.val | .security => 8
  | .solver _ | .loop _ | .metering | .canDma | .ethRt | .xsx | .dio | .sillage | .bestEffort _ => 15

/-- Clearing a pending bit also clears the counter; an ACTIVE_AND_PENDING source stays ACTIVE (R441). -/
def Route.clearPend (r : Route) : Route :=
  { r with counter := 0, first := none, st := match r.st with
      | .pending => .inactive | .activePending => .active | .inactive => .inactive | .active => .active }

/-- The sources that the set bits of a write of EVH_PENDk name. -/
def pendSources (k v : Nat) : List Nat := ((List.range 32).filter (bitAt v)).map (32 * k + ·)

/-- A write of EVH_PENDk: set bits clear the pending state of sources routed to the writer's own target; another set bit
has no effect and the write is recorded (R441, R445). An assertion on the PERI edge of the write keeps its bit (R12). -/
def State.evhPend (w : Initiator) (k v : Nat) (s : State) : State :=
  let own := (pendSources k v).filter fun j => s.granted w 1 && (s.hub.route j).target == ownTarget w
  let s1 := ((own.filter fun j => (s.hub.route j).lastEdge != some (periEdge s.now)
      && !s.setNow (0x40010100 + 4 * k) (j % 32)).foldl (fun s j => s.modHub fun h =>
      h.setRoute j false (h.route j).clearPend) s).signalAll 7
  if own.length = (pendSources k v).length && s.granted w 1 then s1 else s1.refuse 4 (0x40010100 + 4 * k) w v

/-- EVH_PEND_CLEAR. -/
def execEvhPendClear (who : Initiator) (k : Fin 10) (v : Word) (s : State) : Host.Outcome State Fault Refusal :=
  .next (if s.acts who then s.evhPend who k.val v.toNat else s)

/-- A write of EVH_SRCs_CFG: a change of TARGET clears the pending state and the counter; a change to an active route
waits for its completion; target values 9 to 0xE leave the field unchanged (R433, R445). -/
def Route.writeCfg (v : Nat) (r : Route) : Route :=
  let old := match r.later with | some (t, _, _) => t | none => r.target
  let tv := fld v 19 16
  let t := if tv ≤ 8 ∨ tv = 15 then tv else old
  let en := bitAt v 31
  let p := fld v 7 0
  if r.st == .active || r.st == .activePending then { r with later := some (t, p, en) }
  else if t = r.target then { r with prio := p, enable := en }
  else { r with target := t, prio := p, enable := en, st := .inactive, counter := 0, first := none }

/-- A write of EVH_SRCs_COAL: COUNT 0 leaves the field unchanged (R440, R445). -/
def Route.writeCoal (v : Nat) (r : Route) : Route :=
  let old := match r.laterCoal with | some (_, c) => c | none => r.count
  let c := if fld v 7 0 = 0 then old else fld v 7 0
  if r.st == .active || r.st == .activePending then { r with laterCoal := some (fld v 31 16, c) }
  else Route.recheck { r with time := fld v 31 16, count := c }

/-- A write of a source register by the supervisor role or the security core pair (R445). -/
def State.evhSource (w : Initiator) (src : Nat) (coal : Bool) (v : Nat) (s : State) : State :=
  s.guardWrite (isSuperSec w) (0x40011000 + 8 * src + (if coal then 4 else 0)) w v fun s =>
    (s.modHub fun h => h.setRoute src false
      (if coal then (h.route src).writeCoal v else (h.route src).writeCfg v)).signalAll 7

/-- EVH_SOURCE_CONFIG_WRITE. -/
def execEvhSourceConfigWrite (who : Initiator) (src : Fin 320) (coal : Bool) (v : Word) (s : State) :
    Host.Outcome State Fault Refusal :=
  .next (if s.acts who then s.evhSource who src.val coal v.toNat else s)

/-- PAIR_REST: both cores have executed WFI, REST_EN is set and no deliverable source is pending, so the hub saves the
target's state in 12 FAB cycles and gates the clock (R443). -/
def execPairRest (t : Fin 9) (s : State) : Host.Outcome State Fault Refusal :=
  let tg := s.hub.tgt[t]
  match s.pairOfTarget t with
  | some p =>
    if s.alive && s.pairs.p[p].core.wfi && tg.restEn && tg.port.isNone && !s.anyPending t && !tg.held then
      .next (s.modHub fun h => { h with
        tgt := h.tgt.set t { tg with resting := true, saveEnd := s.now + 12 * fabV } })
    else .next s
  | none => .next s

/-! ### Registers -/

/-- A write of EVH_TGTt_CFG (R434, R443, R445). -/
def State.evhTgtCfg (w : Initiator) (t : Fin 9) (v : Nat) (s : State) : State :=
  s.guardWrite (isSuperSec w) (0x40010010 + 4 * t.val) w v fun s =>
    (s.modHub fun h => { h with tgt := upd h.tgt t fun g => { g with prigroup := fld v 18 16, restEn := bitAt v 8 } })
      |>.signalAll 7

/-- A write of EVH_TGTt_STATE: DONE_ERR is cleared by writing 1 (R10, R445). -/
def State.evhTgtState (w : Initiator) (t : Fin 9) (v : Nat) (s : State) : State :=
  s.guardWrite (isSuperSec w) (0x40010040 + 4 * t.val) w v fun s =>
    if bitAt (s.clears (0x40010040 + 4 * t.val) v) 29 then
      s.modHub fun h => { h with tgt := upd h.tgt t fun g => { g with doneErr := false } }
    else s

/-- EVCLAIM of a target: the top of its stack and its count (R437). -/
def State.evClaim (s : State) (t : Fin 9) : Nat :=
  match s.hub.tgt[t].stack with
  | [] => 0x1FF
  | a :: _ => put a.count 16 16 + put a.src 0 9

/-- The value of an EVH register at an offset of the block (R445); an offset without a register reads 0. -/
def State.evhRead (s : State) (ofs : Nat) : Nat :=
  if ofs = 0 then flag s.hub.disable 0
  else if h : 0x10 ≤ ofs ∧ ofs < 0x34 ∧ ofs % 4 = 0 then
    let g := s.hub.tgt[(ofs - 0x10) / 4]'(by omega)
    put g.prigroup 16 3 + flag g.restEn 8
  else if h : 0x40 ≤ ofs ∧ ofs < 0x64 ∧ ofs % 4 = 0 then
    let g := s.hub.tgt[(ofs - 0x40) / 4]'(by omega)
    flag g.resting 31 + flag g.held 30 + flag g.doneErr 29 + put g.stack.length 24 4
      + (match g.stack with | [] => 0x1FF | a :: _ => put a.src 0 9)
  else if 0x100 ≤ ofs ∧ ofs < 0x128 ∧ ofs % 4 = 0 then
    packBits ((List.range 32).map fun j => (s.hub.route (32 * ((ofs - 0x100) / 4) + j)).isPending)
  else if 0x1000 ≤ ofs ∧ ofs < 0x1A00 ∧ ofs % 4 = 0 then
    let r := s.hub.route ((ofs - 0x1000) / 8)
    if ofs % 8 = 0 then
      match r.later with
      | some (t, p, e) => flag e 31 + put t 16 4 + put p 0 8
      | none => flag r.enable 31 + put r.target 16 4 + put r.prio 0 8
    else match r.laterCoal with
      | some (t, c) => put t 16 16 + put c 0 8
      | none => put r.time 16 16 + put r.count 0 8
  else 0

/-- A write of an EVH register at an offset of the block (R445). -/
def State.evhWrite (s : State) (w : Initiator) (ofs v : Nat) : State :=
  if ofs = 0 then s.evhCtrl w v
  else if ofs = 4 then s.evhSwgen w v
  else if h : 0x10 ≤ ofs ∧ ofs < 0x34 ∧ ofs % 4 = 0 then s.evhTgtCfg w ⟨(ofs - 0x10) / 4, by omega⟩ v
  else if h : 0x40 ≤ ofs ∧ ofs < 0x64 ∧ ofs % 4 = 0 then s.evhTgtState w ⟨(ofs - 0x40) / 4, by omega⟩ v
  else if 0x100 ≤ ofs ∧ ofs < 0x128 ∧ ofs % 4 = 0 then s.evhPend w ((ofs - 0x100) / 4) v
  else if 0x1000 ≤ ofs ∧ ofs < 0x1A00 ∧ ofs % 4 = 0 then
    s.evhSource w ((ofs - 0x1000) / 8) (ofs % 8 == 4) v
  else s

/-- The target of a failed role is held from the isolation of its pair, and its port falls silent (R444). -/
def State.holdTarget (t : Fin 9) (s : State) : State :=
  s.modHub fun h => { h with tgt := upd h.tgt t fun g =>
    { g with held := true, port := none, resting := false } }

/-- At instant 1 of a migration the target's active stack empties: ACTIVE routes become INACTIVE and ACTIVE_AND_PENDING
ones PENDING (R444). -/
def State.emptyStack (t : Fin 9) (s : State) : State :=
  let st := s.hub.tgt[t].stack
  let s1 := st.foldl (fun s a => s.modHub fun h =>
    h.setRoute a.src a.second (h.routeOf a.src a.second).complete) s
  s1.modHub fun h => { h with tgt := upd h.tgt t fun g => { g with stack := [] } }

/-- From instant 4 the held deliveries are given in the order of R435 (R444). -/
def State.releaseTarget (t : Fin 9) (s : State) : State :=
  (s.modHub fun h => { h with tgt := upd h.tgt t fun g => { g with held := false } }).signal (periEdge s.now) 7 t

end Sys2Proof.Machine
end

