-- ==== Sys2Proof/Machine/FieldDrive.lean ====
section
/-! DEFINITION. Field outputs: the driven state of every channel, which the twin gate, SAFE_HOLD and drydown change at once
(R419, R420, R427). -/

namespace Sys2Proof.Machine

/-! ### Channels and banks -/

/-- The bank of a channel. -/
def bankOf (c : Fin 48) : Fin 6 := ⟨c.val / 8, by omega⟩

/-- The entry of a channel; OFF where no accord is applied. -/
def State.dioCfg (s : State) (c : Nat) : DioChanCfg :=
  (s.run.dio.ch[c]?).getD { mode := 0, filter := 0, flags := 0, mismatch := 0 }

/-- A channel in an OUTPUT mode. -/
def State.isOutput (s : State) (c : Nat) : Bool := (s.dioCfg c).mode == 5

/-- A channel in a COUNTER mode. -/
def State.isCounter (s : State) (c : Nat) : Bool := (s.dioCfg c).mode == 3 || (s.dioCfg c).mode == 4

/-- One channel changed. -/
def State.modCh (c : Fin 48) (f : DioChan → DioChan) (s : State) : State := s.modDio fun d => { d with ch := upd d.ch c f }

/-- One bank changed. -/
def State.modBank (b : Fin 6) (f : DioBank → DioBank) (s : State) : State :=
  s.modDio fun d => { d with bank := upd d.bank b f }

/-- Frames of a bank are received. -/
def DioBank.alive (b : DioBank) : Bool := match b.link with | .up | .back _ => true | .off | .down => false

/-- The link of a bank receives frames: one of a bank in use starts 4 ms into START (instant 13 of R499, R578). -/
def State.linkUp (s : State) (b : Fin 6) : Bool :=
  let x := s.dio.bank[b]
  x.alive || (x.link == .off && bitAt s.dio.enable b.val && s.sys.state == .start
    && decide (s.pwr.startAt + min s.pwr.lead (4000 * usV) ≤ s.now))

/-- The block asserts source 240 + i (R427). -/
def State.dioRaise (i : Nat) (s : State) : State := s.raiseEn s.dio.evtEn 240 i

/-- DIO_STATUS.GATE: no twin is in use, or its gate is open (R419). -/
def State.dioGate (s : State) : Bool := s.acc.locked && (!s.run.str.twin || s.twin.gate)

/-- The driven state of an output channel (R419, R420): the cases of R419 come before a safe state, and a safe state before the
commanded value. -/
def State.want (s : State) (c : Fin 48) : Bool :=
  let b := s.dio.bank[bankOf c]
  s.isOutput c.val && s.dio.live && s.dioGate && !b.uv && b.alive
    && (if s.dio.safe then bitAt (s.dioCfg c.val).flags 1 else s.dio.ch[c].cmd)

/-- One channel takes its driven state. -/
def State.drive (s : State) (c : Fin 48) : State :=
  let v := s.want c
  if s.dio.ch[c].driven = v then s
  else s.modCh c fun x => { x with driven := v, drvTnc := s.fs.tnc }

/-- Every channel takes its driven state. -/
def State.driveAll (s : State) : State := (List.finRange 48).foldl State.drive s

/-- The twin gate has closed: every output goes OFF and source 249 asserts (R419, R427). -/
def State.dioGateClosed (s : State) : State :=
  ((s.modDio fun d => { d with ch := vmap d.ch fun x => { x with cmd := false } }).driveAll).dioRaise 9

end Sys2Proof.Machine
end

