-- ==== Sys2Proof/Machine/RealTimeClock.lean ====
section
/-! DEFINITION. The real-time clock: calendar, sets, alarms, trim, validity and registers (R447 to R456). -/

namespace Sys2Proof.Machine

/-! ### The calendar (R447) -/

/-- Leap years: every year divisible by 4, except 2100. The argument is the year less 2000. -/
def isLeap (y : Nat) : Bool := y % 4 == 0 && y != 100

/-- Days of a year. -/
def yearDays (y : Nat) : Nat := if isLeap y then 366 else 365

/-- Days of a month of a year; 0 for a month that does not exist. -/
def monthDays (y m : Nat) : Nat :=
  if m = 2 then (if isLeap y then 29 else 28)
  else if m = 4 ∨ m = 6 ∨ m = 9 ∨ m = 11 then 30
  else if 1 ≤ m ∧ m ≤ 12 then 31 else 0

/-- Seconds of the 200 years of the calendar. -/
def calSpan : Nat := 73049 * 86400

/-- Days before a year. -/
def daysBeforeYear : Nat → Nat
  | 0 => 0
  | y + 1 => daysBeforeYear y + yearDays y

/-- Days of a year before a month. -/
def daysBeforeMonth (y : Nat) : Nat → Nat
  | 0 => 0
  | m + 1 => daysBeforeMonth y m + monthDays y m

/-- Seconds since 2000-01-01 of a calendar time. -/
def calOf (y m d h mi sec : Nat) : Cal :=
  (daysBeforeYear y + daysBeforeMonth y m + (d - 1)) * 86400 + h * 3600 + mi * 60 + sec

/-- The year of a day number and the day within it, looking from year `y` on. -/
def yearOf : Nat → Nat → Nat → Nat × Nat
  | 0, y, d => (y, d)
  | n + 1, y, d => if d < yearDays y then (y, d) else yearOf n (y + 1) (d - yearDays y)

/-- The month of a day of a year and the day within it, looking from month `m` on. -/
def monthOf (y : Nat) : Nat → Nat → Nat → Nat × Nat
  | 0, m, d => (m, d)
  | n + 1, m, d => if d < monthDays y m then (m, d) else monthOf y n (m + 1) (d - monthDays y m)

/-- Year (less 2000), month and day of a day number. -/
def dateOf (day : Nat) : Nat × Nat × Nat :=
  let y := yearOf 200 0 day
  let m := monthOf y.1 12 1 y.2
  (y.1, m.1, m.2 + 1)

/-- Weekday of a day number: 1 Monday to 7 Sunday; 2000-01-01 is day 6 (R447). -/
def weekdayOf (day : Nat) : Nat := (day + 5) % 7 + 1

/-- RTC_TIME of a calendar time. -/
def timeReg (t : Cal) : Nat :=
  put (weekdayOf (t / 86400)) 24 3 + put (t % 86400 / 3600) 16 5 + put (t % 3600 / 60) 8 6 + put (t % 60) 0 6

/-- RTC_DATE of a calendar time. -/
def dateReg (t : Cal) : Nat :=
  let d := dateOf (t / 86400)
  put d.1 16 8 + put d.2.1 8 4 + put d.2.2 0 5

/-- RTC_SECONDS of a calendar time. -/
def secReg (t : Cal) : Nat := t % 2 ^ 32

/-! ### Alarms (R450, R451) -/

/-- The day fields of an alarm match a day number. -/
def Alarm.dayMatch (a : Alarm) (day : Nat) : Bool :=
  let d := dateOf day
  (bitAt a.mask 3 || a.day == d.2.2) && (bitAt a.mask 4 || a.month == d.2.1)
    && (bitAt a.mask 5 || a.wday == weekdayOf day)

/-- The fields of an alarm match a calendar time. -/
def Alarm.hits (a : Alarm) (t : Cal) : Bool :=
  a.dayMatch (t / 86400) && (bitAt a.mask 2 || a.hour == t % 86400 / 3600)
    && (bitAt a.mask 1 || a.min == t % 3600 / 60) && (bitAt a.mask 0 || a.sec == t % 60)

/-- The values of a field of `n` values that an alarm's mask and value admit. -/
def fieldVals (masked : Bool) (v n : Nat) : List Nat :=
  if masked then List.range n else if v < n then [v] else []

/-- Some second of a day from `lo` to `hi` (in seconds of the day) matches the time fields of an alarm. -/
def Alarm.hitsWithin (a : Alarm) (lo hi : Nat) : Bool :=
  (fieldVals (bitAt a.mask 2) a.hour 24).any fun h =>
    (h * 3600 ≤ hi && lo ≤ h * 3600 + 3599) &&
    (fieldVals (bitAt a.mask 1) a.min 60).any fun m =>
      (h * 3600 + m * 60 ≤ hi && lo ≤ h * 3600 + m * 60 + 59) &&
      (fieldVals (bitAt a.mask 0) a.sec 60).any fun c =>
        lo ≤ h * 3600 + m * 60 + c && h * 3600 + m * 60 + c ≤ hi

/-- Some second s with t0 < s < t1 matches an alarm (R451). -/
def Alarm.crossed (a : Alarm) (t0 t1 : Cal) : Bool :=
  if t0 + 1 < t1 then
    let d0 := (t0 + 1) / 86400
    let d1 := (t1 - 1) / 86400
    (List.range (d1 + 1 - d0)).any fun k =>
      let d := d0 + k
      a.dayMatch d &&
        a.hitsWithin (if k = 0 then (t0 + 1) % 86400 else 0) (if d = d1 then (t1 - 1) % 86400 else 86399)
  else false

/-! ### Events of the block -/

/-- The RTC block asserts source 256 + i if its enable allows it and the module runs (R455). -/
def State.rtcRaise (i : Nat) (s : State) : State :=
  if s.alive then s.raiseEn s.rtc.evtEn 256 i else s

/-- The alarms are compared after the seconds took a new value (R450). -/
def State.rtcCompare (s : State) : State :=
  let s1 := if s.rtc.almA.enable && s.rtc.almA.hits s.rtc.t then s.rtcRaise 0 else s
  if s.rtc.almB.enable && s.rtc.almB.hits s.rtc.t then s1.rtcRaise 1 else s1

/-- Master-VCO cycles of one RTC cycle, rounded down (R447). -/
def rtcV : Nat := 122070

/-- An RTC edge reaches the PERI side 2 to 3 PERI cycles later, which of the two being free (R50, R447). -/
def State.rtcSync (s : State) : State :=
  if s.alive then { s with free := s.free + 1 }.wait ((2 + Config.freeNat s.free % 2) * periV) else s

/-- The prescaler moves between two commands by a free number of the crystal's cycles, short of its wrap, which RTC_SECONDS_ADVANCE
brings; a stopped clock stands still (R447, R453; DESIGN CHOICE, log entry 60). -/
def State.rtcCount (s : State) : State :=
  if s.rtc.stopped then s
  else { s with free := s.free + 1 }.modRtc fun r => { r with sub := r.sub + Config.freeNat s.free % (32768 - r.sub) }

/-- The seconds advance by one; after 2199-12-31 23:59:59 the calendar goes on at 2000-01-01 and sets WRAP (R447). -/
def State.rtcTick (s : State) : State :=
  let exceeded := s.rtc.t + 1 ≥ calSpan
  let s1 := s.modRtc fun r => { r with t := if exceeded then 0 else r.t + 1, wrap := r.wrap || exceeded }
  let s2 := (s1.setIf exceeded 0x40020004 7).rtcRaise 2
  (if exceeded then s2.rtcRaise 7 else s2).rtcCompare

/-! ### Commands -/

/-- RTC_SECONDS_ADVANCE: the prescaler wraps and the seconds advance; a stopped clock stands still, and an increment due on the edge
of a set does not take place (R447, R449, R453). -/
def execRtcSecondsAdvance (s : State) : Host.Outcome State Fault Refusal :=
  let onSet := match s.rtc.setAt with | some t => decide (s.now < t + rtcV) | none => false
  .next (if s.rtc.stopped || onSet then s else (s.rtcSync.modRtc fun r => { r with sub := 0 }).rtcTick)

/-- The staged fields are in range and the day exists in its month and year (R449). -/
def SetFields.ok (f : SetFields) : Bool :=
  f.hour ≤ 23 && f.min ≤ 59 && f.sec ≤ 59 && f.year ≤ 199 && 1 ≤ f.month && f.month ≤ 12 && 1 ≤ f.day
    && f.day ≤ monthDays f.year f.month

/-- A write of RTC_CTRL.SET: a set that fails its check is refused, any other waits for its RTC edge (R449, R454). -/
def State.rtcSet (w : Initiator) (v : Nat) (s : State) : State :=
  s.guardWrite (isSuperSec w) 0x40020000 w v fun s =>
    if bitAt v 0 && s.rtc.pend.isSome then s.setBit 0x40020000 0
    else if bitAt v 0 then
      let f := s.rtc.stage
      if f.ok then s.modRtc fun r => { r with pend := some (calOf f.year f.month f.day f.hour f.min f.sec, s.now) }
      else (s.modRtc fun r => { r with setErr := true }).setBit 0x40020004 3
    else s

/-- RTC_SET. -/
def execRtcSet (who : Initiator) (s : State) : Host.Outcome State Fault Refusal :=
  .next (if s.acts who then s.rtcSet who 1 else s)

/-- What an enabled alarm does when a set crosses seconds and reaches a new one: whether its own source asserts, and
whether it is skipped (R451). -/
def Alarm.onSet (a : Alarm) (t0 t1 : Cal) : Bool × Bool :=
  let crossed := a.enable && a.crossed t0 t1
  ((crossed && a.catchup) || (a.enable && a.hits t1), crossed && !a.catchup)

/-- A SET written in the PERI cycle in which a set is applied stands as a new request (R12). -/
def State.setAgain (s : State) : Option (Cal × Nat) :=
  let f := s.rtc.stage
  if s.setNow 0x40020000 0 && f.ok then some (calOf f.year f.month f.day f.hour f.min f.sec, s.now) else none

/-- RTC_SET_APPLY: the staged time is applied on its RTC edge (R449, R451). -/
def State.rtcApply (t1 : Cal) (s : State) : State :=
  let t0 := s.rtc.t
  let a := s.rtc.almA.onSet t0 t1
  let b := s.rtc.almB.onSet t0 t1
  let s1 := s.modRtc fun r =>
    { r with t := t1, sub := 0, pend := s.setAgain, setAt := some s.now, lost := false, suspect := false, skipA := r.skipA || a.2,
             skipB := r.skipB || b.2, stepBack := r.stepBack || decide (t1 ≤ t0) }
  let s2 := (((s1.setIf a.2 0x40020004 4).setIf b.2 0x40020004 5).setIf (decide (t1 ≤ t0)) 0x40020004 6)
  let s2 := if a.1 then s2.rtcRaise 0 else s2
  let s3 := if b.1 then s2.rtcRaise 1 else s2
  let s4 := if a.2 || b.2 then s3.rtcRaise 4 else s3
  (s4.rtcRaise 3).log silRTC 0 1 259 (toLe 4 0 ++ toLe 4 (secReg t0) ++ toLe 4 (secReg t1))

/-- RTC_SET_APPLY: the RTC edge comes 2 to 3 RTC cycles after the write, where in that range being free; a stopped clock has no edge to
apply a set on (R449). -/
def execRtcSetApply (s : State) : Host.Outcome State Fault Refusal :=
  match s.alive && !s.rtc.stopped, s.rtc.pend with
  | true, some (t1, w) =>
    .next (({ s with free := s.free + 1 }.to (w + 2 * rtcV + 1 + Config.freeNat s.free % rtcV)).rtcApply t1)
  | _, _ => .next s

/-- RTC_TRIM_CORRECTION: cycle k × 2,048 of a window; the first cycle takes the written trim, and a cycle with k below V
carries one correction, once in its window: ADD advances the prescaler by 2 and a wrap advances the seconds by one, SKIP holds it (R452). -/
def execRtcTrimCorrection (k : Fin 512) (s : State) : Host.Outcome State Fault Refusal :=
  if s.rtc.stopped ∨ (k.val ≠ 0 ∧ k.val < s.rtc.corr) then .next s
  else
    let s := s.rtcCount
    let s1 := if k.val = 0 then
        s.modRtc fun r => { r with curSkip := r.trimSkip, curVal := r.trimVal, corr := 0 } else s
    if k.val < s1.rtc.curVal then
      let s2 := s1.modRtc fun r => { r with corr := k.val + 1 }
      if s1.rtc.curSkip then .next s2
      else if s1.rtc.sub + 2 < 32768 then .next (s2.modRtc fun r => { r with sub := r.sub + 2 })
      else .next (s2.rtcSync.modRtc fun r => { r with sub := r.sub + 2 - 32768 }).rtcTick
    else .next s1

/-- RTC_OSC_FAIL: no X32_IN edge for 2 ms sets OSC_FAIL and SUSPECT, and the clock stands still (R453). -/
def execRtcOscFail (s : State) : Host.Outcome State Fault Refusal :=
  .next (((s.rtcSync.modRtc fun r => { r with oscFail := true, suspect := true, stopped := true }).setBit 0x40020004 8).rtcRaise 6)

/-- RTC_OSC_RETURN: edges return and the clock counts again (R453). -/
def execRtcOscReturn (s : State) : Host.Outcome State Fault Refusal :=
  .next (s.modRtc fun r => { r with stopped := false })

/-- RTC_BACKUP_POWER_ON: LOST is set, 2000-01-01 00:00:00 is loaded, the trim clears and both alarms are disabled; the
registers of the backup domain take their reset values (R453, R454). -/
def execRtcBackupPowerOn (s : State) : Host.Outcome State Fault Refusal :=
  .next (s.modRtc fun r => { Rtc.reset with evtEn := r.evtEn, stopped := r.stopped })

/-- RTC_SUPPLY_DIP: a dip below the warning threshold sets SUSPECT; the time is kept (R453, R515). -/
def execRtcSupplyDip (s : State) : Host.Outcome State Fault Refusal :=
  .next (s.modRtc fun r => { r with suspect := true })

/-- A read of RTC_SUBSEC freezes RTC_TIME, RTC_DATE and RTC_SECONDS for the initiator (R448). -/
def State.rtcOpen (w : Initiator) (s : State) : State :=
  s.modRtc fun r => { r with shadows := Tbl.set w.code (timeReg r.t, dateReg r.t, secReg r.t) r.shadows }

/-- RTC_SHADOW_OPEN_READ. -/
def execRtcShadowOpenRead (who : Initiator) (s : State) : Host.Outcome State Fault Refusal :=
  .next (if s.acts who then (s.rtcCount.rtcOpen who).answer who s.rtcCount.rtc.sub else s)

/-- RTC_SECONDS as an initiator reads it: its shadow, or the live mirror (R448). -/
def State.rtcSeconds (s : State) (w : Initiator) : Nat :=
  match Tbl.get? w.code s.rtc.shadows with
  | some (_, _, x) => x
  | none => secReg s.rtc.t

/-- A read of RTC_SECONDS closes the initiator's group (R448). -/
def State.rtcClose (w : Initiator) (s : State) : State :=
  s.modRtc fun r => { r with shadows := Tbl.del w.code r.shadows }

/-- RTC_SHADOW_CLOSE_READ. -/
def execRtcShadowCloseRead (who : Initiator) (s : State) : Host.Outcome State Fault Refusal :=
  .next (if s.acts who then (s.rtcClose who).answer who (s.rtcSeconds who) else s)

/-! ### Registers -/

/-- RTC_STATUS. -/
def State.rtcStatus (s : State) : Nat :=
  let r := s.rtc
  flag r.oscFail 8 + flag r.wrap 7 + flag r.stepBack 6 + flag r.skipB 5 + flag r.skipA 4 + flag r.setErr 3
    + flag r.suspect 1 + flag r.lost 0

/-- RTC_ALMa_VAL. -/
def Alarm.valReg (a : Alarm) : Nat :=
  put a.wday 26 3 + put a.month 22 4 + put a.day 17 5 + put a.hour 12 5 + put a.min 6 6 + put a.sec 0 6

/-- RTC_ALMa_CTRL. -/
def Alarm.ctrlReg (a : Alarm) : Nat := flag a.enable 31 + flag a.catchup 8 + put a.mask 0 6

/-- An alarm with RTC_ALMa_VAL written. -/
def Alarm.setVal (v : Nat) (a : Alarm) : Alarm :=
  { a with wday := fld v 28 26, month := fld v 25 22, day := fld v 21 17, hour := fld v 16 12, min := fld v 11 6,
           sec := fld v 5 0 }

/-- An alarm with RTC_ALMa_CTRL written. -/
def Alarm.setCtrl (v : Nat) (a : Alarm) : Alarm :=
  { a with enable := bitAt v 31, catchup := bitAt v 8, mask := fld v 5 0 }

/-- The value of an RTC register that an initiator reads (R448, R454). -/
def State.rtcRead (s : State) (w : Initiator) (ofs : Nat) : Nat :=
  let sh := Tbl.get? w.code s.rtc.shadows
  if ofs = 0x00 then flag s.rtc.pend.isSome 0
  else if ofs = 0x04 then s.rtcStatus
  else if ofs = 0x10 then s.rtcCount.rtc.sub
  else if ofs = 0x14 then (match sh with | some x => x.1 | none => timeReg s.rtc.t)
  else if ofs = 0x18 then (match sh with | some x => x.2.1 | none => dateReg s.rtc.t)
  else if ofs = 0x1C then s.rtcSeconds w
  else if ofs = 0x20 then put s.rtc.stage.hour 16 5 + put s.rtc.stage.min 8 6 + put s.rtc.stage.sec 0 6
  else if ofs = 0x24 then put s.rtc.stage.year 16 8 + put s.rtc.stage.month 8 4 + put s.rtc.stage.day 0 5
  else if ofs = 0x28 then flag s.rtc.trimSkip 9 + put s.rtc.trimVal 0 9
  else if ofs = 0x30 then s.rtc.almA.valReg
  else if ofs = 0x34 then s.rtc.almA.ctrlReg
  else if ofs = 0x38 then s.rtc.almB.valReg
  else if ofs = 0x3C then s.rtc.almB.ctrlReg
  else if ofs = 0x40 then s.rtc.evtEn
  else 0

/-- The effect of a read on the shadows of the initiator (R448). -/
def State.rtcTouch (s : State) (w : Initiator) (ofs : Nat) : State :=
  if ofs = 0x10 then s.rtcCount.rtcOpen w else if ofs = 0x1C then s.rtcClose w else s

/-- RTC_STATUS after a write: set bits clear the W1C flags (R10). -/
def Rtc.clearStatus (v : Nat) (r : Rtc) : Rtc :=
  { r with oscFail := r.oscFail && !bitAt v 8, wrap := r.wrap && !bitAt v 7, stepBack := r.stepBack && !bitAt v 6,
           skipB := r.skipB && !bitAt v 5, skipA := r.skipA && !bitAt v 4, setErr := r.setErr && !bitAt v 3 }

/-- The effect of a permitted write on the registers of the backup domain (R454). -/
def Rtc.writeReg (ofs v : Nat) (r : Rtc) : Rtc :=
  if ofs = 0x04 then r.clearStatus v
  else if ofs = 0x20 then { r with stage := { r.stage with hour := fld v 20 16, min := fld v 13 8, sec := fld v 5 0 } }
  else if ofs = 0x24 then { r with stage := { r.stage with year := fld v 23 16, month := fld v 11 8, day := fld v 4 0 } }
  else if ofs = 0x28 then { r with trimSkip := bitAt v 9, trimVal := fld v 8 0 }
  else if ofs = 0x30 then { r with almA := r.almA.setVal v }
  else if ofs = 0x34 then { r with almA := r.almA.setCtrl v }
  else if ofs = 0x38 then { r with almB := r.almB.setVal v }
  else if ofs = 0x3C then { r with almB := r.almB.setCtrl v }
  else r

/-- A write of an RTC register (R454). -/
def State.rtcWrite (s : State) (w : Initiator) (ofs v : Nat) : State :=
  if ofs = 0x00 then s.rtcSet w v
  else if ofs = 0x40 then
    s.guardWrite (s.granted w 2) 0x40020040 w v fun s => s.modRtc fun r => { r with evtEn := fld v 7 0 }
  else if [0x04, 0x20, 0x24, 0x28, 0x30, 0x34, 0x38, 0x3C].contains ofs then
    s.guardWrite (isSuperSec w) (0x40020000 + ofs) w v fun s =>
      s.modRtc fun r => r.writeReg ofs (if ofs = 4 then s.clears 0x40020004 v else v)
  else s.guardWrite (s.granted w 2) (0x40020000 + ofs) w v id

/-- The RTC block at a reset of any kind: a set not yet applied is discarded, shadows are released and RTC_EVT_EN takes
its reset value (R456). -/
def Rtc.onReset (r : Rtc) : Rtc := { r with pend := none, setAt := none, shadows := [], evtEn := 255 }

end Sys2Proof.Machine
end

