-- ==== Sys2Proof/Machine/SillageWriter.lean ====
section
/-! DEFINITION. The sillage: acceptance of entries, firmware entries, captures, the region's bytes and the SIL registers
(R521 to R532, R544, R545). -/

namespace Sys2Proof.Machine

/-! ### Entries -/

/-- The 32 bytes of an entry (R522). -/
def SilEntry.bytes (e : SilEntry) : List Byte :=
  toLe 8 e.tb ++ toLe 4 e.tnc ++ toLe 2 (e.block * 256 + e.inst) ++ toLe 2 (e.cls * 4096 + e.num)
    ++ (padTo 16 e.payload).take 16

/-- The SIL and TWIN blocks assert source 296 + i (R544). -/
def State.silRaise (i : Nat) (s : State) : State := s.raiseEn s.sil.evtEn 296 i

/-- An accepted entry is written to the ring, or waits while a capture runs (R524, R529). -/
def Sillage.store (i : Nat) (b : List Byte) (x : Sillage) : Sillage :=
  if x.running.isSome then { x with ringWait := x.ringWait ++ [(i % 4096, b)] }
  else { x with ring := Tbl.set (i % 4096) b x.ring }

/-- The writer accepts an entry: it assigns the index, copies the entry to the window and advances HEAD (R524). -/
def Sillage.accept (e : SilEntry) (x : Sillage) : Sillage :=
  { x.store x.head e.bytes with
    window := ((x.head, e.bytes) :: x.window).take 512, head := (x.head + 1) % 2 ^ 32 }

/-- SILLAGE_ENTRY: the writer accepts the entry at the front of its queue, at most one in a FAB cycle; when entries were lost, the
room that this makes takes one entry 0x142 (R524, R525). -/
def execSillageEntry (s : State) : Host.Outcome State Fault Refusal :=
  match s.alive, s.sil.queue with
  | true, e :: rest =>
    let s0 := s.to s.sil.nextAt
    let s1 := s0.modSil fun x => { x.accept e with queue := rest, nextAt := (s0.now / fabV + 1) * fabV }
    if s1.sil.losses.1 = 0 then .next s1
    else
      let note := s1.entry silSIL 0 2 0x142 (toLe 4 s1.sil.losses.1 ++ toLe 4 s1.sil.losses.2)
      .next (s1.modSil fun x => { x with queue := x.queue ++ [note], losses := (0, 0) })
  | _, _ => .next s

/-- SOURCE block of a firmware entry: 0x20 + r for role r, 0x28 for the security core pair (R522, R526). -/
def firmwareBlock (w : Initiator) : Option Nat :=
  match w with
  | .role r => some (0x20 + r.val) | .security => some 0x28
  | .solver _ | .loop _ | .metering | .canDma | .ethRt | .xsx | .dio | .sillage | .bestEffort _ => none

/-- A write of SIL_PUT_CODE submits an entry from the initiator's staging words; a number below 0x160 is replaced by 0x147
(R526). -/
def State.silPut (w : Initiator) (v : Nat) (s : State) : State :=
  match firmwareBlock w with
  | some b =>
    s.guardWrite (s.granted w 0x60) 0x40600130 w v fun s =>
      let words := Tbl.getD s.sil.put w.code [0, 0, 0, 0]
      let num := if fld v 11 0 < 0x160 then 0x147 else fld v 11 0
      s.log b 0 (fld v 15 12) num (words.flatMap (toLe 4))
  | none => s.refuse 4 0x40600130 w v

/-- SIL_PUT. -/
def execSilPut (who : Initiator) (v : Word) (s : State) : Host.Outcome State Fault Refusal :=
  .next (if s.acts who then s.silPut who v.toNat else s)

/-! ### Captures -/

/-- SEQ of a slot for the choice of R529: a slot without VALID counts as 0 (R530). -/
def Capture.rank (c : Capture) : Nat := if c.valid then c.seq else 0

/-- The slot with the lowest SEQ among those that HOLD does not protect (R529). -/
def Sillage.choose (x : Sillage) : Option (Fin 8) :=
  ((List.finRange 8).filter fun j => !bitAt x.hold j.val).foldl (fun best j =>
    match best with
    | none => some j
    | some k => if x.caps[j].rank < x.caps[k].rank then some j else some k) none

/-- Validity of the clock as captures and metering records grade it: 0 valid, 1 SUSPECT, 2 LOST (R453, R530). -/
def Rtc.grade (r : Rtc) : Nat := if r.lost then 2 else if r.suspect then 1 else 0

/-- The content of a capture at its instant: the newest entries of the window, at most 512 (R529, R530). -/
def State.captureNow (s : State) (reason : Nat) : Capture :=
  let es := s.sil.window.reverse
  { valid := false, reason := reason, count := es.length, seq := s.sil.capSeq,
    first := (match es with | [] => s.sil.head | e :: _ => e.1), rtc := secReg s.rtc.t, tb := s.tb, tnc := s.fs.tnc,
    sysState := s.sys.state.code, rtcValid := s.rtc.grade, entries := es.map (·.2) }

/-- A trigger: merged into a running capture, refused when all slots are held, or started (R528, R529). -/
def State.capture (reason : Nat) (s : State) : State :=
  if s.sil.running.isSome then s
  else match s.sil.choose with
    | none =>
      ((s.modSil fun x => { x with capRefused := true, capReq := false }).setBit 0x40600104 29).log silSIL 0 2 0x145 (toLe 1 reason)
    | some j =>
      s.modSil fun x => { x with
        running := some (j.val, s.captureNow reason), capSeq := x.capSeq + 1,
        caps := upd x.caps j fun c => { c with valid := false } }

/-- A capture with reason 6 is requested; a request in the PERI cycle in which the running one is written stands (R12, R528). -/
def State.silRequest (s : State) : State :=
  ((s.setIf s.sil.capReq 0x40600100 0).modSil fun x => { x with capReq := true }).capture 6

/-- A write of SIL_CTRL.CAPTURE triggers a capture with reason 6 (R528). -/
def State.silCapture (w : Initiator) (s : State) : State :=
  s.guardWrite (s.granted w 0x60) 0x40600100 w 1 fun s =>
    s.silRequest

/-- SILLAGE_CAPTURE_REQUEST. -/
def execSillageCaptureRequest (who : Initiator) (s : State) : Host.Outcome State Fault Refusal :=
  .next (if s.acts who then s.silCapture who else s)

/-- The running capture is written: the slot becomes valid, ring writes that waited are made and source 296 asserts
(R529, R530, R544). -/
def State.finishCapture (s : State) : State :=
  match s.sil.running with
  | none => s
  | some (j, c) =>
    (s.modSil fun x => { x with
      running := none, capReq := s.setNow 0x40600100 0, lastSlot := j, lastReason := c.reason,
      ring := x.ringWait.foldl (fun r e => Tbl.set e.1 e.2 r) x.ring, ringWait := [],
      caps := x.caps.setIfInBounds j { c with valid := true } }).silRaise 0

/-- A write of SIL_CTRL.HOLD protects capture slots, through the ring header (R521, R529). -/
def State.silHold (w : Initiator) (v : Nat) (s : State) : State :=
  s.guardWrite (s.granted w 0x60) 0x40600100 w (v * 256) fun s => s.modSil fun x => { x with hold := v % 256 }

/-- SILLAGE_HOLD_WRITE. -/
def execSillageHoldWrite (who : Initiator) (v : Byte) (s : State) : Host.Outcome State Fault Refusal :=
  .next (if s.acts who then s.silHold who v.toNat else s)

/-! ### Boot (R527, R546) -/

/-- At BOOT a ring without MAGIC is initialised and entry 0x146 written; the queue is empty and the window is rebuilt from
the ring. -/
def State.silBoot (s : State) : State :=
  let base := { Sillage.reset with
    magic := s.sil.magic, head := s.sil.head, lost := s.sil.lost, hold := s.sil.hold, capSeq := s.sil.capSeq,
    ring := s.sil.ring, caps := s.sil.caps, evtEn := 255,
    window := (List.range 512).filterMap fun k =>
      let i := (s.sil.head + 2 ^ 32 - 1 - k) % 2 ^ 32
      if k < s.sil.head ∨ s.sil.ring.length = 4096 then (Tbl.get? (i % 4096) s.sil.ring).map fun b => (i, b) else none }
  if s.sil.magic then { s with sil := base }
  else
    ({ s with sil := { base with
      magic := true, head := 0, lost := 0, hold := 0, capSeq := 0, window := [],
          init := true } }.setBit 0x40600104 27).log silSIL 0 2 0x146 (toLe 4 s.sil.head)

/-! ### The region's bytes (R521, R530) -/

/-- The 64 bytes of the ring header. -/
def Sillage.header (x : Sillage) : List Byte :=
  (if x.magic then [0x58, 0x4A, 0x53, 0x52] else zeros 4) ++ toLe 4 x.head ++ toLe 4 x.lost ++ toLe 1 x.hold ++ zeros 3
    ++ toLe 8 x.capSeq ++ zeros 40

/-- The 64 header bytes of a capture slot. -/
def Capture.header (c : Capture) (slot : Nat) : List Byte :=
  [0x58, 0x4A, 0x53, 0x43] ++ toLe 1 c.reason ++ toLe 1 slot ++ toLe 2 c.count ++ toLe 8 c.seq ++ toLe 4 c.first
    ++ toLe 4 c.rtc ++ toLe 8 c.tb ++ toLe 8 c.tnc ++ toLe 1 c.sysState ++ toLe 1 c.rtcValid ++ zeros 18
    ++ toLe 4 (if c.valid then 0xA5A5 else 0)

/-- The byte of the sillage region at an offset (R521). -/
def Sillage.byteAt (x : Sillage) (o : Nat) : Byte :=
  if o < 0x40 then x.header.getD o 0
  else if o < 0x20040 then
    ((Tbl.get? ((o - 0x40) / 32) x.ring).getD []).getD ((o - 0x40) % 32) 0
  else if h : o < 0x40240 then
    let j := (o - 0x20040) / 16448
    let k := (o - 0x20040) % 16448
    let c := x.caps[j]'(by omega)
    if k < 64 then (c.header j).getD k 0 else (c.entries.getD ((k - 64) / 32) []).getD ((k - 64) % 32) 0
  else 0

/-! ### Registers -/

/-- SIL_STATUS. -/
def State.silStatus (s : State) : Nat :=
  let x := s.sil
  flag x.running.isSome 31 + flag x.exporting.isSome 30 + flag x.capRefused 29 + flag x.lostFlag 28 + flag x.init 27
    + put x.lastSlot 8 4 + put x.lastReason 0 8

/-- The value of a SIL register at an offset of the PWR and SIL block (R545). -/
def State.silRead (s : State) (ofs : Nat) : Nat :=
  let c := s.sil.caps[s.sil.capSel]
  if ofs = 0x100 then put s.sil.hold 8 8 + flag s.sil.capReq 0
  else if ofs = 0x104 then s.silStatus
  else if ofs = 0x108 then s.sil.head
  else if ofs = 0x10C then s.sil.lost
  else if ofs = 0x110 then s.sil.capSel.val
  else if ofs = 0x114 then
    flag c.valid 31 + flag (bitAt s.sil.hold s.sil.capSel.val) 30 + put c.reason 16 8 + put c.count 0 10
  else if ofs = 0x118 then c.seq % 2 ^ 32
  else if ofs = 0x134 then s.sil.evtEn
  else 0

/-- The effect of a permitted write of a SIL register. -/
def State.silWriteReg (s : State) (w : Initiator) (ofs v : Nat) : State :=
  if ofs = 0x100 then
    let s1 := s.modSil fun x => { x with hold := fld v 15 8 }
    if bitAt v 0 then s1.silRequest else s1
  else if ofs = 0x104 then
    let v := s.clears 0x40600104 v
    s.modSil fun x => { x with
      capRefused := x.capRefused && !bitAt v 29, lostFlag := x.lostFlag && !bitAt v 28, init := x.init && !bitAt v 27 }
  else if ofs = 0x110 then s.modSil fun x => { x with capSel := ⟨v % 8, Nat.mod_lt _ (by decide)⟩ }
  else if 0x120 ≤ ofs ∧ ofs < 0x130 ∧ ofs % 4 = 0 then
    s.modSil fun x => { x with put := Tbl.upd x.put w.code [0, 0, 0, 0] fun l => l.set ((ofs - 0x120) / 4) v }
  else if ofs = 0x134 then s.modSil fun x => { x with evtEn := fld v 7 0 }
  else s

/-- A write of a SIL register (R545). -/
def State.silWrite (s : State) (w : Initiator) (ofs v : Nat) : State :=
  if ofs = 0x130 then s.silPut w v
  else if [0x100, 0x104, 0x110, 0x120, 0x124, 0x128, 0x12C, 0x134].contains ofs then
    s.guardWrite (s.granted w 0x60) (0x40600000 + ofs) w v fun s => s.silWriteReg w ofs v
  else s

end Sys2Proof.Machine
end

