-- ==== Sys2Proof/Machine/KeyStore.lean ====
section
/-! DEFINITION. The key store: slots, derivation, commands, invalidation, replacement, rollback counters and quotes (R457 to
R480, R490, R491). -/

namespace Sys2Proof.Machine

/-! ### Slots (R458 to R460) -/

/-- The ASCII bytes of a string. -/
def ascii (t : String) : List Byte := t.toList.map fun c => BitVec.ofNat 8 c.toNat

/-- A derived value (R462). -/
def kdf (parent label ctx : List Byte) : List Byte := Config.kmac256 parent (label ++ ctx) 32 (ascii "XJ9640 derive")

/-- The check value of a SECRET256 (R458). -/
def kcvOf (k : List Byte) : List Byte := Config.kmac256 k [] 16 (ascii "XJ9640 kcv")

/-- The 64-byte digest of a byte string. -/
def digest64 (b : List Byte) : List Byte := Config.shake256 b 64

/-- A record written at manufacture or derived from the device root. -/
def fixedRec (type : KeyType) (parent : Option Nat) (policy depth : Nat) (mat : List Byte) : KeySlot :=
  { KeySlot.blank with parent := parent, type := type, state := .active, policy := policy, depth := depth, mat := mat }

/-- The fixed slots 0 to 3 and 5, which are LOCKED (R460). -/
def fixedSlot (k : Nat) : Option KeySlot :=
  if k = 0 then some (fixedRec .secret none 0x201 0 Config.deviceRoot)
  else if k = 1 then some (fixedRec .pk none 0x220 0 (digest64 Config.firmwareKey))
  else if k = 2 then some (fixedRec .pk none 0x210 0 (digest64 Config.factoryKey))
  else if k = 3 then some (fixedRec .sk (some 0) 0x204 1 (kdf Config.deviceRoot (ascii "identity") []))
  else if k = 5 then some (fixedRec .secret (some 0) 0x300 1 (kdf Config.deviceRoot (ascii "factory access") []))
  else none

/-- A slot of the store. -/
def Keys.slot (q : Keys) (k : Nat) : KeySlot := (fixedSlot k).getD (Tbl.getD q.slots k KeySlot.blank)

/-- A slot is written; the fixed slots never change, and an empty slot holds nothing. -/
def Keys.setSlot (k : Nat) (x : KeySlot) (q : Keys) : Keys :=
  if (fixedSlot k).isSome then q
  else if x = KeySlot.blank then { q with slots := Tbl.del k q.slots } else { q with slots := Tbl.set k x q.slots }

/-- The public key of a MLDSA65_PK slot: its key file (R458). -/
def Keys.file (q : Keys) (k : Nat) : List Byte :=
  if k = 1 then Config.firmwareKey else if k = 2 then Config.factoryKey else Tbl.getD q.files k []

/-- A policy bit of a slot (R461). -/
def KeySlot.may (x : KeySlot) (i : Nat) : Bool := bitAt x.policy i

/-- LOCKED. -/
def KeySlot.locked (x : KeySlot) : Bool := x.may 9

/-- The slot holds a key that serves operations: ACTIVE, or PENDING with its old key (R459). -/
def KeySlot.live (x : KeySlot) : Bool := x.state == .active || x.state == .pending

/-- Slot k is `root` or one of its descendants, at most 8 levels below (R469). -/
def Keys.underAux (q : Keys) (root : Nat) : Nat → Nat → Bool
  | 0, k => k == root
  | n + 1, k => k == root || match (q.slot k).parent with | some p => q.underAux root n p | none => false

/-- Slot k lies in the subtree of `root`. -/
def Keys.under (q : Keys) (root k : Nat) : Bool := q.underAux root 8 k

/-- Slots named by REVOKE entries whose effect is outstanding. -/
def Keys.revoked (q : Keys) : List Nat :=
  q.journal.flatMap fun j => match j with | .revoke l => l | .replacing _ => []

/-- The gate is closed on a slot: an invalidation of it or of an ancestor awaits its effect (R469). -/
def Keys.closing (q : Keys) (k : Nat) : Bool := q.revoked.any fun r => q.under r k

/-- A key that may be used now (R459). -/
def Keys.usable (q : Keys) (k : Nat) : Bool := (q.slot k).live && !q.closing k

/-- Slots with a given slot as parent. -/
def Keys.hasChildren (q : Keys) (k : Nat) : Bool := q.slots.any fun x => x.2.parent == some k && x.2.state != .empty

/-! ### Acceptance (R463, R465, R469) -/

/-- The block asserts source 272 + i (R489). -/
def State.keyRaise (i : Nat) (s : State) : State := s.raiseEn s.key.evtEn 272 i

/-- ACC_STATUS.MINUTES: whole minutes left, a part counting as one. -/
def State.accMinutes (s : State) : Nat :=
  match s.key.lockEnd with
  | some t => ceilDiv (t - s.now) (60000000 * usV)
  | none => if s.key.level = 0 then 0 else ceilDiv (s.key.openEnd - s.now) (60000000 * usV)

/-- ACC_STATUS. -/
def State.accStatus (s : State) : Nat :=
  let q := s.key
  put q.level 30 2 + put q.method 28 2 + flag q.lockEnd.isSome 27 + flag q.nonce.isSome 26 + put q.fails 20 6
    + put s.accMinutes 0 15

/-- Access at a level below SERVICE in COMMISSIONING or TEST marks the return to SERVICE (R485, R504). -/
def State.markFell (s : State) : State :=
  if s.key.level < 2 ∧ s.sys.mode ≠ .service then s.modKey fun q => { q with fell := true } else s

/-- An opening or a closing writes an entry with its event (R485). -/
def State.accLog (i : Nat) (s : State) : State := (s.keyRaise i).log silKEY 0 4 (272 + i) (toLe 4 s.accStatus)

/-- Field access closes (R485). -/
def State.accClose (s : State) : State :=
  if s.key.level = 0 then s
  else ((s.modKey fun q => { q with level := 0, method := 0 }).markFell).accLog 7

/-- 300 s in master-VCO cycles. -/
def nonceLife : Nat := 300000000 * usV

/-- Field access, the lock and the held nonce at the present cycle: what has run out has ended (R484 to R486). -/
def State.settleAcc (s : State) : State :=
  let s1 := if s.key.level ≠ 0 ∧ s.key.openEnd ≤ s.now then s.accClose else s
  s1.modKey fun q =>
    let q1 := { q with lockEnd := q.lockEnd.filter fun t => decide (s.now < t) }
    if q1.nonce.any fun x => decide (x.2 + nonceLife ≤ s.now) then q1.dropNonce else q1

/-- KEY_STATUS. -/
def Keys.status (q : Keys) : Nat :=
  flag q.run.isSome 31 + flag (!q.revoked.isEmpty) 30 + flag q.revDone 29 + flag q.fwFallback 28 + put q.queue.length 24 4
    + put q.lastCmd 16 8 + put q.err 0 8

/-- A key command is refused when it is written. -/
def State.keyRefuse (cmd err : Nat) (s : State) : State :=
  (s.modKey fun q => { q with lastCmd := cmd, err := err }).keyRaise 1

/-- KEYCMD_LEVEL; 2, its lowest value, when no accord runs (DESIGN CHOICE, log entry 13). -/
def State.keyLevel (s : State) : Nat := if s.acc.locked then s.run.trust.keyLevel else 2

/-- A command that creates, replaces, invalidates or erases a key in slots 0 to 495 (R463). -/
def KeyReq.changes (r : KeyReq) : Bool := decide (1 ≤ r.cmd) && decide (r.cmd ≤ 6) && decide (r.slot < 496)

/-- The first refusal of a written command other than INVALIDATE; 0 for none. -/
def State.keyGate (s : State) (r : KeyReq) : Nat :=
  if r.changes && decide (s.key.level < s.keyLevel) then 0x04
  else if 512 ≤ r.slot ∨ 512 ≤ r.aux then 0x01
  else if s.key.closing r.slot && r.cmd != 0x0A && r.cmd != 0x0B then 0x06
  else if (r.cmd = 1 ∨ r.cmd = 4) && s.key.closing r.aux then 0x06
  else if 8 ≤ s.key.queue.length then 0x0C
  else 0

/-- The refusal of an invalidation; 0 for none (R463, R471). -/
def State.revokeErr (s : State) (r : KeyReq) : Nat :=
  if r.changes && decide (s.key.level < s.keyLevel) then 0x04
  else if 512 ≤ r.slot then 0x01
  else if !(s.key.slot r.slot).live then 0x01
  else if (s.key.slot r.slot).locked || s.key.slots.any fun x => x.2.locked && s.key.under r.slot x.1 then 0x09
  else 0

/-- A REPLACE can begin: the slot is ACTIVE, not LOCKED and has no children (R465, R473). A password may also be set in an
empty slot (DESIGN CHOICE, log entry 13). -/
def Keys.replaceErr (q : Keys) (k : Nat) (password : Bool) : Nat :=
  let x := q.slot k
  if x.locked then 0x09
  else if q.hasChildren k then 0x08
  else if x.state = .orphaned then 0x06
  else if x.state = .empty ∧ password = false then 0x01
  else 0

/-- A byte string of the argument block: of the UART frame, or in memory (R464, R487). -/
def State.keyArg (s : State) (r : KeyReq) (o n : Nat) : List Byte :=
  match r.uart with
  | some b => slice b o n
  | none => Mem.readN s.mem (r.arg + o) n

/-- The first `n` bytes of the argument block lie in the UART frame, or in a region that MEMORY grants the requester (R465). -/
def State.argOk (s : State) (r : KeyReq) (n : Nat) (write : Bool) : Bool :=
  match r.uart with
  | some b => write || decide (n ≤ b.length)
  | none => !s.acc.locked || s.run.mem.regions.any fun g =>
      g.owner == r.who.code && g.read && (g.write || !write) && decide (g.base ≤ r.arg)
        && decide (r.arg + n ≤ g.base + g.size)

/-- A REPLACE sets a password: GENERATE fields with TYPE PASSWORD_DIGEST. -/
def State.setsPassword (s : State) (r : KeyReq) : Bool :=
  leNat (s.keyArg r 0 1) == 1 && leNat (s.keyArg r 12 1) == 4

/-- The next queued command starts when none runs and no invalidation waits (R463, R469, R473). -/
def State.keyNext (s : State) : State :=
  match s.key.run, s.key.revoked, s.key.queue with
  | none, [], r :: rest =>
    let go := r.cmd == 4 && s.key.replaceErr r.slot (s.setsPassword r) == 0 && (s.key.slot r.slot).state == .active
    let run : KeyRun := { req := r, slot := s.key.slot r.slot, aux := s.key.slot r.aux, at_ := s.now, revoked := false }
    s.modKey fun q =>
      let q1 := { q with queue := rest, run := some run }
      if go then { q1.setSlot r.slot { q.slot r.slot with state := .pending } with
        journal := q.journal ++ (if r.slot < 496 then [.replacing r.slot] else []) }
      else q1
  | _, _, _ => s

/-- A reply of the service UART goes out. -/
def State.uartReply (type result : Nat) (payload : List Byte) (s : State) : State :=
  s.modKey fun q => { q with uart := some { type := type + 0x80, result := result, payload := payload } }

/-- A slot leaves PENDING with its old key. -/
def Keys.unpend (k : Nat) (q : Keys) : Keys :=
  let q1 := if (q.slot k).state = .pending then q.setSlot k { q.slot k with state := .active } else q
  { q1 with journal := q1.journal.filter fun j => match j with | .replacing i => i != k | .revoke _ => true }

/-- The running command ends with a result: KEY_STATUS, its event, the UART reply, and the next command (R463, R465, R489). -/
def State.keyEnd (err cyc : Nat) (out : List Byte) (s : State) : State :=
  match s.key.run with
  | none => s
  | some u =>
    let done := err == 0 || err == 0x07 || err == 0x0A || err == 0x0B
    let s1 := (s.to (u.at_ + cyc * secV)).modKey fun q =>
      { (q.unpend u.req.slot) with run := none, lastCmd := u.req.cmd, err := err }
    let s2 := s1.keyRaise (if done then 0 else 1)
    let s3 := match u.req.uart with
      | some _ => s2.uartReply 0x06 err (toLe 4 (flag s2.key.resRevoked 31 + put s2.key.attempts 0 9) ++ out)
      | none => s2
    s3.keyNext

/-- INVALIDATE is accepted: the gate closes on the subtree and the REVOKE entry is journaled at once; a running command of
the subtree is marked, and a replacement in it is discarded and ends ORPHANED (R469 to R471). -/
def State.revoke (k : Nat) (s : State) : State :=
  let s1 := s.modKey fun q => { q with journal := q.journal ++ [.revoke [k]], lastCmd := 5, err := 0 }
  match s1.key.run with
  | none => s1
  | some u =>
    if s1.key.under k u.req.slot && u.req.cmd == 4 then s1.keyEnd 0x06 0 []
    else if s1.key.under k u.req.slot || s1.key.under k u.req.aux then s1.modKey fun q => { q with run := some { u with revoked := true } }
    else s1

/-- A key command is accepted or refused (R463, R469); a code that R464 does not list is ignored (DESIGN CHOICE, log entry 13). -/
def State.keySubmit (r : KeyReq) (s0 : State) : State :=
  let s := s0.settleAcc
  if r.cmd = 0 ∨ 0x0B < r.cmd then s
  else if r.cmd = 5 then
    let e := s.revokeErr r
    if e = 0 then s.revoke r.slot else s.keyRefuse 5 e
  else
    let e := s.keyGate r
    if e = 0 then (s.modKey fun q => { q with queue := q.queue ++ [r] }).keyNext else s.keyRefuse r.cmd e

/-- The initiators that may write KEY_CMD and the argument registers (R490). -/
def State.keyGranted (s : State) (w : Initiator) : Bool := isSuperSec w || s.granted w 0x50

/-- A write of KEY_CMD. -/
def State.keyCmd (w : Initiator) (v : Nat) (s : State) : State :=
  s.guardWrite (s.keyGranted w) 0x40500000 w v fun s =>
    s.keySubmit { cmd := fld v 31 24, aux := fld v 20 12, slot := fld v 8 0, arg := s.key.arg, who := w, uart := none }

/-- KEY_COMMAND_QUEUE. -/
def execKeyCommandQueue (who : Initiator) (v : Word) (s : State) : Host.Outcome State Fault Refusal :=
  .next (if s.acts who then s.keyCmd who v.toNat else s)

/-- INVALIDATE: KEY_CMD with code 0x05. -/
def execInvalidate (who : Initiator) (k : Fin 512) (s : State) : Host.Outcome State Fault Refusal :=
  .next (if s.acts who then s.keyCmd who (0x05000000 + k.val) else s)

/-! ### Invalidation (R470, R472) -/

/-- One slot after an invalidation: EMPTY where named, ORPHANED with its material zeroed below. -/
def Keys.kill (named : List Nat) (q : Keys) (k : Nat) : Keys :=
  let q1 := if named.contains k then q.setSlot k KeySlot.blank
    else q.setSlot k { q.slot k with state := .orphaned, mat := [], kcv := [] }
  { q1 with files := Tbl.del k q1.files }

/-- The outstanding invalidations take effect, and an entry is written for each slot (R470). -/
def State.killAll (s : State) : State :=
  let named := s.key.revoked
  let all := (s.key.slots.map (·.1)).filter fun k => named.any fun r => s.key.under r k
  let s1 := s.modKey fun q => { all.foldl (Keys.kill named) q with
    journal := q.journal.filter fun j => match j with | .revoke _ => false | .replacing _ => true }
  let s2 := all.foldl (fun s k => s.log silKEY 0 4 274 (toLe 4 s.key.status ++ toLe 2 k)) s1
  s2.wait ((64 * all.length + 40) * secV)

/-- INVALIDATION_EFFECT: when no operation that started before the request runs, the slots named become EMPTY and their
descendants ORPHANED; REVOKED_DONE sets and source 274 asserts (R470). -/
def execInvalidationEffect (s : State) : Host.Outcome State Fault Refusal :=
  if s.alive && s.key.run.isNone && !s.key.revoked.isEmpty then
    .next ((((s.killAll.modKey fun q => { q with revDone := true, lastCmd := 5,
                                                 err := 0 }).setBit 0x4050000C 29).keyRaise 2).keyRaise 0).keyNext
  else .next s

/-! ### New material (R462, R464) -/

/-- A key that a command makes: its record, its key file, the length of its fields and its cycles. -/
structure MadeKey where
  /-- Record. -/
  slot : KeySlot
  /-- Key file of a public key. -/
  file : List Byte
  /-- Length of the fields. -/
  len : Nat
  /-- SEC cycles. -/
  cyc : Nat

/-- KEY_ID, TYPE and POLICY at an offset of the argument block; none where a reserved bit is set. -/
def State.keyFields (s : State) (r : KeyReq) (o : Nat) : Option (Nat × KeyType × Nat) :=
  let f := fun i n => leNat (s.keyArg r (o + i) n)
  if f 5 1 ≠ 0 ∨ 1024 ≤ f 6 2 then none else some (f 0 4, KeyType.ofCode (f 4 1), f 6 2)

/-- A record of new material. -/
def mkSlot (id : Nat) (type : KeyType) (policy : Nat) (parent : Option Nat) (depth : Nat) (mat : List Byte) : KeySlot :=
  { id := id, parent := parent, type := type, state := .active, policy := policy, depth := depth, gen := 0, mat := mat,
    kcv := if type = .secret then kcvOf mat else [] }

/-- Cycles beyond the base for a MLDSA65_SK. -/
def skExtra (t : KeyType) : Nat := if t = .sk then 6000 else 0

/-- The key that DERIVE makes from its parent, or its error (R462). -/
def State.makeDerived (s : State) (r : KeyReq) (parent : KeySlot) (o : Nat) : Except Nat MadeKey :=
  let ll := leNat (s.keyArg r (o + 8) 1)
  let cl := leNat (s.keyArg r (o + 9) 1)
  match s.keyFields r o with
  | none => .error 0x0D
  | some (id, type, policy) =>
    if 64 < ll ∨ 64 < cl ∨ allZero (s.keyArg r (o + 10) 6) = false ∨ s.argOk r (o + 16 + ll + cl) false = false then .error 0x0D
    else if parent.state = .orphaned then .error 0x06
    else if parent.state = .empty then .error 0x01
    else if parent.type ≠ .secret ∨ (type ≠ .secret ∧ type ≠ .sk) then .error 0x02
    else if parent.may 0 = false then .error 0x03
    else if 8 < parent.depth + 1 ∨ (bitAt policy 6 = true ∧ 7 < parent.depth + 1) then .error 0x05
    else .ok
      { slot := mkSlot id type policy (some r.aux) (parent.depth + 1)
          (kdf parent.mat (s.keyArg r (o + 16) ll) (s.keyArg r (o + 16 + ll) cl))
        file := [], len := 16 + ll + cl, cyc := 600 + skExtra type }

/-- The key that GENERATE makes, or its error. -/
def State.makeRandom (s : State) (r : KeyReq) (o : Nat) : Except Nat MadeKey :=
  match s.keyFields r o with
  | none => .error 0x0D
  | some (id, type, policy) =>
    if s.argOk r (o + 8) false = false then .error 0x0D
    else if type ≠ .secret ∧ type ≠ .sk then .error 0x02
    else .ok
      { slot := mkSlot id type policy none 0 (Config.freeBytes s.free 32), file := [], len := 8, cyc := 800 + skExtra type }

/-- The key that IMPORT takes, or its error. -/
def State.makeImported (s : State) (r : KeyReq) (o : Nat) : Except Nat MadeKey :=
  match s.keyFields r o with
  | none => .error 0x0D
  | some (id, type, policy) =>
    if s.argOk r (o + 1968) false = false ∨ allZero (s.keyArg r (o + 8) 8) = false then .error 0x0D
    else if type ≠ .pk then .error 0x02
    else
      let key := s.keyArg r (o + 16) 1952
      .ok { slot := mkSlot id type policy none 0 (digest64 key), file := key, len := 1968, cyc := 2390 }

/-- A made key enters its slot. -/
def Keys.place (k : Nat) (m : MadeKey) (q : Keys) : Keys :=
  let q1 := q.setSlot k m.slot
  if m.slot.type = .pk then { q1 with files := Tbl.set k m.file q1.files } else q1

/-- The running command, when it has a code. -/
def State.keyRun (s : State) (code : Nat) : Option KeyRun :=
  match s.key.run with
  | some u => if s.alive && u.req.cmd == code then some u else none
  | none => none

/-- A command that fills an EMPTY slot ends (R459); slot 4 takes only PROVISION (R460). -/
def State.fill (u : KeyRun) (m : Except Nat MadeKey) (s : State) : State :=
  match m with
  | .error e => s.keyEnd e 0 []
  | .ok m =>
    if u.slot.state ≠ .empty ∨ u.req.slot = 4 then s.keyEnd 0x01 0 []
    else ({ s with free := s.free + 1 }.modKey fun q => q.place u.req.slot m).keyEnd 0 m.cyc []

/-- DERIVE. -/
def execDerive (s : State) : Host.Outcome State Fault Refusal :=
  match s.keyRun 1 with
  | some u => .next (s.fill u (s.makeDerived u.req u.aux 0))
  | none => .next s

/-- GENERATE. -/
def execGenerate (s : State) : Host.Outcome State Fault Refusal :=
  match s.keyRun 2 with
  | some u => .next (s.fill u (s.makeRandom u.req 0))
  | none => .next s

/-- IMPORT. -/
def execImportKey (s : State) : Host.Outcome State Fault Refusal :=
  match s.keyRun 3 with
  | some u => .next (s.fill u (s.makeImported u.req 0))
  | none => .next s

/-! ### Replacement (R473, R474, R483) -/

/-- ML-DSA-65 signs a message with a context, hedged with 32 random bytes: the signature of 3,309 bytes and the attempts,
at least 1 (R466, R468). -/
def State.mldsa (s : State) (sk msg ctx : List Byte) : List Byte × Nat :=
  let x := Config.mldsaSign sk msg ctx (Config.freeBytes s.free 32)
  ((padTo 3309 x.1).take 3309, max 1 x.2)

/-- The digest of a password opening for a level (R483). -/
def pwDigest (salt : List Byte) (level : Nat) (pw : List Byte) : List Byte :=
  digest64 (salt ++ Config.deviceUid ++ toLe 1 level ++ pw)

/-- Bytes of the expected check value of a replacement: none for a generated key (R464, R473). -/
def checkLen (src : Nat) (t : KeyType) : Nat :=
  match t with
  | .secret => if src = 1 then 0 else 16
  | .sk => if src = 1 then 0 else 64
  | .pk => 3309
  | .none | .password => 0

/-- The verification of a replacement and its cycles (R473). -/
def State.verifyNew (s : State) (r : KeyReq) (src : Nat) (m : MadeKey) (o : Nat) : Bool × Nat :=
  match m.slot.type with
  | .secret => (src == 1 || m.slot.kcv == s.keyArg r o 16, 60)
  | .sk =>
    let pk := Config.mldsaPublic m.slot.mat
    let test := digest64 []
    let sg := s.mldsa m.slot.mat test (ascii "XJ9640 key")
    ((src == 1 || digest64 pk == s.keyArg r o 64) && Config.mldsaVerify pk test (ascii "XJ9640 key") sg.1,
      6000 + sg.2 * 38000 + 52000)
  | .pk => (Config.mldsaVerify m.file m.slot.mat (ascii "XJ9640 key") (s.keyArg r o 3309), 390 + 52000)
  | .none | .password => (true, 0)

/-- A password is set: salt from the random source, and the digest for the level whose PW_SLOT names the slot; the password
follows the fields, after its length (DESIGN CHOICE, log entry 13). -/
def State.setPassword (u : KeyRun) (s : State) : State :=
  let r := u.req
  let n := leNat (s.keyArg r 16 1)
  match s.keyFields r 8, (List.range 3).find? fun i => s.run.trust.pwSlot[i]? == some r.slot with
  | none, _ => s.keyEnd 0x0D 0 []
  | some _, none => s.keyEnd 0x01 0 []
  | some (id, _, policy), some i =>
    if n < 8 ∨ 64 < n then s.keyEnd 0x0D 0 []
    else if u.slot.state ≠ .empty ∧ u.slot.type ≠ .password then s.keyEnd 0x02 0 []
    else
      let salt := Config.freeBytes s.free 16
      let x := { mkSlot id .password policy none 0 (salt ++ pwDigest salt (i + 1) (s.keyArg r 17 n)) with
        gen := (u.slot.gen + 1) % 2 ^ 32 }
      ((({ s with free := s.free + 1 }.modKey fun q => q.setSlot r.slot x).keyRaise 3).keyEnd 0 800 [])

/-- The replacement of a running REPLACE is made, verified and committed, or discarded (R473); a test signature that 256 attempts do not
give ends it SIGN_LIMIT (R468). -/
def State.replaceKey (u : KeyRun) (s : State) : State :=
  let r := u.req
  let src := leNat (s.keyArg r 0 1)
  let e := s.key.replaceErr r.slot (s.setsPassword r)
  if e ≠ 0 then s.keyEnd e 0 []
  else if s.setsPassword r then s.setPassword u
  else
    let m := if src = 0 then s.makeDerived r u.aux 8 else if src = 1 then s.makeRandom r 8
      else if src = 2 then s.makeImported r 8 else .error 0x0D
    match m with
    | .error e => s.keyEnd e 0 []
    | .ok m =>
      if m.slot.type ≠ u.slot.type then s.keyEnd 0x02 0 []
      else if s.argOk r (8 + m.len + checkLen src m.slot.type) false = false then s.keyEnd 0x0D 0 []
      else
        let v := s.verifyNew r src m (8 + m.len)
        let s1 := { s with free := s.free + 1 }
        if m.slot.type = .sk ∧ 6000 + 256 * 38000 + 52000 < v.2 then
          (s1.keyRaise 5).keyEnd 0x0A (m.cyc + 6000 + 256 * 38000) []
        else if v.1 then
          let x := { m with slot := { m.slot with gen := (u.slot.gen + 1) % 2 ^ 32 } }
          ((s1.modKey fun q => q.place r.slot x).keyRaise 3).keyEnd 0 (m.cyc + v.2) []
        else s1.keyEnd 0x07 (m.cyc + v.2) []

/-- REPLACE. -/
def execReplace (s : State) : Host.Outcome State Fault Refusal :=
  match s.keyRun 4 with
  | some u => .next (s.replaceKey u)
  | none => .next s

/-- KEY_ERASE: ERASE clears a slot that is not ACTIVE (R464, R465). -/
def execKeyErase (s : State) : Host.Outcome State Fault Refusal :=
  match s.keyRun 6 with
  | some u =>
    if u.slot.live then .next (s.keyEnd 0x01 0 [])
    else if s.key.hasChildren u.req.slot then .next (s.keyEnd 0x08 0 [])
    else
      .next ((s.modKey fun q =>
        { (q.setSlot u.req.slot KeySlot.blank) with files := Tbl.del u.req.slot q.files }).keyEnd 0 64 [])
  | none => .next s

/-! ### Use commands (R464, R466 to R468) -/

/-- The error of using a slot with a type and a policy bit; 0 for none. -/
def KeySlot.useErr (x : KeySlot) (t : KeyType) (bit : Nat) : Nat :=
  if x.state = .orphaned then 0x06
  else if x.live = false then 0x01
  else if x.type ≠ t then 0x02
  else if x.may bit = false then 0x03
  else 0

/-- A result is written to the argument block, or returned over the UART. -/
def State.keyResult (r : KeyReq) (o : Nat) (b : List Byte) (s : State) : State :=
  match r.uart with
  | some _ => s
  | none => s.busWrite (Initiator.code .security) (r.arg + o) b

/-- A signature ends: after 256 rejected attempts with SIGN_LIMIT, otherwise with its result (R468, R470). -/
def State.signEnd (u : KeyRun) (base o : Nat) (pre : List Byte) (sg : List Byte × Nat) (s : State) : State :=
  let k := min sg.2 256
  let s1 := ({ s with free := s.free + 1 }).modKey fun q =>
    { q with attempts := k, resRevoked := u.revoked && decide (sg.2 ≤ 256) }
  if 256 < sg.2 then (s1.keyRaise 5).keyEnd 0x0A (base + k * 38000) []
  else (s1.keyResult u.req o (pre ++ sg.1)).keyEnd 0 (base + k * 38000) (pre ++ sg.1)

/-- SIGN. -/
def execSign (s : State) : Host.Outcome State Fault Refusal :=
  match s.keyRun 7 with
  | some u =>
    let cl := leNat (s.keyArg u.req 64 1)
    let e := u.slot.useErr .sk 2
    if s.argOk u.req (72 + cl) false = false ∨ s.argOk u.req (72 + cl + 3309) true = false
        ∨ allZero (s.keyArg u.req 65 7) = false then .next (s.keyEnd 0x0D 0 [])
    else if e ≠ 0 then .next (s.keyEnd e 0 [])
    else .next (s.signEnd u 0 (72 + cl) [] (s.mldsa u.slot.mat (s.keyArg u.req 0 64) (s.keyArg u.req 72 cl)))
  | none => .next s

/-- SEC cycles that load the public key of a slot: none for a key that TRUST names, which CONFIGURE loaded; otherwise the read of its key
file from flash, which is free, and its digest (R467). -/
def State.pkLoad (s : State) (k : Nat) : Nat :=
  let t := s.run.trust
  if s.acc.locked && (t.accord ++ t.amend ++ t.exports).contains k then 0 else Config.freeNat s.free + 390

/-- VERIFY: a key file that fails its digest check ends with 0x01 and an entry (R466, R467). -/
def execVerify (s : State) : Host.Outcome State Fault Refusal :=
  match s.keyRun 8 with
  | some u =>
    let cl := leNat (s.keyArg u.req 64 1)
    let e := u.slot.useErr .pk 3
    let key := s.key.file u.req.slot
    let load := s.pkLoad u.req.slot
    let s := { s with free := s.free + 1 }
    if s.argOk u.req (72 + cl + 3309) false = false ∨ allZero (s.keyArg u.req 65 7) = false then .next (s.keyEnd 0x0D 0 [])
    else if e ≠ 0 then .next (s.keyEnd e 0 [])
    else if digest64 key ≠ u.slot.mat then
      .next ((s.log silKEY 0 4 273 (toLe 4 s.key.status ++ toLe 2 u.req.slot)).keyEnd 0x01 load [])
    else if Config.mldsaVerify key (s.keyArg u.req 0 64) (s.keyArg u.req 72 cl) (s.keyArg u.req (72 + cl) 3309) then
      .next (s.keyEnd 0 (load + 52000) [])
    else .next (s.keyEnd 0x0B (load + 52000) [])
  | none => .next s

/-- D(L): SEC cycles of a digest of L bytes (R67). -/
def digestCycles (n : Nat) : Nat := ceilDiv (n + 1) 136 * 26

/-- MAC: KMAC256 over a message with a SECRET256 key (R464). -/
def execMac (s : State) : Host.Outcome State Fault Refusal :=
  match s.keyRun 9 with
  | some u =>
    let f := fun o n => leNat (s.keyArg u.req o n)
    let addr := f 0 8
    let len := f 8 4
    let ol := f 12 1
    let sl := f 13 1
    let e := u.slot.useErr .secret 1
    let msgReq : KeyReq := { u.req with arg := addr, uart := none }
    if (ol ≠ 16 ∧ ol ≠ 32) ∨ 32 < sl ∨ f 14 2 ≠ 0 ∨ s.argOk u.req (16 + sl) false = false
        ∨ s.argOk u.req (16 + sl + ol) true = false ∨ s.argOk msgReq len false = false then .next (s.keyEnd 0x0D 0 [])
    else if e ≠ 0 then .next (s.keyEnd e 0 [])
    else
      let tag := Config.kmac256 u.slot.mat (Mem.readN s.mem addr len) ol (s.keyArg u.req 16 sl)
      .next ((s.keyResult u.req (16 + sl) tag).keyEnd 0 (digestCycles len + 60) tag)
  | none => .next s

/-! ### Firmware, rollback counters and quotes (R476 to R480) -/

/-- The firmware image in use (R477). -/
def State.firmwareImage (s : State) : List Byte := Config.firmware (Config.firmwarePtr != s.key.fwFallback)

/-- Length of the part of a signed image that its digest covers: up to the SIGN TLV of 3,328 bytes (R65, R476). -/
def signedLen (b : List Byte) : Nat := leAt b 8 4 - 3328

/-- Digest of a firmware image (R476). -/
def fwDigest (b : List Byte) : List Byte := digest64 (b.take (signedLen b))

/-- A firmware image ends with a SIGN TLV laid out as in R65 (R476). -/
def fwSign (b : List Byte) : Bool :=
  let o := signedLen b
  leAt b o 4 == 15 && leAt b (o + 4) 4 == 3317 && leAt b (o + 8) 4 == 1 && leAt b (o + 12) 4 == 3309 && allZero (slice b (o + 3325) 3)

/-- A firmware image is accepted: header form, digest and signature with slot 1, and ROLLBACK at least counter 0 (R476,
R477). -/
def fwOk (b : List Byte) (rbk : Nat) : Bool :=
  b.take 4 == ascii "XJFW" && leAt b 4 2 == 1 && leAt b 6 2 == 64 && leAt b 8 4 % 8 == 0 && decide (leAt b 8 4 ≤ 8388608)
    && leAt b 8 4 == b.length && decide (leAt b 16 1 ≤ 64) && allZero (slice b 17 3) && allZero (slice b 36 28) && fwSign b
    && Config.mldsaVerify Config.firmwareKey (fwDigest b) (ascii "XJ9640 firmware") (slice b (signedLen b + 16) 3309)
    && decide (rbk ≤ leAt b 16 1)

/-- The error of ADVANCE (R479). -/
def State.advanceErr (s : State) (k level : Nat) : Nat :=
  if h : k < 32 then
    let max_ := if k = 0 then (if s.sys.state = .service then leAt s.firmwareImage 16 1 else 0) else 64
    if (k ≠ 0 ∧ k < 8) ∨ level < s.key.otp[k] ∨ max_ < level then 0x0E else 0
  else 0x0E

/-- ADVANCE: the counter is raised to the level, 2,000 SEC cycles a step; source 282 asserts (R478, R479, R489). -/
def execAdvance (s : State) : Host.Outcome State Fault Refusal :=
  match s.keyRun 0x0B with
  | some u =>
    let k := u.req.aux
    let e := s.advanceErr k u.req.slot
    if e ≠ 0 then .next (s.keyEnd e 0 [])
    else
      let steps := u.req.slot - s.key.otp.toList.getD k 0
      .next (((s.modKey fun q => { q with otp := q.otp.setIfInBounds k u.req.slot }).keyRaise 10).keyEnd 0 (2000 * steps) [])
  | none => .next s

/-- The 640-byte body of a quote (R480). -/
def State.quoteBody (s : State) (nonce : List Byte) : List Byte :=
  let fw := s.firmwareImage
  let newest := s.sil.window.headD (0, zeros 32)
  let bank := fun i : Fin 4 =>
    if (s.run.prog.parts.any fun c => c.part == i.val + 1) then (padTo 64 s.prog.p[i].digest).take 64 else zeros 64
  (ascii "XJQT" ++ toLe 2 1 ++ zeros 2 ++ (padTo 16 Config.deviceUid).take 16 ++ (padTo 32 nonce).take 32 ++ toLe 8 s.fs.tnc
    ++ toLe 4 (secReg s.rtc.t) ++ toLe 1 s.rtc.grade ++ toLe 1 s.sys.state.code ++ zeros 2 ++ (padTo 64 (fwDigest fw)).take 64
    ++ (padTo 64 (digest64 (slice fw (leAt fw 0x14 4) (leAt fw 0x18 4)))).take 64
    ++ (padTo 64 s.run.hdr.digest).take 64 ++ toLe 4 s.run.hdr.seq ++ toLe 1 s.acc.appliedNum ++ zeros 3
    ++ (List.finRange 4).flatMap bank ++ s.key.otp.toList.map (BitVec.ofNat 8) ++ toLe 4 newest.1 ++ zeros 4
    ++ slice newest.2 0 8 ++ (padTo 64 (digest64 newest.2)).take 64)

/-- QUOTE: the body signed with slot 3 and context "XJ9640 quote" (R480). -/
def execQuote (s : State) : Host.Outcome State Fault Refusal :=
  match s.keyRun 0x0A with
  | some u =>
    if s.argOk u.req 32 false = false ∨ s.argOk u.req (32 + 3949) true = false then .next (s.keyEnd 0x0D 0 [])
    else
      let body := s.quoteBody (s.keyArg u.req 0 32)
      .next (s.signEnd u 290 32 body (s.mldsa (s.key.slot 3).mat (digest64 body) (ascii "XJ9640 quote")))
  | none => .next s

/-! ### Resets and boot (R472, R475, R491) -/

/-- An OTP counter that an abandoned ADVANCE leaves: its old value or a higher one no greater than the target (R479). -/
def State.abandonAdvance (s : State) : State :=
  match s.key.run with
  | some u =>
    if u.req.cmd = 0x0B ∧ s.advanceErr u.req.aux u.req.slot = 0 then
      let old := s.key.otp.toList.getD u.req.aux 0
      { s with free := s.free + 1 }.modKey fun q => { q with
        otp := q.otp.setIfInBounds u.req.aux (old + Config.freeNat s.free % (u.req.slot - old + 1)) }
    else s
  | none => s

/-- The running command is abandoned and ends ABORTED; queued commands stay until the reset (R468, R511). -/
def State.keyAbort (s : State) : State :=
  match s.key.run with
  | some u => (s.abandonAdvance).modKey fun q => { q with run := none, lastCmd := u.req.cmd, err := 0x0F }
  | none => s

/-- The store at a reset: volatile slots, queue, nonce and registers clear; slots 0 to 495, key files, counters, F and the
lock stay; an open journal entry is completed or discarded before any key is used (R472, R475, R491). Access that was
open closes with its entry (R485). -/
def State.keyReset (s : State) : State :=
  let s1 := s.keyAbort
  let mark := !s1.key.journal.isEmpty
  let s2 := s1.modKey fun q =>
    let named := q.revoked
    let all := (q.slots.map (·.1)).filter fun k => named.any fun r => q.under r k
    let q1 := all.foldl (Keys.kill named) q
    let q2 := (q1.slots.filter fun x => x.2.state == .pending).foldl (fun q x => q.unpend x.1) q1
    { Keys.reset with
      slots := q2.slots.filter fun x => decide (x.1 < 496), files := q2.files.filter fun x => decide (x.1 < 496),
      bootMark := mark, otp := q.otp, fails := q.fails, lockEnd := q.lockEnd, uart := q.uart }
  let s3 := if mark then s2.log silKEY 0 4 276 (toLe 4 s2.key.status) else s2
  if s.key.level = 0 then s3 else s3.log silKEY 0 4 279 (toLe 4 s3.accStatus)

end Sys2Proof.Machine
end

