-- ==== Sys2Proof/Machine/TwinLink.lean ====
section
/-! DEFINITION. The twin link: claim, gate, twin state and the frames that the module sends (R533 to R541). -/

namespace Sys2Proof.Machine

/-! ### Claim and gate (R535, R538, R539) -/

/-- A twin is in use: TWIN_USE of the applied accord (R63, R539). -/
def State.twinUsed (s : State) : Bool := s.alive && s.acc.locked && s.run.str.twin

/-- The TWIN block asserts source 296 + i, enabled by SIL_EVT_EN (R544). -/
def State.twinRaise (i : Nat) (s : State) : State := s.raiseEn s.sil.evtEn 296 i

/-- The gate closes: every DIO output goes OFF, and MCLK stops as it follows the gate (R309, R419, R535). -/
def State.closeGate (s : State) : State :=
  if s.twin.gate then (s.modTwin fun t => { t with gate := false }).dioGateClosed else s

/-- The claim is negated, and the gate closes with it (R535, R538). -/
def State.negateClaim (s : State) : State :=
  (s.modTwin fun t => { t with claimOut := false, settleFrom := none }).closeGate

/-- The twin state changes: source 299 asserts (R539, R544). -/
def State.twinTo (x : TwinState) (s : State) : State :=
  if s.twin.state = x then s else (s.modTwin fun t => { t with state := x }).twinRaise 3

/-- A claim request: CLAIM_OUT asserts only if CLAIM_IN is negated, and in no state in which R538 keeps it negated; the settle time counts
from then (R535). -/
def State.twinClaim (s : State) : State :=
  if s.twin.claimIn || s.twin.claimOut || !s.acting then s
  else s.modTwin fun t => { t with claimOut := true, settleFrom := some s.now }

/-! ### Frames sent (R533) -/

/-- The 32-byte header of a twin frame. -/
def twinHeader (type seq part commit len : Nat) : List Byte :=
  ascii "XJTW" ++ toLe 1 type ++ zeros 3 ++ toLe 4 seq ++ toLe 1 part ++ zeros 3 ++ toLe 8 commit ++ toLe 4 len ++ zeros 4

/-- The tag of a twin frame under a key. -/
def twinTag (key header payload : List Byte) : List Byte :=
  (Config.kmac256 key (header ++ payload) 16 (ascii "XJ9640 twin")).take 16

/-- The tag key: a SECRET256 slot with policy MAC. -/
def State.twinKey (s : State) : List Byte := (s.key.slot s.run.twin.key).mat

/-- A twin frame is sent. -/
def State.sendTwin (type part commit : Nat) (payload : List Byte) (s : State) : State :=
  let q := s.twin.seqOut
  let f : TwinFrame := { type := type, seq := q, part := part, commit := commit, payload := payload,
                         tag := twinTag s.twinKey (twinHeader type q part commit payload.length) payload }
  s.modTwin fun t => { t with seqOut := (q + 1) % 2 ^ 32, sent := (f :: t.sent).take 64 }

/-- The ACTIVE module sends the DELTA frames of a sealed commit of a partition (R541). -/
def State.sendDelta (p : Fin 4) (lines : List (Nat × List Byte)) (img : Img) (s : State) : State :=
  let s1 := s.modTwin fun t => { t with sealedOut := upd t.sealedOut p (· + 1) }
  if s.twinUsed && s.twin.state == .active then
    (Config.deltaPayloads lines img).foldl (fun s x => s.sendTwin 2 (p.val + 1) s1.twin.sealedOut[p] x) s1
  else s1

/-- A STANDBY module asks for the whole committed area of the partitions it lacks (R541). -/
def State.sendResync (s : State) : State :=
  (List.finRange 4).foldl (fun (s : State) p =>
    if s.twin.stale[p] then s.sendTwin 5 (p.val + 1) 0 [] else s) s

/-- Every partition in use is to be mirrored whole: SYNC clears and RESYNC goes out (R541). -/
def State.loseSync (s : State) : State :=
  (s.modTwin fun t => { t with
    sync := false, stale := s.run.str.parts, gather := Vector.replicate 4 none }).sendResync

/-- The module becomes STANDBY: it asks for every partition (R539, R543). -/
def State.standBy (s : State) : State := (s.twinTo .standby).loseSync

end Sys2Proof.Machine
end

