-- ==== Sys2Proof/Machine/SafeHold.lean ====
section
/-! DEFINITION. Entry into SAFE_HOLD (R5, R6, R420, R502, R509, R528, R538, R539). -/

namespace Sys2Proof.Machine

/-- Entry 0x144: symbol, partition, action (0 set, 1 released, 2 released by a reconciliation). -/
def State.forceLog (p : Fin 4) (sym action : Nat) (s : State) : State :=
  s.log silPROG (p.val + 1) 1 0x144 (toLe 4 sym ++ toLe 1 (p.val + 1) ++ toLe 1 action)

/-- Every force of a partition is released, each with its entry (R288). -/
def State.dropForces (s : State) (p : Fin 4) : State :=
  (s.prog.p[p].forces.foldl (fun s f => s.forceLog p f.symbol 1) s).modPart p fun x => { x with forces := [] }

/-- Every force of every partition is released (R288). -/
def State.dropAllForces (s : State) : State := (List.finRange 4).foldl State.dropForces s

/-- The module leaves COMMISSIONING: forces are released and listen mode ends (R288, R359, R360, R503). -/
def State.leaveCommissioning (s : State) : State :=
  (List.finRange 8).foldl (fun s n => s.modCan n CanPort.leaveListen) s.dropAllForces

/-- The module leaves COMMISSIONING without another operating mode (R288, R359). -/
def State.forcesOff (s : State) : State := if s.sys.mode = .commissioning then s.leaveCommissioning else s

/-- The module enters SAFE_HOLD: FAULT_N goes low, the twin claim is negated with the state RELEASED, and a capture with reason
5 starts. Loops and tasks run no more, and DIO outputs take their safe states at the next output instant. -/
def State.toSafeHold (s : State) : State :=
  let s1 := ((s.forcesOff.enterState .safeHold).modPwr fun p => { p with faultN := true }).negateClaim
  (if s.run.str.twin && s.acc.locked then s1.twinTo .released else s1).capture 5

end Sys2Proof.Machine
end

