-- ==== Sys2Proof/Machine/CorePairs.lean ====
section
/-! DEFINITION. Lockstep, consistency points, migration and the PAIR registers (R111 to R127). -/

namespace Sys2Proof.Machine

/-! ### Consistency points (R113, R114) -/

/-- A consistency point of a role: the dirty lines are copied to the log and the log is sealed in d + 1 FAB cycles, for
which the pair stalls; an apply phase still to come is waited for (R113 phases 1 and 2, R299). -/
def State.seal (r : Fin 7) (s : State) : State :=
  let s1 := s.applyWait r
  let p := s1.pairs.place[r]
  let pr := s1.pairs.p[p.castSucc]
  let lines := pr.dirty.map fun l => (l, Mem.readN pr.dtcm (64 * l) 64)
  s1.modPairs fun q => { q with
    log := q.log.set r (some lines), sealedCount := upd q.sealedCount r (· + 1),
    p := upd q.p p.castSucc fun x => { x with
      dirty := [], core := { x.core with
        cycles := x.core.cycles + ceilDiv ((pr.dirty.length + 1) * fabV) 4
        at_ := x.core.issueAt s.now + 4 * ceilDiv ((pr.dirty.length + 1) * fabV) 4 } } }

/-- MIRROR_CONSISTENCY_POINT: a pair that has failed makes none (R113, R114). -/
def execMirrorConsistencyPoint (r : Fin 7) (s : State) : Host.Outcome State Fault Refusal :=
  .next (if s.alive && s.acc.locked && s.roleUp r then s.seal r else s)

/-- MIRROR_APPLY: the lane keeps running when its pair fails, and completes the apply phase of a sealed log; a running
checkpoint of the role's partition ends first (R113, R114, R299). -/
def execMirrorApply (r : Fin 7) (s : State) : Host.Outcome State Fault Refusal :=
  .next (if s.alive && !s.ckptRuns r then s.applyLog r else s)

/-! ### Lockstep failures (R111, R119 to R122) -/

/-- PAIR_STATUS. -/
def Pairs.status (q : Pairs) : Nat :=
  put (packBits q.failed.toList) 16 8 + put q.spareRole 8 4 + put (packBits q.bist.toList) 0 8

/-- PAIR_MIG_STATUS. -/
def Pairs.migStatus (q : Pairs) : Nat := flag q.armed 31 + flag q.running 30 + flag q.done 29 + put q.migRole 16 3

/-- The role that a pair holds in PAIR_PLACE. -/
def Pairs.roleOf (q : Pairs) (p : Fin 8) : Option (Fin 7) := (List.finRange 7).find? fun r => q.place[r] == p

/-- Two pairs have failed since the reset: no migration is performed, and one that runs never reaches instant 4 (R121, R122). -/
def Pairs.broken (q : Pairs) : Bool := decide (2 ≤ (q.failed.toList.filter id).length)

/-- Some role is still placed on a pair that has failed: the spare is committed to it (R121). -/
def Pairs.committed (q : Pairs) : Bool := (List.finRange 7).any fun r => q.failed[q.place[r]]

/-- One pair is isolated: FAILED sets, source 32 + n asserts and the event target of its role is held (R111, R444). -/
def State.isolate (p : Fin 8) (s : State) : State :=
  let s1 := s.modPairs fun q => { q with
    failed := q.failed.set p true, p := upd q.p p.castSucc fun x => { x with isolated := true } }
  let s2 := match s.pairs.roleOf p with
    | some r => s1.holdTarget (r.castLE (by decide))
    | none => s1
  s2.raise (32 + p.val)

/-- The states from which a lockstep failure leads to SAFE_HOLD (R502). -/
def State.mayHold (s : State) : Bool :=
  match s.sys.state with
  | .boot | .drydown | .safeHold => false
  | .configure | .start | .service | .commissioning | .test | .recovery => true

/-- A lockstep failure of pairs in one FAB cycle. The module enters SAFE_HOLD when two fail together, when the spare holds
a role or has failed, or when the spare is committed to the role of an earlier failure, and an armed migration is dropped; a spare
that holds no role is marked FAILED (R6, R120, R121, R122). -/
def State.lockstep (ps : List (Fin 8)) (s : State) : State :=
  let fresh := ps.eraseDups.filter fun p => !s.pairs.failed[p]
  let s1 := fresh.foldl (fun s p => s.isolate p) s
  let s2 := if fresh.isEmpty then s1 else s1.capture 4
  let s3 := s2.modPairs fun q => { q with armed := false }
  match fresh with
  | [] => s
  | [p] =>
    if s.pairs.spareRole = 15 && !s.pairs.committed then
      if p = s.pairs.spare then s2.modPairs fun q => { q with spareRole := 14 } else s2
    else if s.mayHold then s3.toSafeHold else s3
  | _ :: _ :: _ => if s.mayHold then s3.toSafeHold else s3

/-- LOCKSTEP_FAILURE. -/
def execLockstepFailure (pairs : List (Fin 8)) (s : State) : Host.Outcome State Fault Refusal :=
  .next (if s.alive then s.lockstep pairs else s)

/-! ### Migration (R116, R117, R123) -/

/-- A write of PAIR_MIG_CTRL: with GO it arms the migration of a role whose pair has failed; a write without effect is
recorded as entry 0x14F (R116, R125). After a second failure no migration is performed (R121): such a write is recorded as the
three cases of R116 are (DESIGN CHOICE, log entry 58). -/
def State.migCommand (w : Initiator) (v : Nat) (s : State) : State :=
  s.guardWrite (isSuperSec w) 0x40040020 w v fun s =>
    if h : bitAt v 8 = true ∧ fld v 2 0 < 7 then
      let r : Fin 7 := ⟨fld v 2 0, h.2⟩
      if s.pairs.failed[s.pairs.place[r]] && s.pairs.spareRole == 15 && !s.pairs.armed && !s.pairs.running && !s.pairs.broken then
        s.modPairs fun q => { q with armed := true, done := false, migRole := r.val, armedAt := s.now }
      else
        s.log silPAIR 0 2 0x14F (toLe 4 v ++ toLe 4 s.pairs.status ++ toLe 4 s.pairs.migStatus)
    else s

/-- MIGRATION_COMMAND. -/
def execMigrationCommand (who : Initiator) (v : Word) (s : State) : Host.Outcome State Fault Refusal :=
  .next (if s.acts who then s.migCommand who v.toNat else s)

/-- Instant 1 of a migration: the role is placed on the spare, its epoch increments and its event target's stack empties
(R117, R126, R444). -/
def State.migrate (r : Fin 7) (s : State) : State :=
  (s.emptyStack (r.castLE (by decide))).modPairs fun q => { q with
    place := q.place.set r q.spare, spareRole := r.val, epoch := upd q.epoch r (wrapInc 16), armed := false,
    running := true, migAt := s.fs.tickAt }

/-- The tick at which an armed migration is carried out, once it is known: the first that falls at least 16 FAB cycles after the
write (R116, R123). -/
def State.migTick (s : State) : Option Nat :=
  if !s.pairs.armed || s.pairs.broken then none
  else if s.fs.started && decide (s.pairs.armedAt + 16 * fabV ≤ s.fs.tickAt) then some s.fs.tickAt
  else if s.pairs.armedAt + 16 * fabV ≤ s.nextTick then some s.nextTick
  else none

/-- The migration of the present tick has not been taken. -/
def State.migDue (s : State) : Bool := s.notesRun && s.fs.started && s.migTick == some s.fs.tickAt

/-- Instant 4 of the running migration falls at or before a cycle and has not been taken. -/
def State.migEnds (s : State) (t : Nat) : Bool :=
  s.pairs.running && !s.pairs.broken && decide (s.pairs.migAt + 12297 * fabV ≤ t)

/-- MIGRATION: the first top tick that falls at least 16 FAB cycles after the write (R116, R123). -/
def execMigration (s : State) : Host.Outcome State Fault Refusal :=
  if h : s.pairs.migRole < 7 then
    if s.migDue then
      .next (s.migrate ⟨s.pairs.migRole, h⟩)
    else .next s
  else .next s

/-- The TCM images of a role are loaded from its master copy and the core is released at an entry point (R112, R117). -/
def State.loadPair (p : Fin 9) (r : Nat) (entry : DWord) (s : State) : State :=
  s.modPairs fun q => { q with p := upd q.p p fun x =>
    { x with itcm := Mem.window s.mem (masterBase r) 0x80000, dtcm := Mem.window s.mem (masterBase r + 0x80000) 0x40000,
             dirty := [], core := { Core.reset with pc := entry } } }

/-- Instant 4 of a migration, 12,297 FAB cycles after its tick: the spare is released from the last consistency point,
DONE sets, source 51 asserts and the held deliveries follow (R117, R444). -/
def State.resume (r : Fin 7) (s : State) : State :=
  let s1 := ((s.to (s.pairs.migAt + 12297 * fabV)).applyLog r).loadPair s.pairs.spare.castSucc r.val
    (Config.resumeEntry r.val)
  ((s1.modPairs fun q => { q with running := false, done := true }).raise 51).releaseTarget (r.castLE (by decide))

/-! ### Registers and resets -/

/-- The value of a PAIR register at an offset (R125). -/
def State.pairRead (s : State) (ofs : Nat) : Nat :=
  let q := s.pairs
  if ofs = 0 then q.status
  else if ofs = 4 then ((List.finRange 7).map fun r => put q.place[r].val (3 * r.val) 3).sum
  else if h : ofs = 0x10 ∨ ofs = 0x14 ∨ ofs = 0x18 ∨ ofs = 0x1C then
    let i := (ofs - 0x10) / 4
    put (q.epoch.toList.getD (2 * i) 0) 0 16 + put (q.epoch.toList.getD (2 * i + 1) 0) 16 16
  else if ofs = 0x24 then q.migStatus
  else 0

/-- A write of a PAIR register (R125). -/
def State.pairWrite (s : State) (w : Initiator) (ofs v : Nat) : State :=
  if ofs = 0x20 then s.migCommand w v else s

/-- Pairs that hold a role of STRUCT and failed their self-test (R119). -/
def failedRoles (str : StructCfg) (bist : Vector Bool 8) : List (Fin 8) :=
  (List.finRange 8).filter fun p => bist[p] && str.roles[p] != 7

/-- The pair that STRUCT gives a role code. -/
def structPair (str : StructCfg) (r : Nat) : Fin 8 :=
  ((List.finRange 8).find? fun p => str.roles[p].val == r).getD 0

/-- One role, or more, is left without a pair (R119). -/
def roleUnplaced (str : StructCfg) (bist : Vector Bool 8) : Bool :=
  decide (2 ≤ (failedRoles str bist).length) || (bist[structPair str 7] && !(failedRoles str bist).isEmpty)

/-- Pairs that failed their self-test or, since the reset, lockstep: they stay isolated until the next reset (R111, R119). -/
def Pairs.down (q : Pairs) : Vector Bool 8 := Vector.ofFn fun p => q.bist[p] || q.failed[p]

/-- Placement in CONFIGURE: STRUCT, with the one failed role on the spare, and every epoch one more (R119, R120,
R126). -/
def Pairs.placeRoles (str : StructCfg) (q : Pairs) : Pairs :=
  let spare := structPair str 7
  let base : Vector (Fin 8) 7 := Vector.ofFn fun r => structPair str r.val
  let fresh := { q with armed := false, running := false, done := false, migRole := 0, log := Vector.replicate 7 none,
                        sealedCount := Vector.replicate 7 0 }
  match failedRoles str q.down with
  | [] => { fresh with spare := spare, place := base, epoch := vmap q.epoch (wrapInc 16),
                       spareRole := if q.down[spare] then 14 else 15 }
  | p :: _ =>
    { fresh with spare := spare, epoch := vmap q.epoch (wrapInc 16), spareRole := str.roles[p].val,
                 place := vmap base fun x => if x = p then spare else x }

/-- The images of every role are loaded into its pair (R112, R127). -/
def State.loadRoles (s : State) : State :=
  (List.finRange 7).foldl (fun s r => s.loadPair s.pairs.place[r].castSucc r.val (Config.startEntry r.val)) s

end Sys2Proof.Machine
end

