-- ==== Sys2Proof/Machine/InUse.lean ====
section
/-! DEFINITION. Which initiators and collector producers an accord uses (R576, R577). -/

namespace Sys2Proof.Machine

/-- Some interface has a role. -/
def CommsCfg.hasRole (c : CommsCfg) (i : Nat) : Bool := c.ifs.any fun x => bitAt x.roles i

/-- The initiators in use, by OWNER (R576). -/
def RunCfg.inUse (c : RunCfg) (o : Nat) : Bool :=
  if o = 0 ∨ o = 5 ∨ o = 6 ∨ o = 8 ∨ o = 0x0F ∨ o = 0x14 then true
  else if 1 ≤ o ∧ o ≤ 4 then c.str.parts.toList.getD (o - 1) false
  else if 9 ≤ o ∧ o ≤ 0x0C then c.solve.problems.any fun p => p.engine + 9 == o
  else if o = 0x0D then c.loops.loops.any fun x => decide (x.1 < 512)
  else if o = 0x0E then c.loops.loops.any fun x => decide (512 ≤ x.1)
  else if o = 0x10 then c.can.any fun p => bitAt p.flags 0 && bitAt p.flags 6
  else if o = 0x11 then c.str.twin
  else if o = 0x12 then c.comms.hasRole 0
  else if o = 0x13 then c.dio.ch.any fun x => x.mode != 0
  else false

/-- The collector producers in use (R577). -/
def RunCfg.producer (c : RunCfg) (k : Nat) : Bool :=
  if k < 4 then c.inUse (9 + k) else if k < 6 then c.inUse (9 + k) else if k = 6 then true
  else if k = 7 then c.inUse 0x12
  else if k < 16 then c.can.any fun p => p.port + 8 == k && bitAt p.flags 0 && bitAt p.flags 6
  else if k < 20 then c.comms.ifs.any fun x => x.port + 16 == k && bitAt x.roles 2
  else if k = 20 then c.inUse 0x13 else if k = 21 then true
  else if k < 29 then c.inUse (k - 22)
  else k == 29 || (c.mem.queues.any fun q => q.1 == k && decide (30 ≤ k) && decide (q.2 ≤ 6))

end Sys2Proof.Machine
end

