-- ==== Sys2Proof/Machine/Collector.lean ====
section
/-! DEFINITION. The collector: post queues, rings, sweeps, stale discards and releases (R106 to R110, R125, R577). -/

namespace Sys2Proof.Machine

/-- A collector producer of the fabric. -/
def Fabric.producer (f : Fabric) (k : Nat) : Producer := Tbl.getD f.prod k Producer.reset

/-- The fabric with one producer changed. -/
def Fabric.setProducer (f : Fabric) (k : Nat) (p : Producer) : Fabric := { f with prod := Tbl.set k p f.prod }

/-- The ring that MEMORY declares for a producer: address, length in records, owning role (R577). -/
def MemoryCfg.ringOf (m : MemoryCfg) (k : Nat) : Option (Nat × Nat × Nat) :=
  (m.rings.find? fun r => r.1 == k).map (·.2)

/-- The current epoch of a role; 0 for a code that names none. -/
def Pairs.epochOf (q : Pairs) (r : Nat) : Nat := q.epoch.toList.getD r 0

/-- The epoch of a role in the present FAB cycle: from the tick of an armed migration on it is the incremented one (R110, R117). -/
def State.epochNow (s : State) (r : Nat) : Nat :=
  match s.migTick with
  | some t => if t ≤ s.now ∧ s.pairs.migRole = r then wrapInc 16 (s.pairs.epochOf r) else s.pairs.epochOf r
  | none => s.pairs.epochOf r

/-- A producer completes a record: it enters the post queue, or is held while the queue is full, which the collector counts
and reports with source 50. A producer that the accord does not use never posts (R106, R108, R577). -/
def State.postRec (k : Nat) (r : Rec) (s : State) : State :=
  let p := s.fab.producer k
  if !s.run.producer k then s
  else if p.queue.length < 4 && p.held.isEmpty then
    s.modFab fun f => f.setProducer k { p with queue := p.queue ++ [r] }
  else
    (s.modFab fun f => { f.setProducer k { p with held := p.held ++ [r] } with
      stallCount := satInc 65535 f.stallCount, stallProd := k }).raise 50

/-- A producer that a sweep takes: a non-empty queue and a free ring entry (R107). -/
def State.ready (s : State) (k : Nat) : Bool :=
  match s.run.mem.ringOf k with
  | some (_, len, _) => !(s.fab.producer k).queue.isEmpty && decide ((s.fab.producer k).fill < len)
  | none => false

/-- Completions held by a full queue move into it as entries free (R108). -/
def Producer.refill (p : Producer) : Producer :=
  let k := 4 - p.queue.length
  { p with queue := p.queue ++ p.held.take k, held := p.held.drop k }

/-- The head record of a producer is posted to its ring, or discarded when its epoch is not the current one of its
destination role (R107, R109, R110). -/
def State.postHead (k : Nat) (s : State) : State :=
  match s.run.mem.ringOf k, (s.fab.producer k).queue with
  | some (base, len, _), r :: rest =>
    let p := s.fab.producer k
    let p1 := Producer.refill { p with queue := rest }
    if r.role ≤ 6 && r.epoch != s.epochNow r.role then
      (s.modFab fun f => { f.setProducer k p1 with
        staleCount := satInc 1023 f.staleCount, staleProd := k, staleEpoch := r.epoch }).raise 47
    else
      let s1 := (s.busWrite noCode (base + 64 * p.wr) r.data).modFab fun f =>
        f.setProducer k { p1 with wr := (p.wr + 1) % len, fill := p.fill + 1 }
      if r.role ≤ 6 then s1.raise (40 + r.role) else s1
  | _, _ => s

/-- A write of FAB_COL_RELEASE: the owning role releases ring entries; a count above the entries held releases all; a
release by another initiator is recorded as entry 0x140 (R125). -/
def State.release (w : Initiator) (v : Nat) (s : State) : State :=
  let k := fld v 5 0
  let own := match s.run.mem.ringOf k, w with
    | some (_, _, o), .role r => o == r.val
    | _, _ => false
  s.guardWrite own 0x40030208 w v fun s =>
    s.modFab fun f => f.setProducer k { f.producer k with fill := (f.producer k).fill - fld v 26 16 }

/-- FAB_COL_RELEASE. -/
def execFabColRelease (who : Initiator) (v : Word) (s : State) : Host.Outcome State Fault Refusal :=
  .next (if s.acts who then s.release who v.toNat else s)

/-! ### Registers of the FAB block (R125) -/

/-- A little-endian register of four table bytes. -/
def word4 (l : List Nat) (i : Nat) : Nat :=
  put (l.getD (4 * i) 0) 0 8 + put (l.getD (4 * i + 1) 0) 8 8 + put (l.getD (4 * i + 2) 0) 16 8
    + put (l.getD (4 * i + 3) 0) 24 8

/-- The value of a FAB register at an offset. -/
def State.fabRead (s : State) (ofs : Nat) : Nat :=
  let f := s.fab
  if ofs < 0x100 ∧ ofs % 4 = 0 then word4 f.slots (ofs / 4)
  else if ofs < 0x110 ∧ ofs % 4 = 0 then word4 f.be ((ofs - 0x100) / 4)
  else if ofs = 0x120 then f.errInfo
  else if ofs = 0x124 then f.errAddr % 2 ^ 32
  else if ofs = 0x128 then f.errAddr / 2 ^ 32 % 256
  else if ofs = 0x130 then put f.eccUnc 16 16 + put f.eccCor 0 16
  else if ofs = 0x200 then put f.staleCount 22 10 + put f.staleProd 16 6 + put f.staleEpoch 0 16
  else if ofs = 0x204 then put f.stallCount 16 16 + put f.stallProd 0 6
  else 0

/-- A write of a FAB register: FAB_ERR_INFO.VALID clears the record and re-arms capture (R98, R125). -/
def State.fabWrite (s : State) (w : Initiator) (ofs v : Nat) : State :=
  if ofs = 0x208 then s.release w v
  else if ofs = 0x120 then
    s.guardWrite (s.granted w 3) 0x40030120 w v fun s =>
      if bitAt (s.clears 0x40030120 v) 31 then
        s.modFab fun f => { f with
          errValid := false, errCause := 0, errAccess := 0, errOwner := 0, errPos := 0, errAddr := 0 }
      else s
  else s

end Sys2Proof.Machine
end

