-- ==== Sys2Proof/Machine/Access.lean ====
section
/-! DEFINITION. Sealed access, the service UART, PROVISION, and the KEY and ACC registers (R481 to R491, R504). -/

namespace Sys2Proof.Machine

/-! ### Opening and closing (R483 to R486) -/

/-- Field access opens at a level for a time in seconds; F clears (R485, R486). -/
def State.accOpen (level method secs : Nat) (s : State) : State :=
  (s.modKey fun q => { q with
    level := level, method := method, openEnd := s.now + secs * 1000000 * usV, fails := 0 }).markFell.accLog 6

/-- A wrong password or response: F counts, and from five on the lock begins (R486). -/
def State.accFail (s : State) : State :=
  let f := satInc 63 s.key.fails
  let s1 := (s.modKey fun q => { q with fails := f }).keyRaise 8
  if 5 ≤ f then
    let mins := min (2 ^ (f - 5)) 1440
    (s1.modKey fun q => { q with lockEnd := some (s.now + mins * 60000000 * usV) }).keyRaise 9
  else s1

/-- A NONCE request: 32 random bytes replace any held nonce (R484). -/
def State.newNonce (s : State) : State :=
  let n := (padTo 32 (Config.freeBytes s.free 32)).take 32
  { s with free := s.free + 1 }.modKey fun q => { q.dropNonce with nonce := some (n, s.now), nonceReg := n }

/-- The slot of K_access and the highest level by challenge; the factory access key at any level when no accord runs (R482). -/
def State.crPolicy (s : State) : Option (Nat × Nat) :=
  if s.acc.locked then
    let t := s.run.trust
    if bitAt t.methods 1 && s.key.usable t.accessKey && (s.key.slot t.accessKey).may 8 then some (t.accessKey, t.crMax)
    else none
  else some (5, 3)

/-- The right response to a nonce (R484). -/
def crResponse (key nonce : List Byte) (level expiry : Nat) : List Byte :=
  Config.kmac256 key (nonce ++ Config.deviceUid ++ toLe 1 level ++ toLe 4 expiry) 32 (ascii "XJ9640 access")

/-- A challenge opening with the result of R487: 0 open, 0x10 wrong level, 0x11 locked, 0x12 refused. -/
def State.tryCr (level expiry : Nat) (resp : List Byte) (s : State) : State × Nat :=
  if s.key.lockEnd.isSome then (s, 0x11)
  else match s.crPolicy, s.key.nonce with
    | none, _ => (s, 0x12)
    | some _, none => (s, 0x12)
    | some (k, max_), some (n, at_) =>
      if level = 0 ∨ max_ < level then (s, 0x10)
      else if expiry < 60 ∨ 28800 < expiry then (s, 0x12)
      else if s.key.gone.any fun g => resp == crResponse (s.key.slot k).mat g level expiry then (s, 0x12)
      else
        let s1 := s.modKey fun q => { q with nonce := none }
        if at_ + nonceLife ≤ s.now then (s.modKey Keys.dropNonce, 0x12)
        else if resp = crResponse (s.key.slot k).mat n level expiry then
          (s1.accOpen level (if s.acc.locked then 2 else 3) expiry, 0)
        else (s1.accFail, 0x12)

/-- A password opening (R483). -/
def State.tryPw (level : Nat) (pw : List Byte) (s : State) : State × Nat :=
  if s.key.lockEnd.isSome then (s, 0x11)
  else if !s.acc.locked || !bitAt s.run.trust.methods 0 then (s, 0x12)
  else if level = 0 ∨ 3 < level ∨ s.run.trust.pwMax < level then (s, 0x10)
  else
    let k := s.run.trust.pwSlot.getD (level - 1) 0xFFFF
    let x := s.key.slot k
    if s.key.usable k && x.type == .password then
      if decide (8 ≤ pw.length) && decide (pw.length ≤ 64) && pwDigest (x.mat.take 16) level pw == x.mat.drop 16 then
        (s.accOpen level 1 (s.run.trust.pwHold * 60), 0)
      else (s.accFail, 0x12)
    else (s, 0x12)

/-! ### ACC registers as commands (R484, R485, R490) -/

/-- The initiators that may write the ACC block (R490). -/
def State.accGranted (s : State) (w : Initiator) : Bool := w == .security || s.granted w 0x51

/-- The bytes of register words. -/
def wordBytes (l : List Nat) : List Byte := l.flatMap (toLe 4)

/-- The response and password words are zeroed after each request. -/
def State.zeroWords (s : State) : State :=
  s.modKey fun q => { q with resp := List.replicate 8 0, pw := List.replicate 16 0, pwLen := 0 }

/-- A write of ACC_REQ. -/
def State.accReq (w : Initiator) (v : Nat) (s : State) : State :=
  s.guardWrite (s.accGranted w) 0x40510000 w v fun s =>
    let cmd := fld v 7 4
    let level := fld v 1 0
    let s := s.settleAcc
    let s1 := if cmd = 1 then s.newNonce
      else if cmd = 2 then (s.tryCr level s.key.expiry (wordBytes s.key.resp)).1
      else if cmd = 3 then (s.tryPw level ((wordBytes s.key.pw).take s.key.pwLen)).1
      else if cmd = 4 then s.accClose else s
    if 1 ≤ cmd ∧ cmd ≤ 4 then s1.zeroWords else s1

/-- ACC_NONCE. -/
def execAccNonce (who : Initiator) (s : State) : Host.Outcome State Fault Refusal :=
  .next (if s.acts who then s.accReq who 0x10 else s)

/-- OPEN_CR. -/
def execOpenCr (who : Initiator) (level : Fin 4) (s : State) : Host.Outcome State Fault Refusal :=
  .next (if s.acts who then s.accReq who (0x20 + level.val) else s)

/-- OPEN_PW. -/
def execOpenPw (who : Initiator) (level : Fin 4) (s : State) : Host.Outcome State Fault Refusal :=
  .next (if s.acts who then s.accReq who (0x30 + level.val) else s)

/-- ACC_CLOSE. -/
def execAccClose (who : Initiator) (s : State) : Host.Outcome State Fault Refusal :=
  .next (if s.acts who then s.accReq who 0x40 else s)

/-- ACCESS_EXPIRY: the end of EXPIRY or PW_HOLD (R485). -/
def execAccessExpiry (s : State) : Host.Outcome State Fault Refusal :=
  .next (if s.alive && s.key.level != 0 then (s.to s.key.openEnd).accClose else s)

/-- LOCK_EXPIRY: the powered lock time has run down (R486). -/
def execLockExpiry (s : State) : Host.Outcome State Fault Refusal :=
  match s.alive, s.key.lockEnd with
  | true, some t => .next ((s.to t).modKey fun q => { q with lockEnd := none })
  | _, _ => .next s

/-- NONCE_EXPIRY: 300 s after its issue the held nonce is stale (R484). -/
def execNonceExpiry (s : State) : Host.Outcome State Fault Refusal :=
  match s.alive, s.key.nonce with
  | true, some (_, t) => .next ((s.to (t + nonceLife)).modKey Keys.dropNonce)
  | _, _ => .next s

/-! ### Service UART (R477, R487, R488) -/

/-- The module stays in BOOT because neither firmware slot passed: only STATUS, NONCE and OPEN_CR are answered (R477). -/
def State.bootOnly (s : State) : Bool := s.sys.state == .boot && !s.pwr.fwOk

/-- The UART serves the frames above SEALED (R487). -/
def State.uartOpen (s : State) : Bool := !s.bootOnly && (!s.acc.locked || bitAt s.run.trust.methods 2)

/-- UART_NONCE. -/
def execUartNonce (s : State) : Host.Outcome State Fault Refusal :=
  .next (if s.alive then
    let s := s.settleAcc
    let s1 := s.newNonce
    s1.uartReply 0x01 0 (s1.key.nonceReg ++ (padTo 16 Config.deviceUid).take 16)
  else s)

/-- The answer of an opening over the UART. -/
def uartOpened (type : Nat) (x : State × Nat) : State := x.1.uartReply type x.2 (toLe 1 x.1.key.level)

/-- UART_OPEN_CR. -/
def execUartOpenCr (level : Byte) (expiry : Word) (resp : List Byte) (s : State) : Host.Outcome State Fault Refusal :=
  .next (if s.alive then
    let s := s.settleAcc
    (if 3 < level.toNat then s.uartReply 0x02 0x10 (toLe 1 s.key.level)
     else uartOpened 0x02 (s.tryCr level.toNat expiry.toNat resp))
  else s)

/-- UART_OPEN_PW. -/
def execUartOpenPw (level : Byte) (pw : List Byte) (s : State) : Host.Outcome State Fault Refusal :=
  .next (if s.alive && !s.bootOnly then uartOpened 0x03 (s.settleAcc.tryPw level.toNat pw) else s)

/-- UART_CLOSE. -/
def execUartClose (s : State) : Host.Outcome State Fault Refusal :=
  .next (if s.alive && !s.bootOnly then s.settleAcc.accClose.uartReply 0x04 0 [] else s)

/-- UART_STATUS. -/
def execUartStatus (s : State) : Host.Outcome State Fault Refusal :=
  let sec := fun t : Nat => ceilDiv (t - s.now) (1000000 * usV)
  .next (if s.alive then
    let s := s.settleAcc
    let q := s.key
    s.uartReply 0x05 0 (toLe 1 q.level ++ toLe 4 (if q.level = 0 then 0 else sec q.openEnd) ++ toLe 1 q.fails
      ++ toLe 4 ((q.lockEnd.map sec).getD 0) ++ toLe 1 s.sys.state.code)
  else s)

/-- UART_KEY_CMD: with SERVICE open the command is submitted; its result is returned when it ends (R481, R487). -/
def execUartKeyCmd (cmd : Byte) (slot aux : BitVec 16) (arg : List Byte) (s : State) : Host.Outcome State Fault Refusal :=
  .next (if s.alive && !s.bootOnly then
    let s := s.settleAcc
    if !s.uartOpen then s.uartReply 0x06 0x12 []
    else if s.key.level < 2 then s.uartReply 0x06 0x10 []
    else
      let s1 := s.keySubmit { cmd := cmd.toNat, aux := aux.toNat, slot := slot.toNat, arg := 0, who := .security,
                              uart := some arg }
      if cmd.toNat = 5 ∨ s1.key.queue.length + (if s1.key.run.isSome then 1 else 0)
          = s.key.queue.length + (if s.key.run.isSome then 1 else 0) then s1.uartReply 0x06 s1.key.err []
      else s1
  else s)

/-- PROVISION: with SERVICE or DEBUG open and slot 4 EMPTY, the owner root is written as an ACTIVE SECRET256 with policy
DERIVE, and its KCV returned (R488). -/
def execProvision (value : List Byte) (s : State) : Host.Outcome State Fault Refusal :=
  .next (if s.alive && !s.bootOnly then
    let s := s.settleAcc
    if !s.uartOpen then s.uartReply 0x07 0x12 []
    else if s.key.level < 2 then s.uartReply 0x07 0x10 []
    else if (s.key.slot 4).state ≠ .empty then s.uartReply 0x07 0x01 []
    else if value.length ≠ 32 then s.uartReply 0x07 0x0D []
    else
      let x := mkSlot 0 .secret 1 none 0 value
      (s.modKey fun q => q.setSlot 4 x).uartReply 0x07 0 x.kcv
  else s)

/-! ### Registers (R490) -/

/-- The value of a KEY register at an offset. -/
def State.keyRead (s : State) (ofs : Nat) : Nat :=
  let q := s.key
  let x := q.slot q.sel
  if ofs = 0x04 then q.arg % 2 ^ 32
  else if ofs = 0x08 then q.arg / 2 ^ 32
  else if ofs = 0x0C then q.status
  else if ofs = 0x10 then flag q.resRevoked 31 + put q.attempts 0 9
  else if ofs = 0x14 then q.sel
  else if ofs = 0x18 then
    put (x.parent.getD 0x3FF) 22 10 + put x.depth 18 4 + put x.state.code 16 2 + put x.type.code 13 3 + put x.policy 0 10
  else if ofs = 0x1C then x.id
  else if ofs = 0x20 then x.gen
  else if 0x30 ≤ ofs ∧ ofs < 0x50 then word4 q.otp.toList ((ofs - 0x30) / 4)
  else if ofs = 0x50 then q.evtEn
  else 0

/-- A write of a KEY register (R490). -/
def State.keyWrite (s : State) (w : Initiator) (ofs v : Nat) : State :=
  if ofs = 0 then s.keyCmd w v
  else s.guardWrite (s.keyGranted w) (0x40500000 + ofs) w v fun s => s.modKey fun q =>
    if ofs = 0x04 then { q with arg := q.arg / 2 ^ 32 * 2 ^ 32 + v / 64 * 64 }
    else if ofs = 0x08 then { q with arg := q.arg % 2 ^ 32 + fld v 7 0 * 2 ^ 32 }
    else if ofs = 0x0C then { q with revDone := q.revDone && !bitAt (s.clears 0x4050000C v) 29 }
    else if ofs = 0x14 then { q with sel := fld v 8 0 }
    else if ofs = 0x50 then { q with evtEn := fld v 11 0 }
    else q

/-- The value of an ACC register at an offset. -/
def State.accRead (s : State) (ofs : Nat) : Nat :=
  if ofs = 0x04 then s.settleAcc.accStatus
  else if ofs = 0x08 then s.key.expiry
  else if 0x20 ≤ ofs ∧ ofs < 0x40 then leAt s.key.nonceReg (ofs - 0x20) 4
  else 0

/-- A write of an ACC register (R490). -/
def State.accWrite (s : State) (w : Initiator) (ofs v : Nat) : State :=
  if ofs = 0 then s.accReq w v
  else s.guardWrite (s.accGranted w) (0x40510000 + ofs) w v fun s => s.modKey fun q =>
    if ofs = 0x08 then { q with expiry := v }
    else if 0x40 ≤ ofs ∧ ofs < 0x60 then { q with resp := q.resp.set ((ofs - 0x40) / 4) v }
    else if 0x60 ≤ ofs ∧ ofs < 0xA0 then { q with pw := q.pw.set ((ofs - 0x60) / 4) v }
    else if ofs = 0xA0 then { q with pwLen := fld v 6 0 }
    else q

end Sys2Proof.Machine
end

