-- ==== Sys2Proof/Machine/AccordWalk.lean ====
section
/-! DEFINITION. The TLV walk of an accord (R60, R61, R574, R575), and the program images that an accord names (R269, R303). -/

namespace Sys2Proof.Machine

/-- An error of R68 or R82: code, low byte of the section type, byte offset. -/
structure AcdErr where
  /-- ERR. -/
  code : Nat
  /-- ERR_SECTION. -/
  sect : Nat
  /-- SYS_ACD_ERR_OFS. -/
  ofs : Nat
  deriving DecidableEq, Repr

/-- A section: type, offset of its value, LENGTH. -/
structure Sect where
  /-- TYPE. -/
  type : Nat
  /-- Offset of the value. -/
  ofs : Nat
  /-- LENGTH. -/
  len : Nat
  deriving DecidableEq, Repr

/-- The required section types, ascending (R61). -/
def requiredTypes : List Nat := [1, 2, 3, 4, 5, 6, 7, 8, 9, 10, 11, 12, 13, 15]

/-- A length with its padding to a multiple of 8. -/
def pad8 (n : Nat) : Nat := ceilDiv n 8 * 8

/-- One section header at an offset: its error, or the section. `bad` is the offset of an uncorrectable byte. -/
def readTlv (b : List Byte) (total : Nat) (bad : Option Nat) (off prev : Nat) : Except AcdErr Sect :=
  let t := leAt b off 2
  let len := leAt b (off + 4) 4
  let low := t % 256
  let vo := off + 8
  let fin := vo + pad8 len
  let inHdr := match bad with | some f => decide (off ≤ f) && decide (f < vo) | none => false
  if total < vo then .error ⟨6, 0, off⟩
  else if inHdr then .error ⟨0x11, low, bad.getD 0⟩
  else if t = 0 ∨ 15 < t ∨ t ≤ prev then .error ⟨6, low, off⟩
  else if leAt b (off + 2) 1 ≠ 0 then .error ⟨6, low, off + 2⟩
  else if leAt b (off + 3) 1 ≠ 0 then .error ⟨6, low, off + 3⟩
  else match requiredTypes.find? fun r => decide (prev < r) && decide (r < t) with
    | some r => .error ⟨6, r, off⟩
    | none =>
      if total < fin then .error ⟨6, low, off + 4⟩
      else match (List.range (fin - (vo + len))).find? fun i => bad == some (vo + len + i) || leAt b (vo + len + i) 1 != 0 with
        | some i => .error ⟨if bad = some (vo + len + i) then 0x11 else 6, low, vo + len + i⟩
        | none => .ok { type := t, ofs := vo, len := len }

/-- The sections of an accord from an offset: types ascend, so at most 15 follow. -/
def walkSects (b : List Byte) (total : Nat) (bad : Option Nat) : Nat → Nat → Nat → Except AcdErr (List Sect)
  | 0, off, _ => .error ⟨6, 0, off⟩
  | fuel + 1, off, prev =>
    if total ≤ off then .error ⟨6, (requiredTypes.find? (prev < ·)).getD 0, total⟩
    else match readTlv b total bad off prev with
      | .error e => .error e
      | .ok x =>
        let next := x.ofs + pad8 x.len
        if x.type = 15 then (if next = total then .ok [x] else .error ⟨6, 15, next⟩)
        else match walkSects b total bad fuel next x.type with
          | .error e => .error e
          | .ok rest => .ok (x :: rest)

/-- Step 6 of R68, with the count of SECTIONS. -/
def accordSects (b : List Byte) (bad : Option Nat) : Except AcdErr (List Sect) :=
  match walkSects b (leAt b 8 4) bad 16 64 0 with
  | .error e => .error e
  | .ok l => if l.length = leAt b 0x12 2 then .ok l else .error ⟨6, 0, 0x12⟩

/-- Offset of a section's value (0 when absent). -/
def sectOfs (l : List Sect) (t : Nat) : Nat := ((l.find? fun x => x.type == t).map (·.ofs)).getD 0

/-- The value of a section (empty when absent). -/
def sectVal (b : List Byte) (l : List Sect) (t : Nat) : List Byte :=
  ((l.find? fun x => x.type == t).map fun x => slice b x.ofs x.len).getD []

/-- The bytes hold an accord whose PROGRAMS names a code bank by this digest (R269, R303). -/
def namesImage (dig b : List Byte) : Bool :=
  match accordSects b none with
  | .error _ => false
  | .ok l =>
    let v := sectVal b l 11
    !allZero dig && (List.range (leAt v 0 1)).any fun k => slice v (8 + 544 * k + 0x110) 64 == dig
        || slice v (8 + 544 * k + 0x150) 64 == dig

end Sys2Proof.Machine
end

