-- ==== Sys2Proof/Machine/FrameSequencer.lean ====
section
/-! DEFINITION. The frame sequencer: note length, discipline, read shadows and registers (R32 to R57). -/

namespace Sys2Proof.Machine

/-! ### Note length and counters -/

/-- The limit of RATE: 10 × 65,536 (R41). -/
def rateLimit : Int := 655360

/-- Top notes in one second, N1 = 100,000,000 / PERIOD (R38). -/
def FrameSeq.n1 (f : FrameSeq) : Nat := 100000000 / f.period

/-- At a top tick the fraction accumulates RATE and the new note is PERIOD + n PERI cycles (R42). -/
def FrameSeq.newLength (f : FrameSeq) : FrameSeq :=
  let a : Int := (f.acc : Int) + f.rate
  let n := ashr a 16
  { f with acc := (a - n * 65536).toNat, noteLen := ((f.period : Int) + n).toNat }

/-- The counters at a top tick: the first tick of START leaves TNC, HPOS and BPOS at 0 and is a heart tick; every other
advances TNC and HPOS, and is a heart tick when HPOS wraps (R34, R35). -/
def FrameSeq.advance (f : FrameSeq) : FrameSeq :=
  if f.started then
    if f.hpos + 1 < f.h then { f with tnc := wrapInc 64 f.tnc, hpos := f.hpos + 1 }
    else { f with tnc := wrapInc 64 f.tnc, hpos := 0, heartDue := true }
  else { f with started := true, heartDue := true }

/-- The counters at a heart tick: BPOS advances, and the tick is a base tick when it wraps (R34). -/
def FrameSeq.heart (f : FrameSeq) : FrameSeq :=
  if f.tnc = 0 then { f with heartDue := false, baseDue := true }
  else if f.bpos + 1 < f.b then { f with heartDue := false, bpos := f.bpos + 1 }
  else { f with heartDue := false, bpos := 0, baseDue := true }

/-- The counters at a base tick: BNC advances (R34). -/
def FrameSeq.base (f : FrameSeq) : FrameSeq :=
  if f.tnc = 0 then { f with baseDue := false } else { f with baseDue := false, bnc := wrapInc 32 f.bnc }

/-! ### Discipline -/

/-- The phase error of an edge `c` PERI cycles after the latest top tick: from the nearest top tick, folded into
−PERIOD/2 ≤ e < PERIOD/2 (R40). -/
def FrameSeq.phase (f : FrameSeq) (c : Int) : Int :=
  let near := if 2 * c < f.noteLen then c else c - f.noteLen
  if (f.period : Int) ≤ 2 * near then near - f.period
  else if 2 * near < -(f.period : Int) then near + f.period else near

/-- Fewer than N1/2 top notes have passed since the previous edge that passed this test (R44). -/
def FrameSeq.isGlitch (f : FrameSeq) (c : Int) : Bool :=
  match f.lastEdge with
  | none => false
  | some (tnc0, c0, len0) =>
    let notes : Int := ((f.tnc : Int) - tnc0) * (f.noteLen * len0) + c * len0 - c0 * f.noteLen
    decide (2 * notes < (f.n1 : Int) * (f.noteLen * len0))

/-- The rate update of an accepted edge (R41). -/
def FrameSeq.update (f : FrameSeq) (e : Int) : FrameSeq :=
  let step := Int.tdiv (e * 65536) f.n1
  let integ := clampI (f.integ + ashr step f.kiShift) (-rateLimit) rateLimit
  { f with e := e, integ := integ, rate := clampI (integ + ashr step f.kpShift) (-rateLimit) rateLimit }

/-- The run of accepted edges with RATE at its limit, and RANGE (R45). -/
def FrameSeq.limits (f : FrameSeq) : FrameSeq :=
  if absI f.rate = rateLimit then
    { f with limitRun := f.limitRun + 1, range := f.range || decide (16 ≤ f.limitRun + 1) }
  else { f with limitRun := 0, range := false }

/-- The edge is accepted in ACQUIRE: it counts towards lock (R43). -/
def FrameSeq.acquire (f : FrameSeq) : FrameSeq :=
  if absI f.e ≤ f.lockWin then
    if 16 ≤ f.lockRun + 1 then { f with dstate := .locked, lockRun := 0, discardRun := 0 }
    else { f with dstate := .acquire, lockRun := f.lockRun + 1 }
  else { f with dstate := .acquire, lockRun := 0 }

/-- An edge that has passed the test of R44, by discipline state (R43). -/
def FrameSeq.edge (f : FrameSeq) (e : Int) : FrameSeq :=
  match f.dstate with
  | .free => f
  | .acquire => (f.update e).limits.acquire
  | .holdover => ({ f with lockRun := 0 }.update e).limits.acquire
  | .locked =>
    if f.glitchWin < absI e then
      let g := { f with discarded := satInc 65535 f.discarded, discardRun := f.discardRun + 1 }
      if 3 ≤ f.discardRun + 1 then { g with dstate := .acquire, lockRun := 0, discardRun := 0 } else g
    else { (f.update e).limits with discardRun := 0 }

/-- SYS_FS_STATUS. -/
def FrameSeq.status (f : FrameSeq) : Nat := flag f.clkFault 8 + flag f.range 5 + f.dstate.code

/-- What a change of the discipline raises: source 5 on a change of state, source 6 and an entry when RANGE sets (R43,
R45, R431). -/
def State.fsEvents (old : FrameSeq) (s : State) : State :=
  let s1 := if old.dstate = s.fs.dstate then s else s.raise 5
  if s.fs.range && !old.range then (s1.raise 6).log silSYS 0 2 6 (toLe 4 s.fs.status ++ toLe 4 (ofSigned 32 s.fs.rate))
  else s1

/-- An edge of the second pulse that falls `c` PERI cycles after the latest top tick, corrected: a glitch is discarded and counted,
and any other edge acts on the discipline (R40, R43, R44). -/
def State.secondEdge (c : Int) (s : State) : State :=
  if s.fs.isGlitch c then s.modFs fun f => { f with discarded := satInc 65535 f.discarded }
  else State.fsEvents s.fs (s.modFs fun f => { f.edge (f.phase c) with lastEdge := some (f.tnc, c, f.noteLen) })

/-- SECOND_PULSE_EDGE: an edge of PPS_IN captured `dt` PERI cycles after the latest top tick, in the note that this tick began; the
two cycles of the synchroniser are removed (R40). Under PTP the edge is the rollover of the PTP clock (R385). -/
def execSecondPulseEdge (dt : Nat) (s : State) : Host.Outcome State Fault Refusal :=
  if s.notesRun && s.fs.started && s.fs.src == 1 && s.fs.dstate != .free && decide (dt < s.fs.noteLen) then
    .next ((s.to (s.fs.tickAt + periV * dt)).secondEdge ((dt : Int) - 2))
  else .next s

/-- A PTP second pulse reaches the sequencer on the PERI edge `at_`, with no correction, also where a command that comes later
settles it (R40, R385). -/
def State.ptpPulse (at_ : Nat) (s : State) : State :=
  let c : Int := ((at_ : Int) - s.fs.tickAt) / (periV : Int)
  if s.notesRun && s.fs.started && s.fs.src == 2 && s.fs.dstate != .free && decide (absI c ≤ s.fs.noteLen) then s.secondEdge c else s

/-- At least 2 × N1 top notes have passed since the latest edge, or since the first note when there was none (R43). -/
def FrameSeq.edgeMissing (f : FrameSeq) (c : Int) : Bool :=
  let e := f.lastEdge.getD (0, 0, max f.noteLen 1)
  let notes : Int := ((f.tnc : Int) - e.1) * (f.noteLen * e.2.2) + c * e.2.2 - e.2.1 * f.noteLen
  decide (2 * (f.n1 : Int) * (f.noteLen * e.2.2) ≤ notes)

/-- DISCIPLINE_HOLDOVER: no edge for 2 × N1 top notes; RATE is held at integ and MISSING counts (R43). -/
def execDisciplineHoldover (s : State) : Host.Outcome State Fault Refusal :=
  if s.notesRun && (s.fs.dstate == .acquire || s.fs.dstate == .locked)
      && s.fs.edgeMissing (((s.now - s.fs.tickAt) / periV : Nat) : Int) then
    .next (State.fsEvents s.fs (s.modFs fun f =>
      { f with dstate := .holdover, rate := f.integ, missing := satInc 65535 f.missing, lockRun := 0,
               discardRun := 0 }))
  else .next s

/-! ### Read shadows (R56) -/

/-- An initiator with no shadow open. -/
def FsShadow.none : FsShadow := { tnc := .none, tb := .none, tickTb := .none }

/-- SYS_FS_POS. -/
def FrameSeq.posReg (f : FrameSeq) : Nat := put f.bpos 16 10 + put f.hpos 0 10

/-- The opening read of a group freezes the rest of it from the live counters. -/
def State.fsOpen (w : Initiator) (g : FsGroup) (s : State) : State :=
  s.modFs fun f => { f with shadows := Tbl.upd f.shadows w.code FsShadow.none fun x =>
    match g with
    | .tnc => { x with tnc := some (f.tnc / 2 ^ 32, f.posReg, f.bnc) }
    | .tb => { x with tb := some (s.tb / 2 ^ 32) }
    | .tickTb => { x with tickTb := some (f.tickTb / 2 ^ 32) } }

/-- The value of the opening register of a group. -/
def State.fsOpenVal (s : State) (g : FsGroup) : Nat :=
  match g with
  | .tnc => s.fs.tnc % 2 ^ 32 | .tb => s.tb % 2 ^ 32 | .tickTb => s.fs.tickTb % 2 ^ 32

/-- The value of the closing register of a group as the initiator reads it. -/
def State.fsCloseVal (s : State) (w : Initiator) (g : FsGroup) : Nat :=
  let x := Tbl.getD s.fs.shadows w.code FsShadow.none
  match g with
  | .tnc => (x.tnc.map (·.2.2)).getD s.fs.bnc
  | .tb => x.tb.getD (s.tb / 2 ^ 32)
  | .tickTb => x.tickTb.getD (s.fs.tickTb / 2 ^ 32)

/-- The closing read of a group releases the initiator's shadows of it. -/
def State.fsClose (w : Initiator) (g : FsGroup) (s : State) : State :=
  s.modFs fun f => { f with shadows := Tbl.upd f.shadows w.code FsShadow.none fun x =>
    match g with
    | .tnc => { x with tnc := .none } | .tb => { x with tb := .none } | .tickTb => { x with tickTb := .none } }

/-- FS_SHADOW_OPEN_READ. -/
def execFsShadowOpenRead (who : Initiator) (g : FsGroup) (s : State) : Host.Outcome State Fault Refusal :=
  .next (if s.acts who then (s.fsOpen who g).answer who (s.fsOpenVal g) else s)

/-- FS_SHADOW_CLOSE_READ. -/
def execFsShadowCloseRead (who : Initiator) (g : FsGroup) (s : State) : Host.Outcome State Fault Refusal :=
  .next (if s.acts who then (s.fsClose who g).answer who (s.fsCloseVal who g) else s)

/-! ### Registers -/

/-- A write of SYS_FS_STEER: in FREE it sets RATE, clamped; otherwise the register is read-only (R43). -/
def State.fsSteer (w : Initiator) (v : Nat) (s : State) : State :=
  s.guardWrite (s.granted w 0) 0x4000010C w v fun s =>
    if s.fs.dstate = .free then
      s.modFs fun f => { f with rate := clampI (toSigned 32 v) (-rateLimit) rateLimit }
    else s

/-- FS_STEER_WRITE. -/
def execFsSteerWrite (who : Initiator) (v : Word) (s : State) : Host.Outcome State Fault Refusal :=
  .next (if s.acts who then s.fsSteer who v.toNat else s)

/-- The value of a frame-sequencer register that an initiator reads (R56). -/
def State.fsRead (s : State) (w : Initiator) (ofs : Nat) : Nat :=
  let f := s.fs
  let x := Tbl.getD f.shadows w.code FsShadow.none
  if ofs = 0x100 then f.period
  else if ofs = 0x104 then put f.b 16 10 + put f.h 0 10
  else if ofs = 0x108 then
    put f.glitchWin 16 16 + put f.lockWin 12 4 + put f.kiShift 8 4 + put f.kpShift 4 4 + put f.src 0 2
  else if ofs = 0x10C then ofSigned 32 f.rate
  else if ofs = 0x110 then f.status
  else if ofs = 0x114 then ofSigned 32 f.e
  else if ofs = 0x118 then put f.missing 16 16 + put f.discarded 0 16
  else if ofs = 0x120 then s.fsOpenVal .tnc
  else if ofs = 0x124 then (x.tnc.map (·.1)).getD (f.tnc / 2 ^ 32)
  else if ofs = 0x128 then s.fsOpenVal .tb
  else if ofs = 0x12C then s.fsCloseVal w .tb
  else if ofs = 0x130 then s.fsOpenVal .tickTb
  else if ofs = 0x134 then s.fsCloseVal w .tickTb
  else if ofs = 0x138 then (x.tnc.map (·.2.1)).getD f.posReg
  else if ofs = 0x13C then s.fsCloseVal w .tnc
  else if ofs = 0x140 then f.noteLen
  else 0

/-- The effect of a read on the initiator's shadows (R56). -/
def State.fsTouch (s : State) (w : Initiator) (ofs : Nat) : State :=
  if ofs = 0x120 then s.fsOpen w .tnc else if ofs = 0x128 then s.fsOpen w .tb
  else if ofs = 0x130 then s.fsOpen w .tickTb else if ofs = 0x12C then s.fsClose w .tb
  else if ofs = 0x134 then s.fsClose w .tickTb else if ofs = 0x13C then s.fsClose w .tnc else s

/-- A permitted write of an RWL frame register before an accord is applied (R10, R57). -/
def FrameSeq.writeRwl (ofs v : Nat) (f : FrameSeq) : FrameSeq :=
  if ofs = 0x100 then { f with period := fld v 19 0 }
  else if ofs = 0x104 then { f with b := fld v 25 16, h := fld v 9 0 }
  else { f with glitchWin := fld v 31 16, lockWin := fld v 15 12, kiShift := fld v 11 8, kpShift := fld v 7 4,
                src := fld v 1 0 }

/-- A write to an RWL register: refused and recorded once the accord has been applied, even with an equal value (R11). -/
def State.rwlWrite (addr : Nat) (w : Initiator) (v : Nat) (f : State → State) (s : State) : State :=
  if s.acc.locked then s.refuse 2 addr w v else f s

/-- A write of a frame-sequencer register (R10, R11, R43, R51). -/
def State.fsWrite (s : State) (w : Initiator) (ofs v : Nat) : State :=
  if ofs = 0x10C then s.fsSteer w v
  else s.guardWrite (s.granted w 0) (0x40000000 + ofs) w v fun s =>
    if ofs = 0x100 ∨ ofs = 0x104 ∨ ofs = 0x108 then
      s.rwlWrite (0x40000000 + ofs) w v fun s => s.modFs fun f => f.writeRwl ofs v
    else if ofs = 0x110 then s.modFs fun f => { f with clkFault := f.clkFault && !bitAt (s.clears 0x40000110 v) 8 }
    else s

/-! ### Resets and CONFIGURE (R57) -/

/-- The frame sequencer at a reset: power-on and drydown end also clear integ; only power-on clears CLK_FAULT. The table of R57
does not name the read shadows of R56; every reset kind releases them (DESIGN CHOICE, log entry 58). -/
def FrameSeq.onReset (k : ResetKind) (f : FrameSeq) : FrameSeq :=
  { FrameSeq.reset with
    integ := (match k with | .powerOn | .drydownEnd => 0 | .resetN | .watchdog | .software => f.integ)
    clkFault := (match k with
      | .powerOn => false | .resetN | .watchdog | .software | .drydownEnd => f.clkFault) }

/-- The frame sequencer at step 6 of CONFIGURE: counters and loop terms clear, integ stays until the new FRAMES section is
known, and the read shadows that are open keep their values (R35, R56, R57, R76). -/
def FrameSeq.onConfigure (f : FrameSeq) : FrameSeq :=
  { FrameSeq.reset with integ := f.integ, clkFault := f.clkFault, shadows := f.shadows }

/-- The registers loaded from FRAMES at step 7 of CONFIGURE. From a running state, integ stays only when the new section
keeps PERIOD and SRC (R57). -/
def FrameSeq.loadFrames (c : FramesCfg) (keep : Bool) (f : FrameSeq) : FrameSeq :=
  { f with period := c.period, h := c.h, b := c.b, glitchWin := c.glitchWin, lockWin := c.lockWin,
           kiShift := c.kiShift, kpShift := c.kpShift, src := c.src, noteLen := c.period,
           integ := if keep then f.integ else 0 }

/-- Discipline starts in ACQUIRE, or stays in FREE, at the first top note of START (R57). -/
def FrameSeq.startDiscipline (f : FrameSeq) : FrameSeq :=
  { f with dstate := if f.src = 0 then .free else .acquire }

end Sys2Proof.Machine
end

