-- ==== Sys2Proof/Machine/LoopEngines.lean ====
section
/-! DEFINITION. Loop engines: the sample, the pass, shadow checking, takeover, commands, record writes and registers (R242
to R267). -/

namespace Sys2Proof.Machine

/-! ### Words of a record (R263) -/

/-- One 32-bit word of a section, by its index 0 to 9. -/
def LoopSection.word (x : LoopSection) (k : Nat) : Nat :=
  match k with
  | 0 => ofSigned 32 x.b0 | 1 => ofSigned 32 x.b1 | 2 => ofSigned 32 x.b2 | 3 => ofSigned 32 x.a1
  | 4 => ofSigned 32 x.a2 | 6 => ofSigned 64 x.s1 % 2 ^ 32 | 7 => ofSigned 64 x.s1 / 2 ^ 32
  | 8 => ofSigned 64 x.s2 % 2 ^ 32 | 9 => ofSigned 64 x.s2 / 2 ^ 32 | _ => 0

/-- A section with one word written. -/
def LoopSection.setWord (k v : Nat) (x : LoopSection) : LoopSection :=
  match k with
  | 0 => { x with b0 := toSigned 32 v } | 1 => { x with b1 := toSigned 32 v } | 2 => { x with b2 := toSigned 32 v }
  | 3 => { x with a1 := toSigned 32 v } | 4 => { x with a2 := toSigned 32 v }
  | 6 => { x with s1 := toSigned 64 (ofSigned 64 x.s1 / 2 ^ 32 * 2 ^ 32 + v % 2 ^ 32) }
  | 7 => { x with s1 := toSigned 64 (v % 2 ^ 32 * 2 ^ 32 + ofSigned 64 x.s1 % 2 ^ 32) }
  | 8 => { x with s2 := toSigned 64 (ofSigned 64 x.s2 / 2 ^ 32 * 2 ^ 32 + v % 2 ^ 32) }
  | 9 => { x with s2 := toSigned 64 (v % 2 ^ 32 * 2 ^ 32 + ofSigned 64 x.s2 % 2 ^ 32) }
  | _ => x

/-- The loop is held: a disabled loop is in mode Disabled, whatever would hold it (R250). -/
def Loop.held (l : Loop) : Bool := l.enabled && !l.causes.isEmpty

/-- MODE of a loop. -/
def Loop.modeWord (l : Loop) : Nat :=
  flag l.enabled 31 + flag l.held 30 + (if l.held then put (l.causes.headD 0) 27 3 else 0) + flag l.ramping 26 + flag l.limited 25
    + put l.samples 0 24

/-- The word of a record at an index 0 to 127. -/
def Loop.word (l : Loop) (i : Nat) : Nat :=
  match i with
  | 0 => put l.input 0 11 | 1 => ofSigned 32 l.inGain | 2 => ofSigned 32 l.inOfs
  | 3 => put l.spKind 30 2 + put l.spEntry 0 11 | 4 => ofSigned 32 l.spFixed | 5 => l.spDb % 2 ^ 32
  | 6 => l.ramp % 2 ^ 32 | 7 => ofSigned 32 l.umin | 8 => ofSigned 32 l.umax | 9 => l.rlim % 2 ^ 32
  | 10 => put l.destKind 30 2 + put l.destEntry 0 11 | 11 => ofSigned 32 l.outGain
  | 12 => put l.budget 24 4 + put l.rate 16 4 + put l.phase 0 10
  | 13 => put l.presetSec 29 3 + flag l.presetEn 28 + put l.integ 16 8 + put l.secs 0 8
  | 14 => l.modeWord | 15 => ofSigned 32 l.w | 16 => ofSigned 32 l.tRef | 17 => ofSigned 32 l.uLast
  | 18 => ofSigned 32 l.uInit
  | _ => if h : 20 ≤ i ∧ i < 100 then (l.sect[(i - 20) / 10]'(by omega)).word ((i - 20) % 10) else 0

/-- A record with one writable word written (R256). -/
def Loop.setWord (i v : Nat) (l : Loop) : Loop :=
  match i with
  | 1 => { l with inGain := toSigned 32 v } | 2 => { l with inOfs := toSigned 32 v }
  | 4 => { l with spFixed := toSigned 32 v } | 5 => { l with spDb := v } | 6 => { l with ramp := v }
  | 7 => { l with umin := toSigned 32 v } | 8 => { l with umax := toSigned 32 v } | 9 => { l with rlim := v }
  | 11 => { l with outGain := toSigned 32 v }
  | 13 => { l with presetSec := fld v 31 29, presetEn := bitAt v 28, integ := fld v 23 16, secs := fld v 7 0 }
  | _ => if h : 20 ≤ i ∧ i < 100 then
      { l with sect := upd l.sect ⟨(i - 20) / 10, by omega⟩ (LoopSection.setWord ((i - 20) % 10) v) } else l

/-! ### One sample (R242 to R250) -/

/-- rnd(x × 2^−29). -/
def rnd29 (x : Int) : Int := rndDiv x (2 ^ 29)

/-- A value through a Q2.29 gain, saturated: step 9 of R242. -/
def gain29 (x g : Int) : Int := sat32 (rnd29 (x * g))

/-- A sum of R244, saturated to ±(2^31 − 1) × 2^29. -/
def sumSat (x : Int) : Int := clampI x (-((2 ^ 31 - 1) * 2 ^ 29)) ((2 ^ 31 - 1) * 2 ^ 29)

/-- One section on an input: its output, its new states and the saturations (R244). -/
def LoopSection.run (c : LoopSection) (x : Int) : Int × Int × Int × Nat :=
  let a := c.b0 * x + c.s1
  let y := sat32 (rnd29 (sumSat a))
  let n1 := c.b1 * x - c.a1 * y + c.s2
  let n2 := c.b2 * x - c.a2 * y
  (y, sumSat n1, sumSat n2,
    (if sumSat a = a then 0 else 1) + (if sumSat n1 = n1 then 0 else 1) + (if sumSat n2 = n2 then 0 else 1))

/-- The cascade: the enabled sections in ascending index, each with its new states; the output and the saturations. -/
def Loop.cascade (l : Loop) (e : Int) : Int × List (Fin 8 × Int × Int) × Nat :=
  (List.finRange 8).foldl (fun (a : Int × List (Fin 8 × Int × Int) × Nat) j =>
    if bitAt l.secs j.val then
      let r := l.sect[j].run a.1
      (r.1, a.2.1 ++ [(j, r.2.1, r.2.2.1)], a.2.2 + r.2.2.2)
    else a) (e, [], 0)

/-- Enabled sections of a MASK value. -/
def secCount (m : Nat) : Nat := (List.range 8).countP fun j => bitAt m j

/-- The set-point rule of R247: T_ref, w and RAMPING after step 3. -/
def Loop.setPoint (l : Loop) (t pv : Int) : Loop :=
  let l0 := if l.restart then { l with w := pv, ramping := l.ramp != 0, restart := false } else l
  let l1 := if (l.spDb : Int) < absI (t - l0.tRef) then { l0 with tRef := t, w := pv, ramping := l.ramp != 0 } else l0
  if l1.ramping then
    let w := l1.w + clampI (t - l1.w) (-(l.ramp : Int)) l.ramp
    { l1 with w := w, ramping := w != t }
  else { l1 with w := t }

/-- The first sample after enabling: w is the PV and step 3 is not run (R249). -/
def Loop.firstPoint (l : Loop) (t pv : Int) : Loop :=
  { l with tRef := t, w := pv, ramping := l.ramp != 0, first := false, restart := false }

/-- The rate limit (R245). -/
def Loop.rateLimit (l : Loop) (uc : Int) : Int :=
  if l.rlim = 0 then uc else l.uLast + clampI (uc - l.uLast) (-(l.rlim : Int)) l.rlim

/-- Rate limit and clamp (R245). -/
def Loop.limit (l : Loop) (uc : Int) : Int := min (max (l.rateLimit uc) l.umin) l.umax

/-- Section states committed, but for the integrating sections that conditional integration freezes (R246). -/
def Loop.commit (l : Loop) (d : Int) (ns : List (Fin 8 × Int × Int)) : Loop :=
  { l with sect := ns.foldl (fun v n =>
      if bitAt l.integ n.1.val && decide (0 < (n.2.1 - v[n.1].s1) * d) then v
      else v.set n.1 { v[n.1] with s1 := n.2.1, s2 := n.2.2 }) l.sect }

/-- What one sample gives: the record, the output entry, the FAB cycles, whether steps 1 to 10 ran, whether a limit acted,
saturations, and whether INPUT_BAD was set. -/
structure Sampled where
  /-- The record. -/
  loop : Loop
  /-- Output value. -/
  out : Int
  /-- Output quality. -/
  quality : Quality
  /-- FAB cycles. -/
  cost : Nat
  /-- Steps 1 to 10 ran. -/
  ran : Bool
  /-- Section saturations. -/
  sat : Nat
  /-- INPUT_BAD was set by this sample. -/
  newBad : Bool
  deriving DecidableEq, Repr

/-- Hold causes after the quality of the PV entry was read (R250). -/
def Loop.readQuality (l : Loop) (q : Quality) : Loop :=
  if q = .bad then (if l.causes.contains 1 then l else { l with causes := l.causes ++ [1] })
  else if l.causes.contains 1 then { l with causes := l.causes.filter (· != 1), restart := true } else l

/-- The target of a loop (step 2 of R242): with a set-point entry of quality BAD, that of its previous sample (R248). Where it
has had none the spec states no target, and the value is free (DESIGN CHOICE, log entry 59). -/
def Loop.target (l : Loop) (i : Nat) (tg : Int × Quality) : Int :=
  if l.spKind = 0 then l.spFixed
  else if tg.2 = .bad then l.tPrev.getD (toSigned 32 (Config.freeTarget i % 2 ^ 32)) else tg.1

/-- One sample of an enabled loop on its process-value entry and its set-point entry (R242, R243, R250). -/
def Loop.sample (l0 : Loop) (i : Nat) (pv tg : Int × Quality) : Sampled :=
  let l := l0.readQuality pv.2
  if l.causes.isEmpty then
    let p := sat32 (rnd29 (pv.1 * l.inGain) + l.inOfs)
    let t := l.target i tg
    let l1 := if l.first then l.firstPoint t p else l.setPoint t p
    let c := l1.cascade (sat32 (l1.w - p))
    let u := l1.limit c.1
    let l2 := l1.commit (c.1 - u) c.2.1
    { loop := { l2 with uLast := u, tPrev := some t, limited := l1.rateLimit c.1 != c.1 || u != l1.rateLimit c.1,
                        samples := wrapInc 24 l2.samples },
      out := gain29 u l.outGain, quality := pv.2, cost := 12 + 6 * secCount l.secs, ran := true, sat := c.2.2,
      newBad := false }
  else
    { loop := l, out := gain29 l.uLast l.outGain, quality := .held, cost := 12, ran := false, sat := 0,
      newBad := l.causes.contains 1 && !l0.causes.contains 1 }

/-! ### Engines -/

/-- Divisor of a code 0 to 9 (R252). -/
def divisor (code : Nat) : Nat := [1, 2, 5, 10, 20, 50, 100, 200, 500, 1000].getD code 1

/-- The key of an output entry (R251). -/
def outKey (kind entry : Nat) : Nat := 2048 * kind + entry

/-- An entry of an engine's input table. -/
def LoopEngine.entry (e : LoopEngine) (i : Nat) : Int × Quality := Tbl.getD e.inp i (0, .good)

/-- The partner of an engine. -/
def partner (n : Fin 2) : Fin 2 := if n = 0 then 1 else 0

/-- Ids that an engine runs, ascending: its own loops unless it failed, and its partner's while it hosts (R253, R261). -/
def LoopEngine.ids (e : LoopEngine) : List Nat :=
  sortBy id ((if e.failed then [] else e.own.map (·.1)) ++ (if e.hosting then e.standby.map (·.1) else []))

/-- The record of a loop that an engine runs. -/
def LoopEngine.loop? (e : LoopEngine) (i : Nat) : Option Loop :=
  match Tbl.get? i e.own with
  | some l => if e.failed then none else some l
  | none => if e.hosting then Tbl.get? i e.standby else none

/-- The engine with the record of a loop that it runs changed. -/
def LoopEngine.setLoop (e : LoopEngine) (i : Nat) (l : Loop) : LoopEngine :=
  match Tbl.get? i e.own with
  | some _ => { e with own := Tbl.set i l e.own }
  | none => { e with standby := Tbl.set i l e.standby }

/-- Engine n asserts source 96 + 8n + i (R265). -/
def State.leRaise (n : Fin 2) (i : Nat) (s : State) : State := s.raiseEn s.loops.le[n].evtEn (96 + 8 * n.val) i

/-- An entry of an engine: the register that reports the event, and the object (R523). -/
def State.leLog (n : Fin 2) (cls i reg obj : Nat) (s : State) : State :=
  s.log silLE n.val cls (96 + 8 * n.val + i) (toLe 4 reg ++ toLe 4 obj)

/-- LEn_STATUS. -/
def LoopEngine.status (e : LoopEngine) (open_ : Bool) : Nat :=
  flag e.pass.isSome 31 + flag e.failed 30 + flag e.hosting 29 + flag open_ 28 + put e.ids.length 16 10 + put e.held 0 16

/-- LEn_SHADOW. -/
def LoopEngine.shadowReg (e : LoopEngine) : Nat := put e.mismatches 16 16 + put e.first 0 10

/-- An amendment record reaches a loop by its id (R81). -/
def AmdRecord.hits (r : AmdRecord) (i : Nat) : Bool := decide (r.index ≤ i) && decide (i < r.index + r.count)

/-- Amendment records wait that are to be written before instant 2 of the next top note. -/
def State.amdOpen (s : State) (n : Fin 2) : Bool :=
  !s.loops.le[n].amd.isEmpty && decide (s.loops.le[n].amdFrom ≤ s.now)

/-- The amendment window of R257 is open: the amendment reaches a loop that the engine runs. -/
def State.amdBusy (s : State) (n : Fin 2) : Bool :=
  s.amdOpen n && s.loops.le[n].amd.any fun r => s.loops.le[n].ids.any r.hits

/-- Address of a register of a loop engine. -/
def leAddr (n : Fin 2) (ofs : Nat) : Nat := 0x40140000 + n.val * 0x10000 + ofs

/-- An error bit of LEn_ERR sets. -/
def LoopEngine.setErr (i : Nat) (e : LoopEngine) : LoopEngine :=
  { e with err := if bitAt e.err i then e.err else e.err + 2 ^ i }

/-- An error bit of LEn_ERR sets in the present PERI cycle. -/
def State.leErr (n : Fin 2) (i : Nat) (s : State) : State := (s.modLe n (LoopEngine.setErr i)).setBit (leAddr n 0x20) i

/-! ### The pass (R253 to R255, R258, R260, R264) -/

/-- FAB cycles from instant 2 to instant 3 (R36, R254). -/
def passWindow : Nat := 76800

/-- Time-proportioning of a loop's latest sample, for a DIO_TPO destination (R251). -/
def tpoNotes (d : Nat) (u : Int) : Nat := (rndDiv ((d : Int) * max u 0) (2 ^ 31)).toNat

/-- The output entry of a loop is written, and with a DIO_TPO destination its time-proportioning (R242, R251). -/
def Loops.putOut (l : Loop) (v : Int) (q : Quality) (u : Int) (x : Loops) : Loops :=
  { x with out := Tbl.set (outKey l.destKind l.destEntry) (v, q) x.out
           tpoNew := if l.destKind = 2 then Tbl.set l.destEntry (tpoNotes (divisor l.rate) u) x.tpoNew else x.tpoNew }

/-- What an engine did at an earlier cycle: its marks, events and entries bear that time, and the present stays (R253). -/
def State.asAt (t : Nat) (f : State → State) (s : State) : State :=
  let r := f { s with now := t }
  { r with now := s.now, setBits := if t / periV = s.now / periV then r.setBits else s.setBits }

/-- FAB cycles that a loop's sample takes (R243, R250). -/
def Sampled.counts (r : Sampled) (w : PassWork) : PassWork :=
  { w with
    sampled := w.sampled + 1, cycles := w.cycles + r.cost, sat := satAdd 65535 w.sat r.sat
    limited := if r.ran && r.loop.limited then w.limited + 1 else w.limited, inBad := w.inBad || r.newBad }

/-- The running pass of an engine goes on. -/
def State.setPass (n : Fin 2) (p : LoopPass) (s : State) : State := s.modLe n fun e => { e with pass := some p }

/-- A sample of the main pass (R242, R253): the loop's record, its output entry, and for the loops of the group of this note the
record before the sample (R258). -/
def State.sampleLoop (n : Fin 2) (p : LoopPass) (i : Nat) (l : Loop) (r : Sampled) (s : State) : State :=
  ((s.modLe n fun e => e.setLoop i r.loop).modLoops (Loops.putOut l r.out r.quality r.loop.uLast)).setPass n
    { p with main := p.main.tail, wk := r.counts p.wk
             check := if r.ran && i % 16 == p.tnc % 16 then p.check ++ [(i, l)] else p.check }

/-- A loop held by a mismatch: its section states, w, T_ref and U_LAST as before the sample (R258). -/
def Loop.unsampled (old now : Loop) : Loop :=
  { now with
    sect := Vector.ofFn fun i => { now.sect[i] with s1 := old.sect[i].s1, s2 := old.sect[i].s2 }
    w := old.w, tRef := old.tRef, uLast := old.uLast, ramping := old.ramping, first := old.first, restart := old.restart
    tPrev := old.tPrev, causes := if now.causes.contains 2 then now.causes else now.causes ++ [2] }

/-- A mismatch: the loop is held from before its sample, its output entry is rewritten with quality HELD, the mismatch is
counted and reported, and under TAKEOVER the engine is marked as failing (R258, R261). -/
def State.mismatch (n : Fin 2) (tnc i : Nat) (firstOne : Bool) (old : Loop) (s : State) : State :=
  match s.loops.le[n].loop? i with
  | none => s
  | some now =>
    let s1 := (s.modLe n fun e => e.setLoop i (old.unsampled now)).modLoops
      (Loops.putOut old (gain29 old.uLast old.outGain) .held old.uLast)
    let s2 := (s1.modLe n fun e => { e with
      mismatches := satAdd 65535 e.mismatches 1, first := if firstOne then i else min e.first i
      failing := if e.takeover && !e.hosting then e.failing.or (some tnc) else e.failing }).leRaise n 1
    s2.leLog n 3 1 s2.loops.le[n].shadowReg i

/-- One recomputation of the shadow pass; the hardware's comparison comes with the command (R258). -/
def State.checkLoop (n : Fin 2) (p : LoopPass) (i : Nat) (old : Loop) (s : State) : State :=
  let bad := p.mism.contains i
  let w := { p.wk with shadowed := p.wk.shadowed + 1, cycles := p.wk.cycles + 14 + 6 * secCount old.secs }
  let w1 := if bad then { w with mismatch := w.mismatch + 1, firstMis := some (min (w.firstMis.getD i) i) } else w
  let s1 := s.setPass n { p with check := p.check.tail, wk := w1 }
  if bad then s1.asAt (p.at_ + fabV * w.cycles) (State.mismatch n p.tnc i p.wk.firstMis.isNone old) else s1

/-- The engine copies a loop's record to the partner's standby copy (R260). -/
def State.mirrorLoop (n : Fin 2) (p : LoopPass) (i : Nat) (rest : List Nat) (s : State) : State :=
  let s1 := match s.loops.le[n].loop? i with
    | some l => s.modLe (partner n) fun q => { q with standby := match Tbl.get? i q.standby with
        | some _ => Tbl.set i l q.standby | none => q.standby }
    | none => s
  s1.setPass n { p with copy := some rest, wk := { p.wk with cycles := p.wk.cycles + 3 } }

/-- The frame record of a pass (R264). -/
def PassWork.record (w : PassWork) (tnc held : Nat) : List Byte :=
  toLe 4 tnc ++ toLe 2 w.sampled ++ toLe 2 w.shadowed ++ toLe 2 w.mismatch ++ toLe 2 w.late ++ toLe 2 w.limited
    ++ toLe 2 held ++ toLe 4 w.cycles ++ toLe 2 (w.firstMis.getD 0xFFFF) ++ toLe 2 w.sat

/-- The frame record is handed to producer 4 + n and the engine's events of the pass assert (R264, R265). -/
def State.handOver (n : Fin 2) (tnc : Nat) (w : PassWork) (s : State) : State :=
  let e := s.loops.le[n]
  let held := e.ids.countP fun i => match e.loop? i with | some l => l.held | none => false
  let r : Rec := { data := padTo 64 (w.record (tnc % 2 ^ 32) held), role := s.run.loops.dest,
                   epoch := s.pairs.epochOf s.run.loops.dest }
  let s1 := (s.modLe n fun e => { e with
    pass := none, held := held, passSampled := min w.sampled 1023, passCycles := min w.cycles 0x1FFFF }).postRec
      (4 + n.val) r
  let s2 := s1.leRaise n 0
  let s3 := if w.inBad then s2.leRaise n 3 else s2
  if 0 < w.sat then s3.leRaise n 7 else s3

/-- One item of a running pass, when it begins by the present cycle and ends by instant 3: a sample in ascending loop id, then a
recomputation, then under TAKEOVER a copy to the partner, then the hand-over (R253, R255). -/
def State.passItem (n : Fin 2) (s : State) : State :=
  match s.loops.le[n].pass with
  | none => s
  | some p =>
    let e := s.loops.le[n]
    let fits := fun c : Nat => decide (p.at_ + fabV * p.wk.cycles ≤ s.now) && decide (p.wk.cycles + c ≤ passWindow)
    match p.main, p.check, p.copy with
    | i :: rest, _, _ =>
      match e.loop? i with
      | none => s.setPass n { p with main := rest }
      | some l =>
        let r := l.sample i (e.entry l.input) (e.entry l.spEntry)
        if !l.enabled then s.setPass n { p with main := rest }
        else if fits r.cost then s.sampleLoop n p i l r else s
    | [], (i, old) :: _, none => if fits (14 + 6 * secCount old.secs) then s.checkLoop n p i old else s
    | [], _, none =>
      s.setPass n { p with copy := some (if e.takeover && !s.loops.le[partner n].failed then e.ids else []) }
    | [], _, some (i :: rest) => if fits 3 then s.mirrorLoop n p i rest else s
    | [], _, some [] => if fits 0 then s.asAt (p.at_ + fabV * p.wk.cycles) (State.handOver n p.tnc p.wk) else s

/-- The items that a pass can still have: each due loop is sampled, recomputed and copied at most once. -/
def LoopEngine.items (e : LoopEngine) : Nat :=
  match e.pass with | some p => 2 * p.main.length + p.check.length + e.ids.length + 2 | none => 0

/-- An engine whose pass has work left at instant 3 stops: it counts the skipped loops, sets LATE, asserts source 96 + 8n + 2,
writes an entry and hands over its frame record (R255). -/
def State.cutOff (n : Fin 2) (s : State) : State :=
  match s.loops.le[n].pass with
  | none => s
  | some p =>
    let t := p.at_ + fabV * passWindow
    if t ≤ s.now then
      let w := { p.wk with late := (p.main.countP fun i => (s.loops.le[n].loop? i).any (·.enabled)) + (p.copy.getD []).length,
                           cycles := passWindow }
      s.asAt t fun s =>
        let s1 := (s.leErr n 5).leRaise n 2
        (s1.leLog n 2 2 s1.loops.le[n].err w.late).handOver n p.tnc w
    else s

/-- The passes of both engines up to the present cycle. A command or a record write that comes during a loop's sample finds it
done, and so is applied when that sample ends (R253). -/
def State.settleLoops (s : State) : State :=
  if s.alive then
    (List.finRange 2).foldl (fun s n =>
      State.cutOff n ((List.range s.loops.le[n].items).foldl (fun s _ => State.passItem n s) s)) s
  else s

/-- The loops of a note in ascending id: those whose phase it is (R252, R253). -/
def LoopEngine.due (e : LoopEngine) (tnc : Nat) : List Nat :=
  e.ids.filter fun i => match e.loop? i with
    | some l => tnc % divisor l.rate == l.phase
    | none => false

/-- An uncorrectable error in the record of a loop that the engine runs: the loop is held with cause ECC, and under TAKEOVER
the engine is marked as failing (R250, R261, R265). -/
def State.loopEcc (n : Fin 2) (i : Nat) (s : State) : State :=
  match s.loops.le[n].loop? i with
  | none => s
  | some l =>
    let h := { l with causes := if l.causes.contains 3 then l.causes else l.causes ++ [3], rewritten := false }
    let s1 := ((s.modLe n fun e => { e.setLoop i h with
      failing := if e.takeover && !e.hosting then e.failing.or (some s.fs.tnc) else e.failing }).leErr n 6).leRaise n 6
    s1.leLog n 3 6 s1.loops.le[n].err i

/-- The output entry of a loop keeps its value with another quality (R250, R266). -/
def Loops.requalify (l : Loop) (q : Quality) (x : Loops) : Loops :=
  let k := outKey l.destKind l.destEntry
  { x with out := Tbl.set k ((Tbl.getD x.out k (0, .good)).1, q) x.out }

/-- Every output entry of an engine's loops keeps its value with quality HELD (R266). -/
def LoopEngine.heldOut (e : LoopEngine) (x : Loops) : Loops :=
  e.ids.foldl (fun x i => match e.loop? i with | some l => x.requalify l .held | none => x) x

/-- Every output entry of an engine's disabled loops that an engine without ENABLE had made HELD is BAD again (R250, R266). -/
def LoopEngine.badOut (e : LoopEngine) (x : Loops) : Loops :=
  e.ids.foldl (fun x i => match e.loop? i with
    | some l =>
      if !l.enabled && (Tbl.getD x.out (outKey l.destKind l.destEntry) (0, .good)).2 == .held then x.requalify l .bad else x
    | none => x) x

/-- An engine begins its pass at instant 2; one that is not enabled runs none, and its output entries keep their values with
quality HELD (R253, R266). -/
def State.startPass (mism : List Nat) (s : State) (n : Fin 2) : State :=
  let e := s.loops.le[n]
  if e.enable then
    if e.failed then s
    else (s.modLoops e.badOut).setPass n
      { tnc := s.fs.tnc, at_ := s.now, main := e.due s.fs.tnc, check := [], mism := mism, copy := none, wk := default }
  else s.modLoops e.heldOut

/-- A LOOPS amendment record reaches COUNT consecutive loops from INDEX on, four bytes of its value each: FIELD is the word index
of R263 (R81, R84). -/
def AmdRecord.loop (r : AmdRecord) (p : Nat × Loop) : Nat × Loop :=
  if r.hits p.1 then (p.1, Loop.setWord r.field (leAt r.value (4 * (p.1 - r.index)) 4) p.2) else p

/-- LOOPS amendment records reach the records of an engine's loops and the partner's standby copy (R84, R257, R260). -/
def LoopEngine.amend (r : AmdRecord) (e : LoopEngine) : LoopEngine :=
  { e with own := e.own.map r.loop, standby := e.standby.map r.loop }

/-- The amendment of an engine is written, which closes its window (R257). -/
def LoopEngine.writeAmd (e : LoopEngine) : LoopEngine := { e.amd.foldl (fun e r => e.amend r) e with amd := [] }

/-- Both engines write an amendment whose window has opened (R257). -/
def State.writeAmds (s : State) : State :=
  (List.finRange 2).foldl (fun s n => if s.amdOpen n then s.modLe n LoopEngine.writeAmd else s) s

/-- Passes run: from START on, but not in DRYDOWN, in SAFE_HOLD, in twin standby or before
the top tick that follows a takeover (R5, R267, R542, R543). -/
def State.passing (s : State) : Bool := s.acting && s.fs.started && s.twin.state != .standby && !s.twin.takeover.contains 3

/-- A loop held for a cause (R250). -/
def Loop.holdBy (cause : Nat) (l : Loop) : Loop :=
  if l.causes.contains cause then l else { l with causes := l.causes ++ [cause] }

/-- At a top tick where no pass is to come, an amendment whose window has opened is written all the same (R257). -/
def State.closeAmds (s : State) : State := if s.passing then s else s.writeAmds

/-! ### Takeover (R260 to R262) -/

/-- Engine n has failed and its partner hosts both sets of loops; a mismatching loop stays held (R261, R528). -/
def State.takeOver (n : Fin 2) (s : State) : State :=
  let shadow := fun i => (Tbl.get? i s.loops.le[n].own).any fun l => l.causes.contains 2
  let s1 := (s.modLe n fun e => { e with failed := true, failing := none }).modLe (partner n) fun e =>
    { e with hosting := true, standby := e.standby.map fun p => if shadow p.1 then (p.1, p.2.holdBy 2) else p }
  let s2 := (s1.leRaise n 4).leRaise (partner n) 4
  (s2.leLog n 3 4 (s2.loops.le[n].status false) n.val).capture 8

/-- The engine was marked as failing in an earlier top note (R261). -/
def State.failDue (s : State) (n : Fin 2) : Bool := s.loops.le[n].failing.any fun k => k != s.fs.tnc

/-- At the top tick after a failing engine is marked it stops and its partner takes over; when both are marked, neither takes
over (R261, R262). -/
def State.takeoverDue (s : State) : State :=
  let clear := fun s : State => (List.finRange 2).foldl (fun s n => s.modLe n fun e => { e with failing := none }) s
  match s.failDue 0, s.failDue 1 with
  | true, false => if s.loops.le[1].failed then clear s else s.takeOver 0
  | false, true => if s.loops.le[0].failed then clear s else s.takeOver 1
  | true, true => clear s
  | false, false => s

/-- LOOP_TAKEOVER (R261, R262). -/
def execLoopTakeover (s : State) : Host.Outcome State Fault Refusal :=
  .next (if s.acting then s.settleLoops.takeoverDue else s)

/-! ### Instants 2 and 3 -/

/-- LOOP_PASS: at instant 2 both engines begin their pass, an engine that failed in an earlier note having stopped; `mism` names the
loops whose recomputation differs and `ecc` those with an uncorrectable error in their record (R36, R253, R258, R261). -/
def execLoopPass (mism ecc : List (Fin 1024)) (s : State) : Host.Outcome State Fault Refusal :=
  if s.passing && s.loops.passTnc != some s.fs.tnc then
    let s0 := (s.settleLoops.to (s.fs.tickAt + 800 * periV)).writeAmds.modLoops fun l =>
      { l with tpoNew := [], passTnc := some s.fs.tnc }
    let s1 := (List.finRange 2).foldl (fun s n => ecc.foldl (fun s i => s.loopEcc n i.val) s) s0.takeoverDue
    .next ((List.finRange 2).foldl (State.startPass (mism.map (·.val))) s1).settleLoops
  else .next s

/-- LOOP_HARD_DEADLINE: a pass with work left at instant 3 is cut off (R36, R255). -/
def execLoopHardDeadline (s : State) : Host.Outcome State Fault Refusal :=
  if s.notesRun && s.fs.started then .next ((s.to (s.fs.tickAt + 20000 * periV)).settleLoops.raise 3)
  else .next s

/-! ### Commands and record writes (R249, R250, R256, R257, R266) -/

/-- Block number of a loop engine's registers. -/
def leBlk (n : Fin 2) : Nat := 0x14 + n.val

/-- A refused command or write: one LEn_ERR bit, source 96 + 8n + 5 and an entry (R256, R265, R266). -/
def State.leRefuse (n : Fin 2) (bit i : Nat) (s : State) : State :=
  let s1 := (s.leErr n bit).leRaise n 5
  s1.leLog n 2 5 s1.loops.le[n].err i

/-- A loop is enabled (R249): states cleared, the preset integrator loaded, T_ref at the target. -/
def Loop.enable (i : Nat) (tg : Int × Quality) (l : Loop) : Loop :=
  if l.enabled then l
  else
    let t := l.target i tg
    let cleared := vmap l.sect fun x => { x with s1 := 0, s2 := 0 }
    let v := if h : l.presetEn = true ∧ l.presetSec < 8 then
        upd cleared ⟨l.presetSec, h.2⟩ fun x => { x with s1 := l.uLast * 2 ^ 29 } else cleared
    { l with enabled := true, sect := v, tRef := t, tPrev := some t, ramping := l.ramp != 0, first := true }

/-- A loop is disabled (R250). -/
def Loop.disable (l : Loop) : Loop := { l with enabled := false }

/-- A RELEASE command: COMMAND and SHADOW end, ECC ends once the record has been rewritten; a PV entry of quality BAD at the
same time holds the loop with cause INPUT_BAD (R250). -/
def Loop.release (pv : Int × Quality) (l : Loop) : Loop :=
  let l1 := { l with causes := l.causes.filter fun c => !(c == 0 || c == 2 || (c == 3 && l.rewritten)) }
  if pv.2 = .bad && l.causes.contains 0 then l1.holdBy 1 else l1

/-- An engine's loop changed, and under TAKEOVER the partner's standby copy of it as well (R260). -/
def State.changeLoop (n : Fin 2) (i : Nat) (f : Loop → Loop) (s : State) : State :=
  match s.loops.le[n].loop? i with
  | none => s
  | some l =>
    let s1 := s.modLe n fun e => e.setLoop i (f l)
    if s.loops.le[n].takeover then s1.modLe (partner n) fun e => { e with 
      standby := e.standby.map fun p => if p.1 = i then (p.1, f p.2) else p } else s1

/-- The first of checks 1, 2 and 5 of R266 that a command fails, as a LEn_ERR bit. -/
def State.leCheck (s : State) (n : Fin 2) (i : Nat) : Option Nat :=
  if !s.running then some 2
  else if (s.loops.le[n].loop? i).isNone then some 0
  else if s.amdBusy n then some 1
  else none

/-- A command of LEn_CMD on a loop, after the checks of R266; other codes are ignored. -/
def State.leCmd (w : Initiator) (n : Fin 2) (cmd : Nat) (i : Nat) (s : State) : State :=
  s.settleLoops.guardWrite (s.granted w (leBlk n)) (leAddr n 8) w (cmd * 2 ^ 28 + i) fun s =>
    if cmd = 0 ∨ 4 < cmd then s
    else match s.leCheck n i, s.loops.le[n].loop? i with
    | some b, _ => s.leRefuse n b i
    | none, none => s
    | none, some l =>
      let e := s.loops.le[n]
      if cmd = 1 then s.changeLoop n i (Loop.enable i (e.entry l.spEntry))
      else if cmd = 2 then
        if l.enabled then (s.changeLoop n i Loop.disable).modLoops (Loops.requalify l .bad) else s
      else if cmd = 3 then s.changeLoop n i (Loop.holdBy 0)
      else
        let s1 := s.changeLoop n i (Loop.release (e.entry l.input))
        if (l.release (e.entry l.input)).causes.contains 1 && !l.causes.contains 1 then s1.leRaise n 3 else s1

/-- LOOP_ENABLE. -/
def execLoopEnable (who : Initiator) (n : Fin 2) (i : Fin 1024) (s : State) : Host.Outcome State Fault Refusal :=
  .next (if s.acts who then s.leCmd who n 1 i.val else s)

/-- LOOP_DISABLE. -/
def execLoopDisable (who : Initiator) (n : Fin 2) (i : Fin 1024) (s : State) : Host.Outcome State Fault Refusal :=
  .next (if s.acts who then s.leCmd who n 2 i.val else s)

/-- LOOP_HOLD. -/
def execLoopHold (who : Initiator) (n : Fin 2) (i : Fin 1024) (s : State) : Host.Outcome State Fault Refusal :=
  .next (if s.acts who then s.leCmd who n 3 i.val else s)

/-- LOOP_RELEASE. -/
def execLoopRelease (who : Initiator) (n : Fin 2) (i : Fin 1024) (s : State) : Host.Outcome State Fault Refusal :=
  .next (if s.acts who then s.leCmd who n 4 i.val else s)

/-- A reserved, structural or engine-owned word of a record (R256, R263). -/
def fixedWord (i : Nat) : Bool :=
  [0, 3, 10, 12, 14, 15, 16, 17, 18, 19].contains i || decide (100 ≤ i) || (decide (20 ≤ i) && (i - 20) % 10 == 5)

/-- The word holds S1 or S2 of a section. -/
def stateWord (i : Nat) : Bool := decide (20 ≤ i) && decide (i < 100) && decide (6 ≤ (i - 20) % 10)

/-- The highest enabled section of a MASK value. -/
def topSection (m : Nat) : Option Nat := ((List.range 8).filter fun j => bitAt m j).getLast?

/-- A MASK value that R256 accepts for a loop. -/
def Loop.maskOk (l : Loop) (v : Nat) : Bool :=
  decide (secCount (fld v 7 0) ≤ l.budget) && (!bitAt v 28 || topSection (fld v 7 0) == some (fld v 31 29))

/-- The first check of R266 that a record write fails, as a LEn_ERR bit. -/
def State.writeCheck (s : State) (n : Fin 2) (i wd v : Nat) : Option Nat :=
  let test := s.sys.state == .commissioning || s.sys.state == .test
  if !s.running then some 2
  else match s.loops.le[n].loop? i with
    | none => some 0
    | some l =>
      if fixedWord wd then some 0
      else if wd ≠ 13 && !test then some 2
      else if s.amdBusy n then some 1
      else if wd = 13 && !l.maskOk v then some 4
      else if stateWord wd && bitAt l.secs ((wd - 20) / 10) && l.causes.isEmpty then some 3
      else none

/-- A write of LEn_WDATA (R256, R266). -/
def State.leWdata (w : Initiator) (n : Fin 2) (v : Nat) (s : State) : State :=
  s.settleLoops.guardWrite (s.granted w (leBlk n)) (leAddr n 0x10) w v fun s =>
    let e := s.loops.le[n]
    match s.writeCheck n e.waddrLoop e.waddrWord v with
    | some b => s.leRefuse n b e.waddrLoop
    | none => s.changeLoop n e.waddrLoop fun l => { l.setWord e.waddrWord v with rewritten := true }

/-- LOOP_RECORD_WRITE. -/
def execLoopRecordWrite (who : Initiator) (n : Fin 2) (v : Word) (s : State) : Host.Outcome State Fault Refusal :=
  .next (if s.acts who then s.leWdata who n v.toNat else s)

/-- ENABLE of an engine is cleared: it runs no pass from the next instant 2 on, and every output entry of its loops keeps its
value with quality HELD (R266). -/
def State.leDisable (n : Fin 2) (s : State) : State :=
  let e := s.loops.le[n]
  (s.modLe n fun e => { e with enable := false }).modLoops e.heldOut

/-! ### Registers (R266) -/

/-- The value of an LEn register at an offset. -/
def State.leRead (s0 : State) (n : Fin 2) (ofs : Nat) : Nat :=
  let s := s0.settleLoops
  let e := s.loops.le[n]
  if ofs = 0x00 then flag e.takeover 1 + flag e.enable 0
  else if ofs = 0x04 then e.status (s.amdBusy n)
  else if ofs = 0x0C then put e.waddrLoop 7 10 + put e.waddrWord 0 7
  else if ofs = 0x14 then (match e.loop? e.waddrLoop with | some l => l.word e.waddrWord | none => 0)
  else if ofs = 0x18 then put e.passSampled 22 10 + put e.passCycles 0 17
  else if ofs = 0x1C then e.shadowReg
  else if ofs = 0x20 then e.err
  else if ofs = 0x24 then e.evtEn
  else 0

/-- A permitted write of LEn_CTRL; TAKEOVER is read-only once the accord is applied (R11). -/
def State.leCtrl (w : Initiator) (n : Fin 2) (v : Nat) (s : State) : State :=
  let s1 := if bitAt v 0 then s.modLe n fun e => { e with enable := true }
    else if s.loops.le[n].enable then s.leDisable n else s
  s1.rwlWrite (leAddr n 0) w v fun s => s.modLe n fun e => { e with takeover := bitAt v 1 }

/-- LOOP_ENGINE_DISABLE: LEn_CTRL is written with ENABLE clear and TAKEOVER as it stands. -/
def execLoopEngineDisable (who : Initiator) (n : Fin 2) (s : State) : Host.Outcome State Fault Refusal :=
  let v := flag s.loops.le[n].takeover 1
  .next (if s.acts who then s.settleLoops.guardWrite (s.granted who (leBlk n)) (leAddr n 0) who v (fun s => s.leCtrl who n v) else s)

/-- Bits of a W1C field that a write of ones clears. -/
def w1c (cur v : Nat) : Nat := cur - (cur &&& v)

/-- A write of an LEn register (R10, R11, R266). -/
def State.leWrite (s : State) (w : Initiator) (n : Fin 2) (ofs v : Nat) : State :=
  if ofs = 0x08 then s.leCmd w n (fld v 31 28) (fld v 9 0)
  else if ofs = 0x10 then s.leWdata w n v
  else s.settleLoops.guardWrite (s.granted w (leBlk n)) (leAddr n ofs) w v fun s =>
    if ofs = 0x00 then s.leCtrl w n v
    else if ofs = 0x0C then s.modLe n fun e => { e with waddrLoop := fld v 16 7, waddrWord := fld v 6 0 }
    else if ofs = 0x20 then s.modLe n fun e => { e with err := w1c e.err (s.clears (leAddr n 0x20) v) }
    else if ofs = 0x24 then s.modLe n fun e => { e with evtEn := fld v 7 0 }
    else s

/-! ### TEST, START and CONFIGURE (R249, R250, R267) -/

/-- Every loop of both engines changed, standby copies too. -/
def Loops.mapLoops (f : Loop → Loop) (x : Loops) : Loops :=
  { x with le := vmap x.le fun e =>
      { e with own := e.own.map fun p => (p.1, f p.2), standby := e.standby.map fun p => (p.1, f p.2) } }

/-- At a top tick the loops with a STATION or DIO_TPO destination are held in TEST, and released after it (R250, R275). -/
def Loop.testHold (test : Bool) (l : Loop) : Loop :=
  if l.destKind = 1 then l
  else if test then l.holdBy 5 else { l with causes := l.causes.filter (· != 5) }

/-- The records of LOOPS as CONFIGURE loads them: states cleared, U_LAST at U_INIT (R249, R267). -/
def Loop.load (l : Loop) : Loop :=
  { l with enabled := false, causes := [], ramping := false, limited := false, samples := 0, w := 0, tRef := 0,
           uLast := l.uInit, sect := vmap l.sect fun x => { x with s1 := 0, s2 := 0 }, first := false, restart := false,
           tPrev := none, rewritten := false }

/-- The engines as CONFIGURE step 7 loads them from LOOPS (R266, R267). -/
def Loops.configure (c : LoopsCfg) : Loops :=
  let own := fun n : Fin 2 => (c.loops.filter fun p => p.1 / 512 == n.val).map fun p => (p.1, p.2.load)
  { Loops.reset with le := Vector.ofFn fun n =>
      { LoopEngine.reset with enable := c.uses[n], takeover := c.takeover, own := own n,
                              standby := if c.takeover then own (partner n) else [] } }

/-- At the first top note of START each loop marked so is enabled (R267). -/
def State.enableAtStart (s : State) : State :=
  (List.finRange 2).foldl (fun s n => s.run.loops.atStart.foldl (fun s i => match s.loops.le[n].loop? i with
    | some l => s.changeLoop n i (Loop.enable i (s.loops.le[n].entry l.spEntry))
    | none => s) s) s

end Sys2Proof.Machine
end

