-- ==== Sys2Proof/Machine/Programs.lean ====
section
/-! DEFINITION. Cyclic programs: release, commit, overrun, RECOVERY, forces, online change, checkpoints, restores, the
stagger queue and the PROG registers (R268 to R307). -/

namespace Sys2Proof.Machine

/-! ### Partitions and their areas (R268) -/

/-- The record of a task. -/
def State.taskCfg (s : State) (p : Fin 4) (t : Fin 8) : Option TaskCfg :=
  match s.partCfg p with | some c => c.tasks[t.val]? | none => none

/-- Bytes written to the D-TCM of a pair; the lines written become dirty (R113). -/
def Pair.writeData (a : Nat) (bs : List (Nat × Byte)) (x : Pair) : Pair :=
  bs.foldl (fun x b =>
    let at_ := a + b.1
    { x with dtcm := Mem.write at_ b.2 x.dtcm,
             dirty := if x.dirty.contains (at_ / 64) then x.dirty
               else x.dirty.takeWhile (· < at_ / 64) ++ [at_ / 64] ++ x.dirty.dropWhile (· < at_ / 64) }) x

/-- One task changed. -/
def PartSt.modTask (t : Fin 8) (f : TaskSt → TaskSt) (x : PartSt) : PartSt := { x with tasks := upd x.tasks t f }

/-- The tick at which a partition enters RECOVERY has come (R278). -/
def State.recDue (s : State) (p : Fin 4) : Bool := s.prog.p[p].recNext.any fun r => r.2.2 != s.fs.tnc

/-- A partition is live: in use, notes run, not in RECOVERY, not stopped by a CONFIGURE, and not held back by twin standby or by a
takeover (R76, R279, R542, R543). -/
def State.partLive (s : State) (p : Fin 4) : Bool :=
  s.notesRun && s.fs.started && s.acting && (s.partCfg p).isSome && !s.prog.p[p].recovery && s.twin.state != .standby
    && !s.twin.takeover.contains (40 + p.val) && !s.acc.stopped && s.acc.halted.isNone && !s.recDue p

/-- A partition runs: it is live, and so is the pair that holds its role (R111, R117, R268). -/
def State.partRuns (s : State) (p : Fin 4) : Bool := s.partLive p && s.roleUp (partRole p)

/-! ### Symbols (R287, R289, R291) -/

/-- One symbol-map entry: SYMBOL, TYPE, FLAGS, SIZE, OFFSET. -/
structure Symbol where
  /-- SYMBOL. -/
  id : Nat
  /-- TYPE. -/
  type : Nat
  /-- FLAGS. -/
  flags : Nat
  /-- SIZE. -/
  size : Nat
  /-- OFFSET. -/
  ofs : Nat
  deriving DecidableEq, Repr

/-- The entries of a symbol map, 16 bytes each (R291). -/
def symbols (m : List Byte) : List Symbol :=
  (List.range (m.length / 16)).map fun k =>
    { id := leAt m (16 * k) 4, type := leAt m (16 * k + 4) 1, flags := leAt m (16 * k + 5) 1,
      size := leAt m (16 * k + 6) 2, ofs := leAt m (16 * k + 8) 4 }

/-- A symbol of a map. -/
def findSym (m : List Byte) (id : Nat) : Option Symbol := (symbols m).find? fun x => x.id == id

/-- FLAGS bit 0 RETAIN. -/
def Symbol.retain (x : Symbol) : Bool := bitAt x.flags 0

/-! ### Release, commit and overrun (R271 to R278) -/

/-- The value of a force, in the type of its symbol; a type code that R362 does not list takes the SIZE bytes unsigned (R287, R291,
R306). -/
def Force.typed (symmap : List Byte) (f : Force) : Int :=
  match findSym symmap f.symbol with
  | some y => if y.type ≤ 8 then typedValue y.type f.value else (f.value % 256 ^ y.size : Nat)
  | none => (f.value : Int)

/-- A forced input value: SUBST (R281, R287). -/
def forceIn (symmap : List Byte) (b : PartBind) (t : Nat) (fs : List Force) (img : List (Int × Quality)) :
    List (Int × Quality) :=
  fs.foldl (fun img f => match b.inSym.find? fun x => x.1 == f.symbol with
    | some (_, tt, pos) => if tt = t then img.set pos (f.typed symmap, .subst) else img
    | none => img) img

/-- Bytes of the committed area in D-TCM, by offset, in ranges (R268, R274). -/
def State.copyIn (s : State) (p : Fin 4) (rs : List (Nat × Nat)) : List (Nat × Byte) :=
  let pair := s.pairs.place[partRole p].castSucc
  rs.flatMap fun r => ((List.range r.2).filter fun i => decide (r.1 + i < s.prog.p[p].dataLen)).map fun i =>
    (r.1 + i, Mem.read (s.dataOfs p + r.1 + i) s.pairs.p[pair].dtcm)

/-- Working copies with the bytes written over them. -/
def writeOver (new old : List (Nat × Byte)) : List (Nat × Byte) :=
  old.map fun b => (b.1, ((new.find? fun v => v.1 == b.1).map (·.2)).getD b.2)

/-- Bytes of the forced internal variables (R287). -/
def forceVars (symmap : List Byte) (b : PartBind) (fs : List Force) : List (Nat × Byte) :=
  fs.flatMap fun f =>
    if (b.inSym.any fun x => x.1 == f.symbol) || (b.outSym.any fun x => x.1 == f.symbol) then []
    else match findSym symmap f.symbol with
      | some x => (toLe (min x.size 8) f.value).mapIdx fun i v => (x.ofs + i, v)
      | none => []

/-- The working copies of a task at the start of its run: its own variables and its read set, with the forced values (R271, R274,
R287). -/
def State.copyVars (p : Fin 4) (t : Fin 8) (b : PartBind) (s : State) : State :=
  let x := s.prog.p[p]
  let v := Config.taskVars x.digest t.val
  let fv := forceVars x.symmap b x.tasks[t].forces
  s.modPart p fun q => q.modTask t fun y =>
    { y with own := writeOver fv (s.copyIn p v.1), reads := writeOver fv (s.copyIn p v.2) }

/-- The bytes of an image in the region of system SRAM that MEMORY declares for the task: its input image or its pending output image
(R268, R273). -/
def State.putImgBytes (p : Fin 4) (t : Fin 8) (out : Bool) (bs : List Byte) (s : State) : State :=
  match s.run.mem.images.find? fun r => r.1 == p.val + 1 && r.2.1 == t.val with
  | some r => { s with mem := Mem.writeN s.mem (if out then r.2.2.2 else r.2.2.1) bs }
  | none => s

/-- The input image that a release takes: the latched one with the forces in force (R271, R287). -/
def State.takenImg (s : State) (p : Fin 4) (t : Fin 8) (c : PartCfg) : List (Int × Quality) :=
  let x := s.prog.p[p]
  forceIn x.symmap c.bind t.val x.forces x.tasks[t].latched

/-- Its IN_LEN bytes, held in system SRAM until the cycle ends (R269, R273). -/
def State.inImage (s : State) (p : Fin 4) (t : Fin 8) (c : PartCfg) (k : TaskCfg) : List Byte :=
  (padTo k.inLen (Config.inBytes s.prog.p[p].digest t.val (s.takenImg p t c))).take k.inLen

/-- TASK_RELEASE: at instant 2 a due task takes its latched input image, its own variables and its read set, with the forces in
force (R271, R273, R274, R287). -/
def execTaskRelease (p : Fin 4) (t : Fin 8) (s : State) : Host.Outcome State Fault Refusal :=
  match s.partCfg p, s.taskCfg p t with
  | some c, some k =>
    if s.partRuns p && s.fs.tnc % k.period == 0 && s.prog.p[p].tasks[t].rel != some s.fs.tnc then
      .next ((((s.to (s.fs.tickAt + 800 * periV)).modPart p fun x => x.modTask t fun y =>
        { y with running := true, rel := some s.fs.tnc, inImg := s.takenImg p t c, forces := x.forces }).copyVars p t
          c.bind).putImgBytes p t false (s.inImage p t c k))
    else .next s
  | _, _ => .next s

/-- The commit deadline of a cycle released at TNC `rel`: MARGIN FAB cycles before T_(k+P), with PERIOD − 10 PERI cycles taken
for every top note after the current one (R271). -/
def State.commitBy (s : State) (k : TaskCfg) (rel : Option Nat) : Nat :=
  let left := rel.getD 0 + k.period - s.fs.tnc
  s.fs.tickAt + periV * s.fs.noteLen + (left - 1) * (periV * (s.fs.period - 10)) - k.margin * fabV

/-- The pending image of a task, which holds some items, with the forced output values (R287). -/
def forceOut (symmap : List Byte) (b : PartBind) (items : List Nat) (fs : List Force) (img : Img) : Img :=
  fs.foldl (fun img f => match b.outSym.find? fun x => x.1 == f.symbol with
    | some (_, item) => if items.contains item then Tbl.set item (f.typed symmap, Quality.subst) img else img
    | none => img) img

/-- The pending output image of a commit: the values written over the task's previous image (R271, R276, R282). -/
def State.pendImg (s : State) (p : Fin 4) (t : Fin 8) (c : PartCfg) (outs : List (Nat × Int × Quality)) : Img :=
  let items := ((c.bind.outs[t.val]?).getD []).map (·.item)
  let y := s.prog.p[p].tasks[t]
  forceOut s.prog.p[p].symmap c.bind items y.forces
    ((outs.filter fun o => items.contains o.1).foldl (fun m o => Tbl.set o.1 o.2 m) y.img)

/-- A commit of a partition is sealed as a consistency point, and mirrored to the twin (R113, R276, R541). -/
def State.sealPart (p : Fin 4) (img : Img) (s : State) : State :=
  let s1 := s.seal (partRole p)
  s1.sendDelta p ((s1.pairs.log[partRole p]).getD []) img

/-- The bytes that a commit copies out: the task's own variables as it has written them, with the forced ones over them; it writes no
variable of another task (R271, R274, R287). -/
def State.copyOut (s : State) (p : Fin 4) (t : Fin 8) (b : PartBind) (vars : List (Nat × Byte)) : List (Nat × Byte) :=
  let x := s.prog.p[p]
  let y := x.tasks[t]
  writeOver (forceVars x.symmap b y.forces) (writeOver vars y.own)

/-- The OUT_LEN bytes of the pending output image of a commit (R268, R269). -/
def State.outImage (s : State) (p : Fin 4) (t : Fin 8) (c : PartCfg) (k : TaskCfg) (outs : List (Nat × Int × Quality)) : List Byte :=
  (padTo k.outLen (Config.outBytes s.prog.p[p].digest t.val (s.pendImg p t c outs))).take k.outLen

/-- TASK_COMMIT: a running cycle that has C_COMMIT left before its deadline writes its pending image, copies its own variables out
and seals a consistency point, which marks the image and clears the overrun count; the working copies are discarded (R271 to R274,
R276, R278). -/
def execTaskCommit (p : Fin 4) (t : Fin 8) (vars : List (Nat × Byte)) (outs : List (Nat × Int × Quality))
    (s : State) : Host.Outcome State Fault Refusal :=
  match s.partCfg p, s.taskCfg p t with
  | some c, some k =>
    let y := s.prog.p[p].tasks[t]
    let pair := s.pairs.place[partRole p]
    if s.partRuns p && y.running && decide (s.now + k.cCommit * fabV ≤ s.commitBy k y.rel) then
      let s1 := s.modPairs fun q => { q with
        p := upd q.p pair.castSucc (Pair.writeData (s.dataOfs p) (s.copyOut p t c.bind vars)) }
      .next (((s1.sealPart p (s.pendImg p t c outs)).modPart p fun x =>
        { x.modTask t fun z => { z with
            running := false, own := [], reads := [], pend := some (s.pendImg p t c outs), consec := 0 } with
          sealedNote := true, unsaved := true }).putImgBytes p t true (s.outImage p t c k outs))
    else .next s
  | _, _ => .next s

/-- A cycle is abandoned in a top note: its working copies are discarded, no image is marked, and at OVERRUN_N the partition enters
RECOVERY at the next tick (R276, R278). -/
def State.overrunTask (p : Fin 4) (t : Fin 8) (tnc : Nat) (s : State) : State :=
  let n := min (s.prog.p[p].tasks[t].consec + 1) 255
  s.modPart p fun x =>
    { x.modTask t fun z => { z with running := false, own := [], reads := [], consec := n } with
      total := satInc 65535 x.total, lastTask := t.val,
      recNext := if n = s.run.str.overrunN ∧ x.recNext.isNone then some (t.val, n, tnc) else x.recNext }

/-- TASK_OVERRUN: the cycle is abandoned where its commit could no longer begin, whether its pair runs or not (R276). -/
def execTaskOverrun (p : Fin 4) (t : Fin 8) (s : State) : Host.Outcome State Fault Refusal :=
  match s.taskCfg p t with
  | some k =>
    let y := s.prog.p[p].tasks[t]
    if s.partLive p && y.running then
      .next ((s.to (s.commitBy k y.rel - k.cCommit * fabV)).overrunTask p t s.fs.tnc)
    else .next s
  | none => .next s

/-- The cycles of a partition that a migration has cut short: each is run again on the spare from its held input image when WCET
plus C_COMMIT fits before its commit deadline, and is an overrun otherwise (R118, R277). -/
def State.rerunTasks (p : Fin 4) (s : State) : State :=
  match s.partCfg p with
  | none => s
  | some c => (List.finRange 8).foldl (fun s t =>
      match s.taskCfg p t, s.prog.p[p].tasks[t].running with
      | some k, true =>
        if s.now + k.wcet * 4 + k.cCommit * fabV ≤ s.commitBy k s.prog.p[p].tasks[t].rel then s.copyVars p t c.bind
        else s.overrunTask p t s.fs.tnc
      | _, _ => s) s

/-- The cycles whose time has run out at a top tick: each was abandoned in the note that ends (R276). -/
def State.lateCycles (s : State) : State :=
  (List.finRange 4).foldl (fun s p => (List.finRange 8).foldl (fun s t =>
    match s.taskCfg p t with
    | some k =>
      if s.prog.p[p].tasks[t].running && decide ((s.prog.p[p].tasks[t].rel).getD 0 + k.period ≤ s.fs.tnc) then
        s.overrunTask p t (s.fs.tnc - 1)
      else s
    | none => s) s) s

/-! ### Output keys and the stagger queue (R304, R305) -/

/-- The key of an output: DIO channels first, then station items by port, station and item. -/
def OutDest.key : OutDest → Option Nat
  | .dio ch => some ch
  | .station port st item => some (48 + (port * 256 + st) * 256 + item)
  | .setpoint => none

/-- A value of an output is on: a REAL station item is off at −0.0 as well (R304). -/
def RunCfg.isOn (c : RunCfg) (key : Nat) (v : Int) : Bool :=
  let real := c.stns.any fun x => x.outs.zipIdx.any fun o => o.1.type == 7 && 48 + (x.port * 256 + x.st) * 256 + o.2 == key
  v != 0 && !(real && v % 2 ^ 32 == 2 ^ 31)

/-- A request joins the queue in release order: entry tick, then output key. -/
def enqueue (tnc key : Nat) (q : List (Nat × Nat)) : List (Nat × Nat) :=
  q.takeWhile (fun x => x.1 < tnc || (x.1 == tnc && x.2 < key)) ++ [(tnc, key)]
    ++ q.dropWhile (fun x => x.1 < tnc || (x.1 == tnc && x.2 < key))

/-- A staggered output changes: an off-to-on change queues, an on-to-off change leaves the queue (R304). -/
def Programs.stagger (c : RunCfg) (tnc key : Nat) (old new : Int) (g : Programs) : Programs :=
  if !c.isOn key new then { g with queue := g.queue.filter fun x => x.2 != key }
  else if !c.isOn key old then { g with queue := enqueue tnc key g.queue }
  else g

/-- One output value takes effect; the image of a partition drives no output in TEST, so that its changes do not queue then (R274,
R275, R304). -/
def Programs.putOut (c : RunCfg) (test : Bool) (tnc key : Nat) (v : Int × Quality) (g : Programs) : Programs :=
  let g1 := { g with outs := Tbl.set key v g.outs }
  if test || !c.prog.stagger.contains key then g1
  else g1.stagger c tnc key (Tbl.getD g.outs key (0, .good)).1 v.1

/-- An output is held off by its queued request. -/
def Programs.waiting (g : Programs) (key : Nat) : Bool := g.queue.any fun x => x.2 == key

/-- One release at an output instant, at least STAGGER top notes after the previous one (R304). -/
def Programs.releaseOne (stagger tnc : Nat) (g : Programs) : Programs :=
  match g.queue with
  | [] => g
  | _ :: rest =>
    if (match g.lastRel with | some r => decide (r + stagger ≤ tnc) | none => true) then
      { g with queue := rest, lastRel := some tnc }
    else g

/-- PROG_STAGGER.SINCE. -/
def State.since (s : State) : Nat := min (s.fs.tnc - s.prog.lastRel.getD 0) 255

/-- The image of a task takes effect: outputs and set-point items (R271). -/
def State.putImage (p : Fin 4) (items : List OutItem) (img : Img) (s : State) : State :=
  s.modProg fun g => items.foldl (fun g o =>
    match Tbl.get? o.item img with
    | none => g
    | some v => match o.dest.key with
      | some k => g.putOut s.run (s.sys.state == .test) s.fs.tnc k v
      | none => { g with setpts := Tbl.set (65536 * (p.val + 1) + o.item) v g.setpts }) g

/-- At T_(k+P) the committed image of a task becomes its output image (R271). -/
def State.imageDue (p : Fin 4) (s : State) (t : Fin 8) : State :=
  match s.partCfg p, s.taskCfg p t, s.prog.p[p].tasks[t].pend with
  | some c, some k, some img =>
    if s.fs.tnc % k.period = 0 then
      (s.modPart p fun x => x.modTask t fun y => { y with img := img, pend := none }).putImage p
        ((c.bind.outs[t.val]?).getD []) img
    else s
  | _, _, _ => s

/-! ### RECOVERY (R278 to R280, R505) -/

/-- What SYS_STATE reads in operating mode SERVICE: RECOVERY while a partition is in RECOVERY or enters it at this tick
(R505). -/
def State.serviceState (s : State) : ModState :=
  if (List.finRange 4).any fun p => s.prog.p[p].recovery || s.recDue p then .recovery else .service

/-- SYS_STATE follows the operating mode and the partitions in RECOVERY (R505). -/
def State.reportMode (s : State) : State :=
  if s.running then
    match s.sys.mode with
    | .commissioning => s.enterState .commissioning
    | .test => s.enterState .test
    | .service => s.enterState s.serviceState
  else s

/-- The value that SAFE applies: the safe state of the DIO channel, or the safe value of the station item (R279, R362, R420). -/
def RunCfg.safeOf (c : RunCfg) : OutDest → Int
  | .dio ch => match c.dio.ch[ch]? with | some x => if bitAt x.flags 1 then 1 else 0 | none => 0
  | .station port st item => match c.stns.find? fun x => x.port == port && x.st == st with
    | some x => match x.outs[item]? with | some o => typedValue o.type o.safe | none => 0
    | none => 0
  | .setpoint => 0

/-- The image of a task with the recovery actions of its items (R279). -/
def RunCfg.recImage (c : RunCfg) (items : List OutItem) (img : Img) : Img :=
  items.foldl (fun m o => match o.dest, o.safe with
    | .setpoint, _ => Tbl.set o.item ((Tbl.getD m o.item (0, .good)).1, .bad) m
    | d, true => Tbl.set o.item (c.safeOf d, .subst) m
    | _, false => m) img

/-- The recovery image: each output takes its recovery action, and every set-point entry the partition writes takes quality
BAD; queued stagger requests are removed, and an output that HOLD keeps while its request was queued stays off (R279, R304). -/
def State.recoveryImage (p : Fin 4) (s : State) : State :=
  match s.partCfg p with
  | none => s
  | some c =>
    let items := c.bind.outs.flatten
    let keys := items.filterMap fun o => o.dest.key
    s.modProg fun g =>
      let g1 := items.foldl (fun g o => match o.dest.key with
        | some k => if o.safe then { g with outs := Tbl.set k (s.run.safeOf o.dest, .subst) g.outs }
          else if g.waiting k then { g with outs := Tbl.set k (0, .subst) g.outs } else g
        | none =>
          let k := 65536 * (p.val + 1) + o.item
          { g with setpts := Tbl.set k ((Tbl.getD g.setpts k (0, .good)).1, .bad) g.setpts }) g
      { g1 with
        queue := g1.queue.filter fun x => !keys.contains x.2
        p := upd g1.p p fun x => { x with tasks := Vector.ofFn fun t =>
          { x.tasks[t] with img := s.run.recImage ((c.bind.outs[t.val]?).getD []) x.tasks[t].img } } }

/-! ### Checkpoints (R297 to R300) -/

/-- CHECKPOINT_WRITE: the checkpoint that the tick started is written, VALID last (R298). -/
def execCheckpointWrite (p : Fin 4) (s : State) : Host.Outcome State Fault Refusal :=
  .next (if s.alive then s.endCkpt p else s)

/-- The checkpoint is finalised: the running one is completed, and one more is written if a commit has sealed since its tick
(R300); `st` is the state that the module leaves. -/
def State.finishCkpt (st : Nat) (s : State) (p : Fin 4) : State :=
  let s1 := (s.endCkpt p).applyLog (partRole p)
  if s1.prog.p[p].unsaved then
    (s1.writeCkpt p s1.fs.tnc s1.prog.p[p].full st).modPart p fun x => { x with sealedNote := false, unsaved := false }
  else s1

/-- A checkpoint of the present tick begins: VALID of the buffer that takes it is cleared (R298). -/
def State.beginCkpt (p : Fin 4) (s : State) : State :=
  match s.ckptDst p with
  | none => s
  | some dst =>
    { s with mem := Mem.writeN s.mem (dst + 0xFC) (zeros 4) }.modPart p fun x =>
      { x with ckpt := some (s.fs.tnc, x.full, s.sys.state.code), unsaved := false }

/-- At a top tick the master copy is complete, and after a note with a sealed commit the lane starts a checkpoint, unless a migration
of the role is due at this tick (R114, R298, R300). -/
def State.startCkpt (s0 : State) (p : Fin 4) : State :=
  let s := (s0.endCkpt p).applyLog (partRole p)
  let due := s.migDue && s.pairs.migRole == p.val + 1
  let go := s.prog.p[p].sealedNote && !due
  let s1 := s.modPart p fun x => { x with sealedNote := false, full := x.full || due }
  if go then s1.beginCkpt p else s1

/-! ### Restores (R301 to R303) -/

/-- The kinds of restore (R301). -/
inductive Restore where
  | warm | retain | symbol | cold
  deriving DecidableEq, Repr

/-- Bytes of a list overwritten from an offset. -/
def overlay (bs : List Byte) (o : Nat) (new : List Byte) : List Byte :=
  bs.mapIdx fun i b => if o ≤ i ∧ i < o + new.length then new.getD (i - o) b else b

/-- RETAIN variables of one map taken from checkpoint data in the other map's places (R301). -/
def retainData (old new : List Byte) (data init : List Byte) : List Byte :=
  (symbols new).foldl (fun d x =>
    match findSym old x.id with
    | some y => if x.retain && y.retain && y.type == x.type then overlay d x.ofs (slice data y.ofs (min x.size y.size)) else d
    | none => d) init

/-- The data of a package's migration map applied to old data (R294, R303). -/
def Package.migrate (g : Package) (old : List Byte) : List Byte :=
  g.runs.foldl (fun d r =>
    overlay d r.2.2.1 (slice (if r.1 = 0 then old else g.ivt) r.2.1 r.2.2.2)) (zeros g.dataLen)

/-- The committed data of a partition after a restore, the code of PROG_RSTp and the SEQ (R301 to R303). -/
def State.restoreData (s : State) (p : Fin 4) (k : Restore) : List Byte × Nat × Nat :=
  let x := s.prog.p[p]
  let init := (padTo x.dataLen x.ivt).take x.dataLen
  match s.ckptNewest p with
  | none => (init, if k = .cold then 1 else 5, 0)
  | some a =>
    let dig := Mem.readN s.mem (a + 0x20) 64
    let raw := Mem.readN s.mem (a + 256) (Mem.le s.mem (a + 0x18) 4)
    let seq := Mem.le s.mem (a + 8) 8
    if k = .cold then (init, 1, seq)
    else if dig = x.digest then
      match k with
      | .warm => ((padTo x.dataLen raw).take x.dataLen, 2, seq)
      | .retain => (retainData x.symmap x.symmap raw init, 3, seq)
      | _ => (retainData x.symmap x.symmap raw init, 4, seq)
    else match x.lastPkg.filter fun g => g.oldDig == dig && g.imgDig == x.digest with
      | some g =>
        let d := g.migrate raw
        (if k = .warm then d else retainData x.symmap x.symmap d init, 6, seq)
      | none => match (Config.flashSymmap dig).filter fun _ => namesImage dig s.acc.slotA || namesImage dig s.acc.slotB with
        | some m => (retainData m x.symmap raw init, 4, seq)
        | none => (init, 5, seq)

/-- The kind of restore by the condition at the newest checkpoint and the cause (R302); `cfg` says CONFIGURE. -/
def State.restoreKind (s : State) (p : Fin 4) (cfg : Bool) : Restore :=
  match s.ckptNewest p with
  | none => if cfg then .symbol else .warm
  | some a =>
    let st := Mem.le s.mem (a + 5) 1
    let rec_ := Mem.le s.mem (a + 6) 1 == 1
    if cfg then .symbol
    else if rec_ || st == 4 || st == 5 then .retain
    else match s.sys.kind with
      | .resetN => .retain
      | .powerOn | .watchdog | .software | .drydownEnd => if s.run.str.warm then .warm else .cold

/-- PROG_RSTp. -/
def PartSt.rstReg (x : PartSt) : Nat := put x.rstSeq 8 24 + put x.rstKind 0 3

/-- A partition is restored into D-TCM and the master copy; a cold restore for want of a checkpoint or a map writes entry
0x14D (R301 to R303). -/
def State.restore (p : Fin 4) (k : Restore) (s0 : State) : State :=
  let s := s0.applyLog (partRole p)
  let r := s.restoreData p k
  let pair := s.pairs.place[partRole p].castSucc
  let o := s.dataOfs p
  let s1 := { s with
    mem := Mem.writeN s.mem (masterBase (p.val + 1) + 0x80000 + o) r.1
    pairs := { s.pairs with p := upd s.pairs.p pair fun x => { x with dtcm := Mem.writeN x.dtcm o r.1 } } }
  let s2 := s1.modPart p fun x => { x with
    rstKind := r.2.1, rstSeq := r.2.2 % 2 ^ 24, full := true,
    seq := if k = .symbol then 1 else max x.seq (r.2.2 + 1) }
  if r.2.1 = 5 then s2.log silPROG (p.val + 1) 2 0x14D (toLe 4 s2.prog.p[p].rstReg) else s2

/-- A partition as CONFIGURE step 7 loads it from PROGRAMS. Where an online change of the amendment log made the image active, its
symbol map, initial values and DATA_LEN are those of its package (R291, R295, R303). -/
def PartSt.configure (c : PartCfg) (last : Option Package) : PartSt :=
  let d := if c.bankB then c.digB else c.digA
  let x : PartSt := { PartSt.reset with
    bankB := c.bankB, digest := d, symDig := c.symDig, symmap := c.bind.symmap, ivt := c.bind.ivt, dataLen := c.dataLen,
    lastPkg := last }
  match last.filter fun g => g.imgDig == d with
  | some g => { x with symDig := Config.shake256 g.sym 64, symmap := g.sym, ivt := g.ivt, dataLen := g.dataLen }
  | none => x

/-- A RESUME takes place at a major boundary, once the role's migration is done (R280). -/
def State.resumeDue (s : State) (p : Fin 4) : State :=
  match s.partCfg p with
  | some c =>
    let x := s.prog.p[p]
    let moving := (s.pairs.running || s.pairs.armed) && s.pairs.migRole == p.val + 1
    if x.resumeNext && !moving && s.fs.tnc % c.major == 0 then
      ((s.modPart p fun x => { x with
        recovery := false, resumeNext := false, tasks := vmap x.tasks fun y => { y with consec := 0 } }).restore p
          .retain).reportMode
    else s
  | none => s

/-! ### Commands of PROG_CTRL (R280, R292, R306) -/

/-- Address of a PROG register. -/
def progAddr (ofs : Nat) : Nat := 0x40700000 + ofs

/-- RESUME: accepted only while the partition is in RECOVERY (R280). -/
def State.progResume (p : Fin 4) (s : State) : State :=
  if s.prog.p[p].recovery then s.modPart p fun x => { x with resumeNext := true } else s

/-- RECOVER: the partition enters RECOVERY at the next tick, in COMMISSIONING and TEST only (R306). -/
def State.progRecover (p : Fin 4) (s : State) : State :=
  let x := s.prog.p[p]
  if (s.sys.state == .commissioning || s.sys.state == .test) && (s.partCfg p).isSome && !x.recovery && x.recNext.isNone then
    s.modPart p fun x => { x with
      recNext := some (x.lastTask, (x.tasks.toList.map (·.consec)).foldl max 0, s.fs.tnc) }
  else s

/-- ⌈n / 64⌉ × 64. -/
def pad64 (n : Nat) : Nat := ceilDiv n 64 * 64

/-- Cost of a switch in FAB cycles (R294). -/
def Package.cost (g : Package) : Nat := 8 + ((g.runs.map fun r => ceilDiv r.2.2.2 64 + 2).sum) + 1 + 4

/-- The package at an address, with the form checks of step 2 beside it (R291, R292). -/
def State.package (s : State) (a : Nat) (p : Fin 4) : Package × Bool :=
  let f := fun o n => Mem.le s.mem (a + o) n
  let bl := f 8 4; let il := f 12 4; let runs := f 16 4; let sl := f 20 4; let dl := f 24 4
  let b0 := a + 96; let i0 := b0 + pad64 bl; let m0 := i0 + pad64 il; let s0 := m0 + pad64 (16 * runs)
  let bank := Mem.readN s.mem b0 bl
  let ivt := Mem.readN s.mem i0 il
  let mapB := Mem.readN s.mem m0 (16 * runs)
  let sym := Mem.readN s.mem s0 sl
  let rs := (List.range runs).map fun k =>
    (leAt mapB (16 * k) 1, leAt mapB (16 * k + 4) 4, leAt mapB (16 * k + 8) 4, leAt mapB (16 * k + 12) 4)
  let old := s.prog.p[p].dataLen
  let runOk := fun r : Nat × Nat × Nat × Nat =>
    decide (r.1 ≤ 1) && decide (1 ≤ r.2.2.2) && decide (r.2.2.2 ≤ 65536) && decide (r.2.2.1 + r.2.2.2 ≤ dl)
      && decide (r.2.1 + r.2.2.2 ≤ (if r.1 = 0 then old else il))
  let apart := (List.range rs.length).all fun i => (List.range rs.length).all fun j =>
    match rs[i]?, rs[j]? with
    | some x, some y => i == j || decide (x.2.2.1 + x.2.2.2 ≤ y.2.2.1) || decide (y.2.2.1 + y.2.2.2 ≤ x.2.2.1)
    | _, _ => true
  let padOk := allZero (Mem.readN s.mem (b0 + bl) (pad64 bl - bl)) && allZero (Mem.readN s.mem (i0 + il) (pad64 il - il))
    && allZero (Mem.readN s.mem (m0 + 16 * runs) (pad64 (16 * runs) - 16 * runs))
    && allZero (Mem.readN s.mem (s0 + sl) (pad64 sl - sl))
  let rsvOk := f 7 1 == 0 && f 28 4 == 0 && ((List.range runs).all fun k => leAt mapB (16 * k + 1) 3 == 0)
    && ((List.range (sl / 16)).all fun k => leAt sym (16 * k + 12) 4 == 0)
  ({ bank := bank, ivt := ivt, runs := rs, sym := sym, dataLen := dl, oldDig := Mem.readN s.mem (a + 32) 64,
     imgDig := Config.shake256 bank 64, migDig := Config.shake256 (ivt ++ mapB ++ sym) 64 },
   f 0 4 == 0x43504A58 && f 4 2 == 1 && f 6 1 == p.val + 1 && sl % 16 == 0 && rsvOk && padOk && rs.all runOk && apart
     && (rs.map fun r => r.2.2.2).sum == dl)

/-- MINM of a partition: the smallest MARGIN of its tasks (R294). -/
def PartCfg.minMargin (c : PartCfg) : Nat := (c.tasks.map (·.margin)).foldl min 0xFFFFFFFF

/-- The first check of R292 that a package fails; 0 for none. -/
def State.stageErr (s : State) (p : Fin 4) (c : PartCfg) (g : Package) (form : Bool) : Nat :=
  let st := s.sys.state
  let x := s.prog.p[p]
  if !((st == .service || st == .commissioning || st == .test) && s.partRuns p && x.olc != 3) then 0x30
  else if !form then 0x31
  else if g.oldDig ≠ x.digest then 0x32
  else if !((symbols x.symmap).all fun y => !bitAt y.flags 1 || (match findSym g.sym y.id with
      | some z => z.type == y.type && z.ofs == y.ofs && bitAt z.flags 1 | none => false)) then 0x33
  else if 0x40000 < g.bank.length ∨ g.dataLen < 64 ∨ 65536 < g.dataLen ∨ g.dataLen % 64 ≠ 0
      ∨ c.tasks.any (fun t => decide (g.bank.length ≤ t.entry)) then 0x34
  else if c.minMargin - 2048 < g.cost then 0x35
  else 0

/-- STAGE: the package at PROG_OLC_SRC is checked and its bank starts to be written; a refusal changes nothing but the
status (R292). -/
def State.progStage (p : Fin 4) (s : State) : State :=
  match s.partCfg p with
  | none => s.modProg fun q => { q with olcPart := p.val, olcErr := 0x30 }
  | some c =>
    let g := s.package s.prog.olcSrc p
    let e := s.stageErr p c g.1 g.2
    if e = 0 then
      (s.modProg fun q => { q with
        olcPart := p.val, olcErr := 0, cSwitch := min g.1.cost 65535, gap := min (c.minMargin - 2048) 65535 }).modPart p
          fun x => { x with olc := 1, pkg := some g.1, stageAt := s.now }
    else
      (s.modProg fun q => { q with
        olcPart := p.val, olcErr := e,
        cSwitch := if e = 0x35 then min g.1.cost 65535 else q.cSwitch,
        gap := if e = 0x35 then min (c.minMargin - 2048) 65535 else q.gap }).modPart p
          fun x => { x with olc := if x.olc = 3 then 3 else if x.pkg.isSome then x.olc else 5 }

/-- UNSTAGE: a package not yet authorised is discarded; of one that is authorised the command is refused with 0x30, and with no
package it does nothing (R292, R306). -/
def State.progUnstage (p : Fin 4) (s : State) : State :=
  let x := s.prog.p[p]
  if x.olc = 1 ∨ x.olc = 2 then s.modPart p fun x => { x with olc := 0, pkg := none }
  else if x.olc = 3 then s.modProg fun q => { q with olcPart := p.val, olcErr := 0x30 }
  else s

/-- The initiators that may write the PROG registers: the supervisor role and those that MEMORY grants the block (R306). -/
def State.progGranted (s : State) (w : Initiator) : Bool := isSuper w || s.granted w 0x70

/-- A command of PROG_CTRL. -/
def State.progCtrl (w : Initiator) (cmd : Nat) (p : Fin 4) (s : State) : State :=
  s.guardWrite (s.progGranted w) (progAddr 0) w (cmd * 256 + p.val) fun s =>
    if cmd = 1 then s.progResume p else if cmd = 2 then s.progRecover p else if cmd = 3 then s.progStage p
    else if cmd = 4 then s.progUnstage p else s

/-- RESUME. -/
def execResume (who : Initiator) (p : Fin 4) (s : State) : Host.Outcome State Fault Refusal :=
  .next (if s.acts who then s.progCtrl who 1 p else s)

/-- RECOVER. -/
def execRecover (who : Initiator) (p : Fin 4) (s : State) : Host.Outcome State Fault Refusal :=
  .next (if s.acts who then s.progCtrl who 2 p else s)

/-- STAGE. -/
def execStage (who : Initiator) (p : Fin 4) (s : State) : Host.Outcome State Fault Refusal :=
  .next (if s.acts who then s.progCtrl who 3 p else s)

/-- UNSTAGE. -/
def execUnstage (who : Initiator) (p : Fin 4) (s : State) : Host.Outcome State Fault Refusal :=
  .next (if s.acts who then s.progCtrl who 4 p else s)

/-- OLC_STAGED: the bank stands in the master copy and in the idle I-TCM bank of both cores, at least 4,096 FAB cycles after STAGE
(R115, R292). -/
def execOlcStaged (p : Fin 4) (s : State) : Host.Outcome State Fault Refusal :=
  match s.alive, s.prog.p[p].olc, s.prog.p[p].pkg with
  | true, 1, some g =>
    let o := if s.prog.p[p].bankB then 0 else 0x40000
    let pair := s.pairs.place[partRole p].castSucc
    .next ({ s.to (s.prog.p[p].stageAt + 4096 * fabV) with
      mem := Mem.writeN s.mem (masterBase (p.val + 1) + o) g.bank
      pairs := { s.pairs with p := upd s.pairs.p pair fun x => { x with itcm := Mem.writeN x.itcm o g.bank } } }.modPart p
        fun x => { x with olc := 2 })
  | _, _, _ => .next s

/-- The partition has a staged package with both digests (R293). -/
def PartSt.staged (img mig : List Byte) (x : PartSt) : Bool :=
  x.olc == 2 && (match x.pkg with | some g => g.imgDig == img && g.migDig == mig | none => false)

/-- An amendment authorises the staged package that it names, whose maps flash keeps from then on: the switch takes place before the
first major boundary after the effective base tick. A package staged in its place in the meantime is not authorised (R292 to R295,
R303; DEDUCED, log entry 62). -/
def State.authorise (p : Fin 4) (img mig : List Byte) (s : State) : State :=
  match s.partCfg p with
  | some c => s.modPart p fun x =>
      if x.staged img mig then { x with olc := 3, switchAt := (s.fs.tnc / c.major + 1) * c.major, lastPkg := x.pkg } else x
  | none => s

/-! ### Forces (R287 to R289, R296) -/

/-- A force command fails: its error (R306). -/
def State.forceFail (p : Fin 4) (e : Nat) (s : State) : State :=
  s.modProg fun q => { q with forceErr := e, forcePart := p.val }

/-- PROG_FORCE_CMD SET. -/
def State.forceSet (p : Fin 4) (s : State) : State :=
  let x := s.prog.p[p]
  let sym := s.prog.forceSym
  let max_ := match s.partCfg p with | some c => c.forceMax | none => 0
  let had := x.forces.any fun f => f.symbol == sym
  match findSym x.symmap sym with
  | none => s.forceFail p (if s.sys.state = .commissioning then 2 else 1)
  | some y =>
    if s.sys.state ≠ .commissioning then s.forceFail p 1
    else if !had && decide (max_ ≤ x.forces.length) then s.forceFail p 3
    else if !bitAt y.flags 2 then s.forceFail p 4
    else
      let f : Force := { symbol := sym, value := s.prog.forceVal }
      ((s.forceFail p 0).modPart p fun x => { x with
        forces := if had then x.forces.map (fun g => if g.symbol = sym then f else g) else x.forces ++ [f] }).forceLog p
          sym 0

/-- PROG_FORCE_CMD RELEASE. -/
def State.forceRel (p : Fin 4) (s : State) : State :=
  let x := s.prog.p[p]
  let sym := s.prog.forceSym
  if s.sys.state ≠ .commissioning then s.forceFail p 1
  else if (findSym x.symmap sym).isNone then s.forceFail p 2
  else if x.forces.any fun f => f.symbol == sym then
    ((s.forceFail p 0).modPart p fun x => { x with forces := x.forces.filter fun f => f.symbol != sym }).forceLog p sym 1
  else s.forceFail p 0

/-- PROG_FORCE_CMD RELEASE_ALL. -/
def State.forceRelAll (p : Fin 4) (s : State) : State :=
  if s.sys.state ≠ .commissioning then s.forceFail p 1 else (s.forceFail p 0).dropForces p

/-- A command of PROG_FORCE_CMD. -/
def State.forceCmd (w : Initiator) (cmd : Nat) (p : Fin 4) (s : State) : State :=
  s.guardWrite (s.progGranted w) (progAddr 0x6C) w (cmd * 256 + p.val) fun s =>
    if cmd = 1 then s.forceSet p else if cmd = 2 then s.forceRel p else if cmd = 3 then s.forceRelAll p else s

/-- FORCE_SET. -/
def execForceSet (who : Initiator) (p : Fin 4) (s : State) : Host.Outcome State Fault Refusal :=
  .next (if s.acts who then s.forceCmd who 1 p else s)

/-- FORCE_RELEASE. -/
def execForceRelease (who : Initiator) (p : Fin 4) (s : State) : Host.Outcome State Fault Refusal :=
  .next (if s.acts who then s.forceCmd who 2 p else s)

/-- FORCE_RELEASE_ALL. -/
def execForceReleaseAll (who : Initiator) (p : Fin 4) (s : State) : Host.Outcome State Fault Refusal :=
  .next (if s.acts who then s.forceCmd who 3 p else s)

/-! ### The switch (R294 to R296) -/

/-- Forces after a switch: one whose symbol is carried with the same type stays, every other is released and logged. -/
def State.reconcile (p : Fin 4) (old new : List Byte) (s : State) : State :=
  let keep := fun f : Force => match findSym old f.symbol, findSym new f.symbol with
    | some a, some b => a.type == b.type
    | _, _ => false
  ((s.prog.p[p].forces.filter fun f => !keep f).foldl (fun s f => s.forceLog p f.symbol 2) s).modPart p fun x =>
    { x with forces := x.forces.filter keep }

/-- The five steps of a switch; the apply phase of the latest commit has ended by its instant (R294). -/
def State.runSwitch (p : Fin 4) (g : Package) (s0 : State) : State :=
  let s := s0.applyLog (partRole p)
  let data := g.migrate (s.masterData p)
  let pair := s.pairs.place[partRole p].castSucc
  let o := s.dataOfs p
  let old := s.prog.p[p].symmap
  let s1 := { s with
    mem := Mem.writeN s.mem (masterBase (p.val + 1) + 0x80000 + o) data
    pairs := { s.pairs with p := upd s.pairs.p pair fun x => { x with dtcm := Mem.writeN x.dtcm o data } } }
  let s2 := s1.modPart p fun x => { x with
    bankB := !x.bankB, digest := g.imgDig, symDig := Config.shake256 g.sym 64, symmap := g.sym, ivt := g.ivt,
    dataLen := g.dataLen, olc := 4, pkg := none, lastPkg := some g, full := true, ckpt := none, sealedNote := true, unsaved := true }
  let s3 := (s2.wait (g.cost * fabV)).sealPart p []
  ((s3.reconcile p old g.sym).modProg fun q => { q with olcPart := p.val,
                                                        olcErr := 0 }).log silPROG (p.val + 1) 1 (Config.entryNumber 0) (toLe 4 (p.val + 1))

/-- The instant of a switch, T − MINM + 1,024 FAB cycles; of the notes between the present one and T the length is taken as
PERIOD − 10 PERI cycles, as for the commit deadlines of R271 (R294; DEDUCED, log entry 62). -/
def State.switchTime (s : State) (c : PartCfg) (t : Nat) : Nat :=
  s.fs.tickAt + periV * s.fs.noteLen + (t - s.fs.tnc - 1) * (periV * (s.fs.period - 10)) - (c.minMargin - 1024) * fabV

/-- OLC_SWITCH: 1,024 FAB cycles after T − MINM the partition switches, or the switch is deferred to the next major boundary
(R294, R295). -/
def execOlcSwitch (p : Fin 4) (s : State) : Host.Outcome State Fault Refusal :=
  match s.partCfg p, s.prog.p[p].olc, s.prog.p[p].pkg with
  | some c, 3, some g =>
    let x := s.prog.p[p]
    let abandoned := x.tasks.toList.any fun t => t.running || decide (0 < t.consec)
    let moving := (s.pairs.armed || s.pairs.running) && s.pairs.migRole == p.val + 1
    let at_ := s.switchTime c x.switchAt
    if s.notesRun && decide (s.fs.tnc < x.switchAt) && decide (at_ < s.fs.tickAt + periV * s.fs.noteLen) then
      if abandoned || x.recovery || moving then
        .next ((s.modProg fun q => { q with deferrals := satInc 65535 q.deferrals }).modPart p fun x =>
          { x with switchAt := x.switchAt + c.major })
      else .next ((s.to at_).runSwitch p g)
    else .next s
  | _, _, _ => .next s

/-! ### Registers (R306) -/

/-- PROG_STATUS.PSTATE of a partition. -/
def State.pstate (s : State) (p : Fin 4) : Nat :=
  if (s.partCfg p).isNone then 0
  else if !(s.notesRun && s.acting) then 3
  else if s.prog.p[p].recovery then 2 else 1

/-- The value of a PROG register at an offset. -/
def State.progRead (s : State) (ofs : Nat) : Nat :=
  let q := s.prog
  if ofs = 0x04 then
    put (packBits (q.p.toList.map fun x => x.ckpt.isSome)) 16 4 + put (packBits (q.p.toList.map fun x => x.olc == 3)) 12 4
      + put (packBits (q.p.toList.map fun x => !x.forces.isEmpty)) 8 4
      + ((List.finRange 4).map fun p => put (s.pstate p) (2 * p.val) 2).sum
  else if h : 0x10 ≤ ofs ∧ ofs < 0x20 then
    let x := q.p[(ofs - 0x10) / 4]'(by omega)
    put x.total 16 16 + put ((x.tasks.toList.map (·.consec)).foldl max 0) 8 8 + put x.lastTask 0 3
  else if h : 0x20 ≤ ofs ∧ ofs < 0x30 then (q.p[(ofs - 0x20) / 4]'(by omega)).rstReg
  else if ofs = 0x40 then q.olcSrc % 2 ^ 32
  else if ofs = 0x44 then q.olcSrc / 2 ^ 32
  else if ofs = 0x48 then
    let st := match q.p.toList[q.olcPart]? with | some x => x.olc | none => 0
    put (if q.olcErr ≠ 0 ∧ st ≠ 3 then 5 else st) 28 4 + put q.olcPart 24 2 + put q.olcErr 16 8 + put q.deferrals 0 16
  else if ofs = 0x4C then put q.cSwitch 16 16 + put q.gap 0 16
  else if ofs = 0x60 then q.forceSym
  else if ofs = 0x64 then q.forceVal % 2 ^ 32
  else if ofs = 0x68 then q.forceVal / 2 ^ 32
  else if ofs = 0x70 then
    put q.forceErr 16 8 + put (match q.p.toList[q.forcePart]? with | some x => x.forces.length | none => 0) 0 6
  else if ofs = 0x80 then put q.queue.length 16 9 + put s.since 8 8 + put s.run.str.stagger 0 8
  else 0

/-- A write of a PROG register. -/
def State.progWrite (s : State) (w : Initiator) (ofs v : Nat) : State :=
  if ofs = 0 then s.progCtrl w (fld v 11 8) ⟨v % 4, by omega⟩
  else if ofs = 0x6C then s.forceCmd w (fld v 11 8) ⟨v % 4, by omega⟩
  else s.guardWrite (s.progGranted w) (progAddr ofs) w v fun s => s.modProg fun q =>
    if ofs = 0x40 then { q with olcSrc := q.olcSrc / 2 ^ 32 * 2 ^ 32 + v / 64 * 64 }
    else if ofs = 0x44 then { q with olcSrc := q.olcSrc % 2 ^ 32 + fld v 7 0 * 2 ^ 32 }
    else if ofs = 0x60 then { q with forceSym := v }
    else if ofs = 0x64 then { q with forceVal := q.forceVal / 2 ^ 32 * 2 ^ 32 + v }
    else if ofs = 0x68 then { q with forceVal := q.forceVal % 2 ^ 32 + v * 2 ^ 32 }
    else q

end Sys2Proof.Machine
end

