-- ==== Sys2Proof/Machine/CanPorts.lean ====
section
/-! DEFINITION. CAN FD ports: message buffers, errors, restricted operation, the station link and the registers (R345 to
R376). -/

namespace Sys2Proof.Machine

/-! ### Ports -/

/-- A configuration bit of CANn_CTRL. -/
def CanPort.bit (p : CanPort) (i : Nat) : Bool := bitAt p.ctrl i

/-- Restricted operation: by a LISTEN command, in twin standby, or until the output instant after a takeover (R359, R543). -/
def State.restricted (s : State) (n : Fin 8) : Bool :=
  s.can[n].listen || s.twin.state == .standby || s.twin.takeover.contains 2

/-- CANn_STATUS. A frame is one command, so the bus of an enabled port is idle unless it is held (DESIGN CHOICE, log entry 10). -/
def State.canStatus (s : State) (n : Fin 8) : Nat :=
  let p := s.can[n]
  let idle := p.state != .disabled && !p.dominant
  put p.state.code 30 2 + flag (s.restricted n) 29 + flag idle 28 + flag p.dominant 27 + put p.lec 24 3
    + put (min p.rec_ 255) 16 8 + put p.tec 8 8 + put p.tdcv 0 8

/-- Port n asserts source 144 + 8n + i (R374). -/
def State.canRaise (n : Fin 8) (i : Nat) (s : State) : State := s.raiseEn s.can[n].evtEn (144 + 8 * n.val) i

/-- Address of a port register. -/
def canAddr (n : Fin 8) (ofs : Nat) : Nat := 0x40200000 + n.val * 0x10000 + ofs

/-- A bit of CANn_ERR sets. -/
def CanPort.setErr (i : Nat) (p : CanPort) : CanPort := { p with err := if bitAt p.err i then p.err else p.err + 2 ^ i }

/-- A bit of CANn_ERR sets in the present PERI cycle. -/
def State.canErr (n : Fin 8) (i : Nat) (s : State) : State := (s.modCan n (CanPort.setErr i)).setBit (canAddr n 0x10) i

/-- A frame-set, overrun or late-output flag sets, with source 144 + 8n + 7 (R374). -/
def State.canFlag (n : Fin 8) (i : Nat) (s : State) : State := (s.canErr n i).canRaise n 7

/-- The port takes part in the bus. -/
def State.canUp (s : State) (n : Fin 8) : Bool :=
  s.alive && (s.can[n].state == .active || s.can[n].state == .passive)

/-- Block number of a port's registers. -/
def canBlk (n : Fin 8) : Nat := 0x20 + n.val

/-! ### Error counters (R351, R352) -/

/-- A message buffer of a port. -/
def CanPort.buf (p : CanPort) (k : Nat) : MsgBuf := Tbl.getD p.bufs k MsgBuf.reset

/-- A port with one message buffer changed. -/
def CanPort.modBuf (k : Nat) (f : MsgBuf → MsgBuf) (p : CanPort) : CanPort := { p with bufs := Tbl.set k (f (p.buf k)) p.bufs }

/-- A bit of CANn_MBk_INFO sets in the present PERI cycle. -/
def State.mbInfo (n : Fin 8) (k i : Nat) (f : MsgBuf → MsgBuf) (s : State) : State :=
  (s.modCan n fun p => p.modBuf k f).setBit (canAddr n (0x1010 + 128 * k)) i

/-- A transmit buffer fails: TX_FAIL sets in the buffer and in CANn_ERR, and source 144 + 8n + 2 asserts (R357). -/
def State.mbFail (n : Fin 8) (k : Nat) (s : State) : State :=
  ((s.mbInfo n k 27 fun b => { b with pend := none, txFail := true, txDone := false }).canErr n 2).canRaise n 2

/-- A station of a port. -/
def CanPort.stn? (p : CanPort) (i : Nat) : Option Station := Tbl.get? i p.stns

/-- A port with one station changed. -/
def CanPort.modStn (i : Nat) (f : Station → Station) (p : CanPort) : CanPort :=
  match Tbl.get? i p.stns with | some x => { p with stns := Tbl.set i (f x) p.stns } | none => p

/-- A queued output frame ends as failed: a refresh is queued again at the next output instant (R367, R371). -/
def CanPort.outFail (o : OutFrame) (p : CanPort) : CanPort :=
  if o.refresh then
    { p with outQ := p.outQ.filter fun x => !(x.st == o.st && x.refresh) }.modStn o.st fun x =>
      { x with refresh := if x.state = StnState.returning then .due else x.refresh }
  else { p with outQ := p.outQ.filter fun x => !(x.st == o.st && x.idx == o.idx && !x.refresh) }

/-- Bus-off: every pending transmission ends as failed (R351). -/
def State.busOff (n : Fin 8) (s : State) : State :=
  let s1 := ((s.modCan n fun p => { p with state := .busOff }).canErr n 6).canRaise n 4
  let ks := (s1.can[n].bufs.filter fun b => b.2.pend.isSome).map (·.1)
  let s2 := ks.foldl (fun s k => s.mbFail n k) s1
  s2.modCan n fun p => p.outQ.foldl (fun p o => p.outFail o) p

/-- The port's state after its counters changed (R351). -/
def State.errState (n : Fin 8) (s : State) : State :=
  let p := s.can[n]
  if 256 ≤ p.tec then s.busOff n
  else if 128 ≤ p.tec ∨ 128 ≤ p.rec_ then
    if p.state = .active then
      ((s.modCan n fun p => { p with state := .passive }).canErr n 5).canRaise n 3
    else s
  else s.modCan n fun p => { p with state := if p.state = .passive then .active else p.state }

/-- The counters after an error: transmitter 8, receiver 1, receiver with a dominant bit after its flag 8; an error-passive
transmitter that only lacks an acknowledgement counts nothing (ISO 11898-1). -/
def CanPort.count (e : CanErr) (p : CanPort) : CanPort :=
  match e with
  | .tx l => { p with lec := l.val, tec := if l.val = 3 ∧ p.state = .passive then p.tec else p.tec + 8 }
  | .rx l => { p with lec := l.val, rec_ := p.rec_ + 1 }
  | .rxDominant l => { p with lec := l.val, rec_ := p.rec_ + 8 }
  | .res => { p with lec := 2, rec_ := p.rec_ + 1 }

/-- LEC of an error. -/
def errLec : CanErr → Nat
  | .tx l => l.val | .rx l => l.val | .rxDominant l => l.val | .res => 2

/-- An error on the bus: LEC, and outside restricted operation the counters and the port's state (R351, R359). -/
def State.busError (n : Fin 8) (e : CanErr) (s : State) : State :=
  if s.restricted n then s.modCan n fun p => { p with lec := errLec e } else (s.modCan n (CanPort.count e)).errState n

/-- A frame received without error lowers REC (ISO 11898-1). -/
def CanPort.rxOk (p : CanPort) : CanPort :=
  { p with lec := 0, rec_ := if 127 < p.rec_ then 127 else p.rec_ - 1 }

/-- A frame received without error: outside restricted operation the counters follow it (R351, R359). -/
def State.rxFrame (n : Fin 8) (s : State) : State :=
  if s.restricted n then s.modCan n fun p => { p with lec := 0 } else (s.modCan n CanPort.rxOk).errState n

/-- BUS_OFF_RECOVERY: after 128 sequences of 11 recessive bits the counters restart at zero and the port is error active; a
port without automatic recovery needs a RECOVER first (R352). -/
def execBusOffRecovery (n : Fin 8) (s : State) : Host.Outcome State Fault Refusal :=
  let p := s.can[n]
  if s.alive && p.state == .busOff && (p.bit 6 || p.recover) then
    .next ((if p.recover then s.dropBit (canAddr n 0) 8 else s).modCan n fun p => { p with
      state := .active, tec := 0, rec_ := 0, recover := s.setNow (canAddr n 0) 8 })
  else .next s

/-- A write of CANn_CTRL.RECOVER (R352); a second one in the PERI cycle of the recovery keeps the bit (R12). -/
def State.canRecover (n : Fin 8) (s : State) : State :=
  if s.can[n].state = .busOff || s.droppedNow (canAddr n 0) 8 then
    (if s.can[n].recover then s.setBit (canAddr n 0) 8 else s).modCan n fun p => { p with recover := true }
  else s

/-- CAN_BUS_DOMINANT: a dominant level for 1,024 bit times sets DOMINANT and writes entry 0x14B (R353). -/
def execCanBusDominant (n : Fin 8) (s : State) : Host.Outcome State Fault Refusal :=
  if s.alive && s.can[n].state != .disabled && !s.can[n].dominant then
    let s1 := (s.modCan n fun p => { p with dominant := true }).canErr n 7
    .next (s1.log silCAN n.val 3 0x14B (toLe 4 (s1.canStatus n)))
  else .next s

/-- A write of a buffer's CFG (0), ID (1) or MASK (2) that takes effect. -/
def CanPort.setBuf (p : CanPort) (w : Nat × Nat × Nat) : CanPort :=
  let v := w.2.2
  if w.2.1 = 0 then
    if fld v 31 30 = 3 ∨ (fld v 31 30 = 2 ∧ fld v 22 15 = 0) then p
    else p.modBuf w.1 fun b => { b with cfg := put (fld v 31 15) 15 17 + fld v 3 0 }
  else if w.2.1 = 1 then p.modBuf w.1 fun b => { b with id := fld v 28 0 }
  else p.modBuf w.1 fun b => { b with mask := fld v 28 0 }

/-- The bus is no longer held: it is idle, and the writes that waited for that take effect (R353, R358). -/
def CanPort.release (p : CanPort) : CanPort :=
  p.cfgWait.foldl CanPort.setBuf { p with dominant := false, cfgWait := [] }

/-- DOMINANT_CLEAR: the first recessive bit (R353). -/
def execDominantClear (n : Fin 8) (s : State) : Host.Outcome State Fault Refusal :=
  .next (if s.alive then s.modCan n CanPort.release else s)

/-! ### Restricted operation (R359, R360, R375) -/

/-- A command of CANn_CTRL.CMD: LISTEN or NORMAL, in COMMISSIONING only. -/
def State.canCmd (n : Fin 8) (listen : Bool) (s : State) : State :=
  if s.sys.state = .commissioning then
    s.modCan n fun p => if listen then { p with listen := true } else p.leaveListen
  else s.canErr n 9

/-! ### Identifiers of the station link (R361) -/

/-- The record of a station. -/
def State.stnCfg (s : State) (n : Fin 8) (i : Nat) : Option StnCfg :=
  s.run.stns.find? fun c => c.port == n.val && c.st == i

/-- STN_BASE of a port. -/
def CanPort.stnBase (p : CanPort) : Nat := p.base % 2 ^ 29

/-- The station link uses 29-bit identifiers. -/
def CanPort.stnIde (p : CanPort) : Bool := bitAt p.base 31

/-- A frame falls within the port's station link range: station and place 0 to 3 (R354, R361). -/
def State.stnOf (s : State) (n : Fin 8) (f : CanFrame) : Option (Nat × Nat) :=
  let p := s.can[n]
  let top := ((s.run.stns.filter fun c => c.port == n.val).map fun c => c.st + 1).foldl max 0
  if p.bit 5 && f.fdf && f.ide == p.stnIde && decide (p.stnBase ≤ f.id.toNat)
      && decide (f.id.toNat < p.stnBase + 4 * top) then
    some ((f.id.toNat - p.stnBase) / 4, (f.id.toNat - p.stnBase) % 4)
  else none

/-! ### Receive buffers (R354 to R356) -/

/-- A receive buffer takes a frame. -/
def MsgBuf.accepts (b : MsgBuf) (f : CanFrame) : Bool :=
  fld b.cfg 31 30 == 1 && bitAt b.cfg 29 == f.ide && bitAt b.cfg 28 == f.fdf
    && (b.id &&& b.mask) == (f.id.toNat &&& b.mask)

/-- A frame enters a receive buffer's primary or shadow, or is discarded (R355). -/
def State.mbReceive (n : Fin 8) (k : Nat) (f : CanFrame) (s : State) : State :=
  let b := s.can[n].buf k
  let s1 := s.modCan n fun p => p.modBuf k fun b => { b with frames := wrapInc 16 b.frames }
  match b.prim, b.shadow with
  | none, _ => (s1.modCan n fun p => p.modBuf k fun b => { b with prim := some f }).canRaise n 0
  | some _, none => (s1.modCan n fun p => p.modBuf k fun b => { b with shadow := some f }).canRaise n 0
  | some _, some _ => (s1.mbInfo n k 29 fun b => { b with overrun := true }).canFlag n 3

/-- CAN_MB_RX_FRAME: a frame outside the station link range goes to the first receive buffer that takes it; an FD frame on a
port without FD is an error, and a classical remote frame is ignored (R345, R347, R354, R355). -/
def execCanMbRxFrame (n : Fin 8) (f : CanFrame) (s : State) : Host.Outcome State Fault Refusal :=
  if s.canUp n then
    if f.fdf && !s.can[n].bit 2 then
      .next (s.busError n (.rx 2))
    else if (s.stnOf n f).isSome then .next s
    else
      let s1 := s.rxFrame n
      if f.rtr && !f.fdf then .next s1
      else match (List.range 64).find? fun k => (s1.can[n].buf k).accepts f with
        | some k => .next (s1.mbReceive n k f)
        | none => .next s1
  else .next s

/-- A write of CANn_MB_RELEASE: the primary empties, and a full shadow becomes the primary (R355). -/
def State.mbRelease (n : Fin 8) (k : Nat) (s : State) : State :=
  s.modCan n fun p => p.modBuf k fun b => { b with prim := b.shadow, shadow := none }

/-- CAN_MB_RELEASE. -/
def execCanMbRelease (who : Initiator) (n : Fin 8) (k : Fin 64) (s : State) : Host.Outcome State Fault Refusal :=
  .next (if s.acts who then
    s.guardWrite (s.granted who (canBlk n)) (canAddr n 0x50) who k.val (fun s => s.mbRelease n k.val) else s)

/-! ### Transmissions (R357, R358, R366, R367) -/

/-- The top note of a transmit request: TNC, or −1 before the first top tick of START, which begins note 0 (R357). -/
def State.noteStamp (s : State) : Int := if s.fs.started then (s.fs.tnc : Int) else -1

/-- A request of a transmit buffer (R357). -/
def State.mbRequest (n : Fin 8) (k : Nat) (s : State) : State :=
  let b := s.can[n].buf k
  if fld b.cfg 31 30 = 2 ∧ b.pend.isNone then
    s.modCan n fun p => p.modBuf k fun b => { b with pend := some (s.noteStamp, 0) }
  else s

/-- CAN_MB_TXREQ. -/
def execCanMbTxreq (who : Initiator) (n : Fin 8) (k : Fin 64) (s : State) : Host.Outcome State Fault Refusal :=
  .next (if s.acts who then
    s.guardWrite (s.granted who (canBlk n)) (canAddr n 0x54) who k.val (fun s => s.mbRequest n k.val) else s)

/-- An aborted request ends as failed (R357). -/
def State.mbAbort (n : Fin 8) (k : Nat) (s : State) : State :=
  if (s.can[n].buf k).pend.isSome then s.mbFail n k else s

/-- CAN_MB_ABORT. -/
def execCanMbAbort (who : Initiator) (n : Fin 8) (k : Fin 64) (s : State) : Host.Outcome State Fault Refusal :=
  .next (if s.acts who then
    s.guardWrite (s.granted who (canBlk n)) (canAddr n 0x54) who (2 ^ 31 + k.val) (fun s => s.mbAbort n k.val) else s)

/-- Place of a frame in arbitration: base identifier, length, full identifier, format, index; the lower wins (R357). -/
def arbKey (ide fdf : Bool) (id idx : Nat) : Nat :=
  let base := if ide then id / 2 ^ 18 else id % 2 ^ 11
  (((base * 2 + if ide then 1 else 0) * 2 ^ 29 + if ide then id else 0) * 2 + if fdf then 1 else 0) * 128 + idx

/-- The pending frame that the port offers to the bus: a message buffer or the place of a queued output frame. -/
def CanPort.offered (p : CanPort) : Option (Nat ⊕ Nat) :=
  let mbs := (p.bufs.filter fun b => b.2.pend.isSome).map fun b =>
    (arbKey (bitAt b.2.cfg 29) (bitAt b.2.cfg 28) b.2.id b.1, (Sum.inl b.1 : Nat ⊕ Nat))
  let outs := p.outQ.mapIdx fun i o => (arbKey p.stnIde true (p.stnBase + 4 * o.st + 2) 64, (Sum.inr i : Nat ⊕ Nat))
  ((mbs ++ outs).foldl (fun best c => match best with
    | none => some c
    | some b => if c.1 < b.1 then some c else some b) none).map (·.2)

/-- A station's output frame was sent: the last frame of a refresh completes it (R366, R371). -/
def State.outSent (n : Fin 8) (i : Nat) (s : State) : State :=
  match s.can[n].outQ[i]? with
  | none => s
  | some o =>
    let q := s.can[n].outQ.eraseIdx i
    let last := o.refresh && !(q.any fun x => x.st == o.st && x.refresh)
    let s1 := s.modCan n fun p => { p with outQ := q }
    if last then
      s1.modCan n fun p => { p with refreshes := satInc 65535 p.refreshes }.modStn o.st fun x =>
        { x with refresh := if x.state = StnState.returning then .sent (s.tb % 2 ^ 32) else x.refresh }
    else s1

/-- An attempt of a queued output frame ended in an error (R367). -/
def State.outError (n : Fin 8) (i : Nat) (s : State) : State :=
  match s.can[n].outQ[i]? with
  | none => s
  | some o =>
    let limit := match s.stnCfg n o.st with | some c => c.retry | none => 0
    if limit ≤ o.tries then s.modCan n fun p => p.outFail o
    else s.modCan n fun p => { p with outQ := p.outQ.set i { o with tries := o.tries + 1 } }

/-- The offered frame is sent with bit-rate switching (R350). -/
def CanPort.brs (p : CanPort) : Nat ⊕ Nat → Bool
  | .inl k => p.bit 3 && bitAt (p.buf k).cfg 28 && bitAt (p.buf k).cfg 27
  | .inr _ => p.bit 3

/-- The request of a transmit buffer is still there after TX_TIMEOUT top notes have begun (R357). -/
def MsgBuf.timedOut (b : MsgBuf) (tnc : Int) : Bool := b.pend.any fun x => decide (x.1 + (fld b.cfg 22 15 : Nat) ≤ tnc)

/-- Every request whose time is up ends as failed (R357). -/
def State.mbExpire (n : Fin 8) (s : State) : State :=
  ((s.can[n].bufs.filter fun b => b.2.timedOut s.noteStamp).map (·.1)).foldl (fun s k => s.mbFail n k) s

/-- CONFIGURE clears TNC: the requests keep the count of top notes begun since (R35, R357). -/
def State.rebaseTx (s : State) : State :=
  { s with can := s.can.map fun p => { p with bufs := p.bufs.map fun b =>
      (b.1, { b.2 with pend := b.2.pend.map fun x => (x.1 - s.noteStamp - 1, x.2) }) } }

/-- An attempt of the offered frame ends (R357, R367): a success lowers TEC; an error counts against the frame's retries. -/
def State.txEnd (n : Fin 8) (x : Nat ⊕ Nat) (ok : Bool) (sof : Nat) (s : State) : State :=
  match x, ok with
  | .inl k, true =>
    let s1 := (s.modCan n fun p => { p with lec := 0, tec := p.tec - 1 }).mbInfo n k 28 fun b =>
      { b with pend := none, txDone := true, txFail := false, stamp := sof }
    (s1.canRaise n 1).errState n
  | .inl k, false =>
    let b := s.can[n].buf k
    if fld b.cfg 26 23 ≤ (b.pend.map (·.2)).getD 0 then s.mbFail n k
    else s.modCan n fun p => p.modBuf k fun b => { b with pend := b.pend.map fun x => (x.1, x.2 + 1) }
  | .inr i, true => ((s.modCan n fun p => { p with lec := 0, tec := p.tec - 1 }).outSent n i).errState n
  | .inr i, false => s.outError n i

/-- An attempt of the offered frame ends in an error: the counters and LEC follow it, and unless the port goes bus-off the error counts
against the frame's retries (R351, R357, R367). -/
def State.txError (n : Fin 8) (x : Nat ⊕ Nat) (l : Fin 7) (s : State) : State :=
  let s1 := s.busError n (.tx l)
  if s1.can[n].state = .busOff then s1 else s1.txEnd n x false 0

/-- The LEC code of an error that a command does not name: 1 to 6, a free value (DESIGN CHOICE, log entry 10). -/
def State.freeLec (s : State) : Fin 7 := ⟨1 + Config.freeNat s.free % 6, by omega⟩

/-- The port takes an attempt of the offered frame: requests whose time is up have failed, and in DRYDOWN it is the last (R357, R376). -/
def State.attempt (n : Fin 8) (s : State) : State :=
  (s.mbExpire n).modCan n fun p => { p with stop := if p.stop = 1 then 2 else p.stop }

/-- The port may transmit (R353, R359, R376). -/
def State.canSend (s : State) (n : Fin 8) : Bool := s.canUp n && !s.restricted n && !s.can[n].dominant && s.can[n].stop != 2

/-- CAN_ERROR: a bus error, which as transmitter ends the attempt of the offered frame, or a recessive res bit, which is a protocol
exception event when PXHD is set on an FD port: the port then waits for 11 recessive bits, which the end of the frame and the intermission
give before another frame can begin. In restricted operation the counters stay (R347, R351, R357, R359; DESIGN CHOICE, log entry 10). -/
def execCanError (n : Fin 8) (e : CanErr) (s : State) : Host.Outcome State Fault Refusal :=
  if s.canUp n then
    if e = .res ∧ s.can[n].bit 7 = true ∧ s.can[n].bit 2 = true then .next (s.canErr n 4)
    else match e with
      | .tx l =>
        if s.canSend n then
          let s1 := s.attempt n
          .next (match s1.can[n].offered with | some x => s1.txError n x l | none => s1.busError n e)
        else .next (s.busError n e)
      | .rx _ | .rxDominant _ | .res => .next (s.busError n e)
  else .next s

/-- CAN_TX_COMPLETE: an attempt of the offered frame ends in success, or in an error that counts against its retries and whose kind is a
free value. With TDC set a frame with BRS measures the loop delay, and ends in a bit error where TDCV + TDCO exceeds 127 (R350, R351,
R357, R367). -/
def execCanTxComplete (n : Fin 8) (ok : Bool) (at_ : BitVec 32 × BitVec 8) (s : State) :
    Host.Outcome State Fault Refusal :=
  if s.canSend n then
    let s1 := s.attempt n
    match s1.can[n].offered with
    | some x =>
      let tdc := s1.can[n].bit 4 && s1.can[n].brs x
      let s2 := if tdc then s1.modCan n fun p => { p with tdcv := at_.2.toNat } else s1
      .next (if tdc && decide (127 < at_.2.toNat + fld s2.can[n].btd 6 0) then s2.txError n x 4
        else if ok then s2.txEnd n x true at_.1.toNat
        else { s2 with free := s2.free + 1 }.txError n x s2.freeLec)
    | none => .next s1
  else .next s

/-- CAN_TX_TIMEOUT: TX_TIMEOUT top notes have begun since the request (R357). -/
def execCanTxTimeout (n : Fin 8) (k : Fin 64) (s : State) : Host.Outcome State Fault Refusal :=
  .next (if s.alive && (s.can[n].buf k.val).timedOut s.noteStamp then s.mbFail n k.val else s)

/-- A write of a buffer's CFG (0), ID (1) or MASK (2) takes effect at the next bus idle: at once, for frames are single commands, unless
the bus is held dominant (R358; DESIGN CHOICE, log entry 10). -/
def State.mbConfig (n : Fin 8) (k r v : Nat) (s : State) : State :=
  s.modCan n fun p => if p.dominant then { p with cfgWait := p.cfgWait ++ [(k, r, v)] } else p.setBuf (k, r, v)

/-- CAN_MB_CONFIG_WRITE. -/
def execCanMbConfigWrite (who : Initiator) (n : Fin 8) (k : Fin 64) (r : Fin 3) (v : Word) (s : State) :
    Host.Outcome State Fault Refusal :=
  .next (if s.acts who then
    s.guardWrite (s.granted who (canBlk n)) (canAddr n (0x1000 + 0x80 * k.val + 4 * r.val)) who v.toNat
      (fun s => s.mbConfig n k.val r.val v.toNat) else s)

/-! ### Input blocks (R363, R364, R371) -/

/-- A discard that counts as INCOMPLETE and sets SET_ERR (R364, R368). -/
def State.stnIncomplete (n : Fin 8) (s : State) : State :=
  (s.modCan n fun p => { p with
    incomplete := satInc 65535 p.incomplete, counts := (satInc 65535 p.counts.1, p.counts.2) }).canFlag n 1

/-- A discard that counts as DISCARDED (R364, R371). -/
def State.stnDiscard (n : Fin 8) (s : State) : State :=
  s.modCan n fun p => { p with
    discarded := satInc 65535 p.discarded, counts := (p.counts.1, satInc 65535 p.counts.2) }

/-- TB[31:0] stamps in order: `b` does not precede `a`. -/
def stampLe (a b : Nat) : Bool := (b + 2 ^ 32 - a) % 2 ^ 32 < 2 ^ 31

/-- The CAN DMA writes a block to the station's idle input buffer in system SRAM (R364); the places of the two buffers are those that MEMORY
declares (DESIGN CHOICE, log entry 23). -/
def State.putBlock (n : Fin 8) (i : Nat) (second : Bool) (blk : List Byte) (s : State) : State :=
  match s.run.mem.stnBufs.find? fun r => r.1 == n.val && r.2.1 == i with
  | some r => s.busWrite (Initiator.code .canDma) (if second then r.2.2.2 else r.2.2.1) blk
  | none => s

/-- A complete block of a station, with the start-of-frame stamp of its first frame and its sequence number: a GOOD station
takes it, a RETURNING one takes the first whose transmission began after the refresh was sent, and any other block is
discarded (R364, R371). -/
def State.acceptBlock (n : Fin 8) (i : Nat) (sof : Nat) (seq : Option Nat) (blk : List Byte) (s : State) : State :=
  match s.can[n].stn? i with
  | none => s
  | some x =>
    let take := fun s : State => (s.putBlock n i (!x.side) blk).modCan n fun p =>
      { p with marks := ((if p.marks.1.contains i then p.marks.1 else p.marks.1 ++ [i]), p.marks.2) }.modStn i fun x =>
        { x with block := blk, side := !x.side, age := s.fs.tnc % 2 ^ 32, lastSeq := seq,
                 fresh := some (s.now / periV, x.block, x.age, x.goodNext),
                 goodNext := x.goodNext || x.state == StnState.returning }
    if seq.isSome ∧ seq = x.lastSeq then s.stnDiscard n
    else match x.state, x.refresh with
      | .good, _ => take s
      | .returning, .sent t => if stampLe t sof then take s else s.stnDiscard n
      | _, _ => s.stnDiscard n

/-- The next FD data length (R363). -/
def fdLen (n : Nat) : Nat := ([0, 1, 2, 3, 4, 5, 6, 7, 8, 12, 16, 20, 24, 32, 48, 64].find? (n ≤ ·)).getD 64

/-- A frame on a station's first (0) or second (1) input identifier (R364). -/
def State.inputFrame (n : Fin 8) (c : StnCfg) (second : Bool) (f : CanFrame) (s : State) : State :=
  let i := c.st
  let seq := fld (leAt f.data 0 1) 6 0
  let idx := fld (leAt f.data 0 1) 7 7
  match s.can[n].stn? i with
  | none => s
  | some x =>
    if c.inLen ≤ 64 then
      if !second && f.data.length == fdLen c.inLen then s.acceptBlock n i f.sof.toNat none (f.data.take c.inLen)
      else s.stnIncomplete n
    else if !second then
      if idx = 0 ∧ f.data.length = 64 then
        let s1 := if x.held.isSome then s.stnIncomplete n else s
        s1.modCan n fun p => p.modStn i fun x => { x with held := some f }
      else s.stnIncomplete n
    else
      match x.held with
      | none => s.stnIncomplete n
      | some h =>
        let late := 10 * c.setWin < (f.sof.toNat + 2 ^ 32 - h.sof.toNat) % 2 ^ 32
        if late then
          ((s.modCan n fun p => p.modStn i fun x => { x with held := none }).stnIncomplete n).stnIncomplete n
        else if idx = 1 ∧ f.data.length = fdLen (c.inLen - 62) ∧ fld (leAt h.data 0 1) 6 0 = seq then
          (s.modCan n fun p => p.modStn i fun x => { x with held := none }).acceptBlock n i h.sof.toNat (some seq)
            (((h.data.drop 1) ++ (f.data.drop 1)).take c.inLen)
        else s.stnIncomplete n

/-- An FD frame reaches a port without FD, which answers it with an error frame (R347). -/
def State.fdRefused (s : State) (n : Fin 8) (f : CanFrame) : Bool := s.canUp n && f.fdf && !s.can[n].bit 2

/-- STATION_INPUT_FRAME. -/
def execStationInputFrame (n : Fin 8) (f : CanFrame) (s : State) : Host.Outcome State Fault Refusal :=
  if s.fdRefused n f then .next (s.busError n (.rx 2)) else
  match s.canUp n, s.stnOf n f with
  | true, some (i, k) =>
    match s.stnCfg n i with
    | some c =>
      let s1 := s.rxFrame n
      .next (if k = 0 then s1.inputFrame n c false f else if k = 1 then s1.inputFrame n c true f else s1)
    | none => .next s
  | _, _ => .next s

/-- FRAME_SET_EXPIRY: the window of a held first frame expires, SET_WIN µs after its start of frame (R364). -/
def execFrameSetExpiry (n : Fin 8) (st : Fin 64) (s : State) : Host.Outcome State Fault Refusal :=
  match s.alive, s.can[n].stn? st.val, s.stnCfg n st.val with
  | true, some x, some c =>
    .next (match x.held with
      | some h =>
        let gone := (s.tb % 2 ^ 32 + 2 ^ 32 - h.sof.toNat) % 2 ^ 32
        let s1 := if gone ≤ 10 * c.setWin then s.wait ((10 * c.setWin + 1 - gone) * 400) else s
        (s1.modCan n fun p => p.modStn st.val fun x => { x with held := none }).stnIncomplete n
      | none => s)
  | _, _, _ => .next s

/-! ### Heartbeats, loss and return (R368 to R371) -/

/-- A station becomes RETURNING: its refresh is due at the next output instant (R370, R371). -/
def Station.return_ (x : Station) : Station :=
  { x with state := .returning, goodNext := false, refresh := .due, misses := 0 }

/-- A valid heartbeat (R368, R370). -/
def Station.heartbeat (d : List Byte) (x : Station) : Station :=
  let y := { x with beat := true, word := leAt d 1 1 + 256 * leAt d 2 2, uptime := leAt d 4 4 }
  match x.state with
  | .lost => y.return_
  | .good => if bitAt (leAt d 1 1) 0 then y.return_ else y
  | .returning => y

/-- STATION_HEARTBEAT. -/
def execStationHeartbeat (n : Fin 8) (f : CanFrame) (s : State) : Host.Outcome State Fault Refusal :=
  if s.fdRefused n f then .next (s.busError n (.rx 2)) else
  match s.canUp n, s.stnOf n f with
  | true, some (i, 3) =>
    let s1 := s.rxFrame n
    if f.data.length = 8 ∧ leAt f.data 0 1 = 1 then .next (s1.modCan n fun p => p.modStn i (Station.heartbeat f.data))
    else .next (s1.stnIncomplete n)
  | _, _ => .next s

/-- A station is declared lost: held and queued frames are dropped, the losses count advances and source 144 + 8n + 5
asserts (R369, R371). -/
def State.loseStation (n : Fin 8) (i : Nat) (s : State) : State :=
  (s.modCan n fun p =>
    { p with losses := satInc 65535 p.losses, outQ := p.outQ.filter fun o => o.st != i,
             marks := (p.marks.1, (if p.marks.2.1.contains i then p.marks.2.1 else p.marks.2.1 ++ [i]), p.marks.2.2) }.modStn i
      fun x => { x with state := .lost, goodNext := false, held := none, refresh := .none }).canRaise n 5

/-- HEARTBEAT_CHECK of one station, HB_DUE µs after the tick of a top note with TNC mod HB_DIV = 0 (R369). -/
def execHeartbeatCheck (n : Fin 8) (st : Fin 64) (s : State) : Host.Outcome State Fault Refusal :=
  match s.stnCfg n st.val, s.can[n].stn? st.val with
  | some c, some x =>
    if s.notesRun && s.fs.tnc % c.hbDiv == 0 && x.checked != some s.fs.tnc then
      let s1 := (s.to (s.fs.tickAt + c.hbDue * usV)).modCan n fun p => p.modStn st.val fun x =>
        { x with checked := some s.fs.tnc }
      if x.beat then .next (s1.modCan n fun p => p.modStn st.val fun x => { x with beat := false, misses := 0 })
      else
        let m := min (x.misses + 1) 16
        let s2 := s1.modCan n fun p => p.modStn st.val fun x => { x with misses := m }
        .next (if decide (c.missN ≤ m) && x.state != .lost then s2.loseStation n st.val else s2)
    else .next s
  | _, _ => .next s

/-! ### The input latch and its record (R283 to R286, R373) -/

/-- What the latch of a top tick, in a PERI cycle, does to a station: a block whose acceptance completed in that very cycle waits
for the next latch (R283). -/
def Station.latch (tnc cycle : Nat) (x : Station) : Station :=
  let now := match x.fresh with
    | some (t, b, a, g) => if t = cycle then (b, a, g) else (x.block, x.age, x.goodNext)
    | none => (x.block, x.age, x.goodNext)
  let st := if now.2.2 then StnState.good else x.state
  { x with
    state := st, goodNext := x.goodNext && !now.2.2, lState := st, lBlock := now.1, lAge := now.2.1, lWord := x.word,
    refresh := if now.2.2 then .none else x.refresh,
    heldFrom := if st = .good then none else if x.lState = .good then some tnc else x.heldFrom }

/-- The latch of one port at a top tick, with source 144 + 8n + 6 for stations that become GOOD, and its acceptance record
(R371, R373). -/
def State.canLatch (s : State) (n : Fin 8) : State :=
  let p := s.can[n]
  if p.bit 5 then
    let cyc := s.now / periV
    let back := (p.stns.filter fun x => x.2.state == StnState.returning
      && (x.2.latch s.fs.tnc cyc).state == StnState.good).map (·.1)
    let mask := fun l : List Nat => ((List.range 64).map fun k => if l.contains k then 2 ^ k else 0).sum
    let d := toLe 4 s.fs.tnc ++ zeros 4 ++ toLe 8 (mask p.marks.1) ++ toLe 8 (mask p.marks.2.1) ++ toLe 8 (mask back)
      ++ toLe 2 p.counts.1 ++ toLe 2 p.counts.2 ++ toLe 1 p.state.code ++ toLe 1 (min p.tec 255)
      ++ toLe 1 (min p.rec_ 255) ++ zeros 25
    let role := ((s.run.can.find? fun c => c.port == n.val).map (·.dest)).getD 7
    let s1 := s.modCan n fun p => { p with
      stns := p.stns.map fun x => (x.1, x.2.latch s.fs.tnc cyc), marks := ([], [], []), counts := (0, 0) }
    let s2 := s1.postRec (8 + n.val) { data := d, role := role, epoch := s.pairs.epochOf role }
    if back.isEmpty then s2 else s2.canRaise n 6
  else s

/-- Bytes of the quality map of a block (R363). -/
def mapBytes (items : Nat) : Nat := ceilDiv items 4

/-- The reported quality code of item `k` of a block. -/
def itemQuality (blk : List Byte) (k : Nat) : Quality :=
  Quality.ofCode (fld (leAt blk (k / 4) 1) (2 * (k % 4) + 1) (2 * (k % 4)))

/-- The value of an input item of a block. -/
def itemValue (blk : List Byte) (items : Nat) (it : StnItem) : Int :=
  let o := mapBytes items + it.ofs
  let raw := leAt blk o (typeBytes it.type)
  if it.type = 0 then (if bitAt raw it.bit then 1 else 0)
  else if it.type = 1 ∨ it.type = 3 ∨ it.type = 5 ∨ it.type = 7 then toSigned (8 * typeBytes it.type) raw
  else raw

/-- The quality of a station's value in an input image: as sent while GOOD, HELD within the hold count, BAD beyond it
(R281, R284, R286, R376). -/
def Station.imageQuality (tnc hold : Nat) (x : Station) (q : Quality) : Quality :=
  if x.lState = .good then q
  else match x.heldFrom with
    | some t => if tnc < t + hold then .held else .bad
    | none => .bad

/-- A latched input item of a station with its quality. -/
def State.stnValue (s : State) (port i k : Nat) : Int × Quality :=
  if h : port < 8 then
    let n : Fin 8 := ⟨port, h⟩
    match s.stnCfg n i, s.can[n].stn? i with
    | some c, some x =>
      match c.ins[k]? with
      | some it => (itemValue x.lBlock c.ins.length it,
          x.imageQuality s.fs.tnc c.holdTn (itemQuality x.lBlock k))
      | none => (0, .bad)
    | _, _ => (0, .bad)
  else (0, .bad)

/-- A latched 32-bit word of a station's input block, with the quality of the item at its place (R339). -/
def State.stnWord (s : State) (port i w : Nat) : Int × Quality :=
  if h : port < 8 then
    let n : Fin 8 := ⟨port, h⟩
    match s.stnCfg n i, s.can[n].stn? i with
    | some c, some x =>
      let q := match (List.range c.ins.length).find? fun k =>
          match c.ins[k]? with | some it => mapBytes c.ins.length + it.ofs == 4 * w | none => false with
        | some k => itemQuality x.lBlock k
        | none => .bad
      (toSigned 32 (leAt x.lBlock (4 * w) 4), x.imageQuality s.fs.tnc c.holdTn q)
    | _, _ => (0, .bad)
  else (0, .bad)

/-! ### Outputs (R366, R371) -/

/-- The value of an output item in the station test image (R275). -/
def State.testValue (s : State) (c : StnCfg) (k : Nat) (it : StnItem) : Int :=
  let before := ((s.run.stns.filter fun d => d.port < c.port || (d.port == c.port && d.st < c.st)).map
    fun d => d.outs.length).sum
  typedValue it.type (Mem.le s.mem (s.run.mem.testImg + 4 * (before + k)) 4)

/-- The key of a station's output item (R27, R304). -/
def stnKey (c : StnCfg) (k : Nat) : Nat := 48 + (c.port * 256 + c.st) * 256 + k

/-- The value and quality of an output item: a loop's entry, the test value in TEST, or the image in effect, and off before the first
image; a queued start request sends 0 with SUBST (R275, R304, R305, R366). -/
def State.outItem (s : State) (c : StnCfg) (k : Nat) (it : StnItem) : Int × Quality :=
  let key := stnKey c k
  let v := if s.sys.state = .test then
      (s.testValue c k it, Quality.subst)
    else match it.loop with
      | some e => Tbl.getD s.loops.eff e (0, .bad)
      | none => Tbl.getD s.prog.outs key (0, .subst)
  if s.prog.waiting key then (0, .subst) else v

/-- The output block of a station (R363, R366). -/
def State.outBlock (s : State) (c : StnCfg) : List Byte :=
  let vals := c.outs.mapIdx fun k it => (it, s.outItem c k it)
  let map := packCodes (vals.map fun x => x.2.2.code)
  let area := vals.foldl (fun (a : List Byte) x =>
    let w := typeBytes x.1.type
    let old := leAt a x.1.ofs w
    let new := if x.1.type = 0 then
        (if bitAt old x.1.bit then old - 2 ^ x.1.bit else old) + (if x.2.1 = 0 then 0 else 2 ^ x.1.bit)
      else ofSigned (8 * w) x.2.1
    overlay a x.1.ofs (toLe w new)) (zeros (c.outLen - mapBytes c.outs.length))
  (map ++ area).take c.outLen

/-- The frames of an output block: one, or a set of two with a sequence byte (R363). -/
def outFrames (st seq : Nat) (blk : List Byte) (refresh : Bool) : List OutFrame :=
  let pad := fun b : List Byte => padTo (fdLen b.length) b
  if blk.length ≤ 64 then [{ st := st, idx := 0, data := pad blk, tries := 0, refresh := refresh }]
  else
    [ { st := st, idx := 0, data := pad (toLe 1 seq ++ blk.take 63), tries := 0, refresh := refresh },
      { st := st, idx := 1, data := pad (toLe 1 (128 + seq) ++ blk.drop 63), tries := 0, refresh := refresh } ]

/-- The output frames of one station are queued; older ones are withdrawn, which sets OUT_LATE (R366, R367). -/
def State.queueOut (n : Fin 8) (c : StnCfg) (refresh : Bool) (s : State) : State :=
  if c.outLen = 0 then
    if refresh then s.modCan n fun p => { p with refreshes := satInc 65535 p.refreshes }.modStn c.st fun x =>
      { x with refresh := if x.state = StnState.returning then .sent (s.tb % 2 ^ 32) else x.refresh }
    else s
  else
    let late := s.can[n].outQ.any fun o => o.st == c.st
    let seq := ((s.can[n].stn? c.st).map (·.outSeq)).getD 0
    let s1 := s.modCan n fun p =>
      { p with outQ := (p.outQ.filter fun (o : OutFrame) => o.st != c.st) ++ outFrames c.st seq (s.outBlock c) refresh }.modStn c.st
        fun x => { x with outSeq := (x.outSeq + 1) % 128,
                          refresh := if refresh && x.state == StnState.returning then .queued else x.refresh }
    if late then s1.canFlag n 0 else s1

/-- One station at an output instant: the refresh of a RETURNING station, or the due frames of a GOOD one (R360, R366,
R371). -/
def State.outStation (n : Fin 8) (s : State) (c : StnCfg) : State :=
  match s.can[n].stn? c.st with
  | none => s
  | some x =>
    match x.state with
    | .good =>
      if s.can[n].refreshGood then s.queueOut n c true
      else if s.fs.tnc % c.outDiv = 0 then s.queueOut n c false else s
    | .returning => if x.refresh = .due then s.queueOut n c true else s
    | .lost => s

/-- The stations in ascending port and station number (R275, R366). -/
def RunCfg.ordered (c : RunCfg) : List StnCfg := sortBy (fun x => x.port * 64 + x.st) c.stns

/-- A restricted port sends no output frame: at an output instant at which a GOOD station is due, its frames that still wait are withdrawn
(R359, R367). -/
def State.withdrawOut (n : Fin 8) (s : State) (c : StnCfg) : State :=
  let due := s.fs.tnc % c.outDiv == 0 && ((s.can[n].stn? c.st).map (·.state)) == some .good
  if due && s.can[n].outQ.any fun o => o.st == c.st then
    (s.modCan n fun p => { p with outQ := p.outQ.filter fun o => o.st != c.st }).canFlag n 0
  else s

/-- The station outputs of one port at an output instant (R359, R366, R367). -/
def State.canOutputs (s : State) (n : Fin 8) : State :=
  let l := s.run.ordered.filter fun c => c.port == n.val
  if s.canUp n && s.can[n].bit 5 then
    if s.restricted n then l.foldl (State.withdrawOut n) s
    else (l.foldl (State.outStation n) s).modCan n fun p => { p with refreshGood := false }
  else s

/-- At the tick of entry into TEST the test image is filled with every item's SAFE value (R275). -/
def State.fillTestImage (s : State) : State :=
  s.busWrite noCode s.run.mem.testImg ((s.run.ordered.flatMap fun c => c.outs).flatMap fun it => toLe 4 it.safe)

/-! ### CONFIGURE (R346, R376) -/

/-- A port as CONFIGURE step 7 loads it from its record. -/
def CanPort.configure (c : CanCfg) : CanPort :=
  let f := c.flags
  { CanPort.reset with
    ctrl := flag (bitAt f 7) 7 + flag (bitAt f 4) 6 + flag (bitAt f 6) 5 + flag (bitAt f 3) 4 + flag (bitAt f 2) 3
      + flag (bitAt f 1) 2 + flag (bitAt f 0) 0
    btn := c.btn, btd := c.btd, base := c.base + flag (bitAt f 5) 31,
    state := if bitAt f 0 then .active else .disabled }

/-- The declared stations at the first latch of START: every one LOST, on the ports with a station link (R376). -/
def State.declareStns (s : State) : State :=
  { s with can := Vector.ofFn fun n =>
      let p := s.can[n]
      let l := s.run.stns.filter fun x => x.port == n.val
      { p with stns := if p.bit 5 then l.foldl (fun (t : List (Nat × Station)) x => Tbl.set x.st Station.start t) [] else [] } }

/-- The port record that 16 bytes spell (R346). -/
def CanCfg.ofBytes (b : List Byte) : CanCfg :=
  { port := leAt b 0 1, flags := leAt b 1 1, dest := leAt b 2 1, btn := leAt b 4 4, btd := leAt b 8 4, base := leAt b 12 4 }

/-- An item of a station record (R362). -/
def StnItem.ofBytes (b : List Byte) (loop : Option Nat) : StnItem :=
  { ofs := leAt b 0 1, type := leAt b 1 1, bit := leAt b 2 1, stag := bitAt (leAt b 3 1) 0, safe := leAt b 4 4, loop := loop }

/-- The station record that bytes spell, with the loop entries that its output items are bound to (R362). -/
def StnCfg.ofBytes (b : List Byte) (loops : List (Option Nat)) : StnCfg :=
  let ni := leAt b 4 1
  let no := leAt b 5 1
  { port := leAt b 0 1, st := leAt b 1 1, inLen := leAt b 2 1, outLen := leAt b 3 1,
    ins := (List.range ni).map fun k => StnItem.ofBytes (slice b (32 + 8 * k) 8) none,
    outs := (List.range no).map fun k => StnItem.ofBytes (slice b (32 + 8 * (ni + k)) 8) ((loops[k]?).getD none),
    hbDiv := leAt b 6 2, hbDue := leAt b 8 2, missN := leAt b 10 1, retry := leAt b 11 1, holdTn := leAt b 12 2,
    outDiv := leAt b 14 2, setWin := leAt b 16 2 }

/-! ### Registers (R375) -/

/-- Bits of 32 message buffers from `b`. -/
def CanPort.bufBits (p : CanPort) (f : MsgBuf → Bool) (b : Nat) : Nat :=
  packBits ((List.range 32).map fun k => f (p.buf (b + k)))

/-- A word of a message buffer. -/
def MsgBuf.word (b : MsgBuf) (o : Nat) : Nat :=
  if o = 0 then b.cfg else if o = 4 then b.id else if o = 8 then b.mask
  else if o = 12 then (match b.prim with | some f => f.sof.toNat | none => b.stamp)
  else if o = 16 then
    flag b.prim.isSome 31 + flag b.shadow.isSome 30 + flag b.overrun 29 + flag b.txDone 28 + flag b.txFail 27
      + (match b.prim with | some f => put f.dlc.val 20 4 + flag f.esi 17 + flag f.fdf 16 | none => 0) + put b.frames 0 16
  else if 64 ≤ o then
    (if fld b.cfg 31 30 = 2 then (b.data[(o - 64) / 4]?).getD 0
     else match b.prim with | some f => leAt f.data (o - 64) 4 | none => 0)
  else 0

/-- The value of a CANn register at an offset. -/
def State.canRead (s : State) (n : Fin 8) (ofs : Nat) : Nat :=
  let p := s.can[n]
  if ofs = 0x00 then flag p.recover 8 + p.ctrl
  else if ofs = 0x04 then p.btn
  else if ofs = 0x08 then p.btd
  else if ofs = 0x0C then s.canStatus n
  else if ofs = 0x10 then p.err
  else if ofs = 0x14 then p.evtEn
  else if ofs = 0x18 then p.base
  else if 0x20 ≤ ofs ∧ ofs < 0x30 then
    ((List.range 16).map fun j => match p.stn? ((ofs - 0x20) / 4 * 16 + j) with
      | some x => put x.state.code (2 * j) 2 | none => 0).sum
  else if ofs = 0x30 then put p.losses 16 16 + put p.refreshes 0 16
  else if ofs = 0x34 then put p.incomplete 16 16 + put p.discarded 0 16
  else if ofs = 0x40 then p.bufBits (fun b => b.prim.isSome) 0
  else if ofs = 0x44 then p.bufBits (fun b => b.prim.isSome) 32
  else if ofs = 0x48 then p.bufBits (fun b => b.pend.isSome) 0
  else if ofs = 0x4C then p.bufBits (fun b => b.pend.isSome) 32
  else if 0x1000 ≤ ofs ∧ ofs < 0x3000 then (p.buf ((ofs - 0x1000) / 128)).word ((ofs - 0x1000) % 128 / 4 * 4)
  else 0

/-- A read of CANn_STATUS leaves LEC at 7, unchanged since read (R375). -/
def State.canTouch (s : State) (n : Fin 8) (ofs : Nat) : State :=
  if ofs = 0x0C then s.modCan n fun p => { p with lec := 7 } else s

/-- A permitted write of CANn_CTRL: the commands act; the configuration bits are read-only once the accord is applied, and before that
ENABLE starts nothing, for the transceiver stays recessive until CONFIGURE step 7 (R375, R376). -/
def State.canCtrl (w : Initiator) (n : Fin 8) (v : Nat) (s : State) : State :=
  let s1 := if bitAt v 8 then s.canRecover n else s
  let s2 := if fld v 10 9 = 1 then s1.canCmd n true else if fld v 10 9 = 2 then s1.canCmd n false else s1
  s2.rwlWrite (canAddr n 0) w v fun s => s.modCan n fun p => { p with ctrl := fld v 7 2 * 4 + v % 2 }

/-- A command of CANn_CTRL as firmware gives it: a write of the register with its other fields as they stand. Like any write of the
register it is recorded as entry 0x140 once the accord is applied, for it writes RWL fields (R11). -/
def State.canCommand (w : Initiator) (n : Fin 8) (cmd : Nat) (s : State) : State :=
  let v := s.can[n].ctrl + cmd
  s.guardWrite (s.granted w (canBlk n)) (canAddr n 0) w v fun s => s.canCtrl w n v

/-- CAN_RECOVER. -/
def execCanRecover (who : Initiator) (n : Fin 8) (s : State) : Host.Outcome State Fault Refusal :=
  .next (if s.acts who then s.canCommand who n 256 else s)

/-- LISTEN. -/
def execListen (who : Initiator) (n : Fin 8) (s : State) : Host.Outcome State Fault Refusal :=
  .next (if s.acts who then s.canCommand who n 512 else s)

/-- NORMAL. -/
def execNormal (who : Initiator) (n : Fin 8) (s : State) : Host.Outcome State Fault Refusal :=
  .next (if s.acts who then s.canCommand who n 1024 else s)

/-- A write of a data word of a message buffer: refused while a request is pending (R358). -/
def State.mbData (n : Fin 8) (k o v : Nat) (s : State) : State :=
  let b := s.can[n].buf k
  if fld b.cfg 31 30 = 2 then
    if b.pend.isSome then s.canErr n 8
    else s.modCan n fun p => p.modBuf k fun b => { b with data := b.data.set ((o - 64) / 4) v }
  else s

/-- A write of a message-buffer word. -/
def State.mbWrite (n : Fin 8) (k o v : Nat) (s : State) : State :=
  if o < 12 then s.mbConfig n k (o / 4) v
  else if o = 16 then
    let v := s.clears (canAddr n (0x1010 + 128 * k)) v
    s.modCan n fun p => p.modBuf k fun b => { b with
    overrun := b.overrun && !bitAt v 29, txDone := b.txDone && !bitAt v 28, txFail := b.txFail && !bitAt v 27 }
  else if 64 ≤ o then s.mbData n k o v
  else s

/-- A write of a CANn register (R10, R11, R375). -/
def State.canWrite (s : State) (w : Initiator) (n : Fin 8) (ofs v : Nat) : State :=
  s.guardWrite (s.granted w (canBlk n)) (canAddr n ofs) w v fun s =>
    if ofs = 0x00 then s.canCtrl w n v
    else if ofs = 0x04 then s.rwlWrite (canAddr n ofs) w v fun s => s.modCan n fun p => { p with
      btn := put (fld v 31 16) 16 16 + put (fld v 14 8) 8 7 + fld v 6 0 }
    else if ofs = 0x08 then s.rwlWrite (canAddr n ofs) w v fun s => s.modCan n fun p => { p with
      btd := put (fld v 31 14) 14 18 + fld v 6 0 }
    else if ofs = 0x10 then s.modCan n fun p => { p with err := w1c p.err (s.clears (canAddr n 0x10) v) }
    else if ofs = 0x14 then s.modCan n fun p => { p with evtEn := fld v 7 0 }
    else if ofs = 0x18 then s.rwlWrite (canAddr n ofs) w v fun s => s.modCan n fun p => { p with
      base := flag (bitAt v 31) 31 + fld v 28 2 * 4 }
    else if ofs = 0x50 then s.mbRelease n (fld v 5 0)
    else if ofs = 0x54 then (if bitAt v 31 then s.mbAbort n (fld v 5 0) else s.mbRequest n (fld v 5 0))
    else if 0x1000 ≤ ofs ∧ ofs < 0x3000 then s.mbWrite n ((ofs - 0x1000) / 128) ((ofs - 0x1000) % 128 / 4 * 4) v
    else s

end Sys2Proof.Machine
end

