-- ==== Sys2Proof/Machine/Ethernet.lean ====
section
/-! DEFINITION. Ethernet ports and precision time (R377 to R386, R407 to R409), and the COMMS section. -/

namespace Sys2Proof.Machine

/-! ### COMMS (R378) -/

/-- A port record. -/
def EthCfg.ofBytes (b : List Byte) : EthCfg :=
  { port := leAt b 0 1, baseX := leAt b 1 1 == 1, rxDelay := leAt b 4 2, txDelay := leAt b 6 2 }

/-- An interface record. -/
def IfCfg.ofBytes (b : List Byte) : IfCfg :=
  { port := leAt b 0 1, roles := leAt b 1 1, vid := leAt b 2 2, pcp := leAt b 4 1, plen4 := leAt b 5 1, plen6 := leAt b 6 1,
    flags := leAt b 7 1, ipv4 := slice b 8 4, gw4 := slice b 12 4, ipv6 := slice b 16 16 }

/-- A Modbus map entry (R398). -/
def MapEntry.ofBytes (b : List Byte) : MapEntry :=
  { table := leAt b 0 1, flags := leAt b 1 1, start := leAt b 2 2, count := leAt b 4 2, kind := leAt b 6 1,
    type := leAt b 7 1, ref := leAt b 8 4, sub := leAt b 12 4 }

/-- A historian entry (R405). -/
def HistEntry.ofBytes (b : List Byte) : HistEntry :=
  { kind := leAt b 0 1, type := leAt b 1 1, base := leAt b 2 1 == 1, part := leAt b 3 1, ref := leAt b 4 4 }

/-- The records of a part that begins at an offset. -/
def recs {α : Type} (b : List Byte) (o n size : Nat) (f : List Byte → α) : List α :=
  (List.range n).map fun k => f (slice b (o + size * k) size)

/-- The COMMS value that bytes spell. -/
def CommsCfg.ofBytes (b : List Byte) : CommsCfg :=
  let np := leAt b 0 1
  let ni := leAt b 1 1
  let na := leAt b 2 1
  let nm := leAt b 4 2
  let nh := leAt b 6 2
  let o1 := 32 + 8 * np
  let o2 := o1 + 32 * ni
  let o3 := o2 + 20 * na
  { ports := recs b 32 np 8 EthCfg.ofBytes, ifs := recs b o1 ni 32 IfCfg.ofBytes,
    allow := recs b o2 na 20 fun x => (slice x 0 16, leAt x 16 1), dest := leAt b 3 1,
    mb := recs b o3 nm 16 MapEntry.ofBytes, hist := recs b (o3 + 16 * nm) nh 8 HistEntry.ofBytes, xsxPort := leAt b 8 2,
    xsxKey := leAt b 10 2, svcKey := leAt b 12 2, mbIdle := leAt b 14 2, ptpDomain := leAt b 16 1, ptpFlags := leAt b 17 1 }

/-! ### Ports (R380, R381, R407) -/

/-- Port n asserts source 208 + 4n + i (R407). -/
def State.ethRaise (n : Fin 4) (i : Nat) (s : State) : State := s.raiseEn s.net.eth[n].evtEn (208 + 4 * n.val) i

/-- The interface of a port that a VID names; a priority-tagged frame counts as untagged (R380). -/
def State.ifaceOf (s : State) (n : Fin 4) (vid : Nat) : Option IfCfg :=
  s.run.comms.ifs.find? fun x => x.port == n.val && x.vid == vid

/-- Where a frame on an interface goes (R381). -/
def CommsCfg.classify (c : CommsCfg) (i : IfCfg) (k : EthKind) : EthDest :=
  match k with
  | .udp p =>
    if bitAt i.roles 3 then .twin
    else if bitAt i.roles 0 && p == c.xsxPort then .xsx
    else if bitAt i.roles 2 && (p == 319 || p == 320) then .ptp
    else .role
  | .ptp => if bitAt i.roles 3 then .twin else if bitAt i.roles 2 && bitAt i.flags 2 then .ptp else .role
  | .other => if bitAt i.roles 3 then .twin else .role
  | .unsupported => .dropped

/-- A frame is dropped: one drop counter advances and source 209 + 4n asserts. -/
def State.ethDrop (n : Fin 4) (f : EthPort → EthPort) (s : State) : State :=
  (s.modEth n fun p => { f p with dest := some .dropped }).ethRaise n 1

/-- ETH_RX_FRAME: a frame with a wrong FCS or beyond 1,522 bytes, one that finds the 64 KiB FIFO full, one with an undeclared
VID and one with an unsupported IP feature is dropped and counted; every other frame is classified (R377, R380, R381). -/
def execEthRxFrame (n : Fin 4) (f : EthIn) (s : State) : Host.Outcome State Fault Refusal :=
  if s.alive && s.net.eth[n].enable then
    if !f.fcsOk || decide (1522 < f.len) then .next (s.ethDrop n fun p => { p with dFcs := satInc 255 p.dFcs })
    else if 65536 < f.waiting + f.len then .next (s.ethDrop n fun p => { p with dFifo := satInc 255 p.dFifo })
    else
      let s1 := s.modEth n fun p => { p with
        rx := wrapInc 32 p.rx, peak := max p.peak (ceilDiv (f.waiting + f.len) 64) }
      match s.ifaceOf n f.vid with
      | none => .next (s1.ethDrop n fun p => { p with dVid := satInc 255 p.dVid })
      | some i =>
        if f.kind = .unsupported then .next (s1.ethDrop n fun p => { p with dProto := satInc 255 p.dProto })
        else .next (s1.modEth n fun p => { p with dest := some (s.run.comms.classify i f.kind) })
  else .next s

/-- ETH_LINK_CHANGE. -/
def execEthLinkChange (n : Fin 4) (up : Bool) (s : State) : Host.Outcome State Fault Refusal :=
  if s.alive && s.net.eth[n].enable && s.net.eth[n].link != up then
    .next ((s.modEth n fun p => { p with link := up }).ethRaise n 0)
  else .next s

/-- A write of ETHn_CTRL.CNT_CLEAR: frame and drop counters and the FIFO peak restart. -/
def State.ethClear (n : Fin 4) (s : State) : State :=
  s.modEth n fun p => { p with rx := 0, tx := 0, dFifo := 0, dVid := 0, dFcs := 0, dProto := 0, peak := 0 }

/-- Block number of a port's registers. -/
def ethBlk (n : Fin 4) : Nat := 0x30 + n.val

/-- The value of an ETHn register at an offset. -/
def State.ethRead (s : State) (n : Fin 4) (ofs : Nat) : Nat :=
  let p := s.net.eth[n]
  let mac := (Config.macBase + n.val) % 2 ^ 48
  if ofs = 0x00 then flag p.mode 1 + flag p.enable 0
  else if ofs = 0x04 then flag p.link 31 + flag p.link 30 + flag p.link 29 + put p.peak 0 16
  else if ofs = 0x08 then leNat (toLe 6 mac).reverse % 2 ^ 48 / 2 ^ 16
  else if ofs = 0x0C then leNat (toLe 6 mac).reverse % 2 ^ 16
  else if ofs = 0x10 then p.rx
  else if ofs = 0x14 then p.tx
  else if ofs = 0x18 then put p.dFifo 24 8 + put p.dVid 16 8 + put p.dFcs 8 8 + put p.dProto 0 8
  else if ofs = 0x1C then p.evtEn
  else 0

/-- A write of an ETHn register (R11, R408). -/
def State.ethWrite (s : State) (w : Initiator) (n : Fin 4) (ofs v : Nat) : State :=
  let addr := 0x40300000 + n.val * 0x10000 + ofs
  s.guardWrite (s.granted w (ethBlk n)) addr w v fun s =>
    if ofs = 0 then
      (if bitAt v 8 then s.ethClear n else s).rwlWrite addr w v fun s =>
        s.modEth n fun p => { p with enable := bitAt v 0, mode := bitAt v 1 }
    else if ofs = 0x1C then s.modEth n fun p => { p with evtEn := fld v 3 0 }
    else s

/-- ETH_COUNTER_CLEAR: a write of ETHn_CTRL with CNT_CLEAR and its other fields as they stand, which are RWL (R11, R408). -/
def execEthCounterClear (who : Initiator) (n : Fin 4) (s : State) : Host.Outcome State Fault Refusal :=
  .next (if s.acts who then s.ethWrite who n 0 (256 + flag s.net.eth[n].mode 1 + flag s.net.eth[n].enable 0) else s)

/-! ### Precision time (R383 to R386) -/

/-- Master-VCO cycles of one NET cycle of 8 ns (R47). -/
def netV : Nat := 32

/-- One second in 2^−32 ns. -/
def ptpSecond : Nat := 1000000000 * 2 ^ 32

/-- Advance of the clock on one NET edge: 8 ns + PTP_ADJ × 2^−32 ns (R383). -/
def Ptp.rate (p : Ptp) : Nat := ((8 * 2 ^ 32 : Int) + p.adj).toNat

/-- The clock at a NET edge not before its own. -/
def Ptp.at (p : Ptp) (edge : Nat) : Nat := (p.time + (edge - p.edge) * p.rate) % (2 ^ 48 * ptpSecond)

/-- The clock held at a later NET edge. -/
def Ptp.rebase (edge : Nat) (p : Ptp) : Ptp := { p with time := p.at edge, edge := max p.edge edge }

/-- The latest NET edge. -/
def State.netEdge (s : State) : Nat := s.now / netV

/-- The PTP block asserts source 224 + i (R407). -/
def State.ptpRaise (i : Nat) (s : State) : State := s.raiseEn s.net.ptp.evtEn 224 i

/-- NET edge of the next rollover of the seconds count. -/
def Ptp.rollEdge (p : Ptp) : Nat := p.edge + ceilDiv ((p.pulseSec + 1) * ptpSecond - p.time) (max p.rate 1)

/-- A second pulse at the first PERI edge at or after the rollover: it reaches the frame sequencer, PTP_REF_TB and PTP_REF_SEC take
their values of that edge and source 224 asserts (R385). -/
def State.ptpRoll (s : State) : State :=
  let at_ := periEdge (s.net.ptp.rollEdge * netV)
  (((s.to at_).modPtp fun p => { p with
    pulses := wrapInc 16 p.pulses, pulseSec := p.pulseSec + 1, refTb := at_ / 400,
    refSec := (p.pulseSec + 1) % 2 ^ 32 }).ptpPulse at_).ptpRaise 0

/-- PTP_SECOND_ROLLOVER. -/
def execPtpSecondRollover (s : State) : Host.Outcome State Fault Refusal := .next (if s.alive then s.ptpRoll else s)

/-- A write of PTP_STEP: at the next NET edge the clock moves by a signed number of nanoseconds and no second pulse is raised;
a rollover on that edge comes first, and the step follows on the next (R386). -/
def State.ptpStep (w : Initiator) (v : Nat) (s : State) : State :=
  s.guardWrite (s.granted w 0x34) 0x40340018 w v fun s =>
    let e := s.netEdge + 1
    let roll := decide (s.net.ptp.rollEdge ≤ e)
    let s1 := if roll then s.ptpRoll else s
    let at_ := if s.net.ptp.rollEdge = e then e + 1 else e
    ((s1.to (at_ * netV)).modPtp fun p =>
      let t := (((p.at at_ : Nat) : Int) + toSigned 32 v * 2 ^ 32) % ((2 ^ 48 * ptpSecond : Nat) : Int)
      { p with time := t.toNat, edge := at_, pulseSec := t.toNat / ptpSecond }).ptpRaise 1

/-- PTP_STEP. -/
def execPtpStep (who : Initiator) (v : Word) (s : State) : Host.Outcome State Fault Refusal :=
  .next (if s.acts who then s.ptpStep who v.toNat else s)

/-- The limit of PTP_ADJ (R383). -/
def adjMax : Int := 17179869

/-- A write of PTP_ADJ, clamped with ADJ_LIMIT and source 226; a rollover that is due comes first (R383, R385, R407). -/
def State.ptpAdj (w : Initiator) (v : Nat) (s : State) : State :=
  s.guardWrite (s.granted w 0x34) 0x40340014 w v fun s =>
    let x := toSigned 32 v
    let a := clampI x (-adjMax) adjMax
    let s := if s.net.ptp.rollEdge ≤ s.netEdge then s.ptpRoll else s
    let s1 := s.modPtp fun p => { p.rebase s.netEdge with adj := a, adjLimit := p.adjLimit || a != x }
    if a ≠ x then (s1.setBit 0x40340004 30).ptpRaise 2 else s1

/-- PTP_ADJ_WRITE. -/
def execPtpAdjWrite (who : Initiator) (v : Word) (s : State) : Host.Outcome State Fault Refusal :=
  .next (if s.acts who then s.ptpAdj who v.toNat else s)

/-- The record of a timestamp (R384). -/
def State.ptpRecord (s : State) (n : Fin 4) (m : PtpMsg) : List Byte :=
  let c := (s.run.comms.ports.find? fun p => p.port == n.val).getD default
  let d : Int := if m.sent then c.txDelay else -(c.rxDelay : Int)
  let t := ((((s.net.ptp.at s.netEdge : Nat) : Int) + d * 2 ^ 32) % ((2 ^ 48 * ptpSecond : Nat) : Int)).toNat
  toLe 8 (s.netEdge * netV / 400) ++ toLe 8 (t / ptpSecond) ++ toLe 4 (t % ptpSecond / 2 ^ 32) ++ toLe 1 m.type
      ++ toLe 1 (if m.sent then 1 else 0)
    ++ toLe 2 m.seq ++ toLe 1 m.domain ++ toLe 1 m.iface ++ (padTo 10 m.source).take 10 ++ zeros 28

/-- The interface that a message names is the PTP interface and lies on the port (R381). -/
def CommsCfg.ptpOn (c : CommsCfg) (n : Fin 4) (k : Nat) : Bool :=
  (c.ifs[k]?).any fun i => i.port == n.val && bitAt i.roles 2

/-- PTP_TIMESTAMP: the record of an event message of the PTP interface goes to producer 16 + n for the network services role, and
source 211 + 4n asserts (R381, R384, R407). -/
def execPtpTimestamp (n : Fin 4) (m : PtpMsg) (s : State) : Host.Outcome State Fault Refusal :=
  if s.alive && s.net.ptp.enable && s.net.eth[n].enable && s.run.comms.ptpOn n m.iface then
    let r : Rec := { data := s.ptpRecord n m, role := 6, epoch := s.pairs.epochOf 6 }
    let s1 := if m.sent then s.modEth n fun p => { p with tx := wrapInc 32 p.tx } else s
    .next ((s1.postRec (16 + n.val) r).ethRaise n 3)
  else .next s

/-! ### Shadows and registers (R408) -/

/-- Seconds and nanoseconds of the clock now. -/
def State.ptpNow (s : State) : Nat × Nat :=
  let t := s.net.ptp.at s.netEdge
  (t / ptpSecond, t % ptpSecond / 2 ^ 32)

/-- The opening read of a group freezes the rest of it for the initiator. -/
def State.ptpOpen (w : Initiator) (g : PtpGroup) (s : State) : State :=
  s.modPtp fun p => match g with
    | .time => { p with shTime := Tbl.set w.code (s.ptpNow.1 / 2 ^ 32, s.ptpNow.2) p.shTime }
    | .ref => { p with shRef := Tbl.set w.code (p.refTb / 2 ^ 32) p.shRef }

/-- The value of the opening register of a group. -/
def State.ptpOpenVal (s : State) (g : PtpGroup) : Nat :=
  match g with | .time => s.ptpNow.1 % 2 ^ 32 | .ref => s.net.ptp.refTb % 2 ^ 32

/-- The value of the closing register of a group as the initiator reads it: PTP_NS, or PTP_REF_TB_HI. -/
def State.ptpCloseVal (s : State) (w : Initiator) (g : PtpGroup) : Nat :=
  match g with
  | .time => ((Tbl.get? w.code s.net.ptp.shTime).map (·.2)).getD s.ptpNow.2
  | .ref => (Tbl.get? w.code s.net.ptp.shRef).getD (s.net.ptp.refTb / 2 ^ 32)

/-- The closing read of a group releases the initiator's shadows of it. -/
def State.ptpClose (w : Initiator) (g : PtpGroup) (s : State) : State :=
  s.modPtp fun p => match g with
    | .time => { p with shTime := Tbl.del w.code p.shTime }
    | .ref => { p with shRef := Tbl.del w.code p.shRef }

/-- PTP_SHADOW_OPEN_READ. -/
def execPtpShadowOpenRead (who : Initiator) (g : PtpGroup) (s : State) : Host.Outcome State Fault Refusal :=
  .next (if s.acts who then (s.ptpOpen who g).answer who (s.ptpOpenVal g) else s)

/-- PTP_SHADOW_CLOSE_READ. -/
def execPtpShadowCloseRead (who : Initiator) (g : PtpGroup) (s : State) : Host.Outcome State Fault Refusal :=
  .next (if s.acts who then (s.ptpClose who g).answer who (s.ptpCloseVal who g) else s)

/-- The value of a PTP register at an offset. -/
def State.ptpRead (s : State) (w : Initiator) (ofs : Nat) : Nat :=
  let p := s.net.ptp
  if ofs = 0x00 then flag p.ppsOut 1 + flag p.enable 0
  else if ofs = 0x04 then flag p.adjLimit 30 + put p.pulses 0 16
  else if ofs = 0x08 then s.ptpOpenVal .time
  else if ofs = 0x0C then ((Tbl.get? w.code p.shTime).map (·.1)).getD (s.ptpNow.1 / 2 ^ 32)
  else if ofs = 0x10 then s.ptpCloseVal w .time
  else if ofs = 0x14 then ofSigned 32 p.adj
  else if ofs = 0x1C then s.ptpOpenVal .ref
  else if ofs = 0x20 then s.ptpCloseVal w .ref
  else if ofs = 0x24 then p.refSec
  else if ofs = 0x28 then p.evtEn
  else 0

/-- The effect of a read on the initiator's shadows. -/
def State.ptpTouch (s : State) (w : Initiator) (ofs : Nat) : State :=
  if ofs = 0x08 then s.ptpOpen w .time else if ofs = 0x1C then s.ptpOpen w .ref
  else if ofs = 0x10 then s.ptpClose w .time else if ofs = 0x20 then s.ptpClose w .ref else s

/-- A write of a PTP register (R11, R408). -/
def State.ptpWrite (s : State) (w : Initiator) (ofs v : Nat) : State :=
  if ofs = 0x14 then s.ptpAdj w v
  else if ofs = 0x18 then s.ptpStep w v
  else s.guardWrite (s.granted w 0x34) (0x40340000 + ofs) w v fun s =>
    if ofs = 0 then s.rwlWrite 0x40340000 w v fun s => s.modPtp fun p => { p with ppsOut := bitAt v 1, enable := bitAt v 0 }
    else if ofs = 0x04 then s.modPtp fun p => { p with adjLimit := p.adjLimit && !bitAt (s.clears 0x40340004 v) 30 }
    else if ofs = 0x28 then s.modPtp fun p => { p with evtEn := fld v 2 0 }
    else s

/-- The PTP block at a reset of a kind: power-on and drydown end clear the clock and PTP_ADJ; the others keep them counting
(R409). -/
def Ptp.onReset (k : ResetKind) (p : Ptp) : Ptp :=
  match k with
  | .powerOn | .drydownEnd => Ptp.reset
  | .resetN | .watchdog | .software => { Ptp.reset with time := p.time, edge := p.edge, adj := p.adj, pulseSec := p.pulseSec }

end Sys2Proof.Machine
end

