-- ==== Sys2Proof/Machine/Slots.lean ====
section
/-! DEFINITION. Fabric targets, their latencies, and the slots that accept them (R95, R98 to R104). -/

namespace Sys2Proof.Machine

/-! ### Targets (R95) -/

/-- The regions of R95 that an address can lie in. -/
inductive FabTarget where
  | rom | tcm | sram | solver (n : Nat) | mram | peri | dram | unmapped
  deriving DecidableEq, Repr

/-- The address lies in the PERI register space (R95). -/
def isPeri (a : Nat) : Bool := 0x40000000 ≤ a && a < 0x40800000

/-- The region of an address (R94, R95). -/
def targetOf (a : Nat) : FabTarget :=
  if a < 0x20000 then .rom
  else if (0x08000000 ≤ a ∧ a < 0x08080000) ∨ (0x08100000 ≤ a ∧ a < 0x08140000) then .tcm
  else if 0x10000000 ≤ a ∧ a < 0x10800000 then .sram
  else if 0x20000000 ≤ a ∧ a < 0x24000000 ∧ a % 0x01000000 < 0x800000 then .solver ((a - 0x20000000) / 0x01000000)
  else if 0x30000000 ≤ a ∧ a < 0x30800000 then .mram
  else if isPeri a then .peri
  else if 0x80000000 ≤ a ∧ a < 0x180000000 then .dram
  else .unmapped

/-- On-chip memory whose ECC the fabric counts (R99). -/
def FabTarget.onChip : FabTarget → Bool
  | .sram | .solver _ | .mram => true
  | .rom | .tcm | .peri | .dram | .unmapped => false

/-- The request writes memory. -/
def kindWrites : FabKind → Bool
  | .write | .amo _ | .sc => true
  | .read | .lr | .fetch => false

/-- The request is an AMO, LR or SC. -/
def kindAtomic : FabKind → Bool
  | .amo _ | .lr | .sc => true
  | .read | .write | .fetch => false

/-- FAB cycles from the grant to data at the port, or to the acknowledgement (R54, R103). A request without a target, and
one that reaches no fabric target, is answered after 14 (R98). -/
def latency (t : FabTarget) (k : FabKind) : Nat :=
  match t with
  | .sram => if kindAtomic k then 16 else if kindWrites k then 2 else 14
  | .solver _ => if kindWrites k then 2 else 16
  | .peri => if kindWrites k then 10 else 18
  | .mram => if kindWrites k then 2 else 24
  | .dram => if kindWrites k then 2 else 56
  | .rom | .tcm | .unmapped => 14

/-! ### Slots (R100, R101, R104) -/

/-- A best-effort initiator (R104). -/
def isBe (w : Initiator) : Bool := 32 ≤ w.code

/-- The slot of kind MEMORY or MEMORY_PLUS at a round position accepts the target (R101). A request without a target takes any
owned slot (R98). -/
def slotTakes (kind p : Nat) : FabTarget → Bool
  | .sram | .solver _ => kind != 0
  | .peri => kind == 2 && p % 4 == 0
  | .dram => kind == 2 && p % 4 == 1
  | .mram => kind == 2 && p % 4 == 2
  | .rom | .tcm | .unmapped => kind != 0

/-- A best-effort position accepts the target: the special ports follow R101, and the refresh positions take no DRAM request. -/
def beTakes (p : Nat) : FabTarget → Bool
  | .dram => p % 4 == 1 && p != 1 && p != 129
  | .mram => p % 4 == 2
  | .rom | .tcm | .sram | .solver _ | .peri | .unmapped => true

/-- The initiator code and the weight of an entry of the best-effort table (R104). -/
def Fabric.beEntry (f : Fabric) (i : Nat) : Nat × Nat := (f.be.getD (2 * i) 0, f.be.getD (2 * i + 1) 0 % 16)

/-- The best-effort table names an initiator with a weight. -/
def Fabric.beNames (f : Fabric) (w : Initiator) : Bool :=
  (List.range 8).any fun i => (f.beEntry i).1 == w.code && (f.beEntry i).2 != 0

/-- The first FAB cycle, from one on, whose position the slot table gives an initiator and whose slot accepts the target. A request
without a target takes any owned slot; one that no owned slot accepts, and that fails its check, is answered as such a request is
(R98, R100, R101; DESIGN CHOICE, log entry 58). -/
def Fabric.slotFrom (f : Fabric) (w : Initiator) (takes : Nat → Nat → Bool) (f0 : Nat) : Option Nat :=
  ((List.range 256).find? fun k =>
    let b := f.slots.getD ((f0 + k) % 256) 0
    b % 64 == w.code && takes (b / 64) ((f0 + k) % 256)).map (f0 + ·)

/-- The first best-effort position, from a FAB cycle on, that accepts a target (R104). -/
def Fabric.beFrom (f : Fabric) (t : FabTarget) (f0 : Nat) : Option Nat :=
  ((List.range 256).find? fun k => f.slots.getD ((f0 + k) % 256) 0 / 64 == 0 && beTakes ((f0 + k) % 256) t).map (f0 + ·)

end Sys2Proof.Machine
end

