-- ==== Sys2Proof/Machine/Exchange.lean ====
section
/-! DEFINITION. The substation exchange: telegrams, the substation table, SHIFT and POLL rounds, and the XSX registers (R387 to
R396, R407 to R409). -/

namespace Sys2Proof.Machine

/-! ### Telegrams (R387 to R389) -/

/-- The TLVs of a payload, in order; none where the walk does not end exactly at its end. -/
def walkTlv : Nat → List Byte → Option (List (Nat × List Byte))
  | _, [] => some []
  | n + 1, t :: l :: rest =>
    if l.toNat ≤ rest.length then
      match walkTlv n (rest.drop l.toNat) with
      | some x => some ((t.toNat, rest.take l.toNat) :: x)
      | none => none
    else none
  | _, _ => none

/-- LENGTH of a defined TLV type (R388). -/
def tlvLen (t : Nat) : Option Nat :=
  if t = 5 then some 9 else if t = 6 then some 2 else if t = 7 then some 4
  else if (1 ≤ t ∧ t ≤ 4) ∨ t = 0x10 then some 5 else none

/-- The TLVs of a telegram's payload when every check of cause 1 passes (R391). -/
def parseXsx (b : List Byte) : Option (List (Nat × List Byte)) :=
  let len := leAt b 12 2
  if b.length = 32 + len ∧ len ≤ 1168 ∧ leAt b 0 1 = 1 ∧ leAt b 14 2 = 0 then
    match walkTlv 1200 (slice b 16 len) with
    | some ts =>
      if (ts.all fun t => match tlvLen t.1 with | some n => n == t.2.length | none => true)
          && (ts.any fun t => t.1 == 1) && (ts.any fun t => t.1 == 7) then some ts else none
    | none => none
  else none

/-- The value of a TLV type. -/
def tlvOf (ts : List (Nat × List Byte)) (t : Nat) : Option (List Byte) := (ts.find? fun x => x.1 == t).map (·.2)

/-- The tag of a telegram: header and payload under the key of its substation (R389). -/
def xsxTag (group subst body : List Byte) : List Byte :=
  Config.kmac256 (kdf group (ascii "XSX substation") subst) body 16 (ascii "XJ9640 XSX")

/-! ### The substation table (R392, R393) -/

/-- Address of a substation's entry. -/
def State.substAt (s : State) (k : Nat) : Nat := s.run.mem.substBase + 64 * k

/-- A field of a substation's entry. -/
def State.substField (s : State) (k o n : Nat) : Nat := Mem.le s.mem (s.substAt k + o) n

/-- The engine asserts source 232 + i (R407). -/
def State.xsxRaise (i : Nat) (s : State) : State := s.raiseEn s.net.xsx.evtEn 232 i

/-- Bytes written to a substation's entry, with the rest of its 64-byte beat unchanged; a beat that MEMORY does not grant is an
access error, and source 236 asserts (R98, R392, R407). -/
def State.substPut (k o : Nat) (b : List Byte) (s : State) : State :=
  if s.regionOk .xsx (s.substAt k) 64 true then s.busWrite (Initiator.code .xsx) (s.substAt k + o) b
  else (s.accessError { owner := Initiator.code .xsx, access := kindCode .write, cause := 0, addr := s.substAt k,
                        pos := s.pos }).xsxRaise 4

/-- STATE of an entry. -/
def State.substState (s : State) (k : Nat) : Nat := s.substField k 0x23 1

/-- The group key, when slot XSX_KEY holds an ACTIVE SECRET256 key with policy XSX (R389, R461). -/
def State.groupKey (s : State) : Option (List Byte) :=
  let k := s.run.comms.xsxKey
  let x := s.key.slot k
  if s.key.usable k && x.type == .secret && x.may 6 then some x.mat else none

/-- The first failing check of R391; 0 when the report is accepted. -/
def State.xsxCause (s : State) (b : List Byte) : Nat :=
  let subst := leAt b 2 2
  match parseXsx b with
  | none => 1
  | some ts =>
    if leAt b 1 1 ≠ 1 then 2
    else if s.run.dist.substIds.contains subst = false then 3
    else match s.groupKey with
      | none => 4
      | some g =>
        let n := 16 + leAt b 12 2
        if b.drop n ≠ xsxTag g (slice b 2 2) (b.take n) then 5
        else if ((tlvOf ts 7).map leNat).getD 0 ≠ s.net.xsx.run then 6
        else if 2 < (s.fs.bnc + 2 ^ 32 - leAt b 8 4) % 2 ^ 32 then 7
        else
          let d := (leAt b 4 4 + 2 ^ 32 - s.substField subst 0 4) % 2 ^ 32
          if s.substField subst 0x38 4 ≠ 0 ∧ (d = 0 ∨ 2 ^ 31 ≤ d) then 8 else 0

/-- Source address, port and interface of a telegram enter an entry, and its address is known (R391, R392). -/
def State.substAddr (k : Nat) (t : XsxIn) (s : State) : State :=
  let st := s.substState k
  s.substPut k 0x23 (toLe 1 (if bitAt st 3 then st else st + 8) ++ toLe 1 (s.substField k 0x24 1) ++ toLe 1 t.iface
    ++ toLe 2 t.port ++ (padTo 16 t.addr).take 16)

/-- A rejected telegram: its counter, XSX_LAST_REJ and source 233; cause 4 asserts source 235 as well, and cause 6 records the
address (R391, R407). -/
def State.xsxReject (c : Nat) (t : XsxIn) (s : State) : State :=
  let s1 := s.modXsx fun x => { x with
    rej := x.rej.setIfInBounds (c - 1) (satInc 255 (x.rej.toList.getD (c - 1) 0)), last := (c, leAt t.bytes 2 2 % 4096),
    since := (x.since.1, x.since.2.1 + 1, x.since.2.2) }
  let s2 := if c = 6 then s1.substAddr (leAt t.bytes 2 2) t else s1
  let s3 := s2.xsxRaise 1
  if c = 4 then s3.xsxRaise 3 else s3

/-- A quantity of a report: its four value bytes, free where the TLV is absent, and its quality, then BAD (R392). -/
def quantity (ts : List (Nat × List Byte)) (t : Nat) (free : List Byte) : List Byte × Nat :=
  match tlvOf ts t with
  | some v => (v.drop 1, leAt v 0 1 % 4)
  | none => (free, 3)

/-- The entry that an accepted report writes (R392, R393). -/
def State.xsxEntry (s : State) (t : XsxIn) (ts : List (Nat × List Byte)) : List Byte :=
  let k := leAt t.bytes 2 2
  let fr := (padTo 26 (Config.freeBytes s.free 26)).take 26
  let fl := quantity ts 1 []
  let tS := quantity ts 2 (slice fr 0 4)
  let tR := quantity ts 3 (slice fr 4 4)
  let pw := quantity ts 4 (slice fr 8 4)
  let en := match tlvOf ts 5 with | some v => v.drop 1 | none => slice fr 12 8
  let st := (tlvOf ts 6).getD (slice fr 20 2)
  slice t.bytes 4 4 ++ toLe 4 s.fs.tnc ++ fl.1 ++ tS.1 ++ tR.1 ++ pw.1 ++ en ++ st
    ++ toLe 1 (fl.2 + 4 * tS.2 + 16 * tR.2 + 64 * pw.2) ++ toLe 1 12 ++ toLe 1 (s.substField k 0x24 1) ++ toLe 1 t.iface
    ++ toLe 2 t.port ++ (padTo 16 t.addr).take 16 ++ toLe 4 (s.substField k 0x38 4 + 1) ++ zeros 4

/-- FAB cycles that the engine works on a telegram with a payload of `len` bytes before its entry asks for a slot (R394). -/
def xsxWork (len : Nat) : Nat := 10 + 24 * (6 + ceilDiv (16 + len + 2) 136) + 2

/-- The master-VCO cycle at which the entry of a telegram that has just arrived is acknowledged: the wait w_s is the one for the
engine's next slot that accepts DRAM, and free below 256 where the slot table gives it none (R101, R394). -/
def State.xsxEnd (s : State) (len : Nat) : Nat :=
  let f0 := ceilDiv s.now fabV + xsxWork len
  ((s.fab.slotFrom .xsx (fun k p => slotTakes k p .dram) f0).getD (f0 + Config.freeNat s.free % 256) + 2) * fabV

/-- A telegram that is checked now: rejected with its cause, or written to the substation table (R391, R392). -/
def State.xsxTake (s : State) (t : XsxIn) : State :=
  let c := s.xsxCause t.bytes
  if c ≠ 0 then s.xsxReject c t
  else
    let s1 := s.substPut (leAt t.bytes 2 2) 0 (s.xsxEntry t ((parseXsx t.bytes).getD []))
    { s1 with free := s.free + 1 }.modXsx fun x => { x with
      accepted := wrapInc 32 x.accepted, since := (x.since.1 + 1, x.since.2.1, x.since.2.2) }

/-- A base tick is due, or comes with the next top tick where that has been reached. -/
def FrameSeq.baseBy (f : FrameSeq) (reached : Bool) : Bool :=
  let g := if f.heartDue then f.heart else f
  g.baseDue || (reached && g.advance.heartDue && g.advance.heart.baseDue)

/-- XSX_REPORT: a telegram is checked in the order of R391 and rejected with its cause, or its entry is written after the cycles of
R394. An entry that would be written with or after the coming base-tick update waits for it, and the report counts for the new base
note; telegrams behind one that waits wait too (R393, R394). -/
def execXsxReport (t : XsxIn) (s : State) : Host.Outcome State Fault Refusal :=
  if s.alive && s.net.xsx.enable then
    let e := s.xsxEnd (leAt t.bytes 12 2)
    if s.net.xsx.held.isEmpty && decide (s.xsxCause t.bytes ≠ 0) then .next (s.xsxTake t)
    else if !s.net.xsx.held.isEmpty || (s.notesRun && s.fs.baseBy (decide (s.nextTick ≤ e))) then
      .next (s.modXsx fun x => { x with held := x.held ++ [t] })
    else .next ({ s.to e with free := s.free + 1 }.xsxTake t)
  else .next s

/-- The base-tick update of one entry, before the input latch (R393). -/
def State.substTick (s : State) (k : Nat) : State :=
  let st := s.substState k
  let rest := st / 8 * 8
  if bitAt st 2 then s.substPut k 0x23 (toLe 1 (rest + st % 4) ++ toLe 1 0)
  else
    let m := satInc 255 (s.substField k 0x24 1)
    s.substPut k 0x23 (toLe 1 (rest + if m < s.run.dist.missLimit then 1 else 3) ++ toLe 1 m)

/-- The base-tick update of every entry, and then the telegrams that waited for it (R393). -/
def State.xsxUpdate (s : State) : State :=
  if s.net.xsx.enable then
    let s1 := (List.range 4096).foldl State.substTick s
    s.net.xsx.held.foldl State.xsxTake (s1.modXsx fun x => { x with held := [] })
  else s

/-! ### Sending (R395, R396) -/

/-- The telegram of a type to a substation with its tag (R387, R389). -/
def State.telegram (s : State) (key : List Byte) (k type : Nat) (payload : List Byte) : XsxOut :=
  let body := toLe 1 1 ++ toLe 1 type ++ toLe 2 k ++ toLe 4 s.net.xsx.seq ++ toLe 4 s.fs.bnc ++ toLe 2 payload.length
    ++ zeros 2 ++ payload
  { iface := s.substField k 0x25 1, addr := Mem.readN s.mem (s.substAt k + 0x28) 16, port := s.substField k 0x26 2,
    bytes := body ++ xsxTag key (toLe 2 k) body }

/-- RUN as a TLV. -/
def State.runTlv (s : State) : List Byte := toLe 1 7 ++ toLe 1 4 ++ toLe 4 s.net.xsx.run

/-- A telegram goes out on the port of its interface. -/
def State.sendXsx (key : List Byte) (type : Nat) (s : State) (p : Nat × List Byte) : State :=
  let o := s.telegram key p.1 type p.2
  let s1 := s.modXsx fun x => { x with
    seq := wrapInc 32 x.seq, sent := x.sent ++ [o],
    since := if type = 2 then (x.since.1, x.since.2.1, x.since.2.2 + 1) else x.since }
  match s.run.comms.ifs[o.iface]? with
  | some i => if h : i.port < 4 then s1.modEth ⟨i.port, h⟩ fun e => { e with tx := wrapInc 32 e.tx } else s1
  | none => s1

/-- Byte times of a telegram on the wire: preamble, Ethernet header with its tag, IP and UDP headers, FCS and gap (R395; DEDUCED, log
entry 34). -/
def State.wireBytes (s : State) (o : XsxOut) : Nat :=
  let tag := match s.run.comms.ifs[o.iface]? with | some i => if i.vid = 0 then 0 else 4 | none => 0
  let ip := if o.addr.take 12 == zeros 10 ++ [0xFF, 0xFF] then 20 else 40
  46 + tag + ip + o.bytes.length

/-- The round just sent leaves at line rate: SENDING holds until its last byte (R395, R396, R408). -/
def State.startRound (shift : Bool) (s : State) : State :=
  let from_ := (s.net.xsx.rounds.map (·.1)).foldl max s.now
  let e := from_ + (s.net.xsx.sent.map s.wireBytes).sum * netV
  s.modXsx fun x => { x with rounds := x.rounds ++ [(e, shift)] }

/-- Rounds whose last byte has left end; a SHIFT round asserts source 234 (R407). -/
def State.settleXsx (s : State) : State :=
  let done := s.net.xsx.rounds.filter fun r => decide (r.1 ≤ s.now)
  if done.isEmpty then s
  else
    let s1 := s.modXsx fun x => { x with rounds := x.rounds.filter fun r => !decide (r.1 ≤ s.now) }
    if done.any (·.2) then s1.xsxRaise 2 else s1

/-- Quality of the committed image's level (R395). -/
def levelQuality (l : Nat) : Quality := if l = 0 then .good else if l = 1 then .held else .bad

/-- The SHIFT value and quality of a substation: 0 with SUBST in TEST (R275, R395). -/
def State.shiftOf (s : State) (k : Nat) : Int × Quality :=
  if s.sys.state = .test then (0, .subst)
  else ((((s.plan.shifts.find? fun x => x.1 == k).map (·.2)).getD 0), levelQuality s.plan.level)

/-- The SHIFT payload of a substation. -/
def State.shiftPayload (s : State) (k : Nat) : List Byte :=
  let v := s.shiftOf k
  s.runTlv ++ toLe 1 0x10 ++ toLe 1 5 ++ toLe 1 v.2.code ++ toLe 4 (ofSigned 32 v.1)

/-- The exchange at an output instant: a SHIFT to every known substation in the top note of a base tick, and under ESTATE with
POLLER a POLL in the middle of the base note to those that have not reported (R395, R396, R542). -/
def State.xsxRound (s : State) : State :=
  match s.groupKey with
  | none => s
  | some g =>
    if s.net.xsx.enable && s.twin.state != .standby then
      let known := s.run.dist.substIds.filter fun k => bitAt (s.substState k) 3
      if s.fs.hpos = 0 ∧ s.fs.bpos = 0 then
        let s1 := s.modXsx fun x => { x with sent := [] }
        (known.foldl (fun s k => s.sendXsx g 2 (k, s.shiftPayload k)) s1).startRound true
      else if s.fs.hpos = 0 ∧ s.fs.bpos = s.fs.b / 2 ∧ s.net.xsx.poller = true ∧ s.run.hdr.estate = true then
        let s1 := s.modXsx fun x => { x with sent := [] }
        ((known.filter fun k => !bitAt (s.substState k) 2).foldl (fun s k => s.sendXsx g 3 (k, s.runTlv)) s1).startRound false
      else s
    else s

/-- The record of a heart tick goes to producer 7, and source 232 asserts (R396, R407). -/
def State.xsxHeart (s : State) : State :=
  if s.net.xsx.enable then
    let c := s.net.xsx.since
    let d := toLe 4 s.fs.tnc ++ toLe 4 c.1 ++ toLe 4 c.2.1 ++ toLe 4 c.2.2 ++ zeros 48
    let r : Rec := { data := d, role := s.run.comms.dest, epoch := s.pairs.epochOf s.run.comms.dest }
    ((s.modXsx fun x => { x with since := (0, 0, 0) }).postRec 7 r).xsxRaise 0
  else s

/-- At the first top note of START the run identifier is drawn (R390). -/
def State.drawRun (s : State) : State :=
  { s with free := s.free + 1 }.modXsx fun x => { x with run := Config.freeNat s.free % 2 ^ 32 }

/-- A quantity of the substation table as an input: FLOW, T_SUPPLY, T_RETURN, POWER by number 0 to 3. Its own quality counts
while the entry is GOOD; a HELD or BAD entry makes it HELD or BAD (R388, R392, R393). -/
def State.substValue (s : State) (k q : Nat) : Int × Quality :=
  let e := Quality.ofCode (s.substState k)
  let own := Quality.ofCode (s.substField k 0x22 1 / 4 ^ q)
  (toSigned 32 (s.substField k (8 + 4 * q) 4),
    if own = .bad ∨ e = .bad then .bad else if e = .held then .held else own)

/-! ### Registers (R408) -/

/-- The value of an XSX register at an offset. -/
def State.xsxRead (s : State) (ofs : Nat) : Nat :=
  let x := s.net.xsx
  if ofs = 0x00 then flag x.poller 1 + flag x.enable 0
  else if ofs = 0x04 then
    flag s.groupKey.isSome 31 + flag (s.net.xsx.rounds.any fun r =>
        decide (s.now < r.1)) 30 + put (s.run.dist.substIds.filter fun k => bitAt (s.substState k) 3).length 0 13
  else if ofs = 0x08 then x.run
  else if ofs = 0x0C then x.accepted
  else if ofs = 0x10 then word4 x.rej.toList 0
  else if ofs = 0x14 then word4 x.rej.toList 1
  else if ofs = 0x18 then put x.last.1 24 8 + put x.last.2 0 12
  else if ofs = 0x1C then x.evtEn
  else 0

/-- A write of an XSX register (R11, R408). -/
def State.xsxWrite (s : State) (w : Initiator) (ofs v : Nat) : State :=
  s.guardWrite (s.granted w 0x35) (0x40350000 + ofs) w v fun s =>
    if ofs = 0 then s.rwlWrite 0x40350000 w v fun s => s.modXsx fun x => { x with poller := bitAt v 1, enable := bitAt v 0 }
    else if ofs = 0x1C then s.modXsx fun x => { x with evtEn := fld v 4 0 }
    else s

/-- The network blocks as CONFIGURE step 7 loads them from COMMS and PINS (R408). -/
def State.netConfigure (s : State) : State :=
  let c := s.run.comms
  s.modNet fun n => { n with
    eth := Vector.ofFn fun i => match c.ports.find? fun p => p.port == i.val with
      | some p => { n.eth[i] with enable := true, mode := p.baseX }
      | none => { n.eth[i] with enable := false, mode := false }
    ptp := { n.ptp with enable := c.hasRole 2, ppsOut := s.run.ppsOut }
    xsx := { n.xsx with enable := c.hasRole 0, poller := n.xsx.poller && s.run.hdr.estate } }

end Sys2Proof.Machine
end

