-- ==== Sys2Proof/Machine/FieldIo.lean ====
section
/-! DEFINITION. Isolated field I/O: filters, driven states, faults, links, the input latch and the DIO registers (R410 to
R429, R578). -/

namespace Sys2Proof.Machine

/-! ### Field events (R412 to R414, R421, R578) -/

/-- DIO_FILTER_CONFIRM: F consecutive samples have shown a new state of a channel, or of its wire-break condition; a rising
edge in a COUNTER mode is counted, by the following latch when it is confirmed in the PERI cycle of instant 1 (R412, R413, R414). -/
def execDioFilterConfirm (ch : Fin 48) (wire level : Bool) (s : State) : Host.Outcome State Fault Refusal :=
  let c := s.dioCfg ch.val
  if s.alive && c.mode != 0 && s.linkUp (bankOf ch) then
    if wire then
      .next (if bitAt c.flags 0 && !s.isOutput ch.val then s.modCh ch fun x => { x with wire := level } else s)
    else
      let up := s.isCounter ch.val && level && !s.dio.ch[ch].filt
      .next (s.modCh ch fun x => if up && s.notesRun && decide (s.nextTick ≤ s.now) then { x with filt := level, edge := true }
        else { x with filt := level, cnt := if up then wrapInc 32 x.cnt else x.cnt })
  else .next s

/-- The readback of a channel differs from a driven state that has stood for MISMATCH_TN top notes (R421). -/
def State.mismatched (s : State) (c : Fin 48) : Bool :=
  let x := s.dio.ch[c]
  s.isOutput c.val && x.filt != x.driven && decide (x.drvTnc + (s.dioCfg c.val).mismatch ≤ s.fs.tnc)

/-- A fault condition of a channel begins or ends. -/
def State.dioFault (ch : Fin 48) (f : DioFault) (on : Bool) (s : State) : State :=
  let c := s.dioCfg ch.val
  if c.mode = 0 ∧ f ≠ .undervoltage then s
  else match f with
    | .wireBreak => if !s.isOutput ch.val && bitAt c.flags 0 then s.modCh ch fun x => { x with wire := on } else s
    | .overload => if s.isOutput ch.val then s.modCh ch fun x => { x with exceeded := on } else s
    | .thermal => if s.isOutput ch.val then s.modCh ch fun x => { x with therm := on } else s
    | .mismatch => s.modCh ch fun x => { x with mism := s.mismatched ch }
    | .undervoltage => (s.modBank (bankOf ch) fun b => { b with uv := on }).driveAll

/-- DIO_CHANNEL_FAULT: a wire break, an overload of 2 ms, a thermal shutdown, a readback mismatch, or VFb below 16.5 V, which
faults every channel of the bank in use and turns its outputs off (R419, R421). -/
def execDioChannelFault (ch : Fin 48) (f : DioFault) (s : State) : Host.Outcome State Fault Refusal :=
  .next (if s.alive then s.dioFault ch f true else s)

/-- DIO_FAULT_CLEAR (R416, R421). -/
def execDioFaultClear (ch : Fin 48) (f : DioFault) (s : State) : Host.Outcome State Fault Refusal :=
  .next (if s.alive then s.dioFault ch f false else s)

/-- DIO_LINK_LOSS: no valid frame for 20 µs: LINK clears, every output of the bank goes OFF, and source 246 asserts (R419,
R578). -/
def execDioLinkLoss (b : Fin 6) (s : State) : Host.Outcome State Fault Refusal :=
  if s.alive && s.linkUp b then
    let s1 := s.modBank b fun x => { x with link := .down }
    let s2 := (List.finRange 8).foldl (fun s k =>
      s.modCh ⟨8 * b.val + k.val, by omega⟩ fun x => { x with cmd := false }) s1
    .next (s2.driveAll.dioRaise 6)
  else .next s

/-- Staggered outputs of a bank that the image holds on pass through the stagger queue as off-to-on changes (R304, R578). -/
def State.requeue (b : Fin 6) (s : State) : State :=
  (List.finRange 8).foldl (fun (s : State) k =>
    let key := 8 * b.val + k.val
    if s.isOutput key && s.run.prog.stagger.contains key && s.run.isOn key (Tbl.getD s.prog.outs key (0, .good)).1
        && !s.prog.waiting key then
      s.modProg fun g => { g with queue := enqueue s.fs.tnc key g.queue }
    else s) s

/-- DIO_LINK_RETURN: frames return: LINK sets, the field side restarts its filters from the cleared state and the inputs stay
BAD for 10 ms (R578). -/
def execDioLinkReturn (b : Fin 6) (s : State) : Host.Outcome State Fault Refusal :=
  if s.alive && s.dio.bank[b].link == .down then
    let s1 := s.modBank b fun x => { x with link := .back s.now }
    let s2 := (List.finRange 8).foldl (fun s k =>
      s.modCh ⟨8 * b.val + k.val, by omega⟩ fun x => { x with filt := false, wire := false }) s1
    .next (if s.notesRun && s.fs.started then s2.requeue b else s2)
  else .next s

/-! ### The input latch (R413, R422, R423, R426, R578) -/

/-- A bank has recovered: at least 10 ms have passed since its frames returned. -/
def DioBank.settle (now : Nat) (b : DioBank) : DioBank :=
  match b.link with
  | .back t => if t + 10000 * usV ≤ now then { b with link := .up } else b
  | .up | .down | .off => b

/-- The fault of a channel counts towards its bank's fault bit (R421, R422). -/
def State.chFault (s : State) (c : Fin 48) : Bool :=
  let x := s.dio.ch[c]
  let b := s.dio.bank[bankOf c]
  (s.dioCfg c.val).mode != 0 && bitAt b.fProbe (c.val % 8) && !bitAt b.fAside (c.val % 8)
    && (b.uv || (if s.isOutput c.val then x.exceeded || x.therm || x.mism else x.wire && bitAt (s.dioCfg c.val).flags 0))

/-- The channels of a bank. -/
def bankChans (b : Fin 6) : List (Fin 48) := (List.finRange 8).map fun k => ⟨8 * b.val + k.val, by omega⟩

/-- What the latch of a channel takes. -/
def State.latchCh (s : State) (fault : Bool) (c : Fin 48) : State :=
  let b := s.dio.bank[bankOf c]
  s.modCh c fun x =>
    if (s.dioCfg c.val).mode = 0 then { x with state := false, bad := true }
    else if b.link != .up then { x with state := false, bad := true, keep := x.keep || b.fProbe == 0xFF }
    else
      let aside := bitAt b.fAside (c.val % 8)
      let q := if s.isOutput c.val then aside else if b.fProbe = 0xFF then aside || fault else x.keep
      { x with
        state := x.filt, bad := q, keep := if b.fProbe = 0xFF then q else x.keep
        lcnt := if s.isCounter c.val then x.cnt else 0
        cnt := if x.edge then wrapInc 32 x.cnt else x.cnt, edge := false }

/-- The latch of one bank: mismatches, the fault bit, states, qualities and counts, with FAULT_STICKY and source 240 + b on a
rise (R421 to R423, R578). -/
def State.latchBank (s : State) (b : Fin 6) : State :=
  let s1 := s.modBank b (DioBank.settle s.now)
  let s2 := (bankChans b).foldl (fun (s : State) c => s.modCh c fun x => { x with mism := s.mismatched c }) s1
  let lost := bitAt s.dio.enable b.val && s2.dio.bank[b].link != .up
  let fault := lost || (bankChans b).any s2.chFault
  let rise := fault && !s.dio.bank[b].fault
  let s3 := (bankChans b).foldl (fun (s : State) c => s.latchCh fault c) s2
  let s4 := s3.modDio fun d => { d with
    bank := upd d.bank b fun x => { x with fault := fault }
    sticky := if rise && !bitAt d.sticky b.val then d.sticky + 2 ^ b.val else d.sticky }
  let s5 := s4.setIf rise 0x40400004 (8 + b.val)
  if rise && s5.dio.bank[b].fProbe == 0xFF then s5.dioRaise b.val else s5

/-- Bits of the channels of a bank. -/
def State.chBits (s : State) (b : Fin 6) (f : DioChan → Bool) : Nat := packBits ((bankChans b).map fun c => f s.dio.ch[c])

/-- LINK bits. -/
def State.linkBits (s : State) : Nat := packBits ((List.finRange 6).map s.linkUp)

/-- The DIO latch of a top tick: at the first tick of START the links of the banks in use have started (instant 13 of R499), and those
that ran before run on (R501); then every bank is latched and the image record goes to producer 20 (R426, R427). With no bank
in use every channel is OFF and carries
BAD (R410). -/
def State.dioLatch (s : State) : State :=
  if s.dio.enable = 0 then s.modDio fun d => { d with ch := vmap d.ch fun x => { x with state := false, bad := true } }
  else
    let s0 := if s.fs.tnc = 0 then
        s.modDio fun d => { d with bank := Vector.ofFn fun b =>
          { d.bank[b] with link := if !bitAt d.enable b.val then .off else if d.bank[b].link = .off then .up
                                   else d.bank[b].link } }
      else s
    let s1 := (List.finRange 6).foldl State.latchBank s0
    let bytes := fun f => (List.finRange 6).map fun b => BitVec.ofNat 8 (s1.chBits b f)
    let d := toLe 4 s1.fs.tnc ++ toLe 1 (packBits (s1.dio.bank.toList.map (·.fault))) ++ toLe 1 s1.linkBits ++ zeros 2
      ++ bytes (·.state) ++ zeros 2 ++ bytes (·.bad) ++ zeros 42
    (s1.postRec 20 { data := d, role := s.run.dio.dest, epoch := s.pairs.epochOf s.run.dio.dest }).dioRaise 7

/-- The latched state of a channel with its quality. -/
def State.dioValue (s : State) (c : Nat) : Int × Quality :=
  if h : c < 48 then
    let x := s.dio.ch[c]
    (if x.state then 1 else 0, if x.bad then .bad else .good)
  else (0, .bad)

/-- The latched count of a channel with its quality. -/
def State.dioCount (s : State) (c : Nat) : Int × Quality :=
  if h : c < 48 then ((s.dio.ch[c].lcnt : Int), if s.dio.ch[c].bad then .bad else .good) else (0, .bad)

/-! ### Outputs (R417, R420, R425) -/

/-- The committed value of an output channel at instant 4: an energy pulse, a loop's time-proportioned value, the test value in
TEST, or the program image with its stagger (R251, R304, R329, R425). -/
def State.dioImage (s : State) (c : Fin 48) : Bool :=
  if s.sys.state = .test then
    let b := s.dio.bank[bankOf c]
    bitAt ((b.old.map (·.2.2)).getD b.test) (c.val % 8)
  else if s.run.meter.pulses.any fun p => p.ch == c.val then
    (s.run.meter.pulses.zip s.mtr.pulses).any fun p => p.1.ch == c.val && p.2.onAt.isSome
  else
    (s.loops.tpoOn.any fun x => x.1 == c.val)
      || (s.run.isOn c.val (Tbl.getD s.prog.outs c.val (0, .good)).1 && !s.prog.waiting c.val)

/-- Safe states are applied module-wide, or end; source 248 asserts when they are applied (R420, R427). -/
def State.setSafe (on : Bool) (s : State) : State :=
  let s1 := s.modDio fun d => { d with safe := on }
  if on && !s.dio.safe then s1.dioRaise 8 else s1

/-- Safe states apply at once (R420). -/
def State.dioSafeNow (s : State) : State := (s.setSafe true).driveAll

/-- The DIO part of an output instant: PROBE and ASIDE cross the barrier, safe states begin or end with SAFE_HOLD and with
CONFIGURE, and every output takes its committed value (R417, R419, R420). -/
def State.dioOutputs (s : State) : State :=
  let s1 := s.modDio fun d => { d with
    live := true, bank := vmap d.bank fun b => { b with
      fProbe := (b.old.map (·.1)).getD b.probe, fAside := (b.old.map (·.2.1)).getD b.aside } }
  let s2 := s1.setSafe (s.sys.state == .safeHold || s.acc.stopped)
  let s3 := s2.modDio fun d => { d with
    ch := Vector.ofFn fun c => { d.ch[c] with cmd := s2.isOutput c.val && s2.dioImage c }
    bank := vmap d.bank fun b => { b with old := none } }
  s3.driveAll

/-! ### CONFIGURE and registers (R410, R428) -/

/-- The DIO part of PINS that bytes spell (R410). -/
def DioCfg.ofBytes (b : List Byte) : DioCfg :=
  { dest := leAt b 0 1, ch := (List.range 48).map fun k =>
      { mode := leAt b (8 + 4 * k) 1, filter := leAt b (9 + 4 * k) 1, flags := leAt b (10 + 4 * k) 1,
        mismatch := leAt b (11 + 4 * k) 1 } }

/-- DIO_CTRL.ENABLE: the banks with a channel in use. -/
def DioCfg.enable (c : DioCfg) : Nat :=
  packBits ((List.range 6).map fun b => (List.range 8).any fun k => match c.ch[8 * b + k]? with
    | some x => x.mode != 0
    | none => false)

/-- The DIO block as CONFIGURE step 7 loads it: the commands start off and every other item stays, safe states that step 3 has applied
included (R305, R420, R429). -/
def Dio.configure (c : DioCfg) (d : Dio) : Dio :=
  { d with enable := c.enable, ch := vmap d.ch fun x => { x with cmd := false, drvTnc := 0 } }

/-- DIO_STATUS. -/
def State.dioStatus (s : State) : Nat :=
  flag s.dioGate 31 + flag s.dio.safe 30 + put s.linkBits 16 6 + put s.dio.sticky 8 6
    + put (packBits (s.dio.bank.toList.map (·.fault))) 0 6

/-- The value of a DIO register at an offset. -/
def State.dioRead (s : State) (ofs : Nat) : Nat :=
  if ofs = 0 then s.dio.enable
  else if ofs = 4 then s.dioStatus
  else if ofs = 8 then s.dio.evtEn
  else if h : 0x100 ≤ ofs ∧ ofs < 0x1C0 then
    let b : Fin 6 := ⟨(ofs - 0x100) / 32, by omega⟩
    let x := s.dio.bank[b]
    if ofs % 32 = 0 then put (s.chBits b (·.driven)) 16 8 + put (s.chBits b (·.bad)) 8 8 + put (s.chBits b (·.state)) 0 8
    else if ofs % 32 = 4 then x.probe
    else if ofs % 32 = 8 then x.aside
    else if ofs % 32 = 12 then x.test
    else 0
  else if h : 0x400 ≤ ofs ∧ ofs < 0x4C0 then s.dio.ch[(ofs - 0x400) / 4].lcnt
  else 0

/-- A write that completes in the PERI cycle of an output instant still to be taken, or later, goes across the barrier with the next one
(R417). -/
def State.missesInstant (s : State) : Bool := s.prog.outDue.any fun d => decide (d.at_ ≤ periEdge s.now)

/-- A write of a DIO register (R10, R11, R428). -/
def State.dioWrite (s : State) (w : Initiator) (ofs v : Nat) : State :=
  s.guardWrite (s.granted w 0x40) (0x40400000 + ofs) w v fun s =>
    if ofs = 0 then s.rwlWrite 0x40400000 w v fun s => s.modDio fun d => { d with enable := fld v 5 0 }
    else if ofs = 4 then
      s.modDio fun d => { d with sticky := packBits ((List.range 6).map fun b => bitAt d.sticky b
                                   && !bitAt (s.clears 0x40400004 v) (8 + b)) }
    else if ofs = 8 then s.modDio fun d => { d with evtEn := fld v 9 0 }
    else if h : 0x100 ≤ ofs ∧ ofs < 0x1C0 then
      s.modBank ⟨(ofs - 0x100) / 32, by omega⟩ fun x =>
        let x := if s.missesInstant && x.old.isNone then { x with old := some (x.probe, x.aside, x.test) } else x
        if ofs % 32 = 4 then { x with probe := fld v 7 0 }
        else if ofs % 32 = 8 then { x with aside := fld v 7 0 }
        else if ofs % 32 = 12 then { x with test := fld v 7 0 }
        else x
    else s

end Sys2Proof.Machine
end

