-- ==== Sys2Proof/Machine/FloatOps.lean ====
section
/-! DEFINITION. The floating-point arithmetic of the F and D extensions (R91; the RISC-V unprivileged specification and IEEE 754,
PRESUMED, log entry 12). A value is exact until it is rounded once. -/

namespace Sys2Proof.Machine

/-- A binary format: bits of the exponent and of the fraction. -/
structure FpFmt where
  /-- Exponent bits. -/
  eb : Nat
  /-- Fraction bits. -/
  mb : Nat
  deriving DecidableEq, Repr

/-- The format of an operation: double or single. -/
def fpFmt (dbl : Bool) : FpFmt := if dbl then ⟨11, 52⟩ else ⟨8, 23⟩

/-- A floating-point value: a NaN, an infinity, or ±m × 2^e. -/
inductive FpVal where
  | nan (signalling : Bool) | inf (neg : Bool) | fin (neg : Bool) (m : Nat) (e : Int)
  deriving DecidableEq, Repr

/-- The exponent bias. -/
def FpFmt.bias (f : FpFmt) : Nat := 2 ^ (f.eb - 1) - 1

/-- Exponent of the last place of a subnormal number. -/
def FpFmt.emin (f : FpFmt) : Int := 1 - (f.bias : Int) - f.mb

/-- Sign, exponent field and fraction as bits. -/
def FpFmt.bits (f : FpFmt) (neg : Bool) (ex m : Nat) : Nat := (if neg then 2 ^ (f.eb + f.mb) else 0) + ex * 2 ^ f.mb + m

/-- The canonical NaN. -/
def FpFmt.nan (f : FpFmt) : Nat := f.bits false (2 ^ f.eb - 1) (2 ^ (f.mb - 1))

/-- An infinity. -/
def FpFmt.infinity (f : FpFmt) (neg : Bool) : Nat := f.bits neg (2 ^ f.eb - 1) 0

/-- The sign bit. -/
def FpFmt.sign (f : FpFmt) (v : Nat) : Bool := bitAt v (f.eb + f.mb)

/-- The value that bits stand for. -/
def FpFmt.unpack (f : FpFmt) (v : Nat) : FpVal :=
  let m := v % 2 ^ f.mb
  let ex := v / 2 ^ f.mb % 2 ^ f.eb
  let neg := f.sign v
  if ex = 2 ^ f.eb - 1 then (if m = 0 then .inf neg else .nan (m < 2 ^ (f.mb - 1)))
  else if ex = 0 then .fin neg m f.emin
  else .fin neg (m + 2 ^ f.mb) (f.emin + ex - 1)

/-- The invalid-operation flag of fcsr. -/
def fpNV : Nat := 16
/-- The divide-by-zero flag. -/
def fpDZ : Nat := 8
/-- The overflow flag. -/
def fpOF : Nat := 4
/-- The underflow flag. -/
def fpUF : Nat := 2
/-- The inexact flag. -/
def fpNX : Nat := 1

/-- m × 2^e cut at the place 2^q, and what was cut: 0 nothing, 1 less than half, 2 half, 3 more. `sticky` says that m × 2^e was
itself cut. -/
def fpCut (m : Nat) (e : Int) (sticky : Bool) (q : Int) : Nat × Nat :=
  if q ≤ e then (m * 2 ^ (e - q).toNat, if sticky then 1 else 0)
  else
    let k := (q - e).toNat
    let r := m % 2 ^ k
    (m / 2 ^ k, if r = 0 && !sticky then 0 else if r < 2 ^ (k - 1) then 1 else if r = 2 ^ (k - 1) && !sticky then 2 else 3)

/-- The cut value rounded: to nearest with ties to even, towards zero, down, up, to nearest with ties away (rm 0 to 4). -/
def fpRound (rm : Nat) (neg : Bool) (c : Nat × Nat) : Nat :=
  let up : Bool :=
    if rm = 0 then c.2 == 3 || (c.2 == 2 && c.1 % 2 == 1) else if rm = 1 then false
    else if rm = 2 then neg && c.2 != 0 else if rm = 3 then !neg && c.2 != 0 else decide (2 ≤ c.2)
  if up then c.1 + 1 else c.1

/-- ±m × 2^e rounded to the format, with the flags that rounding raises; tininess is seen after rounding. -/
def FpFmt.pack (f : FpFmt) (rm : Nat) (neg : Bool) (m : Nat) (e : Int) (sticky : Bool) : Nat × Nat :=
  if m = 0 then (f.bits neg 0 0, 0)
  else
    let qn := e + (Nat.log2 m + 1 : Nat) - (f.mb + 1 : Nat)
    let q := max qn f.emin
    let c := fpCut m e sticky q
    let k := fpRound rm neg c
    let q' := if k = 2 ^ (f.mb + 1) then q + 1 else q
    let k' := if k = 2 ^ (f.mb + 1) then 2 ^ f.mb else k
    if (f.bias : Int) - f.mb < q' then
      let big : Bool := if rm = 1 then false else if rm = 2 then neg else if rm = 3 then !neg else true
      (if big then f.infinity neg else f.infinity neg - 1, fpOF + fpNX)
    else
      let tiny := decide (qn < f.emin) && !(fpRound rm neg (fpCut m e sticky qn) == 2 ^ (f.mb + 1) && qn + 1 == f.emin)
      (if k' < 2 ^ f.mb then f.bits neg 0 k' else f.bits neg ((q' - f.emin).toNat + 1) (k' - 2 ^ f.mb),
        if c.2 = 0 then 0 else fpNX + (if tiny then fpUF else 0))

/-- A NaN result: the canonical NaN, invalid when an operand is a signalling NaN. -/
def FpFmt.nanOf (f : FpFmt) (l : List FpVal) : Nat × Nat :=
  (f.nan, if l.any (fun x => match x with | .nan s => s | .inf _ | .fin _ _ _ => false) then fpNV else 0)

/-- An invalid operation. -/
def FpFmt.invalid (f : FpFmt) : Nat × Nat := (f.nan, fpNV)

/-- The sum of two values. -/
def FpFmt.add (f : FpFmt) (rm : Nat) (a b : FpVal) : Nat × Nat :=
  match a, b with
  | .nan _, _ | _, .nan _ => f.nanOf [a, b]
  | .inf s, .inf t => if s = t then (f.infinity s, 0) else f.invalid
  | .inf s, .fin _ _ _ | .fin _ _ _, .inf s => (f.infinity s, 0)
  | .fin s m e, .fin t n d =>
    let l := min e d
    let x : Int := (m * 2 ^ (e - l).toNat : Nat) * (if s then -1 else 1) + (n * 2 ^ (d - l).toNat : Nat) * (if t then -1 else 1)
    if x = 0 then (f.bits (if s = t then s else rm == 2) 0 0, 0) else f.pack rm (decide (x < 0)) x.natAbs l false

/-- The exact product of two values, or an invalid one. -/
def fpMul (a b : FpVal) : Option FpVal :=
  match a, b with
  | .nan s, .nan t => some (.nan (s || t))
  | .nan s, .inf _ | .nan s, .fin _ _ _ | .inf _, .nan s | .fin _ _ _, .nan s => some (.nan s)
  | .inf s, .inf t => some (.inf (s != t))
  | .inf s, .fin t n _ | .fin t n _, .inf s => if n = 0 then none else some (.inf (s != t))
  | .fin s m e, .fin t n d => some (.fin (s != t) (m * n) (e + d))

/-- A value with its sign changed. -/
def FpVal.negate : FpVal → FpVal
  | .nan s => .nan s
  | .inf s => .inf (!s)
  | .fin s m e => .fin (!s) m e

/-- A value rounded to a format. -/
def FpFmt.ofVal (f : FpFmt) (rm : Nat) (a : FpVal) : Nat × Nat :=
  match a with
  | .nan _ => f.nanOf [a]
  | .inf s => (f.infinity s, 0)
  | .fin s m e => f.pack rm s m e false

/-- A product with a sum, rounded once. -/
def FpFmt.fma (f : FpFmt) (rm : Nat) (a b c : FpVal) : Nat × Nat :=
  match fpMul a b with
  | some p => f.add rm p c
  | none => f.invalid

/-- A quotient. -/
def FpFmt.div (f : FpFmt) (rm : Nat) (a b : FpVal) : Nat × Nat :=
  match a, b with
  | .nan _, _ | _, .nan _ => f.nanOf [a, b]
  | .inf _, .inf _ => f.invalid
  | .inf s, .fin t _ _ => (f.infinity (s != t), 0)
  | .fin s _ _, .inf t => (f.bits (s != t) 0 0, 0)
  | .fin s m e, .fin t n d =>
    if n = 0 then (if m = 0 then f.invalid else (f.infinity (s != t), fpDZ))
    else
      let k := 2 * (f.mb + 4)
      f.pack rm (s != t) (m * 2 ^ k / n) (e - d - k) (m * 2 ^ k % n != 0)

/-- A square root. -/
def FpFmt.sqrt (f : FpFmt) (rm : Nat) (a : FpVal) : Nat × Nat :=
  match a with
  | .nan _ => f.nanOf [a]
  | .inf s => if s then f.invalid else (f.infinity false, 0)
  | .fin s m e =>
    if m = 0 then (f.bits s 0 0, 0) else if s then f.invalid
    else
      let k := 2 * (f.mb + 4) + (e % 2).toNat
      let x := m * 2 ^ k
      f.pack rm false (isqrt x) ((e - k) / 2) (isqrt x * isqrt x != x)

/-- A value is less than another; NaNs are not compared. -/
def FpVal.lt (a b : FpVal) : Bool :=
  match a, b with
  | .nan _, _ | _, .nan _ => false
  | .inf s, .inf t => s && !t
  | .inf s, .fin _ _ _ => s
  | .fin _ _ _, .inf t => !t
  | .fin s m e, .fin t n d =>
    let l := min e d
    let x : Int := (m * 2 ^ (e - l).toNat : Nat) * (if s then -1 else 1)
    let y : Int := (n * 2 ^ (d - l).toNat : Nat) * (if t then -1 else 1)
    decide (x < y)

/-- A value is a NaN, and whether it signals. -/
def FpVal.nan? : FpVal → Option Bool
  | .nan s => some s
  | .inf _ | .fin _ _ _ => none

/-- The lesser or the greater of two numbers: a NaN loses, and −0 is below +0. -/
def FpFmt.minMax (f : FpFmt) (greater : Bool) (v w : Nat) : Nat × Nat :=
  let a := f.unpack v
  let b := f.unpack w
  let fl := (f.nanOf [a, b]).2
  match a.nan?, b.nan? with
  | some _, some _ => (f.nan, fl)
  | some _, none => (w, fl)
  | none, some _ => (v, fl)
  | none, none =>
    let less := a.lt b || (!b.lt a && f.sign v && !f.sign w)
    (if less != greater then v else w, 0)

/-- The 32 bits of a single-precision operand: a register that is not NaN-boxed holds the canonical NaN. -/
def unbox (v : Nat) : Nat := if v / 2 ^ 32 = 2 ^ 32 - 1 then v % 2 ^ 32 else (fpFmt false).nan

/-- The bits of an operand in a format. -/
def fpOperand (dbl : Bool) (v : Nat) : Nat := if dbl then v else unbox v

/-- The operation rounds, and its rm field is looked at. -/
def fpRounds : FpOp → Bool
  | .add | .sub | .mul | .div | .sqrt | .madd | .msub | .nmsub | .nmadd | .cvt => true
  | .sgnj | .sgnjn | .sgnjx | .min | .max => false

/-- The result bits and the flags of a floating-point operation; the operands are register contents. -/
def fpResult (op : FpOp) (dbl : Bool) (rm : Nat) (x y z : Nat) : Nat × Nat :=
  let f := fpFmt dbl
  let vx := fpOperand dbl x
  let vy := fpOperand dbl y
  let a := f.unpack vx
  let b := f.unpack vy
  let c := f.unpack (fpOperand dbl z)
  let body := vx % 2 ^ (f.eb + f.mb)
  let signed := fun s : Bool => ((if s then 2 ^ (f.eb + f.mb) else 0) + body, 0)
  match op with
  | .add => f.add rm a b
  | .sub => f.add rm a b.negate
  | .mul => match fpMul a b with | some p => f.ofVal rm p | none => f.invalid
  | .div => f.div rm a b
  | .sqrt => f.sqrt rm a
  | .madd => f.fma rm a b c
  | .msub => f.fma rm a b c.negate
  | .nmsub => f.fma rm a.negate b c
  | .nmadd => f.fma rm a.negate b c.negate
  | .sgnj => signed (f.sign vy)
  | .sgnjn => signed (!f.sign vy)
  | .sgnjx => signed (f.sign vx != f.sign vy)
  | .min => f.minMax false vx vy
  | .max => f.minMax true vx vy
  | .cvt => f.ofVal rm ((fpFmt !dbl).unpack (fpOperand (!dbl) x))

/-- A value rounded to an integer of `w` bits: out of range it is invalid and saturates, and a NaN is the greatest. -/
def fpToInteger (rm w : Nat) (signed : Bool) (a : FpVal) : Int × Nat :=
  let lo : Int := if signed then -2 ^ (w - 1) else 0
  let hi : Int := if signed then 2 ^ (w - 1) - 1 else 2 ^ w - 1
  match a with
  | .nan _ => (hi, fpNV)
  | .inf s => (if s then lo else hi, fpNV)
  | .fin s m e =>
    let c := fpCut m e false 0
    let k : Int := (fpRound rm s c : Nat) * (if s then -1 else 1)
    if k < lo then (lo, fpNV) else if hi < k then (hi, fpNV) else (k, if c.2 = 0 then 0 else fpNX)

/-- The class of a value: one bit of ten. -/
def FpFmt.classify (f : FpFmt) (v : Nat) : Nat :=
  match f.unpack v with
  | .nan s => if s then 2 ^ 8 else 2 ^ 9
  | .inf s => if s then 1 else 2 ^ 7
  | .fin s m _ =>
    if m = 0 then (if s then 2 ^ 3 else 2 ^ 4) else if m < 2 ^ f.mb then (if s then 2 ^ 2 else 2 ^ 5)
    else (if s then 2 else 2 ^ 6)

/-- The operation converts, and its rm field is looked at. -/
def fpIntRounds : FpIntOp → Bool
  | .toW | .toWu | .toL | .toLu => true
  | .eq | .lt | .le | .classify | .move => false

/-- The integer result and the flags of a comparison, a class, a move or a conversion; 32-bit results are sign-extended. -/
def fpIntResult (op : FpIntOp) (dbl : Bool) (rm : Nat) (x y : Nat) : DWord × Nat :=
  let f := fpFmt dbl
  let vx := fpOperand dbl x
  let a := f.unpack vx
  let b := f.unpack (fpOperand dbl y)
  let nan := a.nan?.isSome || b.nan?.isSome
  let w32 := fun r : Int × Nat => ((BitVec.ofInt 32 r.1).signExtend 64, r.2)
  let w64 := fun r : Int × Nat => (BitVec.ofInt 64 r.1, r.2)
  match op with
  | .eq => (if !nan && !a.lt b && !b.lt a then 1 else 0, (f.nanOf [a, b]).2)
  | .lt => (if a.lt b then 1 else 0, if nan then fpNV else 0)
  | .le => (if !nan && !b.lt a then 1 else 0, if nan then fpNV else 0)
  | .classify => (BitVec.ofNat 64 (f.classify vx), 0)
  | .move => (if dbl then BitVec.ofNat 64 x else (BitVec.ofNat 32 x).signExtend 64, 0)
  | .toW => w32 (fpToInteger rm 32 true a)
  | .toWu => w32 (fpToInteger rm 32 false a)
  | .toL => w64 (fpToInteger rm 64 true a)
  | .toLu => w64 (fpToInteger rm 64 false a)

/-- The operation converts, and its rm field is looked at. -/
def intFpRounds : IntFpOp → Bool
  | .ofW | .ofWu | .ofL | .ofLu => true
  | .move => false

/-- The result bits and the flags of a move or a conversion from an integer register. -/
def intFpResult (op : IntFpOp) (dbl : Bool) (rm : Nat) (x : DWord) : Nat × Nat :=
  let f := fpFmt dbl
  let conv := fun k : Int => f.pack rm (decide (k < 0)) k.natAbs 0 false
  match op with
  | .move => (if dbl then x.toNat else x.toNat % 2 ^ 32, 0)
  | .ofW => conv (toSigned 32 (x.toNat % 2 ^ 32))
  | .ofWu => conv (x.toNat % 2 ^ 32 : Nat)
  | .ofL => conv (toSigned 64 x.toNat)
  | .ofLu => conv (x.toNat : Nat)

/-- The rounding mode of an instruction: its field, or frm of fcsr for 7; none for a reserved one. -/
def roundMode (rm : Fin 8) (fcsr : DWord) : Option Nat :=
  let m := if rm.val = 7 then fcsr.toNat / 32 % 8 else rm.val
  if m < 5 then some m else none

end Sys2Proof.Machine
end

