-- ==== Sys2Proof/Machine/Metering.lean ====
section
/-! DEFINITION. Metering: the filter chain, windows, energy registers, thermal points, pulse outputs, mirror records and the
MTR registers (R308 to R344). -/

namespace Sys2Proof.Machine

/-! ### The filter chain (R312, R313, R315) -/

/-- D, MODK cycles of a decimation period (R310). -/
def MeterCfg.d (c : MeterCfg) : Nat := if c.slow then 1250 else 2500

/-- One bit through the integrators of the sinc3 filter and the run counter (R312, R313 stage 1). -/
def Decim.bit (x : Decim) (b : Bool) : Decim :=
  let v := if b then 1 else 2 ^ 64 - 1
  let a := (x.integ.1 + v) % 2 ^ 64
  let c := (x.integ.2.1 + a) % 2 ^ 64
  let e := (x.integ.2.2 + c) % 2 ^ 64
  let n := if x.run.1 = b then min (x.run.2 + 1) 256 else 1
  { x with integ := (a, c, e), run := (b, n), stuck := x.stuck || n == 256,
           clean := if n = 256 then 0 else x.clean }

/-- The combs of the sinc3 filter at a decimation edge: y within ±D³ (R313 stage 1). -/
def Decim.combs (x : Decim) : Int × Decim :=
  let s := fun a b : Nat => (a + (2 ^ 64 - b)) % 2 ^ 64
  let d1 := s x.integ.2.2 x.comb.1
  let d2 := s d1 x.comb.2.1
  let d3 := s d2 x.comb.2.2
  (toSigned 64 d3, { x with comb := (x.integ.2.2, d1, d2) })

/-- Stage 5: the 4-tap Lagrange interpolator with a delay of 1 + φ samples, exact and rounded once (DESIGN CHOICE, log entry 8). -/
def lagrange (h : List Int) (phi : Int) : Int :=
  let d := 65536 + phi
  let t := fun k : Int => d - 65536 * k
  let x := fun k => h.getD k 0
  rndDiv (-(t 1 * t 2 * t 3) * x 0 + 3 * (t 0 * t 2 * t 3) * x 1 - 3 * (t 0 * t 1 * t 3) * x 2
    + t 0 * t 1 * t 2 * x 3) (6 * 65536 ^ 3)

/-- The bits of a decimation period through the integrators, and STUCK at its end (R312). -/
def Decim.intake (bits : List Bool) (x0 : Decim) : Decim :=
  let x1 := bits.foldl Decim.bit { x0 with clean := x0.clean + 1, live := !bits.isEmpty }
  { x1 with stuck := x1.stuck && decide (x1.clean < 3) }

/-- One decimation period of a channel: its bits, then stages 1 to 5 (R312, R313). -/
def Decim.period (d : Nat) (c : ChanCfg) (bits : List Bool) (x0 : Decim) : Decim :=
  let (y, x2) := (x0.intake bits).combs
  let a := sat32 (rndDiv (y * 2 ^ 31) (d ^ 3))
  let b := sat32 (a - c.offset)
  let e := rndDiv (b * (x2.g : Int)) (2 ^ 30)
  let exceeded := decide (95 * 2 ^ 31 ≤ 100 * absI a) || saturates (a - c.offset) || saturates e
  let hist := (sat32 e :: x2.hist).take 4
  { x2 with settle := x2.settle - 1, settling := decide (0 < x2.settle), hist := hist, outs := (lagrange hist x2.phi :: x2.outs).take 63,
            exceeded := exceeded }

/-- Gain and phase of a channel at a group temperature in 0.01 °C (R315). -/
def ChanCfg.at (c : ChanCfg) (temp : Int) : Nat × Int :=
  let t := (clampI (temp + 4000) 0 15000).toNat
  let i := min 14 (t / 1000)
  let r : Int := (t - 1000 * i : Nat)
  let g : Int := (c.g.getD i 0 : Nat)
  let g1 : Int := (c.g.getD (i + 1) 0 : Nat)
  let p := c.phi.getD i 0
  ((g + rndDiv ((g1 - g) * r) 1000).toNat, p + rndDiv ((c.phi.getD (i + 1) 0 - p) * r) 1000)

/-- The decimator of a channel. -/
def Meter.decim (m : Meter) (ch : Nat) : Decim := Tbl.getD m.dec ch default

/-- The latest corrected sample of a channel. -/
def Meter.sample (m : Meter) (ch : Nat) : Int := (m.decim ch).outs.headD 0

/-! ### Windows (R317 to R322) -/

/-- Elements of a point: voltage and current channel of each (R317). -/
def PointCfg.elements (p : PointCfg) : List (Nat × Nat) :=
  let c := fun i => p.ch.getD i 0xFF
  if p.kind = 0 ∨ p.kind = 3 then [(c 0, c 1)]
  else if p.kind = 1 then [(c 0, c 2), (c 1, c 3)]
  else [(c 0, c 3), (c 1, c 4), (c 2, c 5)]

/-- Channels of a point. -/
def PointCfg.chans (p : PointCfg) : List Nat := p.elements.flatMap fun e => [e.1, e.2]

/-- The current sample of a point, with DIR (R318). -/
def Meter.cur (m : Meter) (p : PointCfg) (ch : Nat) : Int := if p.dir then -(m.sample ch) else m.sample ch

/-- A sample of a point is excluded (R320). -/
def Meter.excluded (m : Meter) (p : PointCfg) : Bool :=
  p.chans.any fun c => (m.decim c).stuck || m.lost.toList.getD (c / 8) false || (m.decim c).settling
    || !(m.decim c).live

/-- Sums added entry by entry. -/
def addL : List Int → List Int → List Int
  | [], b => b
  | a, [] => a
  | x :: a, y :: b => (x + y) :: addL a b

/-- A zero crossing of the first voltage channel between two samples, in samples from the window's start: numerator and
denominator (R321). -/
def crossing (k : Nat) (x0 x1 : Int) : Option (Int × Int) :=
  if x0 < 0 ∧ 0 ≤ x1 then some (((k : Int) - 1) * (x1 - x0) - x0, x1 - x0) else none

/-- One sample of a point enters its window (R320, R321). -/
def Meter.accumulate (m : Meter) (p : PointCfg) (w : Win) : Win :=
  if m.excluded p then { w with ex := w.ex + 1, prev := none }
  else
    let el := p.elements
    let v := fun e : Nat × Nat => m.sample e.1
    let i := fun e : Nat × Nat => m.cur p e.2
    let vh := fun e : Nat × Nat => Config.hilbert (m.decim e.1).outs
    let id := fun e : Nat × Nat =>
      let x := (m.decim e.2).outs.getD 31 0
      if p.dir then -x else x
    let x1 := m.sample (p.elements.headD (0, 0)).1
    let cr := match w.prev with | some x0 => crossing (w.n + w.ex) x0 x1 | none => none
    { w with
      n := w.n + 1, exceeded := w.exceeded || p.chans.any fun c => (m.decim c).exceeded
      fall := w.fall || p.chans.any fun c => m.fallback.toList.getD (c / 8) false
      v2 := addL w.v2 (el.map fun e => v e * v e), i2 := addL w.i2 (el.map fun e => i e * i e)
      vi := addL w.vi (el.map fun e => v e * i e), vq := addL w.vq (el.map fun e => vh e * id e)
      sv := w.sv + x1, si := w.si + i (p.elements.headD (0, 0)), prev := some x1
      m := if cr.isSome then w.m + 1 else w.m
      first := match cr with | some c => if w.m = 0 then c else w.first | none => w.first
      last := cr.getD w.last }

/-- The integer nearest to √(a / b). -/
def sqrtNear (a b : Nat) : Nat :=
  let r := isqrtAux 160 (a / max b 1) 0
  if 4 * a ≤ (2 * r + 1) * (2 * r + 1) * b then r else r + 1

/-- Full-scale value of a channel. -/
def MeterCfg.fs (c : MeterCfg) (ch : Nat) : Nat := ((c.chans.find? fun x => x.ch == ch).map (·.fs)).getD 0

/-- Scale of an element's power sums: FS_v × FS_i. -/
def MeterCfg.fsvi (c : MeterCfg) (e : Nat × Nat) : Int := ((c.fs e.1 * c.fs e.2 : Nat) : Int)

/-- Units of a residue of energy: the sums are in FS_v·FS_i·2^−62 µW samples, and 1 mWh takes 2^62 × 28,800,000,000 of
them (R324). -/
def energyDen : Nat := 2 ^ 62 * 28800000000

/-- Units of a residue of charge: 1 mAh takes 2^31 × 28,800,000 current sums (R324). -/
def chargeDen : Nat := 2 ^ 31 * 28800000

/-- A register with its residue advanced by an increment in residue units (R324). -/
def advance (den inc : Nat) (e : Nat × Nat) : Nat × Nat := (e.1 + (e.2 + inc) / den, (e.2 + inc) % den)

/-- Several registers advanced: for each, its denominator and its increment. -/
def advanceAll : List (Nat × Nat) → List (Nat × Nat) → List (Nat × Nat)
  | e :: es, (d, i) :: is => advance d i e :: advanceAll es is
  | es, _ => es

/-- Σ over the elements of a window sum, each at its own scale. -/
def MeterCfg.scaled (c : MeterCfg) (p : PointCfg) (l : List Int) : Int :=
  ((p.elements.zip l).map fun x => c.fsvi x.1 * x.2).sum

/-- The energies of a window for an AC point: increments of registers 0 to 6 (R324). -/
def MeterCfg.acEnergy (c : MeterCfg) (p : PointCfg) (w : Win) : List (Nat × Nat) :=
  let ep := c.scaled p w.vi
  let eq := c.scaled p w.vq
  let es := sqrtNear (ep * ep + eq * eq).toNat 1
  [ (energyDen, ep.toNat), (energyDen, (-ep).toNat),
    (energyDen, if 0 ≤ ep ∧ 0 ≤ eq then eq.toNat else 0), (energyDen, if ep < 0 ∧ 0 ≤ eq then eq.toNat else 0),
    (energyDen, if ep < 0 ∧ eq < 0 then (-eq).toNat else 0), (energyDen, if 0 ≤ ep ∧ eq < 0 then (-eq).toNat else 0),
    (energyDen, es) ]

/-- The energies of a window for a DC point: increments of registers 0 to 3 (R324). -/
def MeterCfg.dcEnergy (c : MeterCfg) (p : PointCfg) (w : Win) : List (Nat × Nat) :=
  let ep := c.scaled p w.vi
  let q := ((c.fs (p.ch.getD 1 0) : Nat) : Int) * w.si
  [ (energyDen, ep.toNat), (energyDen, (-ep).toNat), (chargeDen, q.toNat), (chargeDen, (-q).toNat) ]

/-- What a window adds to a point's registers (R324). -/
def MeterCfg.pointEnergy (c : MeterCfg) (p : PointCfg) (w : Win) : List (Nat × Nat) :=
  if p.kind = 3 then c.dcEnergy p w else c.acEnergy p w

/-- Frequency in mHz: (m − 1) over the time from the first to the last crossing; 0 when BAD (R321, R322). -/
def Win.freq (w : Win) : Nat × Quality :=
  let num : Int := ((w.m : Int) - 1) * 8000000 * w.first.2 * w.last.2
  let den : Int := w.last.1 * w.first.2 - w.first.1 * w.last.2
  if w.m < 2 ∨ den ≤ 0 then (0, .bad)
  else
    let f := rndDiv num den.toNat
    if 42500 ≤ f ∧ f ≤ 69000 then (f.toNat, .good) else (0, .bad)

/-- The quality of a window's quantities (R322). -/
def Win.quality (w : Win) : Quality :=
  if w.n < 800 then .bad else if 0 < w.ex ∨ w.exceeded ∨ w.fall then .subst else .good

/-- A mean of a window at the scale of its channels, in watts or var. -/
def meanW (c : MeterCfg) (e : Nat × Nat) (sum : Int) (n : Nat) : Int :=
  rndDiv (c.fsvi e * sum) (max n 1 * 2 ^ 62 * 1000000)

/-- Root mean square of a channel in mV or mA. -/
def rms (c : MeterCfg) (ch : Nat) (sum : Int) (n : Nat) : Nat :=
  sqrtNear (c.fs ch * c.fs ch * sum.toNat) (max n 1 * 2 ^ 62)

/-- Three element entries, 0 where the point has fewer (R343). -/
def three (l : List Int) : List Int := [l.getD 0 0, l.getD 1 0, l.getD 2 0]

/-- The quantity words of an AC point, V_RMS to FREQ (R321, R343). -/
def MeterCfg.acWords (c : MeterCfg) (p : PointCfg) (w : Win) : List Nat :=
  let el := p.elements
  let vr := (el.zip w.v2).map fun x => (rms c x.1.1 x.2 w.n : Int)
  let ir := (el.zip w.i2).map fun x => (rms c x.1.2 x.2 w.n : Int)
  let pk := (el.zip w.vi).map fun x => meanW c x.1 x.2 w.n
  let qk := (el.zip w.vq).map fun x => meanW c x.1 x.2 w.n
  let sk := (vr.zip ir).map fun x => rndDiv (x.1 * x.2) 1000000
  let pt := pk.sum
  let qt := qk.sum
  let st : Int := sqrtNear (pt * pt + qt * qt).toNat 1
  let pf := if st = 0 then 0 else rndDiv (pt * 1000000) st.toNat
  (three vr ++ three ir ++ three pk ++ three qk ++ three sk ++ [pt, qt, st, pf, (w.freq.1 : Int)]).map (ofSigned 32)

/-- The quantity words of a DC point: V, I, P (R321, R343). -/
def MeterCfg.dcWords (c : MeterCfg) (p : PointCfg) (w : Win) : List Nat :=
  let e := p.elements.headD (0, 0)
  [ rndDiv (((c.fs e.1 : Nat) : Int) * w.sv) (max w.n 1 * 2 ^ 31), rndDiv (((c.fs e.2 : Nat) : Int) * w.si) (max w.n 1 * 2 ^ 31),
    meanW c e (w.vi.headD 0) w.n ].map (ofSigned 32)

/-- A point of the engine. -/
def Meter.pt (m : Meter) (k : Nat) : MPoint := Tbl.getD m.pts k default

/-- The record of a point by index: AC a at a, DC d at 32 + d. -/
def MeterCfg.point? (c : MeterCfg) (k : Nat) : Option PointCfg :=
  if k < 32 then c.ac.find? fun p => p.pt == k else c.dc.find? fun p => p.pt == k - 32

/-- What a window adds to the registers of the point with an index. -/
def MeterCfg.increments (c : MeterCfg) (k : Nat) (w : Win) : List (Nat × Nat) :=
  match c.point? k with | some p => c.pointEnergy p w | none => []

/-- A point's window closes: its registers advance and its quantities are published (R321 to R324, R328). -/
def MeterCfg.close (c : MeterCfg) (p : PointCfg) (x : MPoint) : MPoint :=
  let w := x.win
  let dc := p.kind == 3
  { win := default, q := if dc then c.dcWords p w else c.acWords p w,
    e := advanceAll (x.e ++ List.replicate (7 - x.e.length) (0, 0)) (c.pointEnergy p w),
    windows := wrapInc 32 x.windows, excluded := satAdd (2 ^ 32 - 1) x.excluded w.ex, qual := w.quality,
    fq := w.freq.2, exceeded := w.exceeded, fall := w.fall }

/-! ### Decimation and windows as commands (R310, R319, R323) -/

/-- The engine asserts source 112 + i (R341). -/
def State.mtrRaise (i : Nat) (s : State) : State := s.raiseEn s.mtr.evtEn 112 i

/-- The engine runs: an accord is applied and the module is powered. -/
def State.meterOn (s : State) : Bool := s.alive && s.acc.locked

/-- The engine takes samples: it runs and has not taken the last of a capture (R337). -/
def State.metering (s : State) : Bool := s.meterOn && !s.mtr.capEdge

/-- The module drives no MCLK although its pins are TWIN_SHARED: metering standby (R309). -/
def State.mtrStandby (s : State) : Bool := s.run.meter.mclk.contains .twinShared && !s.twin.gate

/-- One channel takes the bits of a decimation period; STUCK and overrange are reported (R312, R313, R341). -/
def State.decimate (bits : List (Fin 96 × List Bool)) (s : State) (c : ChanCfg) : State :=
  let b := ((bits.find? fun x => x.1.val == c.ch).map (·.2)).getD []
  let x0 := s.mtr.decim c.ch
  let x := x0.period s.run.meter.d c b
  let fresh := x.exceeded && !s.mtr.ovr.contains c.ch
  let s1 := s.modMtr fun m => { m with
    dec := Tbl.set c.ch x m.dec, ovr := if fresh then m.ovr ++ [c.ch] else m.ovr }
  let s2 := if x.stuck && !x0.stuck then s1.mtrRaise 2 else s1
  let s3 := s2.setIf x.exceeded (0x40180014 + 4 * (c.ch / 32)) (c.ch % 32)
  if fresh then s3.mtrRaise 4 else s3

/-- A window of a point ends on the present decimation edge, and holds samples (R319). -/
def State.windowDue (s : State) (k : Nat) : Bool :=
  (s.mtr.edges + 1600 * 32 - 32 * k) % 1600 == 0 && decide (0 < (s.mtr.pt k).win.n + (s.mtr.pt k).win.ex)

/-- A window that is due closes and is published; a BAD window and a BAD frequency are reported (R319, R321 to R324, R341). -/
def State.closeWindow (s : State) (k : Nat) : State :=
  match s.windowDue k, s.run.meter.point? k with
  | true, some p =>
    let s1 := s.modMtr fun m => { m with pts := Tbl.set k (s.run.meter.close p (m.pt k)) m.pts }
    let x := s1.mtr.pt k
    let s2 := if x.qual == .bad then s1.mtrRaise 1 else s1
    if x.fq == .bad && p.kind != 3 then s2.mtrRaise 10 else s2
  | _, _ => s

/-- The window that ends on the present decimation edge closes: no two points close one on the same edge (R319). -/
def State.closeWindows (s : State) : State := (List.range 48).foldl State.closeWindow s

/-- The decimator of a channel that the accord does not assign: its bits and STUCK (R310, R312). -/
def State.decimateIdle (s : State) (x : Fin 96 × List Bool) : State :=
  let x0 := s.mtr.decim x.1.val
  let x1 := (x0.intake x.2).combs.2
  let s1 := s.modMtr fun m => { m with dec := Tbl.set x.1.val x1 m.dec }
  if x1.stuck && !x0.stuck then s1.mtrRaise 2 else s1

/-- The points of METER by index: AC a at a, DC d at 32 + d. -/
def MeterCfg.points (c : MeterCfg) : List (Nat × PointCfg) :=
  (c.ac.map fun p => (p.pt, p)) ++ (c.dc.map fun p => (32 + p.pt, p))

/-- One decimation edge: the window that ended on the edge before closes, all 96 decimators take their bits, every assigned channel gives
a corrected sample, and every point takes it or counts it as excluded (R310, R313, R320, R323). -/
def State.decimEdge (bits : List (Fin 96 × List Bool)) (s : State) : State :=
  let c := s.run.meter
  let s1 := c.chans.foldl (State.decimate bits) (s.closeWindows.modMtr fun m => { m with edges := s.mtr.edges + 1 })
  let s2 := (bits.filter fun x => !c.chans.any fun y => y.ch == x.1.val).foldl State.decimateIdle s1
  s2.modMtr fun m => { m with
    pts := c.points.foldl (fun t p => Tbl.upd t p.1 default fun x => { x with win := m.accumulate p.2 x.win }) m.pts
    capEdge := m.capReq }

/-- A decimation edge whose samples the engine does not take: it counts one excluded sample against each point, and the window that ended
on the edge before closes (R319, R320, R337). -/
def State.skipEdge (s : State) : State :=
  s.closeWindows.modMtr fun m => { m with
    edges := m.edges + 1
    pts := s.run.meter.points.foldl (fun t p => Tbl.upd t p.1 default fun x =>
      { x with win := { x.win with ex := x.win.ex + 1, prev := none } }) m.pts }

/-- Several skipped edges. -/
def State.skipEdges : Nat → State → State
  | 0, s => s
  | n + 1, s => s.skipEdge.skipEdges n

/-- The reference group: the lowest-numbered group in use (R311). -/
def MeterCfg.refGroup (c : MeterCfg) : Option (Fin 12) :=
  (List.finRange 12).find? fun g => c.chans.any fun x => x.ch / 8 == g.val

/-- In standby no group decimates while the reference group's clock is lost (R311). -/
def State.refLost (s : State) : Bool :=
  s.mtrStandby && match s.run.meter.refGroup with | some g => s.mtr.lost[g] | none => false

/-- METER_DECIMATION: one decimation edge: every assigned channel gives a corrected sample, and every point takes it or counts
it as excluded; after the capture edge its samples are not taken (R310, R311, R313, R320, R323, R337). -/
def execMeterDecimation (bits : List (Fin 96 × List Bool)) (s : State) : Host.Outcome State Fault Refusal :=
  if s.metering && !s.refLost then
    .next ((if s.mtrStandby then s else s.to ((s.mtr.edges + 1) * 12500 * periV)).decimEdge bits)
  else if s.meterOn && s.mtrStandby && !s.refLost then .next (s.modMtr fun m => { m with skipped := m.skipped + 1 })
  else .next s

/-- METER_WINDOW_END. -/
def execMeterWindowEnd (pt : Fin 48) (s : State) : Host.Outcome State Fault Refusal :=
  .next (if s.meterOn then s.closeWindow pt.val else s)

/-- A group with a channel that the accord assigns. -/
def MeterCfg.usesGroup (c : MeterCfg) (g : Nat) : Bool := c.chans.any fun x => x.ch / 8 == g

/-- MCLK_CLOCK_LOST: a used group's MCLK input shows no edge for 64 PERI cycles (R311). -/
def execMclkClockLost (g : Fin 12) (s : State) : Host.Outcome State Fault Refusal :=
  if s.meterOn && s.mtrStandby && s.run.meter.usesGroup g.val && !s.mtr.lost[g] then
    .next ((s.modMtr fun m => { m with lost := m.lost.set g true }).mtrRaise 3)
  else .next s

/-- Channels of a group settle for 3 decimation periods (R320). -/
def Meter.settleGroup (g : Nat) (m : Meter) : Meter :=
  { m with dec := m.dec.map fun x => if x.1 / 8 = g then (x.1, { x.2 with settle := 3 }) else x }

/-- MCLK_CLOCK_RESUME (R311, R320). -/
def execMclkClockResume (g : Fin 12) (s : State) : Host.Outcome State Fault Refusal :=
  if s.meterOn && s.mtr.lost[g] then
    .next (s.modMtr fun m => { m with lost := m.lost.set g false }.settleGroup g.val)
  else .next s

/-- The count of decimation edges from the lock of PLL A at the present cycle (R310). -/
def State.edgeCount (s : State) : Nat := s.now / (12500 * periV)

/-- The module begins to drive its shared clocks: decimation returns to its own counter, no clock is lost, and every channel
settles for 3 periods (R310, R311, R320). -/
def State.driveMclk (s : State) : State :=
  if s.run.meter.mclk.contains .twinShared then
    s.modMtr fun m => { m with
      edges := s.edgeCount, lost := Vector.replicate 12 false, dec := m.dec.map fun x => (x.1, { x.2 with settle := 3 }) }
  else s

/-! ### Temperature (R315, R316) -/

/-- At a heart tick each group takes its temperature, and every channel its gain and phase; `val` reads a PROGRAM variable
with its quality (R315, R316). -/
def State.mtrTemperature (temp : Nat) (val : Nat → Nat → Int × Quality) (s : State) : State :=
  let c := s.run.meter
  let sensor := toSigned 16 temp
  let look : Nat → Int × Bool := fun g =>
    match c.groups[g]? with
    | some (true, part, ofs) =>
      let v := val part ofs
      let up := match (List.finRange 4).find? fun p => p.val + 1 == part with | some p => s.pstate p == 1 | none => false
      if v.2 == .bad || !up then (sensor, true) else (Config.realToCenti (ofSigned 32 v.1), false)
    | _ => (sensor, false)
  let fb : Vector Bool 12 := Vector.ofFn fun g => (look g.val).2
  let began := (List.finRange 12).any fun g => fb[g] && !s.mtr.fallback[g]
  let s1 := s.modMtr fun m => { m with
    temp := temp, fallback := fb,
    dec := c.chans.foldl (fun t ch => Tbl.upd t ch.ch default fun x =>
      let r := ch.at (look (ch.ch / 8)).1
      { x with g := r.1, phi := r.2 }) m.dec }
  if began then s1.mtrRaise 5 else s1

/-! ### Thermal points (R331 to R334) -/

/-- Residue units of a volume: 3.6 × 10^11 per litre (R332). -/
def volDen : Nat := 360000000000

/-- Residue units of thermal energy: 2^32 per mWh. -/
def heatDen : Nat := 2 ^ 32

/-- Every input is in range and usable (R333). -/
def ThermCfg.usable (c : ThermCfg) (flow tf tr : Int × Quality) : Bool :=
  let okQ := fun q : Quality => q == .good || q == .held
  okQ flow.2 && okQ tf.2 && okQ tr.2 && decide (0 ≤ tf.1) && decide (tf.1 ≤ 180000) && decide (0 ≤ tr.1)
    && decide (tr.1 ≤ 180000) && decide (100 ≤ c.kpa) && decide (c.kpa ≤ 2500)
    && decide (Config.saturation tf.1 ≤ c.kpa) && decide (Config.saturation tr.1 ≤ c.kpa)

/-- A whole number as a 64-bit floating-point number, rounded to nearest with ties to even. -/
def f64Of (n : Nat) : Nat := ((fpFmt true).pack 0 false n 0 false).1

/-- A 64-bit floating-point operation, rounded to nearest with ties to even (R332 names the format; DESIGN CHOICE, log entry 8). -/
def f64 (op : FpOp) (x y : Nat) : Nat := (fpResult op true 0 x y 0).1

/-- Steps 2 and 3 of a heart note: m = V / v at the flow sensor, E = m × (h(T_f) − h(T_r)), in residue units of 2^−32 mWh; `vol` is V in
residue units of a volume, and 1 mWh is 3.6 J (R332). -/
def waterEnergy (vol : Nat) (loc tf tr : Int) (kpa : Nat) : Int :=
  let m := f64 .div (f64 .div (f64Of vol) (f64Of (volDen * 1000))) (Config.specVolume loc kpa)
  let e := f64 .mul m (f64 .sub (Config.specEnthalpy tf kpa) (Config.specEnthalpy tr kpa))
  (fpToInteger 0 128 true ((fpFmt true).unpack (f64 .div (f64 .mul e (f64Of (10 * heatDen))) (f64Of 36)))).1

/-- One thermal point over a heart note of `th` PERI cycles (R332, R333). -/
def ThermCfg.run (c : ThermCfg) (th : Nat) (flow tf tr : Int × Quality) (x : ThermSt) : ThermSt :=
  let cnt := flow.1.toNat
  let vol := if c.rate then (max flow.1 0).toNat * th
    else (cnt + 2 ^ 32 - x.count) % 2 ^ 32 * c.pulseMl * 360000000
  let x1 := { x with tf := tf.1, tr := tr.1, notes := wrapInc 32 x.notes, rev := c.rate && decide (flow.1 < 0),
                     count := if c.rate then x.count else cnt }
  if c.usable flow tf tr then
    let e := waterEnergy vol (if c.ret then tr.1 else tf.1) tf.1 tr.1 c.kpa
    let dt := tf.1 - tr.1
    let dtm : Int := c.dtMin
    { x1 with
      heat := if dtm ≤ dt then advance heatDen e.toNat x.heat else x.heat
      cool := if ¬ dtm ≤ dt ∧ dt ≤ -dtm then advance heatDen (-e).toNat x.cool else x.cool
      vol := advance volDen vol x.vol
      flow := if c.rate then (max flow.1 0).toNat else (rndDiv vol (max th 1)).toNat
      power := rndDiv (e * 360000000) (max th 1 * heatDen)
      qual := if flow.2 = .good ∧ tf.2 = .good ∧ tr.2 = .good then .good else .held }
  else { x1 with fault := advance 100000 th x.fault, qual := .bad }

/-- Every thermal point is evaluated on the inputs latched at the heart tick, and all are published together (R332 to R334,
R341). -/
def State.thermPublish (s : State) : State :=
  match s.mtr.thermIn with
  | some (th, ins) =>
    let t := s.run.meter.therm.foldl (fun t c =>
      match ins.find? fun i => i.pt == c.pt with
      | some i => Tbl.upd t c.pt default fun x => c.run th i.flow i.tf i.tr x
      | none => t) s.mtr.therm
    let s1 := s.modMtr fun m => { m with therm := t, thermIn := none }
    if t.any fun x => x.2.qual == .bad then s1.mtrRaise 9 else s1
  | none => s

/-- THERMAL_PUBLISH. -/
def execThermalPublish (s : State) : Host.Outcome State Fault Refusal :=
  .next (if s.meterOn then s.thermPublish else s)

/-! ### 64-bit registers and their reads (R325, R327, R343) -/

/-- A register of a point, 64 bits. -/
def Meter.energy (m : Meter) (k r : Nat) : Nat := ((((m.pt k).e)[r]?).getD (0, 0)).1 % 2 ^ 64

/-- A thermal register: 0 HEAT, 1 COOL, 2 VOLUME, 3 FAULT_MS. -/
def Meter.thermal (m : Meter) (k r : Nat) : Nat :=
  let x := Tbl.getD m.therm k default
  (if r = 0 then x.heat.1 else if r = 1 then x.cool.1 else if r = 2 then x.vol.1 else x.fault.1) % 2 ^ 64

/-- The 64-bit register whose low word lies at an offset (R342, R343). -/
def Meter.reg64 (m : Meter) (ofs : Nat) : Option Nat :=
  if ofs % 8 ≠ 0 then none
  else if 0x140 ≤ ofs ∧ ofs < 0x1C0 then some (((m.pulses[(ofs - 0x140) / 8]?).map (·.res)).getD 0 % 2 ^ 64)
  else if 0x1000 ≤ ofs ∧ ofs < 0x1800 then
    if ofs % 64 < 56 then some (m.energy ((ofs - 0x1000) / 64) (ofs % 64 / 8)) else none
  else if 0x1800 ≤ ofs ∧ ofs < 0x1A00 then some (m.energy (32 + (ofs - 0x1800) / 32) (ofs % 32 / 8))
  else if 0x2000 ≤ ofs ∧ ofs < 0x4000 then some (m.thermal ((ofs - 0x2000) / 32) (ofs % 32 / 8))
  else none

/-- The register a pulse output counts (R329). -/
def Meter.pulseReg (m : Meter) (c : PulseCfg) : Nat :=
  if c.kind = 0 then m.energy c.pt c.reg else if c.kind = 1 then m.energy (32 + c.pt) c.reg else m.thermal c.pt c.reg

/-- A read of a low word freezes the high word for that initiator (R327). -/
def State.mtrOpen (w : Initiator) (ofs v : Nat) (s : State) : State :=
  s.modMtr fun m => { m with
    shadows := ((w.code, ofs), v / 2 ^ 32) :: m.shadows.filter fun x => x.1 != (w.code, ofs) }

/-- The high word as an initiator reads it: its frozen copy, or the live value (R327). -/
def State.mtrHigh (s : State) (w : Initiator) (ofs v : Nat) : Nat :=
  match s.mtr.shadows.find? fun x => x.1 == (w.code, ofs) with | some x => x.2 | none => v / 2 ^ 32

/-- A read of the high word releases the frozen copy (R327). -/
def State.mtrCloseRead (w : Initiator) (ofs : Nat) (s : State) : State :=
  s.modMtr fun m => { m with shadows := m.shadows.filter fun x => x.1 != (w.code, ofs) }

/-- MTR_SHADOW_OPEN_READ: a read of the low word at an offset. -/
def execMtrShadowOpenRead (who : Initiator) (ofs : BitVec 16) (s : State) : Host.Outcome State Fault Refusal :=
  match s.acts who, s.mtr.reg64 ofs.toNat with
  | true, some v => .next ((s.mtrOpen who ofs.toNat v).answer who (v % 2 ^ 32))
  | _, _ => .next s

/-- MTR_SHADOW_CLOSE_READ: a read of the high word of the register whose low word lies at an offset. -/
def execMtrShadowCloseRead (who : Initiator) (ofs : BitVec 16) (s : State) : Host.Outcome State Fault Refusal :=
  match s.acts who, s.mtr.reg64 ofs.toNat with
  | true, some v => .next ((s.mtrCloseRead who ofs.toNat).answer who (s.mtrHigh who ofs.toNat v))
  | _, _ => .next s

/-! ### Pulse outputs (R329) -/

/-- Width of a pulse in top notes: round(W × 100,000 / PERIOD), at least 1 (R329). -/
def PulseCfg.notes (c : PulseCfg) (period : Nat) : Nat := max 1 (rndDiv (c.width * 100000 : Nat) period).toNat

/-- Residue, queue and overflow after a snapshot (R329). -/
def PulseSt.snapshot (c : PulseCfg) (e : Nat) (x : PulseSt) : PulseSt :=
  let res := x.res + (e - x.last)
  let k := min (res / max c.pc 1) (255 - x.queued)
  { x with res := res - k * c.pc, last := e, queued := x.queued + k,
           ovf := x.ovf || decide (c.pc ≤ res - k * c.pc) }

/-- Every pulse output takes the snapshot of a top tick (R329, R341). -/
def State.pulseSnapshot (s : State) : State :=
  let ps := (s.run.meter.pulses.zip s.mtr.pulses).map fun x => x.2.snapshot x.1 (s.mtr.pulseReg x.1)
  let full := (ps.zip s.mtr.pulses).any fun x => x.1.ovf && !x.2.ovf
  let s0 := ps.zipIdx.foldl (fun s x => if x.1.ovf then s.setBit (0x40180100 + 4 * x.2) 31 else s) s
  let s1 := s0.modMtr fun m => { m with pulses := ps }
  if full then s1.mtrRaise 6 else s1

/-- A pulse starts at instant 4 when the gap is over and the queue holds one (R329). -/
def PulseSt.start (wtn tnc : Nat) (x : PulseSt) : PulseSt :=
  let idle := match x.fell with | some t => decide (t + wtn ≤ tnc) | none => true
  if x.onAt.isNone && idle && decide (0 < x.queued) then { x with onAt := some tnc, queued := x.queued - 1 } else x

/-- A pulse that has been on for W_tn top notes ends at instant 4 (R329). -/
def PulseSt.stop (wtn tnc : Nat) (x : PulseSt) : PulseSt :=
  match x.onAt with
  | some t => if t + wtn ≤ tnc then { x with onAt := none, fell := some tnc } else x
  | none => x

/-- Pulses end and start at the output instant. -/
def State.pulseStarts (s : State) : State :=
  let ps := (s.run.meter.pulses.zip s.mtr.pulses).map fun x =>
    (x.2.stop (x.1.notes s.fs.period) s.fs.tnc).start (x.1.notes s.fs.period) s.fs.tnc
  s.modMtr fun m => { m with pulses := ps }

/-- Pulses that drydown cuts short: before half of W_tn the pulse returns to its queue (R330). -/
def State.cutPulses (s : State) : State :=
  s.modMtr fun m => { m with pulses := (s.run.meter.pulses.zip m.pulses).map fun x =>
    match x.2.onAt with
    | some t =>
      { x.2 with onAt := none, fell := some s.fs.tnc,
                 queued := if 2 * (s.fs.tnc - t) < x.1.notes s.fs.period then x.2.queued + 1 else x.2.queued }
    | none => x.2 }

/-! ### Mirror records (R336 to R338) -/

/-- The engine's state as a mirror record holds it (R336). -/
def State.mtrRecord (s : State) (capture : Bool) : MtrRecord :=
  let seq := max ((s.mtr.bufs.1.map (·.seq)).getD 0) ((s.mtr.bufs.2.map (·.seq)).getD 0)
  { seq := wrapInc 64 seq, capture := capture, tnc := s.fs.tnc, rtc := secReg s.rtc.t,
    points := s.mtr.pts.map fun x => { pt := x.1, e := x.2.e, ex := x.2.excluded, win := x.2.win,
                                       inc := s.run.meter.increments x.1 x.2.win }
    pulses := s.run.meter.pulses.zip s.mtr.pulses, therm := s.mtr.therm }

/-- W_m in FAB cycles (R336). -/
def State.mirrorCycles (s : State) : Nat := ceilDiv 385 s.run.mem.mtrKm * 256 + 40

/-- A record becomes valid in one of the buffers (R336). -/
def Meter.validate (toB : Bool) (r : MtrRecord) (m : Meter) : Meter :=
  { m with bufs := if toB then (m.bufs.1, some r) else (some r, m.bufs.2), newest := toB }

/-- Address of a mirror buffer in the METER region of MRAM (R336). -/
def State.mirrorAddr (s : State) (second : Bool) : Nat := if second then s.run.mem.mtrMirror.2 else s.run.mem.mtrMirror.1

/-- The engine writes a mirror buffer (R336). -/
def State.mirrorPut (second valid : Bool) (r : MtrRecord) (s : State) : State :=
  s.busWrite (Initiator.code .metering) (s.mirrorAddr second) ((Config.mirrorImage valid r).take 24576)

/-- MEMORY grants the engine the buffer that a mirror write goes to (R98, R336). -/
def State.mirrorOk (s : State) (second : Bool) : Bool := s.regionOk .metering (s.mirrorAddr second) 24576 true

/-- The mirror write that runs ends, once its time has come or, with `now_`, before anything that waits for it (R336, R337). -/
def State.settleMirror (now_ : Bool) (s : State) : State :=
  match s.mtr.writing with
  | some (t, toB, r) =>
    if now_ || decide (t ≤ s.now) then (s.mirrorPut toB true r).modMtr fun m => { m.validate toB r with writing := none } else s
  | none => s

/-- The buffer that does not hold the newest valid record is the second one. -/
def Meter.toSecond (m : Meter) : Bool := !(m.newest && m.bufs.2.isSome) && m.bufs.1.isSome

/-- A mirror write begins: VALID of the buffer that does not hold the newest valid record is cleared, and the record is valid W_m
later; a buffer that MEMORY does not grant is an access error, and source 119 asserts (R98, R336, R341). -/
def State.writeMirror (r : MtrRecord) (s0 : State) : State :=
  let s := s0.settleMirror true
  if !s.mirrorOk s.mtr.toSecond then
    (s.accessError { owner := Initiator.code .metering, access := kindCode .write, cause := 0, addr := s.mirrorAddr s.mtr.toSecond,
                     pos := s.pos }).mtrRaise 7
  else (s.mirrorPut s.mtr.toSecond false r).modMtr fun m =>
    { m with bufs := if m.toSecond then (m.bufs.1, none) else (none, m.bufs.2)
             writing := some (s.now + fabV * s.mirrorCycles, m.toSecond, r), cycles := min s.mirrorCycles 65535 }

/-- The newest valid record. -/
def Meter.latest (m : Meter) : Option MtrRecord :=
  match m.bufs with
  | (some a, some b) => some (if a.seq < b.seq then b else a)
  | (some a, none) => some a
  | (none, b) => b

/-- A capture is requested; one that is running takes it in (R337), but a request in the PERI cycle in which it ends stands (R12). -/
def State.mtrCapture (s : State) : State :=
  (if s.mtr.capReq then s.setBit 0x40180000 0 else s).modMtr fun m => { m with capReq := true }

/-- A write of MTR_CTRL.CAPTURE (R337, R342). -/
def State.mtrCtrl (w : Initiator) (v : Nat) (s : State) : State :=
  s.guardWrite (isSuperSec w) 0x40180000 w v fun s => if bitAt v 0 && s.acc.locked then s.mtrCapture else s

/-- MTR_CAPTURE_REQUEST. -/
def execMtrCaptureRequest (who : Initiator) (s : State) : Host.Outcome State Fault Refusal :=
  .next (if s.acts who then s.mtrCtrl who 1 else s)

/-- The CAPTURE record is written to the other buffer, once the windows that end on the capture edge have closed and a mirror write
that runs is complete; source 120 asserts (R337, R341). -/
def State.finishMtr (s : State) : State :=
  let s1 := s.closeWindows.settleMirror true
  (((s1.writeMirror (s1.mtrRecord true)).settleMirror true).modMtr fun m => { m with
    capReq := s.setNow 0x40180000 0, capEdge := false, skipped := 0 }).mtrRaise 8

/-- The decimation edges that have passed since the capture edge: those of the module's own counter, or of the reference group (R310,
R311). -/
def State.edgesPassed (s : State) : Nat := if s.mtrStandby then s.mtr.skipped else s.edgeCount - s.mtr.edges

/-- The engine goes on after a capture: each edge since the capture edge counts an excluded sample (R320, R337). -/
def State.resumeMtr (s : State) : State := s.finishMtr.skipEdges s.edgesPassed

/-- A capture that the module makes as it stops: the edge at which it falls, unless a capture that runs has taken its edge, and the
record (R337). -/
def State.captureMtr (bits : List (Fin 96 × List Bool)) (s : State) : State :=
  (if s.mtr.capEdge then s else s.decimEdge bits).finishMtr

/-- A pending window is settled as a short window (R338). -/
def PointSave.settle (x : PointSave) : Nat × MPoint :=
  (x.pt, { (default : MPoint) with
    e := advanceAll (x.e ++ List.replicate (7 - x.e.length) (0, 0)) x.inc
    excluded := satAdd (2 ^ 32 - 1) x.ex x.win.ex })

/-- What a restore keeps of a thermal point: its registers; its quantities are cleared (R338, R344). -/
def ThermSt.kept (x : ThermSt) : ThermSt :=
  { (default : ThermSt) with heat := x.heat, cool := x.cool, vol := x.vol, fault := x.fault }

/-- The engine when the module starts: the newest valid record restored, the outage registers written, every channel settling;
a pulse output that the record does not hold with the same binding starts at its register's value (R320, R338; DESIGN CHOICE, log
entry 59). -/
def State.mtrRestore (s : State) : State :=
  let c := s.run.meter
  let base := { Meter.reset s.mtr.bufs s.mtr.newest with
    edges := s.edgeCount, restored := true, evtEn := s.mtr.evtEn, heartAt := s.now,
    dec := c.chans.foldl (fun t (ch : ChanCfg) =>
      Tbl.set ch.ch { (default : Decim) with settle := 3, g := ch.g.getD 6 0 } t) [] }
  let info := (s.rtc.grade, (match s.mtr.latest with | some r => if r.capture then 2 else 1 | none => 0), s.sys.kind.code)
  let fresh := { base with
    pts := (c.ac.map fun p => (p.pt, (default : MPoint))) ++ (c.dc.map fun p => (32 + p.pt, (default : MPoint)))
    pulses := c.pulses.map fun _ => default
    therm := c.therm.map fun t => (t.pt, default)
    outInfo := info, outRestart := secReg s.rtc.t }
  match s.mtr.latest with
  | none => ({ s with mtr := fresh }).mtrRaise 11
  | some r =>
    let d1 : Meter := { fresh with
        outCapture := r.rtc
        pts := (fresh.pts.map fun x => match r.points.find? fun y => y.pt == x.1 with | some y => y.settle | none => x)
          ++ (r.points.filter fun y => !fresh.pts.any fun x => x.1 == y.pt).map PointSave.settle
        therm := (fresh.therm.map fun x => match r.therm.find? fun y => y.1 == x.1 with | some y => (y.1, y.2.kept) | none => x)
          ++ (r.therm.filter fun y => !fresh.therm.any fun x => x.1 == y.1).map fun y => (y.1, y.2.kept) }
    let d2 : Meter := { d1 with pulses := c.pulses.map fun p => match r.pulses.find? fun y => y.1 == p with
      | some y => { y.2 with onAt := none, fell := none }
      | none => { (default : PulseSt) with last := d1.pulseReg p } }
    ({ s with mtr := d2 }).mtrRaise 11

/-! ### Snapshot record and registers (R340, R342, R343) -/

/-- Bits of the points of a range with a quality. -/
def Meter.qualBits (m : Meter) (base n : Nat) (q : Quality) : Nat :=
  packBits ((List.range n).map fun k => match Tbl.get? (base + k) m.pts with | some x => x.qual == q | none => false)

/-- The snapshot record is handed to producer 6 (R340). -/
def State.mtrSnapshot (s0 : State) : State :=
  let s := s0.settleMirror false
  let m := s.mtr
  let d := toLe 4 s.fs.tnc ++ toLe 4 (m.edges - m.startEdges) ++ toLe 4 (m.qualBits 0 32 .bad)
    ++ toLe 4 (m.qualBits 0 32 .subst) ++ toLe 2 (m.qualBits 32 16 .bad) ++ toLe 2 (m.qualBits 32 16 .subst)
    ++ toLe 2 (packBits m.lost.toList) ++ toLe 2 (packBits m.fallback.toList)
    ++ toLe 2 (packBits (m.pulses.map (·.ovf))) ++ zeros 2 ++ toLe 4 ((m.latest.map (·.seq)).getD 0) ++ zeros 32
  (s.postRec 6 { data := d, role := s.run.meter.dest, epoch := s.pairs.epochOf s.run.meter.dest }).mtrRaise 0

/-- A word of an AC or DC point's quantities (R343). -/
def MPoint.word (x : MPoint) (dc : Bool) (o : Nat) : Nat :=
  let k := if dc then 3 else 20
  if o < k then (x.q[o]?).getD 0
  else if o = k then
    put x.qual.code 0 2 + (if dc then 0 else put x.fq.code 2 2) + flag x.exceeded 4 + flag x.fall 5
  else if o = k + 1 then x.windows
  else if o = k + 2 then x.excluded
  else 0

/-- A word of a thermal point's quantities (R343). -/
def ThermSt.word (x : ThermSt) (o : Nat) : Nat :=
  if o = 0 then ofSigned 32 x.tf else if o = 1 then ofSigned 32 x.tr else if o = 2 then x.flow
  else if o = 3 then ofSigned 32 x.power else if o = 4 then put x.qual.code 0 2 + flag x.rev 2
  else if o = 5 then x.notes else 0

/-- The newest valid record as the registers show it: none before the restore after a reset (R344). -/
def Meter.shown (m : Meter) : Option MtrRecord := if m.restored then m.latest else none

/-- MTR_STATUS. -/
def State.mtrStatus (s : State) : Nat :=
  let m := s.mtr
  flag (m.dec.any fun x => decide (0 < x.2.settle)) 31 + flag (m.capEdge || m.writing.isSome) 30
    + flag (match m.shown with | some r => r.capture | none => false) 29 + flag s.mtrStandby 28
    + put (packBits m.fallback.toList) 16 12 + put (packBits m.lost.toList) 0 12

/-- Bits of 32 channels from `b`. -/
def chanBits (f : Nat → Bool) (b : Nat) : Nat := packBits ((List.range 32).map fun k => f (b + k))

/-- The value of an MTR register as an initiator reads it. -/
def State.mtrRead (s0 : State) (w : Initiator) (ofs : Nat) : Nat :=
  let s := s0.settleMirror false
  let m := s.mtr
  match m.reg64 ofs with
  | some v => v % 2 ^ 32
  | none =>
    match (if ofs % 8 = 4 then m.reg64 (ofs - 4) else none) with
    | some v => s.mtrHigh w (ofs - 4) v
    | none =>
      if ofs = 0x00 then flag m.capReq 0
      else if ofs = 0x04 then s.mtrStatus
      else if 0x08 ≤ ofs ∧ ofs < 0x14 then chanBits (fun c => (m.decim c).stuck) ((ofs - 8) / 4 * 32)
      else if 0x14 ≤ ofs ∧ ofs < 0x20 then chanBits (fun c => m.ovr.contains c) ((ofs - 0x14) / 4 * 32)
      else if ofs = 0x20 then m.evtEn
      else if ofs = 0x24 then ((m.shown.map (·.seq)).getD 0) % 2 ^ 32
      else if ofs = 0x28 then flag (m.restored && m.newest) 16 + put m.cycles 0 16
      else if ofs = 0x2C then m.temp
      else if ofs = 0x30 then m.outCapture
      else if ofs = 0x34 then m.outRestart
      else if ofs = 0x38 then put m.outInfo.1 30 2 + put m.outInfo.2.1 28 2 + put m.outInfo.2.2 24 4
      else if 0x100 ≤ ofs ∧ ofs < 0x140 then
        match m.pulses[(ofs - 0x100) / 4]? with
        | some x => flag x.ovf 31 + flag x.onAt.isSome 30 + put x.queued 16 8
        | none => 0
      else if 0x4000 ≤ ofs ∧ ofs < 0x5000 then (m.pt ((ofs - 0x4000) / 128)).word false (ofs % 128 / 4)
      else if 0x5000 ≤ ofs ∧ ofs < 0x5200 then (m.pt (32 + (ofs - 0x5000) / 32)).word true (ofs % 32 / 4)
      else if 0x6000 ≤ ofs ∧ ofs < 0x8000 then (Tbl.getD m.therm ((ofs - 0x6000) / 32) default).word (ofs % 32 / 4)
      else 0

/-- The effect of a read on the initiator's frozen words (R327). -/
def State.mtrTouch (s : State) (w : Initiator) (ofs : Nat) : State :=
  match s.mtr.reg64 ofs with
  | some v => s.mtrOpen w ofs v
  | none => if ofs % 8 = 4 ∧ (s.mtr.reg64 (ofs - 4)).isSome then s.mtrCloseRead w (ofs - 4) else s

/-- A write of an MTR register (R342). -/
def State.mtrWrite (s : State) (w : Initiator) (ofs v : Nat) : State :=
  if ofs = 0 then s.mtrCtrl w v
  else s.guardWrite (s.granted w 0x18) (0x40180000 + ofs) w v fun s =>
    let v := if ofs = 0x20 then v else s.clears (0x40180000 + ofs) v
    s.modMtr fun m =>
    if 0x14 ≤ ofs ∧ ofs < 0x20 then
      let b := (ofs - 0x14) / 4 * 32
      { m with ovr := m.ovr.filter fun c => !(decide (b ≤ c) && decide (c < b + 32) && bitAt v (c - b)) }
    else if ofs = 0x20 then { m with evtEn := fld v 11 0 }
    else if 0x100 ≤ ofs ∧ ofs < 0x140 ∧ bitAt v 31 then
      { m with pulses := m.pulses.modify ((ofs - 0x100) / 4) fun x => { x with ovf := false } }
    else m

end Sys2Proof.Machine
end

