-- ==== Sys2Proof/Machine/Latch.lean ====
section
/-! DEFINITION. The input latch at instant 1: the value and quality of every source, the input tables of the loop engines and
the input images of the tasks that are due (R36, R222, R230, R248, R263, R272, R273, R281, R399). -/

namespace Sys2Proof.Machine

/-- The quality of a published metering word (R322, R333, R343). -/
def State.meterQuality (s : State) (w : Nat) : Quality :=
  let o := 4 * w
  if 0x4000 ≤ o ∧ o < 0x5000 then
    let x := s.mtr.pt ((o - 0x4000) / 128)
    if o % 128 / 4 = 19 then x.fq else x.qual
  else if 0x5000 ≤ o ∧ o < 0x5200 then (s.mtr.pt (32 + (o - 0x5000) / 32)).qual
  else if 0x6000 ≤ o ∧ o < 0x8000 then (Tbl.getD s.mtr.therm ((o - 0x6000) / 32) default).qual
  else .good

/-- The station of a bound source. -/
def State.stnAt (s : State) (port i : Nat) : Option Station :=
  if h : port < 8 then s.can[(⟨port, h⟩ : Fin 8)].stn? i else none

/-- A value of the published network state: the accepted solution, then the transport result (R222). -/
def State.netValue (s : State) (k pos : Nat) : Int × Quality :=
  match s.plan.pub[k]? with
  | some x =>
    if pos < x.sol.length then (x.sol.getD pos 0, x.quality)
    else ((x.arr.getD (pos - x.sol.length) 0), if x.quality = .bad then .bad else x.arrQ)
  | none => (0, .bad)

/-- A set-point item of a partition's output image (R248, R271). -/
def State.setpt (s : State) (part item : Nat) : Int × Quality :=
  (Tbl.get? (65536 * part + item) s.prog.setpts).getD (0, .bad)

/-- The fallback partition is in RECOVERY (R279). -/
def State.fallbackDown (s : State) : Bool :=
  match s.prog.p.toList[s.run.str.fallback - 1]? with | some x => x.recovery | none => false

/-- The committed target of a plan variable (R230). -/
def State.target (s : State) (var : Nat) : Int := ((s.plan.image.find? fun x => x.1 == var).map (·.2)).getD 0

/-- A value that the fallback partition writes for the dispatch at level RULES (R28, R279). -/
def State.fallbackVal (s : State) (item : Nat) : Int × Quality :=
  let v := s.setpt s.run.str.fallback item
  (v.1, if s.fallbackDown then .bad else v.2)

/-- The value and quality of a source at instant 1 (R29, R222, R230, R273, R281). -/
def State.srcVal (s : State) : Src → Int × Quality
  | .none => (0, .bad)
  | .station port st k => s.stnValue port st k
  | .stationWord port st w => s.stnWord port st w
  | .meter w => (toSigned 32 (s.mtrRead .metering (4 * w)), s.meterQuality w)
  | .substation k q => s.substValue k q
  | .net k pos => s.netValue k pos
  | .program part item => s.setpt part item
  | .stationState port i =>
    match s.stnAt port i with | some x => ((x.lState.code + 256 * x.lWord % 2 ^ 32 : Nat), .good) | none => (0, .bad)
  | .stationAge port i =>
    match s.stnAt port i with | some x => ((x.lAge : Int), .good) | none => (0, .bad)
  | .target var => (s.target var, levelQuality s.plan.level)
  | .level => ((s.plan.level : Int), .good)
  | .sys k =>
    ((if k = 0 then s.fs.tnc else if k = 1 then s.fs.bnc else if k = 2 then s.fs.hpos
      else if k = 3 then s.fs.bpos else if k = 4 then s.sys.state.code else if k = 5 then secReg s.rtc.t
      else if k = 6 then timeReg s.rtc.t else dateReg s.rtc.t : Nat), .good)
  | .staggerWait key => ((if s.prog.waiting key then 1 else 0), .good)
  | .dioCount ch => s.dioCount ch
  | .dio ch => s.dioValue ch
  | .dispatch var gain ofs item =>
    if s.plan.rules then s.fallbackVal item
    else (sat32 (gain29 (s.target var) gain + ofs), levelQuality s.plan.level)
  | .flex g q => (Tbl.getD (if q = 0 then s.plan.groupShifts else s.plan.lag) g 0, .good)
  | .loopOut kind entry => (Tbl.get? (outKey kind entry) s.loops.eff).getD (0, .bad)

/-- The source is the dispatch. -/
def Src.isDispatch : Src → Bool
  | .dispatch _ _ _ _ => true
  | .none | .station _ _ _ | .stationWord _ _ _ | .meter _ | .substation _ _ | .net _ _ | .program _ _ | .stationState _ _
  | .stationAge _ _ | .target _ | .level | .sys _ | .staggerWait _ | .dioCount _ | .dio _ | .flex _ _ | .loopOut _ _ => false

/-- A bound entry of an engine's input table is filled. Under TAKEOVER both tables hold the entries of both engines; in TEST the
set-point entries of the dispatch keep their values. An entry is a word of 32 bits: it holds the low bits of a longer value (R263,
R275; DESIGN CHOICE, log entry 62). -/
def State.latchEntry (s : State) (b : Nat × Nat × Src) : State :=
  if b.2.2.isDispatch && s.sys.state == .test then s
  else
    let v := let x := s.srcVal b.2.2; (toSigned 32 (x.1 % 2 ^ 32).toNat, x.2)
    (List.finRange 2).foldl (fun s n =>
      if n.val = b.1 ∨ s.run.loops.takeover then s.modLe n fun e => { e with inp := Tbl.set b.2.1 v e.inp } else s) s

/-- The value of one input item: a variable that Modbus wrote holds the latched value with quality GOOD (R399). -/
def State.inputItem (s : State) (p : Fin 4) (b : PartBind) (t pos : Nat) (src : Src) : Int × Quality :=
  match src with
  | .none =>
    match b.inSym.find? fun x => x.2.1 == t && x.2.2 == pos with
    | some x =>
      match s.net.mbImg.find? fun m => m.1 == p.val + 1 && m.2.1 == x.1 with
      | some m => (toSigned 32 m.2.2, .good)
      | none => (0, .bad)
    | none => (0, .bad)
  | src => s.srcVal src

/-- The input images of a partition's due tasks (R272, R273). -/
def State.latchPart (s : State) (p : Fin 4) : State :=
  match s.partCfg p with
  | some c => (List.finRange 8).foldl (fun s t =>
      match c.tasks[t.val]? with
      | some k =>
        if s.fs.tnc % k.period = 0 then
          s.modPart p fun x => x.modTask t fun y =>
            { y with latched := ((c.bind.ins[t.val]?).getD []).mapIdx fun i src => s.inputItem p c.bind t.val i src }
        else s
      | none => s) s
  | none => s

/-- The input latch of instant 1 (R36). -/
def State.latchInputs (s : State) : State :=
  (List.finRange 4).foldl State.latchPart (s.run.loops.binds.foldl State.latchEntry s)

/-- Modbus writes enter the input images (R399). -/
def State.latchModbus (s : State) : State :=
  s.modNet fun n => { n with
    mbImg := n.mbWait.foldl (fun m x => m.filter (fun y => !(y.1 == x.1 && y.2.1 == x.2.1)) ++ [x]) n.mbImg, mbWait := [] }

end Sys2Proof.Machine
end

