-- ==== Sys2Proof/Machine/SolverOps.lean ====
section
/-! DEFINITION. The numbers, blocks and operations of a solver engine (R131 to R148). -/

namespace Sys2Proof.Machine

/-! ### Numbers (R131 to R137) -/

/-- The exact value num × 2^(−k): rounded to nearest, ties to even, for k > 0; shifted left for k ≤ 0 (R133). -/
def shiftRnd (num : Int) (k : Int) : Int :=
  if 0 < k then rndDiv num (2 ^ k.toNat) else num * (2 ^ (-k).toNat : Nat)

/-- The smallest width of a two's-complement integer that holds a value (R137). -/
def width (x : Int) : Nat := (if x < 0 then Nat.log2 ((-x - 1).toNat) + (if x = -1 then 0 else 1)
  else Nat.log2 x.toNat + (if x = 0 then 0 else 1)) + 1

/-- The reciprocal of X at scale sx, at scale sr: round(2^(sx + sr) / X); X = 0 gives 2^31 − 1 (R135). The second part says
that the write counts as a saturation. -/
def recipAt (x : Int) (sx sr : Nat) : Int × Bool :=
  if x = 0 then (2147483647, true)
  else
    let q := if 0 < x then rndDiv (2 ^ (sx + sr) : Nat) x.toNat else -rndDiv (2 ^ (sx + sr) : Nat) (-x).toNat
    (q, saturates q)

/-- The root of x / d rounded to nearest, ties to even: r is the root of the floored quotient, and x / d is compared with
(r + 1/2)² exactly. -/
def sqrtRnd (x d : Nat) : Nat :=
  let r := isqrt (x / d)
  let h := (2 * r + 1) * (2 * r + 1) * d
  if 4 * x < h then r else if h < 4 * x then r + 1 else if r % 2 = 0 then r else r + 1

/-- The square root of X at scale sx, at scale sr: round(√(X × 2^(2 sr − sx))); a negative X gives 0 and counts as one
saturation (R135). -/
def sqrtAt (x : Int) (sx sr : Nat) : Int × Bool :=
  if x < 0 then (0, true)
  else
    let q : Int := sqrtRnd (x.toNat * 2 ^ (2 * sr - sx)) (2 ^ (sx - 2 * sr))
    (q, saturates q)

/-! ### Blocks (R129, R139, R140) -/

/-- Base address of the solver SRAM of an engine (R95). -/
def seBase (n : Fin 4) : Nat := 0x20000000 + n.val * 0x1000000

/-- A field of a problem's directory entry (R140). -/
def State.dirField (s : State) (n : Fin 4) (prob o k : Nat) : Nat := Mem.le s.mem (seBase n + 64 * prob + o) k

/-- Address of block descriptor `i` of a problem (R139, R140). -/
def State.blkDesc (s : State) (n : Fin 4) (prob i : Nat) : Nat := seBase n + s.dirField n prob 4 4 + 32 * i

/-- A block as the operations see it. -/
structure Blk where
  /-- Address of the data. -/
  base : Nat
  /-- KIND. -/
  kind : Nat
  /-- SCALE. -/
  scale : Nat
  /-- BLOCK_ID. -/
  id : Nat
  /-- ROWS. -/
  rows : Nat
  /-- COLS. -/
  cols : Nat
  /-- PARTS. -/
  parts : Nat
  /-- BYTES. -/
  bytes : Nat
  /-- SCALE2. -/
  scale2 : Nat
  deriving DecidableEq, Repr

/-- The block that a descriptor in solver SRAM gives (R139). -/
def Mem.blk (m : Mem) (base a : Nat) : Blk :=
  { base := base + Mem.le m a 4, kind := Mem.le m (a + 4) 1, scale := Mem.le m (a + 5) 1 % 64, id := Mem.le m (a + 6) 2,
    rows := Mem.le m (a + 8) 4, cols := Mem.le m (a + 12) 4, parts := Mem.le m (a + 16) 4, bytes := Mem.le m (a + 20) 4,
    scale2 := Mem.le m (a + 24) 1 % 64 }

/-- Block `i` of a problem (R139). -/
def State.blk (s : State) (n : Fin 4) (prob i : Nat) : Blk := Mem.blk s.mem (seBase n) (s.blkDesc n prob i)

/-- Elements of a vector or scalar block. -/
def Blk.len (b : Blk) : Nat := if b.kind = 4 then 1 else b.rows

/-- The words of a block. -/
def State.words (s : State) (b : Blk) : List Int := Mem.s32s s.mem b.base (if b.kind = 0 ∨ b.kind = 4 then b.len else b.bytes / 4)

/-- V(n) = ⌈n / 64⌉. -/
def vlen (n : Nat) : Nat := ceilDiv n 64

/-- The headroom entry of a block after writes: the rounded values before saturation, and saturations that R135 counts for a
value that fits (R137). -/
def State.headroom (s : State) (n : Fin 4) (id : Nat) (vals : List Int) (extra : Nat) : State :=
  let a := seBase n + 0x77C000 + 4 * id
  let e := Mem.le s.mem a 4
  let peak := vals.foldl (fun p x => max p (width x)) (fld e 31 24)
  let sats := satAdd 65535 (fld e 15 0) (vals.countP saturates + extra)
  if vals.isEmpty then s
  else { s with mem := Mem.writeN s.mem a (toLe 4 (put (min peak 127) 24 8 + put sats 0 16)) }

/-- The 8 copies of the gather store after a vector was written to it (R128, R129). -/
def State.gatherWrite (s : State) (n : Fin 4) (vals : List Int) : State :=
  { s with mem := (List.range 8).foldl (fun m c => Mem.putS32s m (seBase n + 0x780000 + 0x10000 * c) vals) s.mem }

/-- Rounded values written to consecutive words of a block, saturated, with the headroom entry; the count of saturated elements
comes with the state (R133, R134, R137). -/
def State.putAt (s : State) (n : Fin 4) (id addr : Nat) (vals : List Int) (extra : Nat) : State × Nat :=
  (({ s with mem := Mem.putS32s s.mem addr (vals.map sat32) }).headroom n id vals extra, vals.countP saturates + extra)

/-- A write-back of rounded values to a block, and to the gather store when the block is a gather operand (R133, R137, R142). -/
def State.writeBack (s : State) (n : Fin 4) (gather : Bool) (b : Blk) (vals : List Int) (extra : Nat) : State × Nat :=
  let r := s.putAt n b.id b.base vals extra
  (if gather then r.1.gatherWrite n (vals.map sat32) else r.1, r.2)

/-! ### Sliced-row format (R141, R142) -/

/-- Slice `i` of an SRF matrix: width, first row, rows. -/
def State.slice (s : State) (b : Blk) (i : Nat) : Nat × Nat × Nat :=
  (Mem.le s.mem (b.base + 16 * i) 4, Mem.le s.mem (b.base + 16 * i + 4) 4, Mem.le s.mem (b.base + 16 * i + 8) 4)

/-- Address of the slice data of an SRF matrix. -/
def Blk.srfData (b : Blk) : Nat := b.base + ceilDiv (16 * b.parts) 256 * 256

/-- Address of slice `i`'s data: the slices before it take 512 bytes a step. -/
def State.sliceAt (s : State) (b : Blk) (i : Nat) : Nat :=
  b.srfData + 512 * ((List.range i).map fun j => (s.slice b j).1).sum

/-- One row of an SRF product: the exact sum of entries times gathered elements. -/
def State.srfRow (s : State) (n : Fin 4) (data w lane : Nat) : Int :=
  ((List.range w).map fun j =>
    Mem.s32 s.mem (data + 256 * j + 4 * lane)
      * Mem.s32 s.mem (seBase n + 0x780000 + 4 * Mem.le s.mem (data + 256 * w + 256 * j + 4 * lane) 4)).sum

/-- The exact rows of an SRF product. -/
def State.srf (s : State) (n : Fin 4) (b : Blk) : List Int :=
  (List.range b.parts).flatMap fun i =>
    let sl := s.slice b i
    (List.range sl.2.2).map fun lane => s.srfRow n (s.sliceAt b i) sl.1 lane

/-- Σ over slices (L_s + 4) (R144). -/
def State.srfCost (s : State) (b : Blk) : Nat := ((List.range b.parts).map fun i => (s.slice b i).1 + 4).sum

/-! ### Operations (R144) -/

/-- Element-wise sum of two vectors aligned to the larger scale, exact at that scale (R132). -/
def alignOp (f : Int → Int → Int) (a b : List Int) (sa sb : Nat) : List Int :=
  let m := max sa sb
  (a.zip b).map fun p => f (p.1 * (2 ^ (m - sa) : Nat)) (p.2 * (2 ^ (m - sb) : Nat))

/-- A list cut or filled with zeros to a length. -/
def fit (k : Nat) (l : List Int) : List Int := (l ++ List.replicate k 0).take k

/-- Cycles of FSOLVE and BSOLVE over supernodes of c columns and r rows (R144). -/
def triCost (sn : List (Nat × Nat)) : Nat :=
  8 + (sn.map fun p => ((List.range p.1).map fun k => vlen (p.2 - k - 1) + 3).sum).sum

/-- P_j of FACT (R144). -/
def panelCost (c r : Nat) : Nat :=
  ((List.range c).map fun k =>
    26 + vlen (r - k - 1) + ((List.range (c - k - 1)).map fun i => vlen (r - (k + 1 + i))).sum).sum

/-- E_j of FACT (R144). -/
def updateCost (c r : Nat) : Nat := ((List.range (r - c)).map fun t => c * vlen (r - c - t) + 4).sum

/-- Cycles of TRANSPORT: 8 + Σ over groups of 64 segments (P_g + 6), from the largest parcel count of each group, at most
64 (R144). -/
def transportCost (groups : List Nat) : Nat := 8 + (groups.map fun p => min p 64 + 6).sum

/-- Cycles of RLS (R144). -/
def rlsCost (g p : Nat) : Nat := 12 + vlen g * (p * p + 3 * p + 24)

/-! ### Parcels (R217, R218) -/

/-- A parcel: mass, temperature and birth (R217). -/
structure Parcel where
  /-- Mass. -/
  mass : Int
  /-- Temperature. -/
  temp : Int
  /-- Birth: a heart-note index. -/
  birth : Int
  deriving DecidableEq, Repr

/-- Two parcels merged, mass-weighted; each mean is rounded as R133 rounds a result (R218). -/
def Parcel.merge (a b : Parcel) : Parcel :=
  let m := a.mass + b.mass
  { mass := m, temp := rndDiv (a.mass * a.temp + b.mass * b.temp) m.toNat,
    birth := rndDiv (a.mass * a.birth + b.mass * b.birth) m.toNat }

/-- What moves in one segment in one heart note, as the role writes it for the job: the mass moved, positive from the from-node
(0 for a flow below QMIN), temperature and birth of the upstream node, ground temperature, a_s in 2^−30, PARCEL_MIN as a mass,
and the heart-note index (R218). -/
structure SegIn where
  /-- Mass moved, signed. -/
  mass : Int
  /-- Temperature of the upstream node. -/
  temp : Int
  /-- Birth of the upstream node. -/
  birth : Int
  /-- T_g. -/
  ground : Int
  /-- a_s in 2^−30. -/
  decay : Int
  /-- PARCEL_MIN. -/
  least : Int
  /-- Heart-note index. -/
  index : Int
  deriving DecidableEq, Repr

/-- Step 1: the inflow is a new parcel at the upstream end, or is merged into the youngest one when it is below PARCEL_MIN. The
list has the youngest parcel first. -/
def enterParcel (x : Parcel) (least : Int) : List Parcel → List Parcel
  | [] => [x]
  | p :: ps => if x.mass < least then p.merge x :: ps else x :: p :: ps

/-- Step 2 on a list with the oldest parcel first: an equal mass leaves, and the last parcel touched is split. What left comes
second. -/
def leaveParcels : List Parcel → Int → List Parcel × List Parcel
  | [], _ => ([], [])
  | p :: ps, m =>
    if m ≤ 0 then (p :: ps, [])
    else if p.mass ≤ m then let r := leaveParcels ps (m - p.mass); (r.1, p :: r.2)
    else ({ p with mass := p.mass - m } :: ps, [{ p with mass := m }])

/-- Step 3 on a list with the oldest parcel first: the two oldest merge while there are more than 64. -/
def mergeOldest : Nat → List Parcel → List Parcel
  | 0, ps => ps
  | k + 1, p :: q :: ps => if 64 < (p :: q :: ps).length then mergeOldest k (p.merge q :: ps) else p :: q :: ps
  | _ + 1, ps => ps

/-- Step 4: the temperature relaxes towards the ground (R218). -/
def Parcel.relax (ground decay : Int) (p : Parcel) : Parcel :=
  { p with temp := ground + rndDiv ((p.temp - ground) * decay) (2 ^ 30) }

/-- One segment advanced by one heart note: its parcels from the from-node's end on, and the parcels that left (R218). -/
def advanceSegment (i : SegIn) (ps : List Parcel) : List Parcel × List Parcel :=
  if i.mass = 0 then (ps.map (Parcel.relax i.ground i.decay), [])
  else
    let young := if 0 < i.mass then ps else ps.reverse
    let m := absI i.mass
    let inn := enterParcel { mass := m, temp := i.temp, birth := i.birth } i.least young
    let r := leaveParcels inn.reverse m
    let kept := ((mergeOldest r.1.length r.1).map (Parcel.relax i.ground i.decay)).reverse
    (if 0 < i.mass then kept else kept.reverse, r.2)

/-- The mass-weighted temperature and age of the mass that left a segment; where nothing left the manual states neither, and
both are free values of the segment's parcels (DESIGN CHOICE, log entry 55). -/
def segmentReport (i : SegIn) (ps left : List Parcel) : Int × Int :=
  let m := (left.map (·.mass)).sum
  if m = 0 then Config.stillSegment (ps.flatMap fun p => [p.mass, p.temp, p.birth])
  else
    (rndDiv (left.map fun p => p.mass * p.temp).sum m.toNat, i.index - rndDiv (left.map fun p => p.mass * p.birth).sum m.toNat)

/-- The parcels that 256 words of a segment hold; one without mass is absent. -/
def parcelsOf (ws : List Int) : List Parcel :=
  (List.range 64).filterMap fun k =>
    let m := ws.getD (4 * k) 0
    if m = 0 then none else some { mass := m, temp := ws.getD (4 * k + 1) 0, birth := ws.getD (4 * k + 2) 0 }

/-- The 256 words of a segment's parcels. -/
def parcelWords (ps : List Parcel) : List Int :=
  let ws := (ps.take 64).flatMap fun p => [p.mass, p.temp, p.birth, 0]
  ws ++ List.replicate (256 - ws.length) 0

/-- The inputs of one segment from its 8 words. -/
def SegIn.ofWords (ws : List Int) : SegIn :=
  { mass := ws.getD 0 0, temp := ws.getD 1 0, birth := ws.getD 2 0, ground := ws.getD 3 0, decay := ws.getD 4 0,
    least := ws.getD 5 0, index := ws.getD 6 0 }

/-- A list cut into pieces of `k` elements, `n` of them. -/
def chunks {α : Type} (k : Nat) (l : List α) : Nat → List (List α)
  | 0 => []
  | n + 1 => l.take k :: chunks k (l.drop k) n

/-- TRANSPORT on the words of the parcels and of the segments' inputs: the new parcels, two words of report for each segment,
and the largest parcel count of each group of 64 segments (R144, R218). -/
def transportRun (parcels inputs : List Int) (segs : Nat) : List Int × List Int × List Nat :=
  let ins := (chunks 8 inputs segs).map SegIn.ofWords
  let old := (chunks 256 parcels segs).map parcelsOf
  let res := (ins.zip old).map fun p => (p.1, p.2, advanceSegment p.1 p.2)
  (res.flatMap fun r => parcelWords r.2.2.1,
    res.flatMap fun r => let x := segmentReport r.1 r.2.1 r.2.2.2; [x.1, x.2],
    (chunks 64 (old.map List.length) (vlen segs)).map fun g => g.foldl max 0)

/-! ### Factors (R143, R181) -/

/-- The declared problem of an engine. -/
def State.problem (s : State) (n : Fin 4) (p : Nat) : ProblemCfg :=
  (s.run.solve.problems.find? fun c => c.engine == n.val && c.problem == p).getD default

/-- The cached factor of a problem: valid bit and selector (R181). -/
def SolverEngine.cached (e : SolverEngine) (p : Nat) : Bool × Bool :=
  ((e.cache.find? fun c => c.1 == p).map (·.2)).getD (false, false)

/-- The problem admits the continuing class and so holds two factor buffers (R181). -/
def State.twoFactors (s : State) (n : Fin 4) (p : Nat) : Bool := bitAt (s.dirField n p 1 1) 1

/-- A factor buffer of a stage: the second one, or the first. -/
def ProblemCfg.factorAt (p : ProblemCfg) (st : Nat) (second : Bool) : Nat :=
  let f := p.factor.getD st (0, 0)
  if second then f.2 else f.1

/-- The block that a FACT of a stage fills: the buffer that is not the cached one (R181). -/
def State.newFactor (s : State) (n : Fin 4) (p st : Nat) : Nat :=
  (s.problem n p).factorAt st (s.twoFactors n p && !(s.se[n].cached p).2)

/-- The factor block that a solve of a stage reads: the one under construction while the factorisation is not complete, and the
cached one otherwise (R181). -/
def State.factorBlk (s : State) (n : Fin 4) (p st : Nat) : Nat :=
  let built := match s.se[n].job with | some j => j.built | none => 0
  if st < built then s.newFactor n p st
  else (s.problem n p).factorAt st (s.twoFactors n p && (s.se[n].cached p).2)

/-- A supernode as its header in the factor block gives it (R143). -/
structure SuperNode where
  /-- First column. -/
  first : Nat
  /-- Columns c_j. -/
  cols : Nat
  /-- Rows r_j. -/
  rows : Nat
  /-- Address of the dense panel. -/
  panel : Nat
  deriving DecidableEq, Repr

/-- Address of entry `i` of column `k` of a panel: each column is padded to a multiple of 64 entries. -/
def SuperNode.entry (x : SuperNode) (k i : Nat) : Nat := x.panel + 256 * vlen x.rows * k + 4 * i

/-- Bytes of a supernode: header, row indices, panel. -/
def SuperNode.bytes (x : SuperNode) : Nat := 32 + 4 * x.rows + 256 * vlen x.rows * x.cols

/-- The supernode whose header stands at an address. -/
def Mem.superNode (m : Mem) (a : Nat) : SuperNode :=
  { first := Mem.le m a 4, cols := Mem.le m (a + 4) 4, rows := Mem.le m (a + 8) 4, panel := a + 32 + 4 * Mem.le m (a + 8) 4 }

/-- The supernodes of a factor, one after the other from an address (R143; DEDUCED, log entry 55). -/
def Mem.superNodes (m : Mem) (a : Nat) : Nat → List SuperNode
  | 0 => []
  | k + 1 => let x := Mem.superNode m a; x :: Mem.superNodes m (a + x.bytes) k

/-- The supernodes of a factor block. -/
def State.superNodes (s : State) (b : Blk) : List SuperNode := Mem.superNodes s.mem b.base b.parts

/-- Columns and rows of the supernodes, from which the costs follow. -/
def State.nodeSizes (s : State) (b : Blk) : List (Nat × Nat) := (s.superNodes b).map fun x => (x.cols, x.rows)

/-- The stored reciprocal pivots of a factor in elimination order (R143). -/
def State.recips (s : State) (b : Blk) : List Int :=
  (s.superNodes b).flatMap fun x => (List.range x.cols).map fun k => Mem.s32 s.mem (x.entry k k)

/-! ### Operations (R144) -/

/-- One model of RLS: θ, φ, sample and weight from its input words and its covariance; weight 0 is no update (R235, R236). -/
def rlsModel (lambda p sq sw sd : Nat) (q ws : List Int) : List Int × List Int :=
  if ws.getD (2 * p + 1) 0 = 0 then ((ws.take p).map fun v => shiftRnd v ((sw : Int) - sd), q)
  else
    let r := Config.rlsModel lambda (q, sq) (ws, sw) sd
    (fit p r.1, fit (p * p) r.2)

/-- What an operation writes: destination block and rounded values before saturation, with the saturations that R135 counts
beyond them; and its cycles (R144). FACT and XCHG are not among them. The triple product of HEADLOSS is rounded once, from its exact
value (R148 states no other rounding; DESIGN CHOICE, log entry 55). -/
def State.opResult (s : State) (n : Fin 4) (prob : Nat) (op : SolverOp) : List (Nat × List Int × Nat) × Nat :=
  let b := s.blk n prob
  let w := fun i => s.words (b i)
  let sc := fun i => ((b i).scale : Int)
  let un := fun (d a : Nat) (f : Int → Int × Bool) =>
    let r := (w a).map f
    [(d, r.map (·.1), r.countP fun x => x.2 && !saturates x.1)]
  match op with
  | .spmv y a x =>
    ([(y, (s.srf n (b a)).map fun v => shiftRnd v (sc a + sc x - sc y), 0)], s.srfCost (b a))
  | .assemble d p x =>
    ([(d, (s.srf n (b p)).map fun v => shiftRnd v (sc p + sc x - sc d), 0)], s.srfCost (b p))
  | .loadg x => ([], vlen (b x).len + 6)
  | .vadd d x y =>
    ([(d, (alignOp (· + ·) (w x) (w y) (b x).scale (b y).scale).map fun v =>
      shiftRnd v (max (sc x) (sc y) - sc d), 0)], vlen (b d).len + 4)
  | .vsub d x y =>
    ([(d, (alignOp (· - ·) (w x) (w y) (b x).scale (b y).scale).map fun v =>
      shiftRnd v (max (sc x) (sc y) - sc d), 0)], vlen (b d).len + 4)
  | .vscale d x c =>
    ([(d, (w x).map fun v => shiftRnd (v * (w c).headD 0) (sc x + sc c - sc d), 0)], vlen (b d).len + 4)
  | .vmul d x y =>
    ([(d, ((w x).zip (w y)).map fun p => shiftRnd (p.1 * p.2) (sc x + sc y - sc d), 0)], vlen (b d).len + 4)
  | .copy d x => ([(d, (w x).map fun v => shiftRnd v (sc x - sc d), 0)], vlen (b d).len + 4)
  | .boxproj d x lo hi =>
    ([(d, ((w x).zip ((w lo).zip (w hi))).map fun p =>
      clampI (shiftRnd p.1 (sc x - sc d)) (shiftRnd p.2.1 (sc lo - sc d)) (shiftRnd p.2.2 (sc hi - sc d)), 0)],
      vlen (b d).len + 4)
  | .dot d x y =>
    ([(d, [shiftRnd ((w x).zip (w y) |>.map fun p => p.1 * p.2).sum (sc x + sc y - sc d)], 0)], vlen (b x).len + 10)
  | .norm2sq d x =>
    ([(d, [shiftRnd ((w x).map fun v => v * v).sum (2 * sc x - sc d)], 0)], vlen (b x).len + 10)
  | .norminf d x =>
    ([(d, [shiftRnd ((w x).foldl (fun m v => max m (absI v)) 0) (sc x - sc d)], 0)], vlen (b x).len + 10)
  | .vrecip d x => (un d x fun v => recipAt v (b x).scale (b d).scale, 6 * vlen (b x).len + 8)
  | .recip d x => (un d x fun v => recipAt v (b x).scale (b d).scale, 24)
  | .sqrt d x => (un d x fun v => sqrtAt v (b x).scale (b d).scale, 24)
  | .headloss h j k q =>
    let qmin : Int := s.dirField n prob 0x20 4
    ([(h, ((w k).zip (w q)).map fun p => shiftRnd (p.1 * p.2 * absI p.2) (sc k + 2 * sc q - sc h), 0),
      (j, ((w k).zip (w q)).map fun p => shiftRnd (2 * p.1 * max (absI p.2) qmin) (sc k + sc q - sc j), 0)],
      2 * vlen (b q).len + 8)
  | .fact _ _ => ([], 0)
  | .fsolve d y st =>
    let f := b (s.factorBlk n prob st)
    ([(d, fit (b d).len (Config.factorSolve false (s.words f, f.scale, f.scale2) (w y, (b y).scale) (b d).scale), 0)],
      triCost (s.nodeSizes f))
  | .bsolve d y st =>
    let f := b (s.factorBlk n prob st)
    ([(d, fit (b d).len (Config.factorSolve true (s.words f, f.scale, f.scale2) (w y, (b y).scale) (b d).scale), 0)],
      triCost (s.nodeSizes f))
  | .dsolve d y st =>
    let f := b (s.factorBlk n prob st)
    ([(d, ((w y).zip (s.recips f)).map fun p => shiftRnd (p.1 * p.2) (sc y + (f.scale2 : Int) - sc d), 0)],
      vlen (b d).len + 4)
  | .transport d x i r =>
    let t := transportRun (w x) (w i) ((b i).bytes / 32)
    ([(d, t.1, 0), (r, t.2.1, 0)], transportCost t.2.2)
  | .rls d q a g p =>
    let res := ((chunks (p * p) (w q) g).zip (chunks (2 * p + 2) (w a) g)).map fun x =>
      rlsModel s.run.solve.lambda p (b q).scale (b a).scale (b d).scale x.1 x.2
    ([(d, res.flatMap (·.1), 0), (q, res.flatMap (·.2), 0)], rlsCost g p)
  | .xchg _ _ _ => ([], 0)

/-- The state whose memory the operation in progress reads: where a fabric write has replaced bytes since the operation began,
each word of them is as it stood in the cycle of the engine's read, old or new by a free choice (R158). -/
def State.readView (s : State) (old : List (Nat × Byte)) : State :=
  { s with mem := old.foldr (fun x m => if Config.freeNat (s.free + x.1 / 4) % 2 = 0 then Mem.write x.1 x.2 m else m) s.mem }

/-- The state after the write-backs of an operation other than FACT and XCHG, its saturations and its cycles. -/
def State.runOp (s : State) (n : Fin 4) (prob : Nat) (op : SolverOp) (old : List (Nat × Byte)) : State × Nat × Nat :=
  let v := s.readView old
  let r := v.opResult n prob op
  let g := (s.problem n prob).gather
  let s1 := r.1.foldl (fun (a : State × Nat) dv =>
    let x := a.1.writeBack n (g.contains dv.1) (a.1.blk n prob dv.1) dv.2.1 dv.2.2
    (x.1, a.2 + x.2)) (s, 0)
  let s2 := match op with
    | .loadg x => s1.1.gatherWrite n (v.words (v.blk n prob x))
    | _ => s1.1
  ({ s2 with free := s2.free + old.length }, s1.2, r.2)

end Sys2Proof.Machine
end

