-- ==== Sys2Proof/Machine/SolverFact.lean ====
section
/-! DEFINITION. Factorisation on a solver engine: columns in elimination order, pivots, stored reciprocals and panels, with the
cycle in which each takes place (R143, R144, R181 to R190). -/

namespace Sys2Proof.Machine

/-- A job with more saturations. -/
def Job.addSat (j : Job) (sat : Nat) : Job := { j with sat := satAdd (2 ^ 32 - 1) j.sat sat }

/-- The saturation limit is exceeded; after the switch of R190 only the saturations since it count (R188, R190). -/
def Job.exceeded (j : Job) : Bool := decide (j.d.satLimit < j.sat - j.satBase)

/-- A pivot: below PIVMIN in magnitude it is replaced by sign(d) × PIVREG (R184). -/
def regularise (pivmin pivreg : Nat) (d : Int) : Int × Bool :=
  if absI d < pivmin then (if d < 0 then -(pivreg : Int) else pivreg, true) else (d, false)

/-- A regularised pivot is counted, and its column logged while fewer than 8 are (R185). -/
def Job.logPivot (j : Job) (col : Nat) : Job :=
  { j with piv := satInc (2 ^ 32 - 1) j.piv, pivCol := (j.pivCol ++ [col]).take 8 }

/-- What a FACT works on: engine, problem, the factor block it fills, the words of the matrix, PIVMIN, PIVREG, the elimination
order, and the cycles it may run. -/
structure FactArgs where
  /-- Engine. -/
  n : Fin 4
  /-- The factor block. -/
  blk : Blk
  /-- Words of the matrix, with its scale. -/
  mat : List Int × Nat
  /-- PIVMIN. -/
  pivmin : Nat
  /-- PIVREG. -/
  pivreg : Nat
  /-- Column in the problem's own numbering, by position in the elimination order. -/
  perm : List Int
  /-- Cycles that FACT may run before the stop; none without a bound. -/
  cap : Option Nat
  deriving DecidableEq, Repr

/-- FACT as it proceeds: the state with the columns written, the job's counts, what has been stored (of each column the pivot as
tested, its reciprocal and its entries), the cycles run, and how it ended early. -/
structure FactRun where
  /-- The state. -/
  s : State
  /-- The job. -/
  job : Job
  /-- Values stored. -/
  done : List Int
  /-- Cycles run. -/
  cyc : Nat
  /-- The stop came first. -/
  cut : Bool
  /-- The saturation limit was exceeded at the end of a supernode. -/
  satOver : Bool

/-- FACT runs for so many cycles within its bound. -/
def FactArgs.within (a : FactArgs) (c : Nat) : Bool := match a.cap with | none => true | some k => decide (c ≤ k)

/-- Cycles of column `k` of a panel of c columns and r rows: 24 for the reciprocal, 2 for the pivot test, the scaling and the
updates inside the panel (R144). -/
def columnCost (c r k : Nat) : Nat := 26 + vlen (r - k - 1) + ((List.range (c - k - 1)).map fun i => vlen (r - (k + 1 + i))).sum

/-- Column `k` of a supernode: the pivot is formed and tested in its first two cycles, then its reciprocal goes to the diagonal
position and the entries below it (R143, R184, R185). -/
def FactRun.column (a : FactArgs) (x : SuperNode) (f : FactRun) (k : Nat) : FactRun :=
  if f.cut || f.satOver then f
  else if !a.within (f.cyc + 2) then { f with cut := true }
  else
    let p := regularise a.pivmin a.pivreg (Config.factPivot a.mat (a.blk.scale, a.blk.scale2) a.perm f.done)
    let j1 := if p.2 then f.job.logPivot (a.perm.getD (x.first + k) ((x.first + k : Nat) : Int)).toNat else f.job
    let c := f.cyc + columnCost x.cols x.rows k
    if !a.within c then { f with job := j1, cut := true }
    else
      let y := recipAt p.1 a.blk.scale2 a.blk.scale2
      let m := x.rows - k - 1
      let col := fit m (Config.factColumn a.mat (a.blk.scale, a.blk.scale2) a.perm f.done p.1 y.1 m)
      let w := f.s.putAt a.n a.blk.id (x.entry k k) (y.1 :: col) (if y.2 && !saturates y.1 then 1 else 0)
      { f with s := w.1, job := j1.addSat w.2, done := f.done ++ (p.1 :: y.1 :: col), cyc := c }

/-- One supernode: its columns, the update of its ancestors, and the saturation test at its end (R144, R188). -/
def FactRun.node (a : FactArgs) (f : FactRun) (x : SuperNode) : FactRun :=
  let g := (List.range x.cols).foldl (FactRun.column a x) f
  if g.cut || g.satOver then g
  else
    let c := g.cyc + updateCost x.cols x.rows
    if a.within c then { g with cyc := c, satOver := g.job.exceeded } else { g with cut := true }

/-- FACT of a stage: 16 cycles, then every supernode in order, until the bound of `cap` or the saturation limit ends it. Its operands are
as they stand when they are read (R158). -/
def State.factRun (s : State) (n : Fin 4) (j : Job) (mat st : Nat) (cap : Option Nat) : FactRun :=
  let p := j.d.problem
  let b := s.blk n p (s.newFactor n p st)
  let a : FactArgs :=
    { n := n, blk := b, mat := ((s.readView j.old).words (s.blk n p mat), (s.blk n p mat).scale), pivmin := s.dirField n p 0x18 4,
      pivreg := s.dirField n p 0x1C 4,
      perm := match (s.problem n p).perm with | some i => s.words (s.blk n p i) | none => [], cap := cap }
  let f : FactRun := { s := { s with free := s.free + j.old.length }, job := j, done := [], cyc := 16, cut := !a.within 16,
                       satOver := false }
  (s.superNodes b).foldl (FactRun.node a) f

/-- Cycles of a whole FACT of a factor block (R144). -/
def State.factCost (s : State) (b : Blk) : Nat :=
  16 + ((s.nodeSizes b).map fun x => panelCost x.1 x.2 + updateCost x.1 x.2).sum

/-- The cache entry of a problem set. -/
def SolverEngine.setCache (e : SolverEngine) (p : Nat) (valid sel : Bool) : SolverEngine :=
  { e with cache := (p, valid, sel) :: e.cache.filter fun c => c.1 != p }

/-- The stage is factored. When every stage of the problem is, the selector of a problem with two buffers switches to the new
factor and its valid bit sets; until then the cached factor stands (R181). -/
def State.stageDone (n : Fin 4) (j : Job) (st : Nat) (s : State) : Job × State :=
  let p := j.d.problem
  if (s.problem n p).factor.length ≤ st + 1 then
    ({ j with built := 0 },
      if s.twoFactors n p then s.modSe n fun e => e.setCache p true !(e.cached p).2 else s)
  else ({ j with built := st + 1 }, s)

end Sys2Proof.Machine
end

