-- ==== Sys2Proof/Machine/Solver.lean ====
section
/-! DEFINITION. Jobs of the solver engines: submission, descriptors, start, operations, boundaries, deadlines, closing
sequence, hand-over, cancellation, cooperation and registers (R149 to R209). An engine's events fall in its own SOLV cycles,
counted from the start of its job; the commands that report them move the module's time to those cycles. -/

namespace Sys2Proof.Machine

/-! ### Descriptors (R149, R150) -/

/-- The descriptor that 64 bytes spell. -/
def Desc.ofBytes (b : List Byte) : Desc :=
  { cls := leAt b 0 1, program := leAt b 1 1, problem := leAt b 2 2, deadline := leAt b 4 4, margin := leAt b 8 4,
    iterCap := leAt b 12 2, satLimit := leAt b 14 2, tolP := leAt b 16 4, tolD := leAt b 20 4, warmSlot := leAt b 24 1,
    flags := leAt b 25 1, epoch := leAt b 26 2, resultSlot := leAt b 28 1, dest := leAt b 29 1, coop := leAt b 30 1,
    inPtr := leAt b 32 8, outPtr := leAt b 40 8, auxPtr := leAt b 48 8, tag := leAt b 56 4,
    clean := leAt b 31 1 == 0 && leAt b 60 4 == 0 && fld (leAt b 25 1) 7 3 == 0 }

/-- The descriptor at an offset of system SRAM. -/
def State.descAt (s : State) (ofs : Nat) : Desc := Desc.ofBytes (Mem.readN s.mem (0x10000000 + ofs) 64)

/-- FLAGS.SHIFT. -/
def Desc.shift (d : Desc) : Bool := bitAt d.flags 0
/-- FLAGS.KEEP_FACTOR. -/
def Desc.keep (d : Desc) : Bool := bitAt d.flags 1
/-- FLAGS.SAVE_WARM. -/
def Desc.save (d : Desc) : Bool := bitAt d.flags 2

/-- A program without iterations: SPMV, LDL_SOLVE, PROJECT, TRANSPORT, RLS (R147). -/
def noIter (program : Nat) : Bool := [1, 3, 5, 8, 9].contains program

/-- A program with residuals: RICCATI, ADMM_QP, HYD_NEWTON (R169). -/
def hasRes (program : Nat) : Bool := [4, 6, 7].contains program

/-- Every 64-byte beat of a transfer lies in a region that MEMORY grants the initiator with the access; the result bank takes no write
(R97, R150). -/
def State.beatsOk (s : State) (code addr bytes : Nat) (write : Bool) : Bool :=
  (List.range (max 1 (ceilDiv bytes 64))).all fun i =>
    !(write && decide (0x107C0000 ≤ addr + 64 * i) && decide (addr + 64 * i < 0x10800000)) && s.run.mem.regions.any fun r =>
      r.owner == code && r.base ≤ addr + 64 * i && addr + 64 * i + 64 ≤ r.base + r.size
        && (if write then r.write else r.read)

/-- The words of the iterate: the blocks of the solution, or the factor that LDL_FACTOR returns (R175, R182). -/
def State.iterate (s : State) (n : Fin 4) (p : Nat) : List Int :=
  if s.dirField n p 0 1 = 2 then s.words (s.blk n p (s.factorBlk n p 0))
  else (s.problem n p).sol.flatMap fun i => s.words (s.blk n p i)

/-- Elements of the solution that the output buffer receives, n_out: of ADMM_QP and RICCATI the variables x, of every other
program the whole iterate (R147, R175, R199; DEDUCED, log entry 55). -/
def State.nOut (s : State) (n : Fin 4) (p : Nat) : Nat :=
  let pr := s.dirField n p 0 1
  if pr = 4 ∨ pr = 6 then s.dirField n p 0x10 4
  else if pr = 2 then (s.blk n p (s.factorBlk n p 0)).bytes / 4
  else ((s.problem n p).sol.map fun i => (s.blk n p i).len).sum

/-- A pointer test of cause 0x07: 0, or aligned, within 40 bits and in granted regions. -/
def State.ptrOk (s : State) (n : Fin 4) (ptr bytes : Nat) (write : Bool) : Bool :=
  ptr == 0 || (ptr % 64 == 0 && ptr / 2 ^ 40 == 0 && s.beatsOk (9 + n.val) ptr bytes write)

/-- Bytes of a block that a transfer fills. For a pointer without a block the descriptor check takes one beat (DESIGN CHOICE,
log entry 55). -/
def State.blkBytes (s : State) (n : Fin 4) (p : Nat) (b : Option Nat) : Nat :=
  match b with | none => 64 | some i => (s.blk n p i).bytes

/-- Bytes that OUT_PTR receives: the solution, or the block declared for it (R199, R217). -/
def State.outBytes (s : State) (n : Fin 4) (p : Nat) : Nat :=
  match (s.problem n p).outBlk with | some i => (s.blk n p i).bytes | none => 4 * s.nOut n p

/-- The first condition of R150 that a descriptor fails; 0 for none. -/
def State.descCause (s : State) (n : Fin 4) (d : Desc) : Nat :=
  let prog := s.dirField n d.problem 0 1
  let cls := s.dirField n d.problem 1 1
  let slots := s.dirField n d.problem 10 1
  let p := s.problem n d.problem
  if !d.clean then 1
  else if 2 ≤ d.cls then 2
  else if d.program = 0 ∨ 10 ≤ d.program ∨ (d.problem < 256 ∧ prog ≠ 0 ∧ d.program ≠ prog) then 3
  else if 256 ≤ d.problem ∨ prog = 0 then 4
  else if !bitAt cls d.cls then 5
  else if (d.warmSlot ≠ 0xFF ∧ slots ≤ d.warmSlot) ∨ ((d.shift ∨ d.save) ∧ d.warmSlot = 0xFF) then 6
  else if !(s.ptrOk n d.inPtr (s.blkBytes n d.problem p.inBlk) false
      && s.ptrOk n d.outPtr (s.outBytes n d.problem) true
      && s.ptrOk n d.auxPtr (s.blkBytes n d.problem p.auxBlk) false) then 7
  else if d.iterCap = 0 then 8
  else if d.coop ≠ s.dirField n d.problem 11 1 then 9
  else if 7 < d.dest then 10
  else 0

/-! ### Records (R151) -/

/-- The 64 bytes of a result record. -/
def recordBytes (d : Desc) (status flags iters primal dual obj piv sat cycles : Nat) (cols : List Nat) : List Byte :=
  toLe 1 status ++ toLe 1 flags ++ toLe 2 d.problem ++ toLe 2 d.epoch ++ toLe 2 iters ++ toLe 4 primal ++ toLe 4 dual
    ++ toLe 8 obj ++ toLe 4 piv ++ toLe 4 sat ++ toLe 4 cycles
    ++ ((cols ++ List.replicate (8 - cols.length) 0xFFFFFF).take 8).flatMap (toLe 3) ++ toLe 4 d.tag

/-- A record for the collector; a DEST_ROLE above 7 carries destination role 7 (R151). -/
def mkRec (d : Desc) (bytes : List Byte) : Rec := { data := bytes, role := min d.dest 7, epoch := d.epoch }


/-- The record of a job that ran no operation: no iterations, residual fields all ones, no pivots (R155, R209). `at_` is the
cycle from which it can be handed over; `ran` tells a job that began its set-up from one that never left the queue. -/
def idleRec (d : Desc) (ofs status cycles at_ : Nat) (ran : Bool) : OutRec :=
  { post := mkRec d (recordBytes d status 0 0 0xFFFFFFFF 0xFFFFFFFF 0 0 0 cycles []), status := status, flags := 0,
    piv := false, at_ := at_, ran := ran, ofs := ofs }

/-- The descriptor of a queued job, fetched or as it stands in system SRAM. -/
def State.queuedDesc (s : State) (q : Queued) : Desc :=
  match q.got with | some (d, _) => d | none => s.descAt q.ofs

/-- A record takes its place among those that wait, by the cycle of its hand-over; the record of a job that ran goes before one
of the same cycle that did not (R151, R155). -/
def insertOut (r : OutRec) (l : List OutRec) : List OutRec :=
  let before := fun (x : OutRec) => decide (x.at_ < r.at_) || (x.at_ == r.at_ && (x.ran || !r.ran))
  l.takeWhile before ++ r :: l.dropWhile before

/-- An engine with one record more to hand over. -/
def SolverEngine.addOut (r : OutRec) (e : SolverEngine) : SolverEngine := { e with out := insertOut r e.out }

/-- The CANCELLED records of all queued jobs, in queue order, one SOLV cycle after the other from a cycle on (R156). -/
def State.cancelQueue (n : Fin 4) (from_ : Nat) (s : State) : State :=
  let recs := s.se[n].queue.mapIdx fun i q => idleRec (s.queuedDesc q) q.ofs 4 0 (from_ + solvV * (i + 1)) false
  s.modSe n fun e => { recs.foldl (fun e r => e.addOut r) e with queue := [], draining := false }

/-! ### Registers and events -/

/-- Engine n asserts source 64 + 8n + i (R164). -/
def State.seRaise (n : Fin 4) (i : Nat) (s : State) : State := s.raiseEn s.se[n].evtEn (64 + 8 * n.val) i

/-- Block number of an engine's registers. -/
def seBlk (n : Fin 4) : Nat := 0x10 + n.val

/-- Address of a register of an engine. -/
def seAddr (n : Fin 4) (ofs : Nat) : Nat := 0x40100000 + n.val * 0x10000 + ofs

/-- QUIESCENT: no job running or queued and no record pending. -/
def SolverEngine.quiescent (e : SolverEngine) : Bool := e.job.isNone && e.queue.isEmpty && e.out.isEmpty

/-- SEn_ERR. -/
def SolverEngine.errReg (e : SolverEngine) : Nat :=
  put e.descCause 16 8 + flag e.dmaErr 7 + flag e.coopErr 6 + flag e.refused 5 + flag e.qfull 4 + flag e.missed 3
    + flag e.badDesc 2

/-- A job runs, from its set-up to the hand-over of its record. -/
def SolverEngine.running (e : SolverEngine) : Bool := e.job.isSome || e.out.any (·.ran)

/-! ### Submission and fetch (R153, R154) -/

/-- The head descriptor is looked at again after the queue changed: an URGENT job discards a fetch of the displaced head. -/
def dropFetch (q : List Queued) : List Queued :=
  match q with | [] => [] | x :: r => x :: r.map fun y => { y with got := none }


/-- A write of SEn_SUBMIT (R153, R166). -/
def State.submit (w : Initiator) (n : Fin 4) (v : Nat) (s : State) : State :=
  s.guardWrite (s.granted w (seBlk n)) (seAddr n 8) w v fun s =>
    let e := s.se[n]
    let q : Queued := { ofs := fld v 22 6 * 64, got := none, at_ := s.now }
    if !e.enable then ((s.modSe n fun e => { e with refused := true }).setBit (seAddr n 0x20) 5).seRaise n 6
    else if q.ofs < 0x5B0000 ∨ 0x7C0000 < q.ofs + 64 then
        ((s.modSe n fun e => { e with badDesc := true }).setBit (seAddr n 0x20) 2).seRaise n 6
    else if 16 ≤ e.queue.length then ((s.modSe n fun e => { e with qfull := true }).setBit (seAddr n 0x20) 4).seRaise n 6
    else if bitAt v 0 then s.modSe n fun e => { e with queue := dropFetch (q :: e.queue) }
    else s.modSe n fun e => { e with queue := e.queue ++ [q] }

/-- SOLVER_SUBMIT. -/
def execSolverSubmit (who : Initiator) (n : Fin 4) (v : Word) (s : State) : Host.Outcome State Fault Refusal :=
  .next (if s.acts who then s.submit who n v.toNat else s)

/-- The next round position at or after a cycle whose slot an initiator owns and whose KIND reaches SRAM (R100, R101):
master-VCO cycle of the grant. -/
def State.nextSlot (s : State) (owner from_ : Nat) (ok : Nat → Bool) : Option Nat :=
  let f0 := ceilDiv from_ fabV
  ((List.range 256).find? fun k =>
    let b := s.fab.slots.getD ((f0 + k) % 256) 0
    b / 64 != 0 && b % 64 == owner && ok ((f0 + k) % 256)).map fun k => (f0 + k) * fabV

/-- DESCRIPTOR_FETCH: the head descriptor is read in the engine's own system-SRAM slot: one FAB cycle to the request, the
slot wait, 14 FAB cycles and 1 SOLV cycle of crossing (R154). -/
def execDescriptorFetch (n : Fin 4) (s : State) : Host.Outcome State Fault Refusal :=
  match s.alive, s.se[n].queue with
  | true, q :: rest =>
    match q.got, s.nextSlot (9 + n.val) (s.now + fabV) (fun _ => true) with
    | none, some g =>
      .next (s.modSe n fun e => { e with
        queue := { q with got := some (s.descAt q.ofs, g + 14 * fabV + solvV) } :: rest })
    | _, _ => .next s
  | _, _ => .next s

/-! ### Deadlines (R192 to R194) -/

/-- The deadline tick lies at the tick of the current top note or before it (R193). -/
def State.deadlinePast (s : State) (deadline : Nat) : Bool :=
  let d := (deadline + 2 ^ 32 - s.fs.tnc % 2 ^ 32) % 2 ^ 32
  d == 0 || decide (2 ^ 31 ≤ d)

/-- The top tick that ends the present note. -/
def State.noteEnd (s : State) : Nat := s.fs.tickAt + periV * s.fs.noteLen

/-- The stop instant as evaluated at the present tick: MARGIN SOLV cycles before the deadline tick, with PERIOD − 10 PERI
cycles taken for every later note (R192); for a deadline already past, no later than the present tick (R193). -/
def State.stopAt (s : State) (d : Desc) : Nat :=
  let k := (d.deadline + 2 ^ 32 - s.fs.tnc % 2 ^ 32) % 2 ^ 32
  if s.deadlinePast d.deadline then s.fs.tickAt - d.margin * solvV
  else s.noteEnd + (k - 1) * (periV * (s.fs.period - 10)) - d.margin * solvV

/-- Master-VCO cycle at which a job's SOLV cycle number `c`, counted from 1, begins. -/
def Job.cycleAt (j : Job) (c : Nat) : Nat := j.startAt + solvV * (c - 1)

/-- SOLV cycles that a job has run when its stop cycle ends (R195). -/
def State.stopCycles (s : State) (j : Job) : Nat := (s.stopAt j.d - j.startAt) / solvV + 1

/-- Work that ends with the job's SOLV cycle `c` is done in the present note: that cycle is not after the stop cycle (R195), and
no top tick comes first. -/
def State.reaches (s : State) (j : Job) (c : Nat) : Bool :=
  decide (c ≤ s.stopCycles j) && (!s.fs.started || decide (j.cycleAt c ≤ s.noteEnd))

/-- Vectors of a warm slot: their lengths by program (R175). -/
def State.warmLens (s : State) (n : Fin 4) (p : Nat) : List Nat :=
  let nn := s.dirField n p 0x10 4
  let m := s.dirField n p 0x14 4
  let pr := s.dirField n p 0 1
  if pr = 6 then [nn, m, m] else if pr = 4 then [nn, nn] else if pr = 7 then [nn, m] else []

/-- Elements of one horizon step of each vector of a warm slot (R177). -/
def State.warmSteps (s : State) (n : Fin 4) (p : Nat) : List Nat :=
  let sv := s.dirField n p 0x26 2
  let m := s.dirField n p 0x14 4 / max 1 (s.dirField n p 0x24 2)
  let pr := s.dirField n p 0 1
  if pr = 6 then [sv, m, m] else if pr = 4 then [sv, sv] else if pr = 7 then [sv, m] else []

/-- Bytes of a vector rounded up to a multiple of 256. -/
def vecBytes (len : Nat) : Nat := ceilDiv (4 * len) 256 * 256

/-- Address of a warm slot (R175). -/
def State.warmAddr (s : State) (n : Fin 4) (p slot : Nat) : Nat :=
  seBase n + s.dirField n p 12 4 + slot * (256 + ((s.warmLens n p).map vecBytes).sum)

/-- Addresses of the vectors of a warm slot with their lengths. -/
def State.warmVecs (s : State) (n : Fin 4) (p slot : Nat) : List (Nat × Nat) :=
  ((s.warmLens n p).foldl (fun (a : Nat × List (Nat × Nat)) len => (a.1 + vecBytes len, a.2 ++ [(a.1, len)]))
    (s.warmAddr n p slot + 256, [])).2

/-- The slot of a job holds a saved iterate (R176). -/
def State.warmValid (s : State) (n : Fin 4) (d : Desc) : Bool :=
  d.warmSlot != 0xFF && Mem.le s.mem (s.warmAddr n d.problem d.warmSlot) 1 == 1

/-- Cost of SHIFTPAD on a slot's vectors: V(n) + 6 each (R144). -/
def State.shiftCost (s : State) (n : Fin 4) (p : Nat) : Nat := ((s.warmLens n p).map fun l => vlen l + 6).sum

/-- SHIFTPAD of a list: the first step is dropped and the last step repeated (R177). -/
def shiftPad (step : Nat) (l : List Int) : List Int :=
  if l.length ≤ step then l else l.drop step ++ l.drop (l.length - step)

/-- SHIFTPAD of every vector of a warm slot, in place, with SHIFTS one more (R177). -/
def State.shiftSlot (s : State) (n : Fin 4) (d : Desc) : State :=
  let a := s.warmAddr n d.problem d.warmSlot
  let m1 := ((s.warmVecs n d.problem d.warmSlot).zip (s.warmSteps n d.problem)).foldl (fun m v =>
    Mem.putS32s m v.1.1 (shiftPad v.2 (Mem.s32s m v.1.1 v.1.2))) s.mem
  { s with mem := Mem.writeN m1 (a + 8) (toLe 4 (satInc (2 ^ 32 - 1) (Mem.le s.mem (a + 8) 4))) }

/-! ### Closing sequence and records (R199, R209) -/

/-- DRAM-accepting slots of an engine in a round (R101, R146). -/
def State.dramSlots (s : State) (owner : Nat) : Nat :=
  (List.range 256).countP fun p => p % 4 == 1 && s.fab.slots.getD p 0 == 128 + owner

/-- Cost of the closing DMA (R199). -/
def State.dmaCost (s : State) (n : Fin 4) (bytes : Nat) : Nat :=
  2 * (ceilDiv (ceilDiv bytes 64) (s.dramSlots (9 + n.val)) * 256 + 24) + 4

/-- What a job returns: solution words, residuals and objective. -/
structure Ret where
  /-- The words copied to the output buffer; none leaves it unchanged. -/
  words : Option (List Int)
  /-- PRIMAL_RES. -/
  primal : Nat
  /-- DUAL_RES. -/
  dual : Nat
  /-- OBJECTIVE. -/
  obj : Nat
  /-- Cost of step 1 of the closing sequence. -/
  extra : Nat
  deriving DecidableEq, Repr

/-- The return of the held best, or of the starting point with residual fields all ones (R189, R209). -/
def Job.retHeld (j : Job) : Ret :=
  match j.held with
  | some h => { words := some h.words, primal := h.primal, dual := h.dual, obj := h.obj, extra := 0 }
  | none => { words := some j.start, primal := 0xFFFFFFFF, dual := 0xFFFFFFFF, obj := 0, extra := 0 }

/-- The starting point in the blocks of the iterate (R168). -/
def State.loadStart (s : State) (n : Fin 4) (p : Nat) (words : List Int) : State :=
  let c := s.problem n p
  (c.sol.foldl (fun (a : State × List Int) i =>
    let b := s.blk n p i
    ((a.1.writeBack n (c.gather.contains i) b (a.2.take b.len) 0).1, a.2.drop b.len)) (s, words)).1

/-- An operation of the residual evaluation: the operand of a product goes to the gather store first, whose cost the manual does
not state (R142, R199; DESIGN CHOICE, log entry 55). The count of saturations and of cycles comes with the state. -/
def State.residualOp (n : Fin 4) (p : Nat) (a : State × Nat × Nat) (op : SolverOp) : State × Nat × Nat :=
  let s1 := match op with
    | .spmv _ _ x => a.1.gatherWrite n (a.1.words (a.1.blk n p x))
    | _ => a.1
  let r := s1.runOp n p op []
  (r.1, a.2.1 + r.2.1, a.2.2 + r.2.2)

/-- A residual as its scalar block holds it, unsigned. -/
def State.scalar (s : State) (n : Fin 4) (p : Nat) (b : Option Nat) : Nat :=
  match b with | some i => ofSigned 32 ((s.words (s.blk n p i)).headD 0) | none => 0

/-- The return of the starting point with its residuals evaluated in step 1; the saturations of that evaluation count (R197,
R198, R199). Its OBJECTIVE is 0, also for a program with an objective: R198 states none (DESIGN CHOICE, log entry 55). -/
def State.retStart (s : State) (n : Fin 4) (j : Job) : State × Job × Ret :=
  let p := j.d.problem
  if noIter j.d.program then (s, j, { words := none, primal := 0, dual := 0, obj := 0, extra := 0 })
  else if hasRes j.d.program then
    let c := s.problem n p
    let r := (wired (romResidual j.d.program) c.wireRes).foldl (State.residualOp n p) (s.loadStart n p j.start, 0, 0)
    (r.1, j.addSat r.2.1,
      { words := some j.start, primal := r.1.scalar n p c.primal,
        dual := if j.d.program = 6 then r.1.scalar n p c.dual else 0, obj := 0, extra := r.2.2 + 8 })
  else (s, j, { words := some j.start, primal := 0, dual := 0, obj := 0, extra := 0 })

/-- The warm slot after SAVE_WARM: the returned iterate, VALID, SAVED_TNC and SHIFTS (R179). -/
def State.saveWarm (s : State) (n : Fin 4) (d : Desc) (words : List Int) : State :=
  let a := s.warmAddr n d.problem d.warmSlot
  let m1 := ((s.warmVecs n d.problem d.warmSlot).foldl (fun (x : Mem × List Int) v =>
    (Mem.putS32s x.1 v.1 (x.2.take v.2), x.2.drop v.2)) (s.mem, words)).1
  { s with mem := Mem.writeN m1 a (toLe 4 1 ++ toLe 4 (s.fs.tnc % 2 ^ 32) ++ toLe 4 0) }

/-- The job ends: the closing sequence writes the output buffer, the warm slot and OUT_PTR, and the record waits for its
hand-over on the cycle after the last write-back; when the engine was disabled, the queued jobs follow as CANCELLED (R151,
R156, R199). -/
def State.closeJob (n : Fin 4) (j : Job) (status : Nat) (r : Ret) (s : State) : State :=
  let d := j.d
  let p := s.problem n d.problem
  let buf := seBase n + p.outBase + d.resultSlot * p.outStride
  let whole := r.words.getD []
  let sol := whole.take (s.nOut n d.problem)
  let some_ := !sol.isEmpty
  let save := d.save && decide (status ≤ 2) && some_
  let s1 := if some_ then { s with mem := Mem.putS32s s.mem buf sol } else s
  let s2 := if save then s1.saveWarm n d whole else s1
  let out := some_ && d.outPtr != 0
  let bytes := match p.outBlk with
    | some i => Mem.readN s2.mem (s2.blk n d.problem i).base (s2.blk n d.problem i).bytes
    | none => Mem.readN s2.mem buf (4 * sol.length)
  let s3 := if out then s2.busWrite (9 + n.val) d.outPtr bytes else s2
  let cycles := j.cycles + r.extra + (if some_ then vlen sol.length + 4 else 0)
    + (if save then vlen ((s.warmLens n d.problem).sum) + 4 else 0) + (if out then s.dmaCost n bytes.length else 0)
  let cyc := min cycles (2 ^ 32 - 1)
  let flags := flag (decide (0 < j.piv)) 0 + flag (decide (0 < j.sat)) 1 + flag j.warm 2 + flag j.reused 3
    + flag j.incomplete 4
  let rec_ : OutRec :=
    { post := mkRec d (recordBytes d status flags j.iters r.primal r.dual r.obj j.piv j.sat cyc j.pivCol),
      status := status, flags := flags, piv := decide (0 < j.piv), at_ := j.startAt + solvV * cycles, ran := true,
      ofs := j.ofs }
  let s4 := s3.modSe n fun e =>
    { e.addOut rec_ with job := none, curIter := j.iters, sat := j.sat, cycles := cyc }
  if s4.se[n].draining then s4.cancelQueue n rec_.at_ else s4

/-- A job ends RANGE_FAULT: source 64 + 8n + 2 asserts and an entry is written (R189). -/
def State.rangeFault (n : Fin 4) (j : Job) (s : State) : State :=
  ((s.closeJob n j 5 j.retHeld).seRaise n 2).log silSE n.val 3 (64 + 8 * n.val + 2)
    (toLe 4 s.se[n].errReg ++ toLe 2 j.d.problem ++ toLe 2 j.iters)

/-! ### Start (R150, R154, R168, R176, R194) -/

/-- The latest record fields of the registers when a job starts. -/
def SolverEngine.showJob (d : Desc) (e : SolverEngine) : SolverEngine :=
  { e with curIter := 0, curProblem := d.problem % 256, curProgram := d.program, sat := 0, cycles := 0 }

/-- The input transfer of a pointer into a block (R149, R168). -/
def State.dmaIn (s : State) (n : Fin 4) (p : Nat) (ptr : Nat) (b : Option Nat) : State :=
  match b with
  | some i =>
    if ptr = 0 then s
    else { s with mem := Mem.writeN s.mem (s.blk n p i).base (Mem.readN s.mem ptr (s.blk n p i).bytes) }
  | none => s

/-- Worst-phase wait of an input transfer (R146, R173). -/
def State.dmaInCost (s : State) (n : Fin 4) (p : Nat) (ptr : Nat) (b : Option Nat) : Nat :=
  match b with
  | some i =>
    if ptr = 0 then 0
    else 2 * (ceilDiv (ceilDiv (s.blk n p i).bytes 64) (s.dramSlots (9 + n.val)) * 256 + 55) + 1
  | none => 0

/-- The starting point of a job (R176); that of LDL_FACTOR has the words of its factor (R182, R209). -/
def State.startWords (s : State) (n : Fin 4) (d : Desc) : List Int :=
  if noIter d.program then []
  else if s.warmValid n d then (s.warmVecs n d.problem d.warmSlot).flatMap fun v => Mem.s32s s.mem v.1 v.2
  else
    let p := s.problem n d.problem
    let ws := p.start.flatMap fun i => s.words (s.blk n d.problem i)
    if d.program = 2 then fit (s.nOut n d.problem) ws
    else if p.start.isEmpty then List.replicate ((p.sol.map fun i => (s.blk n d.problem i).len).sum) 0
    else ws

/-- The operations of a program's iteration, wired for a problem (R147, R160). -/
def State.iterOps (s : State) (n : Fin 4) (d : Desc) : List SolverOp :=
  wired (romIteration d.program (s.dirField n d.problem 0x24 2) (d.coop != 0)) (s.problem n d.problem).wireIter

/-- FACT. -/
def SolverOp.isFact : SolverOp → Bool
  | .fact _ _ => true
  | _ => false

/-- Operations without those that a job skips: every FACT of a job that keeps its cached factor, or that has switched to it
(R182, R190). -/
def Job.skim (j : Job) (l : List SolverOp) : List SolverOp := if j.keep || j.reused then l.filter fun o => !o.isFact else l

/-- The job of a fetched descriptor starts at a cycle: its check, its expiry, its set-up and its prologue (R150, R168, R194). The
AUX_PTR transfer takes place with that of IN_PTR and adds no cycles (DESIGN CHOICE, log entry 55). -/
def State.startJob (n : Fin 4) (ofs : Nat) (d : Desc) (t : Nat) (s : State) : State :=
  let s0 := s.modSe n (SolverEngine.showJob d)
  let cause := s.descCause n d
  let idle := fun status => (s0.modSe n fun e => { e.addOut (idleRec d ofs status 32 (t + 32 * solvV) true) with cycles := 32 })
  if cause ≠ 0 then ((idle 6).modSe n fun e => { e with descCause := cause }).seRaise n 3
  else
    let warm := s.warmValid n d && !noIter d.program
    let sh := if d.shift && warm then s.shiftCost n d.problem else 0
    if decide (s.stopAt d < t + (32 + sh) * solvV) then idle 3
    else
      let p := s.problem n d.problem
      let s1 := if d.shift && warm then s0.shiftSlot n d else s0
      let s2 := (s1.dmaIn n d.problem d.inPtr p.inBlk).dmaIn n d.problem d.auxPtr p.auxBlk
      let start := s2.startWords n d
      let s3 := if noIter d.program then s2 else s2.loadStart n d.problem start
      let cyc := 32 + sh + s2.dmaInCost n d.problem d.inPtr p.inBlk
      let j : Job :=
        { ofs := ofs, d := d, startAt := t, iters := 0, held := none, start := start, warm := warm, sat := 0, satBase := 0,
          piv := 0, pivCol := [], cycles := cyc, reused := false, incomplete := false, cancel := none, rangePend := none,
          ops := [], keep := d.keep && d.cls == 1 && (s.se[n].cached d.problem).1, built := 0, boundAt := 0, old := [] }
      s3.modSe n fun e => { e with
        job := some { j with ops := j.skim (wired (romPrologue d.program) p.wirePro ++ s.iterOps n d) }
        cycles := cyc }

/-! ### Amended values (R159, R183) -/

/-- A job of an amended problem runs, or its record is still to be handed over (R159). -/
def SolverEngine.amendBusy (e : SolverEngine) (r : AmdRecord) : Bool :=
  (match e.job with | some j => decide (r.index ≤ j.d.problem) && decide (j.d.problem < r.index + r.count) | none => false)
    || e.out.any fun o => o.ran && decide (r.index ≤ leNat ((o.post.data.drop 2).take 2))
      && decide (leNat ((o.post.data.drop 2).take 2) < r.index + r.count)

/-- One amendment record of SOLVE is written into the solver SRAM, and the valid bits of the problems it names clear (R159,
R183). One that stands for an amended weight of the dispatch clears the valid bits only (R226). -/
def State.solveWrite (n : Fin 4) (s : State) (r : AmdRecord) : State :=
  ({ s with mem := (if r.sect = 9 then Config.solveWrites r else []).foldl (fun m (w : Nat × List Byte) =>
      Mem.writeN m (seBase n + w.1) w.2) s.mem }).modSe n fun e =>
    (List.range r.count).foldl (fun e i => e.setCache (r.index + i) false (e.cached (r.index + i)).2) e

/-- A dispatch job of an amended problem still waits that was submitted before the amendment was due: its words are the old ones, and
the amended values wait for it (R31). -/
def State.dispatchQueued (s : State) (n : Fin 4) (x : AmdRecord × Nat) : Bool :=
  match s.run.dist.disp with
  | some c => (c.seg ++ c.prot.toList).any fun j => j.engine == n && decide (x.1.index ≤ j.problem)
      && decide (j.problem < x.1.index + x.1.count) && s.se[n].queue.any fun q => q.ofs == j.ofs && decide (q.at_ < x.2)
  | none => false

/-- Amended values, with the cycle at which they fell due, must wait: a job of the problem runs, or a dispatch job with the old
parameters is still to run (R31, R159). -/
def State.amendWaits (s : State) (n : Fin 4) (x : AmdRecord × Nat) : Bool := s.se[n].amendBusy x.1 || s.dispatchQueued n x

/-- The amended values that no job uses any more are written. -/
def State.solveAmends (n : Fin 4) (s : State) : State :=
  let l := s.se[n].amends
  ((l.filter fun x => !s.amendWaits n x).foldl (fun t x => t.solveWrite n x.1) s).modSe n fun e =>
    { e with amends := l.filter (s.amendWaits n) }

/-- SOLVE_AMENDMENT_WRITE: amended values of a problem are written once no job of it runs and its record is handed over, and
its cached factor becomes invalid (R159, R183). The records name the problem in INDEX. -/
def execSolveAmendmentWrite (n : Fin 4) (s : State) : Host.Outcome State Fault Refusal :=
  .next (if s.alive then s.solveAmends n else s)

/-! ### The head of the queue (R154) -/

/-- The job at the head of the queue is taken: amended values that wait are written first (R159), and its successor may be
fetched. -/
def State.startHead (n : Fin 4) (t : Nat) (s : State) : State :=
  match s.se[n].queue with
  | { ofs := ofs, got := some (d, _), at_ := _ } :: rest =>
    (((s.to t).solveAmends n).modSe n fun e => { e with queue := rest }).startJob n ofs d t
  | _ => s

/-- An engine can start the job at its head: enabled, no job running or closing, and the head fetched (R154). -/
def SolverEngine.canStart (e : SolverEngine) : Bool :=
  e.enable && !e.running && (match e.queue with | q :: _ => q.got.isSome | [] => false)

/-- The descriptor at the head of an engine's queue, once fetched. -/
def SolverEngine.head (e : SolverEngine) : Option Desc :=
  match e.queue with | { ofs := _, got := some (d, _), at_ := _ } :: _ => some d | _ => none

/-- The cycle on which the head job can start: the one after the hand-over of the previous record, or after its own fetch
(R154). -/
def SolverEngine.startsAt (e : SolverEngine) : Nat :=
  match e.queue with
  | { ofs := _, got := some (_, t), at_ := _ } :: _ => max t (e.lastHand + solvV)
  | _ => 0

/-- The engines run: from START on, but not in DRYDOWN, in SAFE_HOLD or in twin standby (R5, R511, R542). -/
def State.solving (s : State) : Bool := s.acting && s.twin.state != .standby

/-- A descriptor that holds its engine until its partners are ready: it names a group and passes its check (R161). -/
def State.waitsForGroup (s : State) (n : Fin 4) (d : Desc) : Bool :=
  d.coop != 0 && s.descCause n d == 0

/-- SOLVER_JOB_START: the head job starts alone; a cooperating job waits for COOP_JOB_START (R154, R161). -/
def execSolverJobStart (n : Fin 4) (s : State) : Host.Outcome State Fault Refusal :=
  match s.solving && s.se[n].canStart, s.se[n].head with
  | true, some d => .next (if s.waitsForGroup n d then s else s.startHead n s.se[n].startsAt)
  | _, _ => .next s

/-! ### Groups (R160 to R163, R205 to R207) -/

/-- Members of a mask, the leader first. -/
def members (mask : Nat) : List (Fin 4) := (List.finRange 4).filter fun m => bitAt mask m.val

/-- A mask that R160 allows for a group. -/
def groupMask (mask : Nat) : Bool := mask == 3 || mask == 12 || mask == 15

/-- The members that run with an engine's job, the leader first: the group, or the engine alone. -/
def State.party (s : State) (n : Fin 4) : List (Fin 4) :=
  match s.se[n].job with
  | some j => if j.d.coop = 0 then [n] else members j.d.coop
  | none => [n]

/-- Every member of a group belongs to it and holds the matching job, fetched, at its head (R160, R161). -/
def State.groupReady (s : State) (d : Desc) : Bool :=
  groupMask d.coop && (members d.coop).all fun m =>
    s.se[m].coop == d.coop && s.se[m].canStart && (match s.se[m].head with
      | some x => x.problem == d.problem && x.deadline == d.deadline && x.coop == d.coop
      | none => false)

/-- COOP_JOB_START: every partner is ready, and the job starts on all members together (R161). -/
def execCoopJobStart (n : Fin 4) (s : State) : Host.Outcome State Fault Refusal :=
  match s.solving, s.se[n].head with
  | true, some d =>
    if s.waitsForGroup n d && s.groupReady d then
      let t := ((members d.coop).map fun m => s.se[m].startsAt).foldl max 0
      .next ((members d.coop).foldl (fun s m => s.startHead m t) s)
    else .next s
  | _, _ => .next s

/-- A member that holds a job of a group whose partners are missing posts it CANCELLED and sets COOP_ERR (R161). -/
def State.coopGiveUp (d : Desc) (t : Nat) (s : State) (m : Fin 4) : State :=
  match s.se[m].queue with
  | q :: rest =>
    let x := s.queuedDesc q
    if x.problem = d.problem ∧ x.deadline = d.deadline ∧ x.coop = d.coop ∧ s.se[m].job.isNone then
      (s.modSe m fun e => { e.addOut (idleRec x q.ofs 4 0 (t + solvV) false) with queue := rest, coopErr := true }).setBit
        (seAddr m 0x20) 6
    else s
  | [] => s

/-- COOP_TIMEOUT: the partners are not all ready by DEADLINE less MARGIN, which comes in the present note (R161). -/
def execCoopTimeout (n : Fin 4) (s : State) : Host.Outcome State Fault Refusal :=
  match s.solving, s.se[n].head with
  | true, some d =>
    let t := s.stopAt d
    if s.waitsForGroup n d && !s.groupReady d && decide (t ≤ s.noteEnd) then
      .next ((members d.coop).foldl (fun s m => s.coopGiveUp d t m) (s.to t))
    else .next s
  | _, _ => .next s

/-! ### Operations (R144, R188 to R190) -/

/-- The engine's registers follow the running job. -/
def State.setJob (n : Fin 4) (j : Job) (s : State) : State :=
  s.modSe n fun e => { e with
    job := some j, sat := j.sat, cycles := min j.cycles (2 ^ 32 - 1), curIter := j.iters }

/-- The job of each member of a party changed. -/
def State.modParty (f : Job → Job) (l : List (Fin 4)) (s : State) : State :=
  l.foldl (fun s m => s.modSe m fun e => { e with job := e.job.map f }) s

/-- The limit is exceeded outside FACT, or inside it without a fallback: the job ends, or in a group the leader ends the group
at its next boundary (R189, R190, R207). -/
def State.overrun (n : Fin 4) (j : Job) (s : State) : State :=
  if j.d.coop = 0 then s.rangeFault n j
  else (s.setJob n j).modParty (fun x => { x with rangePend := some (x.rangePend.getD s.now) }) (s.party n)

/-- Every member of the job's party holds a valid cached factor and has not switched yet, in a continuing job (R190,
R207). -/
def State.canReuse (s : State) (n : Fin 4) : Bool :=
  (s.party n).all fun m => match s.se[m].job with
    | some j => j.d.cls == 1 && (s.se[m].cached j.d.problem).1 && !j.reused
    | none => false

/-- Cycles that the next operation of a job takes beyond its own: those of an iteration of ADMM_QP or HYD_NEWTON before its first
operation, and the 12 of a horizon step of RICCATI (R147). -/
def State.leadCost (s : State) (n : Fin 4) (j : Job) : Nat :=
  match j.d.program, j.ops with
  | 4, .fsolve _ _ _ :: _ => 12
  | 6, l => if l.length = (s.iterOps n j.d).length then 20 else 0
  | 7, l => if l.length = (s.iterOps n j.d).length then 16 else 0
  | _, _ => 0

/-- A FACT in progress runs as far as the job's cycle `c` and is dropped: its regularised pivots and its saturations count (R186). -/
def State.dropFact (s : State) (m : Fin 4) (j : Job) (c : Nat) : State × Job :=
  match j.ops with
  | .fact mat st :: _ =>
    let a := j.cycles + s.leadCost m j
    if a < c then
      let f := s.factRun m j mat st (some (c - a))
      (f.s, f.job)
    else (s, j)
  | _ => (s, j)

/-- The FACTs that other members of a group run are dropped at the cycle of the switch (R186, R207). -/
def State.dropFacts (n : Fin 4) (c : Nat) (s : State) : State :=
  ((s.party n).filter fun m => m != n).foldl (fun t m => match t.se[m].job with
    | some j => (match j.ops with
      | .fact _ _ :: _ => let r := t.dropFact m j c; r.1.setJob m { r.2 with cycles := max j.cycles c }
      | _ => t)
    | none => t) s

/-- No FACT that another member of a group runs ends by cycle `c` but has not been taken. -/
def State.factsLater (s : State) (n : Fin 4) (c : Nat) : Bool :=
  ((s.party n).filter fun m => m != n).all fun m => match s.se[m].job with
    | some j => (match j.ops with
      | .fact mat st :: _ => decide (c < j.cycles + s.leadCost m j + (s.factRun m j mat st none).cyc)
      | _ => true)
    | none => true

/-- All members switch to their cached factors: no FACT runs from here on, and saturations are compared from here on (R190,
R207). -/
def State.reuse (n : Fin 4) (s : State) : State :=
  s.modParty (fun x => { x with
    reused := true, satBase := x.sat, built := 0, ops := x.ops.filter fun o => !o.isFact }) (s.party n)

/-- An operation of a job is complete: its cycles and saturations count, and the next one follows. -/
def Job.opDone (j : Job) (sat cycles : Nat) : Job :=
  { j.addSat sat with cycles := cycles, ops := j.ops.tail, old := [] }

/-- The state after the saturation test at the end of an operation, at the job's present cycle. A limit exceeded in the stop cycle
is left to the stop instant (R188, R189, R208). Where that cycle is also the natural end of a program without iterations, its boundary
comes first and the status is the natural one: no row of R208 names the three together (DESIGN CHOICE, log entry 55). -/
def State.testSat (n : Fin 4) (j : Job) (s : State) : State :=
  if j.exceeded && decide (j.cycles < s.stopCycles j) then s.overrun n j else s.setJob n j

/-- FACT of a stage: complete, or abandoned at the end of a supernode that exceeds the saturation limit, where the cached factors
take over or the job ends (R181, R182, R184 to R190). -/
def State.runFact (n : Fin 4) (j : Job) (mat st : Nat) (s : State) : State :=
  let f := s.factRun n j mat st none
  let c := j.cycles + s.leadCost n j + f.cyc
  let j1 := { f.job with cycles := c, ops := j.ops.tail, old := [] }
  if !s.reaches j c then s
  else if !f.satOver then
    let r := (f.s.to (j.cycleAt c)).stageDone n j1 st
    r.2.setJob n r.1
  else if c = s.stopCycles j then s
  else
    let s1 := f.s.to (j.cycleAt c)
    if s.canReuse n then
      (if s.factsLater n c then ((s1.setJob n j1).dropFacts n c).reuse n else s)
    else s1.overrun n j1

/-- Every member of a party has come to the exchange at the end of its iteration. -/
def State.atExchange (s : State) (l : List (Fin 4)) : Bool :=
  l.all fun m => match s.se[m].job with
    | some j => (match j.ops with | .xchg _ _ _ :: _ => true | _ => false)
    | none => false

/-- Cycles of a party at its barrier: the largest of its members' (R144). -/
def State.barrier (s : State) (l : List (Fin 4)) : Nat :=
  (l.map fun m => match s.se[m].job with | some j => j.cycles | none => 0).foldl max 0

/-- The job of a member and the blocks of its exchange: its own, and those for the neighbour below and above. -/
def State.xchgOf (s : State) (m : Fin 4) : Option (Job × Nat × Nat × Nat) :=
  match s.se[m].job with
  | some j => (match j.ops with | .xchg a lo hi :: _ => some (j, a, lo, hi) | _ => none)
  | none => none

/-- Cycle at which the exchange of a member ends (R144). -/
def State.xchgEnd (s : State) (l : List (Fin 4)) (m : Fin 4) : Nat :=
  match s.xchgOf m with
  | some (j, a, _, _) => s.barrier l + ceilDiv (s.blk m j.d.problem a).bytes 64 + 12
  | none => 0

/-- The boundary block of member `k`, as it stands when it is read, arrives in a block of member `m`, converted to its scale (R133, R158,
R160). -/
def State.receive (v : State) (m k : Fin 4) (dst : Nat) (a : State × Nat) : State × Nat :=
  match v.xchgOf m, v.xchgOf k with
  | some (j, _, _, _), some (jk, src, _, _) =>
    let b := v.blk m j.d.problem dst
    let x := v.blk k jk.d.problem src
    let r := a.1.writeBack m ((v.problem m j.d.problem).gather.contains dst) b
      (((v.readView jk.old).words x).map fun w => shiftRnd w ((x.scale : Int) - b.scale)) 0
    (r.1, a.2 + r.2)
  | _, _ => a

/-- What member `m` of a party receives over the links: the block of the neighbour below, and of the one above (R160). -/
def State.exchangeOf (v : State) (l : List (Fin 4)) (m : Fin 4) (s : State) : State × Nat :=
  match v.xchgOf m with
  | some (_, _, lo, hi) =>
    let up : Fin 4 := m + 1
    let dn : Fin 4 := m - 1
    let a := if 0 < m.val ∧ l.contains dn then v.receive m dn lo (s, 0) else (s, 0)
    if m.val < 3 ∧ l.contains up then v.receive m up hi a else a
  | none => (s, 0)

/-- XCHG: when every member has come to the barrier, each takes its neighbours' boundary blocks, and their jobs go on (R144,
R160). -/
def State.runXchg (n : Fin 4) (s : State) : State :=
  let l := s.party n
  let ok := l.all fun m => match s.se[m].job with | some j => s.reaches j (s.xchgEnd l m) | none => true
  if s.atExchange l && ok then
    l.foldl (fun t m => match s.se[m].job with
      | some j =>
        let r := s.exchangeOf l m t
        let c := s.xchgEnd l m
        let cur := (t.se[m].job).getD j
        ({ r.1 with free := r.1.free + j.old.length }.to (j.cycleAt c)).testSat m (cur.opDone r.2 c)
      | none => t) s
  else s

/-- SOLVER_OPERATION: the next operation of the running job completes its write-back at its own cycle, with a number of corrected
errors in the operands it read. An operation whose last cycle comes after the stop instant, or after the next top tick, is not
complete yet (R99, R144, R182, R188, R195). -/
def State.runNext (n : Fin 4) (j : Job) (cor : Nat) (s : State) : State :=
  match j.ops with
  | [] => s
  | .fact m st :: _ => (s.runFact n j m st).corrected cor
  | .xchg _ _ _ :: _ => (s.runXchg n).corrected cor
  | op :: _ =>
    let r := s.runOp n j.d.problem op j.old
    let c := j.cycles + s.leadCost n j + r.2.2
    if s.reaches j c then ((r.1.to (j.cycleAt c)).testSat n (j.opDone r.2.1 c)).corrected cor else s

/-- SOLVER_OPERATION. -/
def execSolverOperation (n : Fin 4) (cor : Nat) (s : State) : Host.Outcome State Fault Refusal :=
  match s.solving, s.se[n].job with
  | true, some j => .next (s.runNext n j cor)
  | _, _ => .next s

/-! ### Boundaries (R168 to R174, R201, R202, R206 to R208) -/

/-- Key of R170. -/
def rankKey (d : Desc) (primal dual : Nat) : Nat := max (primal * max d.tolD 1) (dual * max d.tolP 1)

/-- An iterate has converged (R171). -/
def converged (d : Desc) (primal dual : Nat) : Bool := decide (primal ≤ d.tolP) && decide (dual ≤ d.tolD)

/-- The objective of the iterate, 64 bits. -/
def State.objective (s : State) (n : Fin 4) (p : Nat) : Nat :=
  match (s.problem n p).obj with | some i => Mem.le s.mem (s.blk n p i).base 8 | none => 0

/-- Cost of the best-iterate COPY: counted when the iterate becomes the held best, and waited out in a bounded job; ADMM_QP copies
its two vectors apart (R145, R147, R173). -/
def State.copyCost (s : State) (n : Fin 4) (d : Desc) (improved : Bool) : Nat :=
  if noIter d.program || !(improved || d.cls == 0) then 0
  else if d.program = 6 then vlen (s.dirField n d.problem 0x10 4) + 4 + (vlen (s.dirField n d.problem 0x14 4) + 4)
  else vlen (s.nOut n d.problem) + 4

/-- What a party finds at its boundary, as its leader evaluates it: the residuals and objective of the iterate, its key, whether
it becomes the held best and whether it has converged. The residual of a group is the largest of its members' (R162, R169 to
R171, R206; DEDUCED, log entry 55). -/
structure Bound where
  /-- PRIMAL_RES. -/
  primal : Nat
  /-- DUAL_RES. -/
  dual : Nat
  /-- OBJECTIVE. -/
  obj : Nat
  /-- Key of R170. -/
  key : Nat
  /-- The iterate becomes the held best. -/
  improved : Bool
  /-- It has converged. -/
  conv : Bool
  deriving DecidableEq, Repr

/-- The boundary of a leader's job, over its party. -/
def State.bound (s : State) (n : Fin 4) (lead : Job) (l : List (Fin 4)) : Bound :=
  let d := lead.d
  let top := fun (f : ProblemCfg → Option Nat) =>
    (l.map fun m => s.scalar m d.problem (f (s.problem m d.problem))).foldl max 0
  let primal := if hasRes d.program then top (·.primal) else 0
  let dual := if d.program = 6 then top (·.dual) else 0
  let key := rankKey d primal dual
  { primal := primal, dual := dual, obj := s.objective n d.problem, key := key,
    improved := match lead.held with | none => true | some h => decide (key < h.key), conv := converged d primal dual }

/-- One member's job past a boundary: one iteration more, its part of the iterate held when the group's improved, and the
operations of the next iteration before it (R168, R206). What it holds beside its own words are the group's residuals and the leader's
objective, which its record carries: R162 gives them to the leader's record only (DESIGN CHOICE, log entry 55). -/
def State.boundaryJob (s : State) (n : Fin 4) (j : Job) (b : Bound) (at_ : Nat) : Job :=
  { j with
    iters := min (j.iters + 1) 65535, cycles := j.cycles + s.copyCost n j.d b.improved,
    held := if b.improved then
        some { key := b.key, primal := b.primal, dual := b.dual, obj := b.obj, words := s.iterate n j.d.problem }
      else j.held
    ops := j.skim (s.iterOps n j.d), boundAt := at_ }

/-- The status with which the leader's job ends at a boundary, if it ends there (R173, R174, R201, R202). -/
def Job.endsAt (j : Job) (conv cancel : Bool) : Option Nat :=
  let best := match j.held with | some h => converged j.d h.primal h.dual | none => false
  if noIter j.d.program then some (if cancel then 4 else 0)
  else if j.d.cls = 0 ∧ j.d.iterCap ≤ j.iters then some (if best then 0 else 1)
  else if j.d.cls = 1 ∧ conv then some 0
  else if j.d.cls = 1 ∧ j.d.iterCap ≤ j.iters then some 1
  else if cancel then some 4
  else none

/-- The return of a job at a boundary: its held best; for a program without iterations its result. -/
def State.retBoundary (s : State) (n : Fin 4) (j : Job) : Ret :=
  if noIter j.d.program then
    { words := some (s.iterate n j.d.problem), primal := 0, dual := 0, obj := 0, extra := 0 }
  else j.retHeld

/-- Cycle at which the boundary of a member falls, its COPY included. -/
def State.boundCycle (s : State) (m : Fin 4) (b : Bound) : Nat :=
  match s.se[m].job with | some j => j.cycles + s.copyCost m j.d b.improved | none => 0

/-- RICCATI computes the residual of its new iterate at the boundary, as the closing sequence does for a starting point: its
saturations count, and R147 gives it no cycles (R169, R199; DESIGN CHOICE, log entry 55). -/
def State.evalRes (l : List (Fin 4)) (s : State) : State :=
  l.foldl (fun t m => match t.se[m].job with
    | some j =>
      if j.d.program = 4 ∧ j.ops.isEmpty then
        let r := (wired (romResidual 4) (t.problem m j.d.problem).wireRes).foldl (State.residualOp m j.d.problem) (t, 0, 0)
        r.1.setJob m (j.addSat r.2.1)
      else t
    | none => t) s

/-- Every member of a party has run the operations of its iteration, and the boundary comes before the stop and the next top
tick. -/
def State.atBoundary (s : State) (l : List (Fin 4)) (b : Bound) : Bool :=
  l.all fun m => match s.se[m].job with | some j => j.ops.isEmpty && s.reaches j (s.boundCycle m b) | none => true

/-- A cancel that reached a member of a party before a cycle ended, or a saturation limit exceeded by then. -/
def State.pendBy (s : State) (f : Job → Option Nat) (l : List (Fin 4)) (t : Nat) : Bool :=
  l.any fun m => match s.se[m].job with
    | some j => (match f j with | some x => decide (x < t) | none => false)
    | none => false

/-- The members of a party end with one status at a boundary (R162). -/
def State.endParty (l : List (Fin 4)) (status : Nat) (b : Bound) (at_ : Nat) (s : State) : State :=
  l.foldl (fun t m => match t.se[m].job with
    | some j =>
      let j1 := s.boundaryJob m j b at_
      ((t.setJob m j1).closeJob m j1 status (s.retBoundary m j1)).modSe m fun e =>
        { e with lastEnd := if status = 4 then e.lastEnd else some (j.ofs, at_) }
    | none => t) s

/-- The boundary of a leader's party: a range fault pending in it ends it with the iteration discarded; otherwise the leader's job
ends for all, or every member goes on (R162, R168, R206, R207, R208). A cancel that reached a program without iterations in the
cycle of its natural end is spent (R157). -/
def State.boundary (n : Fin 4) (lead : Job) (s0 : State) : State :=
  let l := s0.party n
  let s := s0.evalRes l
  let b := s.bound n lead l
  if !s.atBoundary l b then s0
  else
    let at_ := lead.cycleAt (s.boundCycle n b)
    let s1 := s.to at_
    if s1.pendBy (·.rangePend) l (at_ + solvV) then
      l.foldl (fun t m => match t.se[m].job with
        | some j => t.rangeFault m { j with cycles := s.boundCycle m b }
        | none => t) s1
    else
      let cancel := s1.pendBy (·.cancel) l (if noIter lead.d.program then at_ else at_ + solvV)
      match (s1.boundaryJob n lead b at_).endsAt b.conv cancel with
      | some st => s1.endParty l st b at_
      | none => l.foldl (fun t m => match t.se[m].job with
        | some j => t.setJob m (s1.boundaryJob m j b at_)
        | none => t) s1

/-- ITERATION_BOUNDARY: the leader of the party decides for all its members (R162, R168). -/
def execIterationBoundary (n : Fin 4) (s : State) : Host.Outcome State Fault Refusal :=
  match s.solving, s.se[n].job with
  | true, some j => .next (if (s.party n).head? = some n then s.boundary n j else s)
  | _, _ => .next s

/-! ### Stop instant (R195 to R198, R203, R208) -/

/-- A FACT in progress at the stop runs as far as the stop cycle: its regularised pivots and its saturations count, and it is
discarded; one whose last supernode ends in the stop cycle is complete, also when it exceeds the limit there (R186, R197, R208). -/
def State.cutFact (s : State) (m : Fin 4) (j : Job) : State × Job :=
  let c := j.cycles + s.leadCost m j
  match j.ops with
  | .fact mat st :: _ =>
    if c < s.stopCycles j then
      let p := j.d.problem
      let f := s.factRun m j mat st (some (s.stopCycles j - c))
      if !f.cut && f.cyc == s.factCost (s.blk m p (s.newFactor m p st)) then
        let r := f.s.stageDone m { f.job with ops := j.ops.tail } st
        (r.2, r.1)
      else (f.s, { f.job with incomplete := true })
    else (s, j)
  | _ => (s, j)

/-- One member at the stop: its job as far as the stop cycle, and what it returns, the held best or the starting point with its
residuals evaluated; with a range fault pending it evaluates nothing (R197, R198, R209). -/
def State.stopRet (range : Bool) (a : State × List (Fin 4 × Job × Ret)) (m : Fin 4) : State × List (Fin 4 × Job × Ret) :=
  match a.1.se[m].job with
  | none => a
  | some j =>
    let f := a.1.cutFact m j
    let j1 := { f.2 with cycles := a.1.stopCycles j }
    if range || j1.held.isSome then (f.1, a.2 ++ [(m, j1, j1.retHeld)])
    else
      let r := f.1.retStart m j1
      (r.1, a.2 ++ [(m, r.2.1, r.2.2)])

/-- A party stops: each member returns its held best with DEADLINE_BEST, or its starting point with DEADLINE_PRIOR; a pending cancel
makes it CANCELLED, and a range fault pending in the group ends it RANGE_FAULT. Residuals are the group's, the largest of its members'
(R162, R196, R197, R198, R203, R207). -/
def State.stopParty (cancel range : Bool) (l : List (Fin 4)) (s : State) : State :=
  let a := l.foldl (State.stopRet range) (s, [])
  let top := fun (f : Ret → Nat) => (a.2.map fun x => f x.2.2).foldl max 0
  a.2.foldl (fun t x =>
    if range then t.rangeFault x.1 x.2.1
    else t.closeJob x.1 x.2.1 (if cancel then 4 else if x.2.1.held.isSome then 2 else 3)
      { x.2.2 with primal := top (·.primal), dual := top (·.dual) }) a.1

/-- Cycle at which the next operation of a member ends, or its party's exchange or boundary, at the last of its members; none while it
waits for another member. A FACT that exceeds its limit ends there (R188). An exchange that some members end by the stop cycle and
others after it is abandoned on all (R206; DESIGN CHOICE, log entry 55). -/
def State.nextEnd (s : State) (l : List (Fin 4)) (b : Bound) (m : Fin 4) (j : Job) : Option Nat :=
  match j.ops with
  | [] => if l.all fun k => match s.se[k].job with | some x => x.ops.isEmpty | none => true then some ((l.map fun k =>
      s.boundCycle k b).foldl max 0) else none
  | .xchg _ _ _ :: _ => if s.atExchange l then some ((l.map (s.xchgEnd l)).foldl max 0) else none
  | .fact mat st :: _ =>
    let f := s.factRun m j mat st none
    let c := j.cycles + s.leadCost m j + f.cyc
    some (if f.satOver && c == s.stopCycles j then c + 1 else c)
  | op :: _ => some (j.cycles + s.leadCost m j + (s.opResult m j.d.problem op).2)

/-- Nothing of a party ends before the stop cycle does but has not been taken: its operations, its exchange, its boundary. -/
def State.stopDue (s : State) (l : List (Fin 4)) (b : Bound) : Bool :=
  l.all fun m => match s.se[m].job with
    | some j => (match s.nextEnd l b m j with | some c => decide (s.stopCycles j < c) | none => true)
    | none => true

/-- SOLVER_STOP_INSTANT: the stop instant falls in the present top note, and all that ends by its cycle is done; the operation in
progress is abandoned and the closing sequence begins (R195, R197). An abandoned operation other than FACT writes no element and counts
no saturation (R195 says neither; DESIGN CHOICE, log entry 55). -/
def execSolverStopInstant (n : Fin 4) (cor : Nat) (s : State) : Host.Outcome State Fault Refusal :=
  match s.solving, s.se[n].job with
  | true, some j =>
    let at_ := s.stopAt j.d
    let l := s.party n
    if l.head? = some n && decide (at_ ≤ s.noteEnd) && s.stopDue l ((s.evalRes l).bound n j l) then
      .next (((s.to at_).stopParty (s.pendBy (·.cancel) l (at_ + solvV)) (s.pendBy (·.rangePend) l (at_ + solvV)) l).corrected cor)
    else .next s
  | _, _ => .next s

/-- SOLVER_MEMORY_FAULT: the job ends RANGE_FAULT with no fallback, DMA_ERR sets and source 64 + 8n + 7 asserts; in a group the
leader ends the group at its next boundary (R165, R191, R207). An uncorrectable error also counts in FAB_ECC with source 49, and
an access error is recorded by the fabric (R98, R99). A FACT in progress has run as far as that cycle (R186). -/
def execSolverMemoryFault (f : Fin 4 × MemErr) (s : State) : Host.Outcome State Fault Refusal :=
  let n := f.1
  match s.solving, s.se[n].job with
  | true, some j =>
    let s0 := match f.2 with
      | .ecc => s.uncorrected
      | .dma a w => s.accessError { owner := 9 + n.val, access := if w then 1 else 0, cause := 0, addr := a.toNat, pos := s.pos }
    let c := if j.d.coop = 0 then max j.cycles ((s.now - j.startAt) / solvV + 1) else j.cycles
    let r := if j.d.coop = 0 then s0.dropFact n j c else (s0, j)
    .next ((((r.1.modSe n fun e => { e with dmaErr := true }).setBit (seAddr n 0x20) 7).seRaise n 7).overrun n { r.2 with cycles := c })
  | _, _ => .next s

/-! ### Hand-over and headroom (R138, R151) -/

/-- The headroom table is cleared (R138). -/
def State.clearHeadroom (n : Fin 4) (s : State) : State :=
  ({ s with mem := Mem.erase s.mem (seBase n + 0x77C000) 0x4000 }).modSe n fun e => { e with hrPend := s.setNow (seAddr n 0) 3 }

/-- The record that comes first goes to producer n with its side-band, one record in a SOLV cycle; events follow (R151, R155, R156,
R164). -/
def State.handRec (s : State) (n : Fin 4) : State :=
  match s.se[n].out with
  | r :: rest =>
    let t := max r.at_ (s.se[n].lastHand + solvV)
    let s0 := if r.ran && s.se[n].cancelReq then (s.to t).dropBit (seAddr n 0) 2 else s.to t
    let s1 := (s0.modSe n fun e => { e with
      out := rest, jobs := wrapInc 32 e.jobs, lastStatus := r.status, lastFlags := r.flags, lastHand := t,
      cancelReq := e.cancelReq && (!r.ran || (s.to t).setNow (seAddr n 0) 2) }).postRec n.val r.post
    let s2 := s1.seRaise n 0
    let s3 := if s2.se[n].queue.isEmpty then s2.seRaise n 1 else s2
    let s4 := if r.piv then s3.seRaise n 4 else s3
    let s5 := if s4.se[n].quietEvt && s4.se[n].quiescent then
        (s4.modSe n fun e => { e with quietEvt := false }).seRaise n 5 else s4
    if s5.se[n].hrPend && !s5.se[n].running then s5.clearHeadroom n else s5
  | [] => s

/-- RESULT_RECORD_HANDOVER: a record whose cycle comes after the next top tick waits for that tick. -/
def execResultRecordHandover (n : Fin 4) (s : State) : Host.Outcome State Fault Refusal :=
  match s.se[n].out with
  | r :: _ => .next (if s.alive && (!s.fs.started || decide (r.at_ ≤ s.noteEnd)) then s.handRec n else s)
  | [] => .next s

/-- A write of SEn_CTRL.HR_CLEAR: at once, or after the running job has posted (R138). -/
def State.hrClear (n : Fin 4) (s : State) : State :=
  if s.se[n].running then (s.setIf s.se[n].hrPend (seAddr n 0) 3).modSe n fun e => { e with hrPend := true } else s.clearHeadroom n

/-- HEADROOM_CLEAR. -/
def execHeadroomClear (who : Initiator) (n : Fin 4) (s : State) : Host.Outcome State Fault Refusal :=
  .next (if s.acts who then s.guardWrite (s.granted who (seBlk n)) (seAddr n 0) who 8 (fun s => s.hrClear n) else s)

/-! ### Cancel, withdraw, disable (R155 to R157, R201, R205) -/

/-- A cancel reaches the running job. In the SOLV cycle of a boundary just taken it acts there, for the whole party, as RANGE_FAULT
where a memory error came in that cycle; otherwise it is pending (R201, R205, R208). In the closing sequence it shows until the record is
handed over and changes nothing; one written in the PERI cycle of the hand-over keeps its bit (R12, R166). -/
def State.cancelJob (n : Fin 4) (s : State) : State :=
  match s.se[n].job with
  | some j =>
    let s1 := (s.setIf s.se[n].cancelReq (seAddr n 0) 2).modSe n fun e => { e with
      job := some { j with cancel := some (j.cancel.getD s.now) }, cancelReq := true, quietEvt := true }
    if 0 < j.iters ∧ s.now < j.boundAt + solvV then
      let fault := s1.pendBy (·.rangePend) (s1.party n) (j.boundAt + solvV)
      (s1.party n).foldl (fun t m => match t.se[m].job with
        | some x => if fault then t.rangeFault m x else t.closeJob m x 4 x.retHeld
        | none => t) s1
    else s1
  | none =>
    if s.se[n].running then
      (s.setIf s.se[n].cancelReq (seAddr n 0) 2).modSe n fun e => { e with cancelReq := true, quietEvt := true }
    else if s.droppedNow (seAddr n 0) 2 then s.modSe n fun e => { e with cancelReq := true }
    else s

/-- SOLVER_CANCEL: a write of SEn_CTRL.CANCEL. -/
def execSolverCancel (who : Initiator) (n : Fin 4) (s : State) : Host.Outcome State Fault Refusal :=
  .next (if s.acts who then s.guardWrite (s.granted who (seBlk n)) (seAddr n 0) who 4 (fun s => s.cancelJob n) else s)

/-- A write of SEn_WITHDRAW: a queued job is removed with a CANCELLED record, the running one is cancelled, also in its closing
sequence, and any other name sets WITHDRAW_MISS (R155, R157). -/
def State.withdraw (w : Initiator) (n : Fin 4) (v : Nat) (s : State) : State :=
  s.guardWrite (s.granted w (seBlk n)) (seAddr n 12) w v fun s =>
    let ofs := fld v 22 6 * 64
    let miss := (s.modSe n fun e => { e with missed := true }).setBit (seAddr n 0x20) 3
    match s.se[n].queue.find? fun q => q.ofs == ofs with
    | some q =>
      s.modSe n fun e => { e.addOut (idleRec (s.queuedDesc q) ofs 4 0 (s.now + solvV) false) with queue := e.queue.erase q }
    | none =>
      match s.se[n].job, s.se[n].out.find? (·.ran), s.se[n].lastEnd with
      | some j, _, _ => if j.ofs = ofs then s.cancelJob n else miss
      | none, some r, _ => if r.ofs = ofs then s.cancelJob n else miss
      | none, none, some (o, t) => if o = ofs ∧ s.now < t + solvV then s else miss
      | none, none, none => miss

/-- SOLVER_WITHDRAW. -/
def execSolverWithdraw (who : Initiator) (n : Fin 4) (v : Word) (s : State) : Host.Outcome State Fault Refusal :=
  .next (if s.acts who then s.withdraw who n v.toNat else s)

/-- A submission of the PERI cycle in which ENABLE is cleared is refused (R157). -/
def State.refuseLate (n : Fin 4) (s : State) : State :=
  let late := fun (q : Queued) => q.at_ / periV == s.now / periV
  (s.se[n].queue.filter late).foldl (fun s _ => s.seRaise n 6) ((s.modSe n fun e => { e with
    queue := e.queue.filter fun q => !late q, refused := e.refused || e.queue.any late }).setIf
    (s.se[n].queue.any late) (seAddr n 0x20) 5)

/-- Clearing ENABLE: the running job is cancelled, and every queued job is posted CANCELLED after its record, or from the next
SOLV cycle on when none runs (R156). -/
def State.disableSe (n : Fin 4) (s : State) : State :=
  let s0 := s.refuseLate n
  let s1 := (s0.modSe n fun e => { e with
    enable := false, quietEvt := e.quietEvt || !e.quiescent, draining := e.job.isSome })
  let s2 := if s0.se[n].job.isSome then s1.cancelJob n else s1
  match s2.se[n].job, s2.se[n].out.find? (·.ran) with
  | some _, _ => s2
  | none, some r => s2.cancelQueue n (max s2.now r.at_)
  | none, none => s2.cancelQueue n s2.now

/-- SOLVER_DISABLE. -/
def execSolverDisable (who : Initiator) (n : Fin 4) (s : State) : Host.Outcome State Fault Refusal :=
  .next (if s.acts who then s.guardWrite (s.granted who (seBlk n)) (seAddr n 0) who 0 (fun s => s.disableSe n) else s)

/-- Step 2 of CONFIGURE on an engine: it takes the cancellation of R156, and its records follow (R76, R159). -/
def State.cancelAll (s : State) (n : Fin 4) : State := s.disableSe n

/-! ### Registers (R166) -/

/-- The value of an SEn register at an offset. -/
def State.seRead (s : State) (n : Fin 4) (ofs : Nat) : Nat :=
  let e := s.se[n]
  if ofs = 0x00 then flag e.hrPend 3 + flag e.cancelReq 2 + flag e.enable 0
  else if ofs = 0x04 then
    flag e.running 31 + flag e.quiescent 30 + flag e.hrPend 29 + put e.queue.length 16 5 + put e.lastStatus 8 8
      + put e.lastFlags 0 8
  else if ofs = 0x10 then (match e.job, e.out.find? (·.ran) with
      | some j, _ => j.ofs + 1
      | none, some r => r.ofs + 1
      | none, none => 0)
  else if ofs = 0x14 then put e.curIter 16 16 + put e.curProblem 8 8 + put e.curProgram 0 8
  else if ofs = 0x18 then e.sat
  else if ofs = 0x1C then e.cycles
  else if ofs = 0x20 then e.errReg
  else if ofs = 0x24 then e.evtEn
  else if ofs = 0x28 then e.coop
  else if ofs = 0x2C then e.jobs
  else 0

/-- A permitted write of SEn_CTRL. -/
def State.seCtrl (n : Fin 4) (v : Nat) (s : State) : State :=
  let s1 := if bitAt v 3 then s.hrClear n else s
  let s2 := if bitAt v 2 then s1.cancelJob n else s1
  if bitAt v 0 then s2.modSe n fun e => { e with enable := true }
  else if s2.se[n].enable then s2.disableSe n else s2

/-- A write of an SEn register (R10, R11, R166). -/
def State.seWrite (s : State) (w : Initiator) (n : Fin 4) (ofs v : Nat) : State :=
  if ofs = 0x08 then s.submit w n v
  else if ofs = 0x0C then s.withdraw w n v
  else s.guardWrite (s.granted w (seBlk n)) (seAddr n ofs) w v fun s =>
    if ofs = 0x00 then s.seCtrl n v
    else if ofs = 0x20 then
      let v := s.clears (seAddr n 0x20) v
      s.modSe n fun e => { e with
      dmaErr := e.dmaErr && !bitAt v 7, coopErr := e.coopErr && !bitAt v 6, refused := e.refused && !bitAt v 5,
      qfull := e.qfull && !bitAt v 4, missed := e.missed && !bitAt v 3, badDesc := e.badDesc && !bitAt v 2 }
    else if ofs = 0x24 then s.modSe n fun e => { e with evtEn := fld v 7 0 }
    else if ofs = 0x28 then
      if s.acc.locked then s.refuse 2 (seAddr n ofs) w v else s.modSe n fun e => { e with coop := fld v 3 0 }
    else s

/-- Solver jobs abandoned without a record in step 2 of DRYDOWN: running and queued (R511). -/
def SolverEngine.abandoned (e : SolverEngine) : Nat := e.queue.length + (if e.job.isSome then 1 else 0)

end Sys2Proof.Machine
end

