-- ==== Sys2Proof/Machine/Network.lean ====
section
/-! DEFINITION. The network model of a heart note: the inputs of the hydraulic and transport jobs, node values and the delays of the
flex groups (R19, R20, R29, R212, R213, R217 to R220). -/

namespace Sys2Proof.Machine

/-- The role of district services. -/
def planRole : Nat := 5

/-- Words written to a block of a problem by the role. -/
def State.putBlk (s : State) (j : JobCfg) (pos : Nat) (ws : List Int) : State :=
  s.busWrite planRole (s.blk j.engine j.problem pos).base (ws.flatMap fun x => toLe 4 (ofSigned 32 (sat32 x)))

/-- Words written to the solver SRAM of an engine by the role. -/
def State.putBlocks (n : Fin 4) (bs : List (Nat × List Int)) (s : State) : State :=
  bs.foldl (fun s b => s.busWrite planRole (seBase n + b.1) (b.2.flatMap fun x => toLe 4 (ofSigned 32 (sat32 x)))) s

/-- A field of a descriptor replaced. -/
def patch (b : List Byte) (o n v : Nat) : List Byte := b.take o ++ toLe n v ++ b.drop (o + n)

/-- A job's descriptor with DEADLINE, TAG, EPOCH and FLAGS filled in; a selector exchanges IN_PTR and OUT_PTR (R217, R236). -/
def State.jobBytes (s : State) (j : JobCfg) (deadline flags : Nat) (sel : Bool) : List Byte :=
  let b0 := padTo 64 j.bytes
  let b1 := patch (patch (patch (patch b0 4 4 deadline) 56 4 deadline) 26 2 (s.pairs.epochOf (leAt b0 29 1))) 25 1 flags
  if sel then b1.take 32 ++ (b1.drop 40).take 8 ++ (b1.drop 32).take 8 ++ b1.drop 48 else b1

/-- The role submits a job with an ITER_CAP of its own, 0 for the declared one (R153, R214, R221, R227). -/
def State.sendJob (j : JobCfg) (cap deadline flags : Nat) (sel urgent : Bool) (s : State) : State :=
  let b := s.jobBytes j deadline flags sel
  State.submit (.role 5) j.engine (j.ofs + (if urgent then 1 else 0))
    (s.busWrite planRole (0x10000000 + j.ofs) (if cap = 0 then b else patch b 12 2 cap))

/-- FLAGS of a job as declared. -/
def JobCfg.flags (j : JobCfg) : Nat := leAt (padTo 64 j.bytes) 25 1

/-- The records that an engine's ring holds, oldest first (R107, R125). -/
def State.heldRecs (s : State) (k : Nat) : List (List Byte) :=
  match s.run.mem.ringOf k with
  | some (base, len, _) =>
    let p := s.fab.producer k
    (List.range p.fill).map fun i => Mem.readN s.mem (base + 64 * ((p.wr + len - p.fill + i) % len)) 64
  | none => []

/-- The record of a job, by its PROBLEM and its TAG, among those that the role has taken and those that stand in its engine's ring
(R151, R216, R221). -/
def State.findRec (s : State) (j : JobCfg) (tag : Nat) : Option (List Byte) :=
  ((s.plan.inbox.filterMap fun x => if x.1 = j.engine.val then some x.2 else none) ++ s.heldRecs j.engine.val).find? fun b =>
    leAt b 2 2 == j.problem && leAt b 60 4 == tag % 2 ^ 32

/-- The words of a job's output buffer. -/
def State.jobWords (s : State) (j : JobCfg) : List Int :=
  let p := s.problem j.engine j.problem
  Mem.s32s s.mem (seBase j.engine + p.outBase + leAt (padTo 64 j.bytes) 28 1 * p.outStride) (s.nOut j.engine j.problem)

/-- Values of a list of sources. -/
def State.vals (s : State) (l : List Src) : List (Int × Quality) := l.map s.srcVal

/-! ### Topology -/

/-- The nodes of a network. -/
def DistrictCfg.netNodes (c : DistrictCfg) (k : Nat) : List NodeCfg := c.nodes.filter fun x => x.net == k

/-- The network of a node. -/
def DistrictCfg.netOf (c : DistrictCfg) (n : Nat) : Option Nat := (c.nodes.find? fun x => x.id == n).map (·.net)

/-- The branches of a network: those that leave one of its nodes (R18). -/
def DistrictCfg.netBranches (c : DistrictCfg) (k : Nat) : List BranchCfg := c.branches.filter fun b => c.netOf b.src == some k

/-- The segments of a branch, in order from its from-node (R20). -/
def DistrictCfg.branchSegs (c : DistrictCfg) (b : Nat) : List SegCfg := c.segs.filter fun x => x.branch == b

/-- The segments of a network, branch by branch. -/
def DistrictCfg.netSegs (c : DistrictCfg) (k : Nat) : List SegCfg := (c.netBranches k).flatMap fun b => c.branchSegs b.id

/-- The substations of a network (R22). -/
def DistrictCfg.netSubsts (c : DistrictCfg) (k : Nat) : List SubstCfg := c.substs.filter fun x => c.netOf x.supply == some k

/-! ### Demand (R29, R235) -/

/-- A regressor at present, or at a horizon step: without a forecast the present value is carried forward with quality SUBST (R235). -/
def State.regressor (s : State) (x : Src × List Src) (t : Option Nat) : Int × Quality :=
  let v := s.srcVal x.1
  match t with
  | none => v
  | some t =>
    match x.2[t]?.map s.srcVal with
    | some f => if f.2 = .bad then (v.1, .subst) else f
    | none => (v.1, .subst)

/-- Parameters of a group's model: the adapted ones once an adaptation has been accepted, also where an amendment gives new ones, for the
spec does not say which of the two then stands (DESIGN CHOICE, log entry 56). -/
def State.thetaOf (s : State) (g : GroupCfg) : List Int := Tbl.getD s.plan.theta g.id g.theta

/-- The flow that a group's model predicts, in g/s: θᵀ·φ (R235). -/
def State.predict (s : State) (g : GroupCfg) (t : Option Nat) : Int :=
  let places := match s.run.dist.disp.bind (·.rls) with | some a => a.places | none => 0
  shiftRnd (((s.thetaOf g).zip g.phi).map fun x => x.1 * (s.regressor x.2 t).1).sum places

/-- The declaration of a flex group. -/
def DistrictCfg.group (c : DistrictCfg) (g : Nat) : Option GroupCfg := c.groups.find? fun x => x.id == g

/-- The flow of a substation in g/s with its quality: from the missing-report limit on, and where it has quality SUBST, its share of what
its group's model predicts, with quality SUBST (R29, R213; the share is DEDUCED, log entry 56). A flow that an accepted report itself calls
BAD is replaced in the same way: R29 does not speak of one (DESIGN CHOICE, log entry 56). -/
def State.demand (s : State) (x : SubstCfg) : Int × Quality :=
  let v := s.substValue x.id 0
  if v.2 = .bad ∨ v.2 = .subst then
    (match s.run.dist.group x.group with | some g => gain29 (s.predict g none) x.share | none => 0, .subst)
  else v

/-! ### The hydraulic job (R19, R212, R213) -/

/-- The loop output that commands a branch: a valve's opening or a pump's speed (R213). -/
def DistrictCfg.cmdOf (c : DistrictCfg) (b : BranchCfg) : Option Src :=
  match b.kind with
  | .valve _ cmd => some cmd
  | .pump p _ => (c.pumps.find? fun x => x.id == p).map (·.cmd)
  | .pipe _ _ _ | .plant _ _ | .store _ _ => none

/-- The head gain of a pump at a speed: H0·(ω / ω_n)² (R213). -/
def PumpCfg.gain (p : PumpCfg) (w : Int) : Int := rndDiv (p.h0 * w * w) (p.rated * p.rated).toNat

/-- k of a branch at a scale and at its command (R19, R213). -/
def BranchCfg.loss (b : BranchCfg) (scale : Nat) (cmd : Int) : Int :=
  match b.kind with
  | .pipe l d r => Config.pipeLoss l d r scale
  | .valve curve _ => Config.valveLoss curve cmd scale
  | .pump _ k | .plant _ k | .store _ k => k

/-- c of a branch: the elevation difference and the head gain of its pump (R212). -/
def DistrictCfg.lift (c : DistrictCfg) (b : BranchCfg) (cmd : Int) : Int :=
  let z := fun n => ((c.nodes.find? fun x => x.id == n).map (·.elev)).getD 0
  z b.src - z b.dst + match b.kind with
    | .pump p _ => match c.pumps.find? fun x => x.id == p with | some x => x.gain cmd | none => 0
    | .pipe _ _ _ | .valve _ _ | .plant _ _ | .store _ _ => 0

/-- Net draw at a node in g/s: positive at a supply node, negative at a return node (R212). -/
def DistrictCfg.draw (c : DistrictCfg) (flows : List (Nat × Int × Quality)) (n : Nat) : Int :=
  (flows.map fun f => match c.substs.find? fun x => x.id == f.1 with
    | some x => (if x.supply = n then f.2.1 else 0) - (if x.ret = n then f.2.1 else 0)
    | none => 0).sum

/-- The snapshot of a network at its heart tick (R29, R30, R213). -/
def State.netSnapshot (s : State) (k : NetCfg) (x : NetState) : NetState :=
  let c := s.run.dist
  { x with
    flows := (c.netSubsts k.id).map fun u => (u.id, s.demand u)
    cmds := (c.netBranches k.id).filterMap fun b => (c.cmdOf b).map fun src => (b.id, (s.srcVal src).1) }

/-- Node draws, branch constants, branch coefficients and the holding pressure written to the engine's blocks (R213, R221). -/
def State.netInputs (s : State) (k : NetCfg) (x : NetState) : State :=
  let c := s.run.dist
  let bs := c.netBranches k.id
  let ns := c.netNodes k.id
  let scale := fun pos => (s.blk k.hyd.engine k.hyd.problem pos).scale
  let cmd := fun (b : BranchCfg) => Tbl.getD x.cmds b.id 0
  (((s.putBlk k.hyd k.wBlk (ns.map fun n => rndDiv (c.draw x.flows n.id * (2 ^ scale k.wBlk : Nat)) 1000)).putBlk k.hyd k.cBlk
    (bs.map fun b => c.lift b (cmd b))).putBlk k.hyd k.kBlk (bs.map fun b => b.loss (scale k.kBlk) (cmd b))).putBlk k.hyd
    k.refBlk ((ns.filter (·.ref)).map (·.hold))

/-! ### The transport job (R217, R218) -/

/-- PERI cycles of a heart note. -/
def State.heartLen (s : State) : Nat := s.fs.h * s.fs.period

/-- The index of the present heart note. -/
def State.heartIndex (s : State) : Int := ((s.fs.tnc / max s.fs.h 1 : Nat) : Int)

/-- Mass moved in a heart note by a flow word at a scale, at the network's mass scale: 0 below QMIN (R218). -/
def State.moved (s : State) (k : NetCfg) (q : Int) : Int :=
  let qmin : Int := s.dirField k.hyd.engine k.hyd.problem 0x20 4
  let sq := (s.blk k.hyd.engine k.hyd.problem k.qBlk).scale
  if absI q < qmin then 0 else rndDiv (q * ((s.heartLen * 2 ^ k.massPlaces : Nat) : Int)) (100000000 * 2 ^ sq)

/-- Temperature and birth of a node of a network, as formed in the previous heart note (R218, R219). -/
def DistrictCfg.nodeValue (c : DistrictCfg) (k : Nat) (x : NetState) (n : Nat) : Int × Int :=
  match (c.netNodes k).findIdx? fun y => y.id == n with
  | some i => x.nodes.getD i (Config.firstNode k n)
  | none => (0, 0)

/-- Temperature and birth of what left a segment in the heart note whose transport result was accepted last. -/
def DistrictCfg.segValue (c : DistrictCfg) (k : Nat) (x : NetState) (sg : Nat) : Int × Int :=
  match (c.netSegs k).findIdx? fun y => y.id == sg with
  | some i => (x.arr.getD (2 * i) 0, x.arrIdx - x.arr.getD (2 * i + 1) 0)
  | none => (0, 0)

/-- Flow of a branch in the accepted solution. -/
def DistrictCfg.flow (c : DistrictCfg) (k : Nat) (x : NetState) (b : Nat) : Int :=
  match (c.netBranches k).findIdx? fun y => y.id == b with | some i => x.sol.getD i 0 | none => 0

/-- The inputs of one segment: a segment inside a branch takes the water that left its neighbour upstream in the previous heart note
(R218; DEDUCED, log entry 56). -/
def State.segIn (s : State) (k : NetCfg) (x : NetState) (b : BranchCfg) (sg : SegCfg) : SegIn :=
  let c := s.run.dist
  let m := s.moved k (c.flow k.id x b.id)
  let l := (c.branchSegs b.id).map (·.id)
  let i := l.idxOf sg.id
  let up := if 0 ≤ m then (if i = 0 then c.nodeValue k.id x b.src else c.segValue k.id x (l.getD (i - 1) 0))
    else (if i + 1 = l.length then c.nodeValue k.id x b.dst else c.segValue k.id x (l.getD (i + 1) 0))
  { mass := m, temp := up.1, birth := up.2, ground := sg.ground, decay := Config.segDecay sg.loss s.heartLen,
    least := (s.run.solve.parcelMin * 2 ^ k.massPlaces : Nat), index := s.heartIndex }

/-- The 8 words of a segment's inputs. -/
def SegIn.words (i : SegIn) : List Int := [i.mass, i.temp, i.birth, i.ground, i.decay, i.least, i.index, 0]

/-- The inputs of every segment of a network written for its transport job. -/
def State.segInputs (s : State) (k : NetCfg) (x : NetState) : State :=
  s.putBlk k.tr k.segBlk (((s.run.dist.netBranches k.id).flatMap fun b =>
    (s.run.dist.branchSegs b.id).map (s.segIn k x b)).flatMap SegIn.words)

/-! ### Node values and delays (R219, R220) -/

/-- A temperature in m°C at the network's scale. -/
def NetCfg.temp (k : NetCfg) (v : Int) : Int := rndDiv (v * (2 ^ k.tempPlaces : Nat)) 1000

/-- The outlet temperature of a plant into a network (R219). -/
def DistrictCfg.outlet (c : DistrictCfg) (plant net : Nat) : Option Src :=
  match c.plants.find? fun y => y.id == plant with
  | some y => (y.outlet.find? fun o => o.1 == net).map (·.2)
  | none => none

/-- What arrives at a node through a branch: mass, temperature and birth. A branch without segments passes the water of its other
node unchanged, as that node had it in the previous heart note, so that each such branch adds one heart note of lag; but the outlet of a
plant is measured (R20, R219; DEDUCED and DESIGN CHOICE, log entry 56). -/
def State.branchArrival (s : State) (k : NetCfg) (x : NetState) (n : Nat) (b : BranchCfg) : Option (Int × Int × Int) :=
  let c := s.run.dist
  let m := s.moved k (c.flow k.id x b.id)
  if (0 < m ∧ b.dst = n) ∨ (m < 0 ∧ b.src = n) then
    let l := (c.branchSegs b.id).map (·.id)
    let seg := if 0 < m then l.getLast? else l.head?
    let other := if 0 < m then b.src else b.dst
    let v := match seg, b.kind with
      | some g, _ => c.segValue k.id x g
      | none, .plant p _ =>
        match c.outlet p k.id with
        | some o => (k.temp (s.srcVal o).1, s.heartIndex)
        | none => c.nodeValue k.id x other
      | none, _ => c.nodeValue k.id x other
    some (absI m, v.1, v.2)
  else none

/-- What a substation returns to a node, at its reported return temperature (R219). -/
def State.returnArrival (s : State) (k : NetCfg) (x : NetState) (n : Nat) (u : SubstCfg) : Option (Int × Int × Int) :=
  match x.flows.find? fun f => f.1 == u.id with
  | some f =>
    let m := rndDiv (f.2.1 * ((s.heartLen * 2 ^ k.massPlaces : Nat) : Int)) 100000000000
    if u.ret = n ∧ 0 < m then
      some (m, k.temp (s.substValue u.id 2).1, Config.returnBirth s.heartIndex (s.run.dist.nodeValue k.id x u.supply).2)
    else none
  | none => none

/-- A node's temperature and birth: the mass-weighted mean of what arrives; without inflow it holds its values (R219). -/
def State.nodeMean (s : State) (k : NetCfg) (x : NetState) (n : Nat) : Int × Int :=
  let c := s.run.dist
  let l := (c.netBranches k.id).filterMap (s.branchArrival k x n) ++ (c.netSubsts k.id).filterMap (s.returnArrival k x n)
  let m := (l.map (·.1)).sum
  if m = 0 then c.nodeValue k.id x n
  else (rndDiv (l.map fun a => a.1 * a.2.1).sum m.toNat, rndDiv (l.map fun a => a.1 * a.2.2).sum m.toNat)

/-- Node values of a network from its new arrivals. -/
def State.nodeValues (s : State) (k : NetCfg) (x : NetState) : List (Int × Int) :=
  (s.run.dist.netNodes k.id).map fun n => s.nodeMean k x n.id

/-- Sum of the transport delays to the supply nodes of a group's substations, in heart notes, and their count: delays are held while no
transport result is accepted (R220, R222). -/
def State.delaySum (s : State) (g : Nat) : Int × Nat :=
  let c := s.run.dist
  let l := (c.substs.filter fun u => u.group == g).filterMap fun u =>
    (c.netOf u.supply).bind fun k => (c.nets.zip s.plan.nets).findSome? fun x =>
      if x.1.id = k then some (x.2.arrIdx - (c.nodeValue k x.2 u.supply).2) else none
  (l.sum, l.length)

/-- δ_g: it changes only when the delay has moved more than DELAY_HYST beyond the point halfway to the next whole step (R220). -/
def State.groupDelta (s : State) (g : Nat) : Nat :=
  let d := s.delaySum g
  let step := max s.run.solve.stepBn 1 * max s.fs.b 1
  let new := (rndDiv d.1 (step * d.2)).toNat
  match Tbl.get? g s.plan.deltas with
  | some old =>
    let far := absI (d.1 - ((old * step * d.2 : Nat) : Int)) * 2 * (s.heartLen : Int)
    if ((step * d.2 * s.heartLen + 2 * d.2 * s.run.solve.delayHyst * 100000000 : Nat) : Int) < far then new else old
  | none => new

/-- The quantised delays of all groups. -/
def State.groupDeltas (s : State) : List (Nat × Nat) := s.run.dist.groups.map fun g => (g.id, s.groupDelta g.id)

end Sys2Proof.Machine
end

