-- ==== Sys2Proof/Machine/DistrictForm.lean ====
section
/-! DEFINITION. The checks of R68 on what MEMORY, SOLVE and DISTRICT declare: limits (step 11), references (step 12) and capacities
(step 14) (R1, R14 to R25, R64, R106, R112, R139, R140, R160, R187, R210, R577). -/

namespace Sys2Proof.Machine

/-! ### Checks -/

/-- A check: whether it holds, and the offset within the section's value of the item that fails it. -/
abbrev Check := Bool × Nat

/-- The first check that fails. -/
def firstBad (l : List Check) : Option Nat := (l.find? fun c => !c.1).map (·.2)

/-- A value lies in a range. -/
def within (lo hi x : Nat) : Bool := decide (lo ≤ x) && decide (x ≤ hi)

/-- Identifiers of one class: in range and declared once (R14, R15), with a further check on each object. -/
def classChecks {α : Type} (b : List Byte) (cls max : Nat) (ids : α → Nat) (l : List α) (ok : α → Bool) : List Check :=
  l.mapIdx fun i x => (decide (ids x ≤ max) && (l.countP fun y => ids y == ids x) == 1 && ok x, Config.itemOfs 10 b (65536 * cls + i))

/-! ### MEMORY (R64, R106, R112) -/

/-- The memories of R1 that regions divide: first address and size. -/
def memories : List (Nat × Nat) :=
  [(0x105B0000, 0x250000), (0x20000000, 0x800000), (0x21000000, 0x800000), (0x22000000, 0x800000), (0x23000000, 0x800000),
   (0x30000000, 0x800000), (0x80000000, 0x100000000)]

/-- Two regions overlap. -/
def Region.meets (x y : Region) : Bool := decide (x.base < y.base + y.size) && decide (y.base < x.base + x.size)

/-- The bytes that regions take in one memory lie within it. -/
def memTotal (l : List Region) (m : Nat × Nat) : Bool :=
  decide (((l.filter fun r => decide (m.1 ≤ r.base) && decide (r.base < m.1 + m.2)).map (·.size)).sum ≤ m.2)

/-- MEMORY: at most 64 regions of whole 4 KiB, within a memory and without overlap; rings of 4 to 1,024 records, a power of two;
mirrored regions of at most 64 KiB (R64, R106, R112). -/
def memoryChecks (m : MemoryCfg) (b : List Byte) : List Check :=
  let at_ := fun cls i => Config.itemOfs 3 b (65536 * cls + i)
  [(decide (m.regions.length ≤ 64), at_ 0 0), (memories.all (memTotal m.regions), at_ 0 0)]
    ++ (m.regions.mapIdx fun i r =>
      (r.base % 4096 == 0 && r.size % 4096 == 0 && r.size != 0
        && (memories.any fun x => decide (x.1 ≤ r.base) && decide (r.base + r.size ≤ x.1 + x.2))
        && (m.regions.countP fun x => x.meets r) == 1, at_ 0 i))
    ++ (m.rings.mapIdx fun i r => (within 4 1024 r.2.2.1 && 2 ^ Nat.log2 r.2.2.1 == r.2.2.1, at_ 1 i))
    ++ m.mirror.mapIdx fun i r => (decide (r.2.2 ≤ 65536) && decide (r.2.1 + r.2.2 ≤ 0x40000), at_ 2 i)

/-! ### SOLVE (R64, R139, R140, R160, R187, R210) -/

/-- The solver SRAM of an engine as SOLVE loads it. -/
def SolveCfg.sram (c : SolveCfg) (n : Nat) : Mem :=
  (c.image.filter fun w => w.1 == n).foldl (fun m w => Mem.writeN m w.2.1 w.2.2) []

/-- The blocks of a problem. -/
def SolveCfg.blocks (c : SolveCfg) (p : ProblemCfg) : List Blk :=
  let m := c.sram p.engine
  (List.range (min (leAt p.dir 2 2) 4096)).map fun i => Mem.blk m 0 (leAt p.dir 4 4 + 32 * i)

/-- SCALE and SCALE2 of a block descriptor, with the bits above the scale, and its reserved bytes. -/
def SolveCfg.blockScales (c : SolveCfg) (p : ProblemCfg) (i : Nat) : Nat × Nat × Nat :=
  let a := leAt p.dir 4 4 + 32 * i
  (Mem.le (c.sram p.engine) (a + 5) 1, Mem.le (c.sram p.engine) (a + 24) 1, Mem.le (c.sram p.engine) (a + 25) 7)

/-- A block descriptor; its reserved bytes are 0 (R139). -/
def Blk.ok (b : Blk) (scales : Nat × Nat × Nat) : Bool :=
  b.base % 256 == 0 && decide (b.kind ≤ 4) && decide (scales.1 ≤ 62) && decide (scales.2.1 ≤ 62) && scales.2.2 == 0 && decide (b.id ≤ 4095)
    && within 1 524288 b.rows && within 1 262144 b.cols && (b.kind == 1 || b.kind == 2 || b.parts == 0)
    && (b.kind == 2 || scales.2.1 == 0)

/-- PIVREG ≥ PIVMIN, and 1/PIVMIN does not saturate at SCALE2 (R140, R187). -/
def ProblemCfg.pivotOk (p : ProblemCfg) (l : List Blk) : Bool :=
  let lo := leAt p.dir 0x18 4
  decide (lo ≤ leAt p.dir 0x1C 4)
    && l.all fun b => b.kind != 2 || (decide (0 < lo) && decide (rndDiv (2 ^ (2 * b.scale2) : Nat) lo ≤ 2147483647))

/-- The classes that a program admits, as bits (R147). -/
def progClasses (program : Nat) : Nat := if program = 2 ∨ program = 4 ∨ program = 6 then 3 else 1

/-- A problem's directory entry (R140, R147). -/
def ProblemCfg.ok (c : SolveCfg) (p : ProblemCfg) : Bool :=
  let d := p.dir
  let l := c.blocks p
  decide (p.engine ≤ 3) && decide (p.problem ≤ 255) && d.length == 64 && within 1 9 (leAt d 0 1)
      && within 1 (progClasses (leAt d 0 1)) (leAt d 1 1)
    && within 1 4096 (leAt d 2 2) && decide (leAt d 8 1 ≤ 62) && decide (leAt d 9 1 ≤ 62) && decide (leAt d 0x0A 1 ≤ 32)
    && (leAt d 0x0B 1 == 0 || leAt d 0x0B 1 == c.coop.toList.getD p.engine 0) && decide (leAt d 0x10 4 ≤ 262144)
    && decide (leAt d 0x14 4 ≤ 524288) && within 1 192 (leAt d 0x24 2) && (slice d 0x28 24).all (· == 0) && p.pivotOk l
    && (l.mapIdx fun i x => x.ok (c.blockScales p i)).all id

/-- The member masks of the engines: none, or one of the three groups of which the engine and every other member is a member
(R160). -/
def SolveCfg.groupsOk (c : SolveCfg) : Bool :=
  (List.finRange 4).all fun n =>
    let m := c.coop[n]
    m == 0 || ((m == 3 || m == 12 || m == 15) && bitAt m n.val
      && (List.finRange 4).all fun k => !bitAt m k.val || c.coop[k] == m)

/-- The largest PRIMAL or DUAL tolerance of some jobs' descriptors. -/
def tolOf (o : Nat) (l : List JobCfg) : Nat := (l.map fun j => leAt (padTo 64 j.bytes) o 4).foldl max 0

/-- The parameters of R210: those of the network model where a network is declared, and those of the dispatch where a dispatch
problem is. -/
def SolveCfg.paramsOk (c : SolveCfg) (d : DistrictCfg) (h : Nat) : Bool :=
  let hyd := d.nets.map (·.hyd)
  decide (c.guard ≤ 8)
    && (d.nets.isEmpty || (within 1 64 c.hydIter && within 1 (c.trackTn - 1) c.hydDl && within (c.hydDl + 1) (h - 1) c.trackTn
        && decide (tolOf 0x10 hyd ≤ c.hydAccept) && within 1 255 c.hydHold && within 1 10000 c.parcelMin))
    && match d.disp with
      | some x => within 1 65535 c.stepBn && within 1 8 c.comfortW && decide (c.delayHyst ≤ 900) && within 1 65535 c.segCap
          && decide (tolOf 0x10 x.seg ≤ c.acceptP) && decide (tolOf 0x14 x.seg ≤ c.acceptD) && within 1 255 c.k
          && within 2 1000 c.protDl && decide (x.source ≤ 2) && within 9900 10000 c.lambda && decide (c.battTol ≤ 10000)
      | none => true

/-- SOLVE. -/
def solveChecks (c : SolveCfg) (d : DistrictCfg) (h : Nat) (b : List Byte) : List Check :=
  let at_ := fun i => Config.itemOfs 9 b i
  [(c.groupsOk, at_ 65536), (c.paramsOk d h, at_ 65537)]
    ++ c.problems.mapIdx fun i x =>
      (x.ok c && (c.problems.countP fun y => y.engine == x.engine && y.problem == x.problem) == 1, at_ i)

/-! ### DISTRICT (R14 to R25) -/

/-- The nodes that branch paths join to some nodes of a network, in a number of rounds. -/
def DistrictCfg.reach (c : DistrictCfg) (k : Nat) : Nat → List Nat → List Nat
  | 0, l => l
  | n + 1, l => c.reach k n (l ++ (c.netBranches k).flatMap fun b =>
      (if l.contains b.src && !l.contains b.dst then [b.dst] else []) ++ (if l.contains b.dst && !l.contains b.src then [b.src] else []))

/-- A network: exactly one reference node, to which branch paths join every node (R17). -/
def DistrictCfg.netOk (c : DistrictCfg) (k : Nat) : Bool :=
  let ns := c.netNodes k
  match ns.filter (·.ref) with
  | [r] => let l := c.reach k ns.length [r.id]; ns.all fun n => l.contains n.id
  | _ => false

/-- The branches that an object is bound to. -/
def DistrictCfg.bound (c : DistrictCfg) (f : BranchKind → Bool) : List BranchCfg := c.branches.filter fun b => f b.kind

/-- The branch kind binds a plant. -/
def BranchKind.isPlant (p : Nat) : BranchKind → Bool
  | .plant q _ => q == p
  | .pipe _ _ _ | .pump _ _ | .valve _ _ | .store _ _ => false

/-- The branch kind binds a store. -/
def BranchKind.isStore (p : Nat) : BranchKind → Bool
  | .store q _ => q == p
  | .pipe _ _ _ | .pump _ _ | .valve _ _ | .plant _ _ => false

/-- The branch kind binds a pump. -/
def BranchKind.isPump (p : Nat) : BranchKind → Bool
  | .pump q _ => q == p
  | .pipe _ _ _ | .plant _ _ | .valve _ _ | .store _ _ => false

/-- The branch is a pipe. -/
def BranchKind.isPipe : BranchKind → Bool
  | .pipe _ _ _ => true
  | .pump _ _ | .valve _ _ | .plant _ _ | .store _ _ => false

/-- The PLANT branches of a plant: one, or two in different networks (R21). -/
def DistrictCfg.plantOk (c : DistrictCfg) (p : Nat) : Bool :=
  match c.bound (BranchKind.isPlant p) with
  | [_] => true
  | [x, y] => c.netOf x.src != c.netOf y.src
  | _ => false

/-- A flex group: 1 to 64 substations of one network (R23), at most 16 regressors (R235). -/
def DistrictCfg.groupOk (c : DistrictCfg) (g : GroupCfg) : Bool :=
  let us := c.substs.filter fun u => u.group == g.id
  within 1 64 us.length && decide (g.phi.length ≤ 16) && us.all fun u => us.all fun v => c.netOf u.supply == c.netOf v.supply

/-- DISTRICT: the limits of R14, R15, R17 to R25 and R29. -/
def districtChecks (c : DistrictCfg) (b : List Byte) : List Check :=
  classChecks b 0 15 (·.id) c.nets (fun k => c.netOk k.id)
    ++ classChecks b 1 16383 (·.id) c.nodes (fun _ => true)
    ++ classChecks b 2 20479 (·.id) c.branches (fun x => x.src != x.dst && c.netOf x.src == c.netOf x.dst
        && decide ((c.branchSegs x.id).length ≤ 8) && (x.kind.isPipe || (c.branchSegs x.id).isEmpty))
    ++ classChecks b 3 16383 (·.id) c.segs (fun _ => true)
    ++ classChecks b 4 63 (·.id) c.plants (fun p => c.plantOk p.id)
    ++ classChecks b 5 31 (·.id) c.stores (fun p => (c.bound (BranchKind.isStore p.id)).length == 1)
    ++ classChecks b 6 255 (·.id) c.pumps (fun p => (c.bound (BranchKind.isPump p.id)).length == 1)
    ++ classChecks b 7 4095 (·.id) c.substs (fun u => c.netOf u.supply == c.netOf u.ret)
    ++ classChecks b 8 1023 (·.id) c.groups (fun g => c.groupOk g)
    ++ classChecks b 9 31 (·.id) c.feeders (fun _ => true)
    ++ classChecks b 10 15 (·.id) c.strings (fun _ => true)
    ++ classChecks b 11 255 id c.thermal (fun _ => true)
    ++ [(within 1 16 c.missLimit, Config.itemOfs 10 b (65536 * 13))]

/-- A job names a problem of a program that SOLVE declares on its engine, in a class that its directory entry permits: continuing, or
bounded (R147, R149). -/
def SolveCfg.hasJob (c : SolveCfg) (program : Nat) (cont : Bool) (j : JobCfg) : Bool :=
  let b := padTo 64 j.bytes
  leAt b 0 1 == flag cont 0 && leAt b 1 1 == program && leAt b 2 2 == j.problem
    && c.problems.any fun p => p.engine == j.engine.val && p.problem == j.problem && leAt p.dir 0 1 == program
      && bitAt (leAt p.dir 1 1) (if cont then 1 else 0)

/-- The jobs of a dispatch: a continuing ADMM_QP segment on every member of its group with one warm slot, a bounded ADMM_QP
protection job on
SE1, and a bounded RLS adaptation job and bounded SPMV residual jobs on SE2 (R227, R232, R233, R235). -/
def SolveCfg.dispJobs (c : SolveCfg) (d : DispatchCfg) : Bool :=
  let slot := fun (j : JobCfg) => leAt (padTo 64 j.bytes) 24 1
  d.seg.all (c.hasJob 6 true) && (d.prot.all fun j => j.engine == 1 && c.hasJob 6 false j)
    && (d.rls.all fun a => a.job.engine == 2 && c.hasJob 9 false a.job) && (d.imp.all fun p => p.job.engine == 2 && c.hasJob 1 false p.job)
    && match d.seg with
      | j :: l =>
        slot j != 0xFF && (l.all fun x => slot x == slot j)
          && (let m := c.coop[j.engine]
              if m = 0 then l.isEmpty else d.seg.map (·.engine) == (List.finRange 4).filter fun n => bitAt m n.val)
      | [] => d.source == 1

/-- What a variable of the dispatch names is declared. -/
def DistrictCfg.hasVar (c : DistrictCfg) (x : DispatchCfg) : PlanVar → Bool
  | .out k | .ramp k => x.outs.any fun o => o.id == k
  | .energy k | .rate k => c.stores.any fun o => o.id == k
  | .imp k | .exp k => c.feeders.any fun o => o.id == k
  | .batt k | .charge k => c.strings.any fun o => o.id == k
  | .shift k => c.groups.any fun o => o.id == k
  | .unserved _ => true

/-- The feeder or string that a trigger is bound to is declared (R233). -/
def DistrictCfg.hasCause (c : DistrictCfg) : TripCause → Bool
  | .breaker k _ => c.feeders.any fun o => o.id == k
  | .discharge k _ => c.strings.any fun o => o.id == k
  | .input _ | .request _ _ => true

/-- The references of DISTRICT: between its own tables, to the metering points of METER and to the problems of SOLVE (R15, R24,
R25). -/
def districtRefs (c : DistrictCfg) (v : SolveCfg) (m : MeterCfg) (b : List Byte) : List Check :=
  let at_ := fun cls i => Config.itemOfs 10 b (65536 * cls + i)
  let net := fun k => c.nets.any fun (x : NetCfg) => x.id == k
  let node := fun k => c.nodes.any fun (x : NodeCfg) => x.id == k
  let bound := fun (x : BranchKind) => match x with
    | .pump p _ => c.pumps.any fun (y : PumpCfg) => y.id == p
    | .plant p _ => c.plants.any fun (y : PlantCfg) => y.id == p
    | .store p _ => c.stores.any fun (y : StoreCfg) => y.id == p
    | .pipe _ _ _ | .valve _ _ => true
  (c.nets.mapIdx fun i x => (v.hasJob 7 false x.hyd && v.hasJob 8 false x.tr, at_ 0 i))
    ++ (c.nodes.mapIdx fun i x => (net x.net, at_ 1 i))
    ++ (c.branches.mapIdx fun i x => (node x.src && node x.dst && bound x.kind, at_ 2 i))
    ++ (c.segs.mapIdx fun i x => ((c.branches.any fun y => y.id == x.branch && y.kind.isPipe), at_ 3 i))
    ++ (c.plants.mapIdx fun i x => (x.outlet.all fun o => net o.1, at_ 4 i))
    ++ (c.substs.mapIdx fun i x => (node x.supply && node x.ret && (c.group x.group).isSome, at_ 7 i))
    ++ (c.feeders.mapIdx fun i x => ((m.ac.any fun p => p.pt == x.id)
        && (match c.disp with
          | some d => decide (x.impTariff < d.tariffs.length) && decide (x.expTariff < d.tariffs.length)
          | none => true), at_ 9 i))
    ++ (c.strings.mapIdx fun i x => ((m.dc.any fun p => p.pt == x.id), at_ 10 i))
    ++ (c.thermal.mapIdx fun i x => ((m.therm.any fun p => p.pt == x), at_ 11 i))
    ++ match c.disp with
      | some d =>
        [(v.dispJobs d, at_ 14 0)]
          ++ (d.vars.mapIdx fun i x => (c.hasVar d x, at_ 14 (1 + i)))
          ++ (d.outs.mapIdx fun i x => ((c.plants.any fun p => p.id == x.plant)
              && (match x.fuel with | some f => decide (f.1 < d.tariffs.length) | none => true)
              && (match x.coupled with | some f => d.outs.any fun o => o.id == f.1 | none => true), at_ 15 i))
          ++ (d.shiftBox.mapIdx fun i x => ((c.groups.any fun g => g.id == x.1), at_ 19 i))
          ++ (d.stores.mapIdx fun i x => ((c.stores.any fun p => p.id == x.id), at_ 16 i))
          ++ (d.pairs.mapIdx fun i x => (net x.net && x.vars.all (c.hasVar d), at_ 17 i))
          ++ d.trip.mapIdx fun i x => (x.vars.all (c.hasVar d) && c.hasCause x.cause, at_ 18 i)
      | none => []

/-! ### Capacities (R1) -/

/-- Rows of one step of the dispatch (R223). -/
def DistrictCfg.rows (c : DistrictCfg) (d : DispatchCfg) : Nat :=
  d.vars.length + 2 + c.stores.length + d.outs.length + (d.outs.countP fun o => o.coupled.isSome) + 1 + c.strings.length
    + c.groups.length + d.pairs.length

/-- The first capacity of R1 that an accord exceeds: section and item. -/
def capacityErr (c : DistrictCfg) (v : SolveCfg) (loops : Nat) : Option (Nat × Nat) :=
  let size := fun (p : ProblemCfg) => decide (262144 < leAt p.dir 0x10 4) || decide (524288 < leAt p.dir 0x14 4)
    || decide (192 < leAt p.dir 0x24 2)
  let l : List (Bool × Nat × Nat) :=
    [(decide (1024 < loops), 8, 0), (decide (4096 < c.substs.length), 10, 65536 * 7), (decide (64 < c.plants.length), 10, 65536 * 4),
     (decide (32 < c.stores.length), 10, 65536 * 5), (decide (256 < c.pumps.length), 10, 65536 * 6),
     (decide (1024 < c.groups.length), 10, 65536 * 8), (decide (16384 < c.nodes.length), 10, 65536),
     (decide (20480 < c.branches.length), 10, 65536 * 2), (decide (16384 < c.segs.length), 10, 65536 * 3)]
    ++ (match c.disp with
      | some d => [(decide (262144 < d.vars.length * d.horizon), 10, 65536 * 14),
          (decide (524288 < c.rows d * d.horizon), 10, 65536 * 14), (decide (192 < d.horizon), 10, 65536 * 14)]
      | none => [])
    ++ v.problems.mapIdx fun i p => (size p, 9, i)
  (l.find? fun x => x.1).map fun x => x.2

end Sys2Proof.Machine
end

