-- ==== Sys2Proof/Machine/AccordForm.lean ====
section
/-! DEFINITION. The byte form of an accord: header, TLV walk, the sections whose layout the manual gives, and the checks of R68
(R58 to R68, R100 to R102, R269, R339, R346, R349, R378, R379, R405, R410, R482, R533, R574 to R577). -/

namespace Sys2Proof.Machine

/-! ### Sections whose layout is given -/

/-- STRUCT that bytes spell (R63). -/
def StructCfg.ofBytes (b : List Byte) : StructCfg :=
  { roles := Vector.ofFn fun i => ⟨leAt b (1 + i.val) 1 % 8, by omega⟩,
    parts := Vector.ofFn fun i => bitAt (leAt b 9 1) i.val, fallback := leAt b 10 1, warm := leAt b 11 1 == 1,
    overrunN := leAt b 12 1, stagger := leAt b 13 1, twin := leAt b 16 4 == 1 }

/-- FRAMES that bytes spell (the worked example of The Accord). -/
def FramesCfg.ofBytes (b : List Byte) : FramesCfg :=
  { period := leAt b 0 4, h := leAt b 4 2, b := leAt b 6 2, src := leAt b 8 1, kpShift := leAt b 9 1, kiShift := leAt b 10 1,
    lockWin := leAt b 11 1, glitchWin := leAt b 12 2 }

/-- TWIN that bytes spell (R533). -/
def TwinCfg.ofBytes (b : List Byte) : TwinCfg :=
  { iface := leAt b 0 1, key := leAt b 2 2, mac := leAt b 4 6, backoffMax := leAt b 12 1 }

/-- TRUST that bytes spell (R482). -/
def TrustCfg.ofBytes (b : List Byte) : TrustCfg :=
  let slots := fun o n => (List.range (min n 16)).map fun i => leAt b (o + 2 * i) 2
  { accessKey := leAt b 0 2, pwSlot := [leAt b 2 2, leAt b 4 2, leAt b 6 2], pwHold := leAt b 8 2, methods := leAt b 10 1,
    crMax := leAt b 11 1, pwMax := leAt b 12 1, keyLevel := leAt b 16 1, accord := slots 24 (leAt b 13 1),
    amend := slots 56 (leAt b 14 1), exports := slots 88 (leAt b 15 1) }

/-- A channel record (R339). -/
def ChanCfg.ofBytes (b : List Byte) : ChanCfg :=
  { ch := leAt b 0 1, current := leAt b 1 1 == 1, fs := leAt b 4 4, offset := toSigned 32 (leAt b 8 4),
    g := (List.range 16).map fun i => leAt b (16 + 4 * i) 4,
    phi := (List.range 16).map fun i => toSigned 32 (leAt b (80 + 4 * i) 4) }

/-- An AC point record (R339): the channels its kind uses. -/
def PointCfg.ofAc (b : List Byte) : PointCfg :=
  let n := if leAt b 1 1 = 0 then 2 else if leAt b 1 1 = 1 then 4 else 6
  { pt := leAt b 0 1, kind := leAt b 1 1, dir := bitAt (leAt b 2 1) 0, ch := (List.range n).map fun i => leAt b (4 + i) 1 }

/-- A DC point record (R339). -/
def PointCfg.ofDc (b : List Byte) : PointCfg :=
  { pt := leAt b 0 1, kind := 3, dir := bitAt (leAt b 1 1) 0, ch := [leAt b 2 1, leAt b 3 1] }

/-- A thermal record (R339). -/
def ThermCfg.ofBytes (b : List Byte) : ThermCfg :=
  { pt := leAt b 0 2, rate := leAt b 2 1 == 1, ret := leAt b 3 1 == 1, flow := leAt b 4 2, tf := leAt b 6 2, tr := leAt b 8 2,
    pulseMl := leAt b 12 4, kpa := leAt b 16 4, dtMin := leAt b 20 4 }

/-- A pulse record (R339). -/
def PulseCfg.ofBytes (b : List Byte) : PulseCfg :=
  { ch := leAt b 0 1, kind := leAt b 1 1, pt := leAt b 2 2, reg := leAt b 4 1, width := leAt b 6 2, pc := leAt b 8 4 }

/-- METER that bytes spell, with the MCLK modes of PINS (R309, R339). -/
def MeterCfg.ofBytes (b : List Byte) (mclk : List MclkMode) : MeterCfg :=
  let nc := leAt b 2 1
  let na := leAt b 3 1
  let nd := leAt b 4 1
  let np := leAt b 5 1
  let nt := leAt b 6 2
  let o1 := 112 + 144 * nc
  let o2 := o1 + 16 * na
  let o3 := o2 + 8 * nd
  { slow := leAt b 0 1 == 1, dest := leAt b 1 1,
    groups := recs b 16 12 8 fun x => (leAt x 0 1 == 1, leAt x 1 1, leAt x 4 4),
    chans := recs b 112 nc 144 ChanCfg.ofBytes, ac := recs b o1 na 16 PointCfg.ofAc, dc := recs b o2 nd 8 PointCfg.ofDc,
    therm := recs b o3 nt 32 ThermCfg.ofBytes, pulses := recs b (o3 + 32 * nt) np 16 PulseCfg.ofBytes, mclk := mclk }

/-- A task record (R269). -/
def TaskCfg.ofBytes (b : List Byte) : TaskCfg :=
  { period := leAt b 0 2, margin := leAt b 4 4, wcet := leAt b 8 4, entry := leAt b 12 4, cCommit := leAt b 16 4,
    inLen := leAt b 20 4, outLen := leAt b 24 4 }

/-- A partition record with its bindings and its symbol map from flash (R269, R303). -/
def PartCfg.ofBytes (b : List Byte) : PartCfg :=
  let bankB := leAt b 2 1 == 1
  let digA := slice b 0x110 64
  let digB := slice b 0x150 64
  let d := if bankB then digB else digA
  { part := leAt b 0 1, tasks := recs b 16 (leAt b 1 1) 32 TaskCfg.ofBytes, bankB := bankB, forceMax := leAt b 3 1,
    dataLen := leAt b 4 4, major := leAt b 8 4, digA := digA, digB := digB, symDig := slice b 0x190 64,
    migDig := slice b 0x1D0 64,
    bind := { Config.bindings d (leAt b 0 1) with symmap := (Config.flashSymmap d).getD [] } }

/-- The partition records of PROGRAMS (R269). -/
def progRecords (b : List Byte) : List PartCfg := recs b 8 (leAt b 0 1) 544 PartCfg.ofBytes

/-- The header that an accord's bytes spell, with its digest and its name (R59, R62, R66). -/
def HeaderCfg.ofBytes (b digest name : List Byte) : HeaderCfg :=
  { seq := leAt b 12 4, rollback := leAt b 16 1, estate := leAt b 17 1 == 1, signer := leAt b 28 2, digest := digest,
    name := name }

/-! ### The content of an accord -/

/-- The outputs that the start stagger holds back (R304, R362, R410). -/
def staggerKeys (d : DioCfg) (st : List StnCfg) : List Nat :=
  ((List.range 48).filter fun c => match d.ch[c]? with | some x => x.mode == 5 && bitAt x.flags 2 | none => false)
    ++ st.flatMap fun c => ((List.range c.outs.length).filter fun k => match c.outs[k]? with
      | some i => i.stag | none => false).map fun k => 48 + (c.port * 256 + c.st) * 256 + k

/-- The content that an accord's bytes spell. -/
def RunCfg.ofBytes (b : List Byte) (l : List Sect) : RunCfg :=
  let v := sectVal b l
  let pins := v 6
  let dio := DioCfg.ofBytes (Config.pinsDio pins)
  let st := (Config.stationRecords (v 10)).map fun x => StnCfg.ofBytes x.1 x.2
  let loops := Config.loopsSection (v 8)
  { hdr := HeaderCfg.ofBytes b (digest64 (b.take (sectOfs l 15 - 8))) ((v 1).take 48), str := StructCfg.ofBytes (v 2),
    mem := Config.memorySection (v 3), frames := FramesCfg.ofBytes (v 5), solve := Config.solveSection (v 9),
    loops := { loops with loops := loops.loops.map fun x => (x.1, Loop.load x.2) },
    dist := Config.districtSection (v 10), prog := { parts := progRecords (v 11), stagger := staggerKeys dio st },
    meter := MeterCfg.ofBytes (v 7) (Config.pinsMclk pins), can := (Config.pinsCan pins).map CanCfg.ofBytes, stns := st,
    twin := TwinCfg.ofBytes (v 14), dio := dio, ppsOut := Config.pinsPps pins, trust := TrustCfg.ofBytes (v 13),
    comms := CommsCfg.ofBytes (v 12) }

/-! ### Step 11: field limits (R62 to R64, R102, R252, R259, R269, R270, R339, R346 to R349, R362, R378, R379, R405, R410, R482,
R533) -/

/-- The bytes of a range are 0. -/
def clear (b : List Byte) (o n : Nat) : Bool := allZero (slice b o n)

/-- Header limits (R59). -/
def headerChecks (b : List Byte) : List Check :=
  [(decide (1 ≤ leAt b 12 4), 12), (decide (leAt b 16 1 ≤ 64), 16), (decide (leAt b 17 1 ≤ 1), 17), (clear b 20 4, 20),
   (decide (leAt b 28 2 ≤ 511), 28), (clear b 30 2, 30), (clear b 56 8, 56)]

/-- HEAD: the padding of the name and the reserved bytes (R62). -/
def headChecks (b : List Byte) : List Check :=
  ((List.range 48).map fun i => (leAt b i 1 == 0 || (slice b 0 i).all (· != 0), i)) ++
   [(clear b 52 4, 52)]

/-- STRUCT (R63). PARTITIONS bits 4 to 7 name no partition, and a value with one of them set is refused (DESIGN CHOICE, log
entry 57). -/
def structChecks (b : List Byte) (profile : Nat) : List Check :=
  let roles := (List.range 8).map fun i => leAt b (1 + i) 1
  [(b.length == 36, 0), (leAt b 0 1 == profile, 0), ((List.range 8).all fun r => roles.contains r, 1),
   (leAt b 9 1 != 0 && decide (leAt b 9 1 < 16), 9),
   (within 1 4 (leAt b 10 1) && bitAt (leAt b 9 1) (leAt b 10 1 - 1), 10), (decide (leAt b 11 1 ≤ 1), 11),
   (leAt b 12 1 != 0, 12), (leAt b 13 1 != 0, 13), (clear b 14 2, 14), (decide (leAt b 16 4 ≤ 1), 16), (clear b 20 16, 20)]

/-- KIND and OWNER of a slot byte. -/
def slotKind (b : List Byte) (p : Nat) : Nat := leAt b p 1 / 64
/-- OWNER of a slot byte. -/
def slotOwner (b : List Byte) (p : Nat) : Nat := leAt b p 1 % 64

/-- One position of the slot table (R100 to R102, R104). -/
def slotOk (b : List Byte) (p : Nat) : Bool :=
  let k := slotKind b p
  let o := slotOwner b p
  k != 3 && (if k = 0 then o == 0 else o != 7 && decide (o ≤ 0x14)) && !(k == 2 && p % 4 == 3)
    && ((p != 1 && p != 129) || k == 0)
    && !(k == 2 && p % 4 == 0 && (List.range 11).any fun d =>
      (p + 256 - (d + 1)) % 256 % 4 == 0 && slotKind b ((p + 256 - (d + 1)) % 256) == 2)

/-- FABRIC (R100, R102). -/
def fabricChecks (b : List Byte) : List Check :=
  [(b.length == 272, 0)] ++ ((List.range 256).map fun p => (slotOk b p, p))
    ++ (List.range 8).map fun i =>
      let c := leAt b (256 + 2 * i) 1
      let w := leAt b (257 + 2 * i) 1
      (decide (w ≤ 15) && (w == 0 || within 0x20 0x27 c), 256 + 2 * i)

/-- FRAMES (R32, R33, R38), with the limits of LOCK_WIN and GLITCH_WIN in the SYS_FS registers (R64). -/
def framesChecks (b : List Byte) : List Check :=
  [(b.length == 16, 0), (within 25000 1000000 (leAt b 0 4), 0), (within 10 1000 (leAt b 4 2), 4), (within 1 600 (leAt b 6 2), 6),
   (decide (leAt b 8 1 ≤ 2), 8), (leAt b 8 1 == 0 || 100000000 % leAt b 0 4 == 0, 8), (decide (leAt b 9 1 ≤ 15), 9),
   (decide (leAt b 10 1 ≤ 15), 10), (within 1 15 (leAt b 11 1), 11), (leAt b 12 2 != 0, 12), (clear b 14 2, 14)]

/-- A port record of PINS (R346, R348, R349). -/
def canRecOk (b : List Byte) : Bool :=
  let c := CanCfg.ofBytes b
  let n := (fld c.btn 31 24 + 1) * (1 + (fld c.btn 23 16 + 1) + (fld c.btn 14 8 + 1))
  let d := (fld c.btd 31 27 + 1) * (1 + (fld c.btd 26 22 + 1) + (fld c.btd 21 18 + 1))
  decide (c.port ≤ 7) && (bitAt c.flags 1 || !bitAt c.flags 2) && (bitAt c.flags 2 || !bitAt c.flags 3)
    && decide (c.dest ≤ 7) && leAt b 3 1 == 0 && c.base % 4 == 0
    && decide (c.base < if bitAt c.flags 5 then 2 ^ 29 else 2 ^ 11) && decide (80 ≤ n) && within 10 n d
    && decide (fld c.btn 6 0 ≤ min (fld c.btn 23 16) (fld c.btn 14 8))
    && decide (fld c.btd 17 14 ≤ min (fld c.btd 26 22) (fld c.btd 21 18)) && !bitAt c.btn 15 && !bitAt c.btn 7
    && fld c.btd 13 7 == 0

/-- A channel entry of PINS (R410). -/
def DioChanCfg.ok (c : DioChanCfg) : Bool :=
  let out := c.mode == 5
  decide (c.mode ≤ 5) && decide (c.filter ≤ 3) && (!out || c.filter == 0) && (!bitAt c.flags 0 || within 1 4 c.mode)
    && (out || (!bitAt c.flags 1 && !bitAt c.flags 2)) && decide (c.flags < 8)
    && (if out then within 1 255 c.mismatch else c.mismatch == 0)

/-- PINS: port records and channel entries (R346, R410). -/
def pinsChecks (b : List Byte) : List Check :=
  let d := Config.pinsDio b
  let can := Config.pinsCan b
  let ports := can.map fun x => leAt x 0 1
  [(decide (leAt d 0 1 ≤ 7) && clear d 1 7 && d.length == 200, Config.itemOfs 6 b 0)]
    ++ (DioCfg.ofBytes d).ch.mapIdx (fun i c => (c.ok, Config.itemOfs 6 b (1 + i)))
    ++ can.mapIdx fun i x => (canRecOk x && ports.count (leAt x 0 1) == 1, Config.itemOfs 6 b (49 + i))

/-- METER (R309, R317, R339, R64). -/
def meterChecks (b : List Byte) (mclk : List MclkMode) (twin : Bool) (dio : DioCfg) : List Check :=
  let m := MeterCfg.ofBytes b mclk
  let o1 := 112 + 144 * leAt b 2 1
  let o2 := o1 + 16 * leAt b 3 1
  let o3 := o2 + 8 * leAt b 4 1
  let o4 := o3 + 32 * leAt b 6 2
  let want := if twin then MclkMode.twinShared else MclkMode.output
  let chs := (m.ac ++ m.dc).flatMap (·.ch)
  let kind := fun c => (m.chans.find? fun x => x.ch == c).map (·.current)
  let mode := fun c => match dio.ch[c]? with | some x => x.mode | none => 0
  let half := fun (p : PointCfg) => p.ch.length / 2
  let reg := fun (p : PulseCfg) =>
    if p.kind = 0 then (m.ac.any fun x => x.pt == p.pt) && decide (p.reg ≤ 6)
    else if p.kind = 1 then (m.dc.any fun x => x.pt == p.pt) && decide (p.reg ≤ 3)
    else (m.therm.any fun x => x.pt == p.pt) && decide (p.reg ≤ 3)
  [(decide (leAt b 0 1 ≤ 1), 0), (decide (leAt b 1 1 ≤ 7), 1), (decide (leAt b 2 1 ≤ 96), 2), (decide (leAt b 3 1 ≤ 32), 3),
   (decide (leAt b 4 1 ≤ 16), 4), (decide (leAt b 5 1 ≤ 16), 5), (decide (leAt b 6 2 ≤ 256), 6), (clear b 8 8, 8),
   (b.length == o4 + 16 * leAt b 5 1, 0)]
    ++ (List.range 12).map (fun g => (decide (leAt b (16 + 8 * g) 1 ≤ 1) && clear b (18 + 8 * g) 2
        && (mclk.getD g .off == .off || mclk.getD g .off == want)
        && (leAt b (16 + 8 * g) 1 == 0 || within 1 4 (leAt b (17 + 8 * g) 1)), 16 + 8 * g))
    ++ m.chans.mapIdx (fun i c => (decide (c.ch ≤ 95) && decide (leAt b (113 + 144 * i) 1 ≤ 1)
        && (m.chans.countP fun x => x.ch == c.ch) == 1
        && clear b (114 + 144 * i) 2 && clear b (124 + 144 * i) 4 && mclk.getD (c.ch / 8) .off == want && c.g.all (fun g =>
            decide (0 < g)) && c.phi.all (fun p => decide (absI p ≤ 32768)),
        112 + 144 * i))
    ++ (m.ac.mapIdx fun i p => (decide (p.pt < 32) && decide (p.kind ≤ 2) && (m.ac.countP fun x => x.pt == p.pt) == 1
        && (p.ch.take (half p)).all (fun c => kind c == some false) && (p.ch.drop (half p)).all (fun c => kind c == some true)
        && clear b (o1 + 16 * i + 3) 1 && clear b (o1 + 16 * i + 10) 6
        && (List.range 6).all (fun k => decide (k < p.ch.length) || leAt b (o1 + 16 * i + 4 + k) 1 == 0xFF)
        && p.ch.all (fun c => chs.count c == 1), o1 + 16 * i))
    ++ (m.dc.mapIdx fun i p => (decide (p.pt < 16) && (m.dc.countP fun x => x.pt == p.pt) == 1
        && (p.ch.take 1).all (fun c => kind c == some false) && (p.ch.drop 1).all (fun c => kind c == some true)
        && clear b (o2 + 8 * i + 4) 4 && p.ch.all (fun c => chs.count c == 1), o2 + 8 * i))
    ++ (m.therm.mapIdx fun i t => (decide (t.pt < 256) && (m.therm.countP fun x => x.pt == t.pt) == 1
        && decide (leAt b (o3 + 32 * i + 2) 1 ≤ 1) && decide (leAt b (o3 + 32 * i + 3) 1 ≤ 1)
        && clear b (o3 + 32 * i + 10) 2 && clear b (o3 + 32 * i + 24) 8
        && (t.rate || (mode t.flow == 3 || mode t.flow == 4)), o3 + 32 * i))
    ++ m.pulses.mapIdx fun i p => (decide (p.ch ≤ 47) && decide (p.kind ≤ 2) && within 10 200 p.width && decide (1 ≤ p.pc)
        && clear b (o4 + 16 * i + 5) 1 && clear b (o4 + 16 * i + 12) 4 && mode p.ch == 5 && reg p, o4 + 16 * i)

/-- A loop record: id, RATE, MASK and SEC_BUDGET (R252, R256, R259, R263). -/
def loopOk (x : Nat × Loop) : Bool :=
  let l := x.2
  decide (x.1 < 1024) && within 1 8 l.budget && decide (l.rate ≤ 9) && decide (l.phase < divisor l.rate)
    && l.phase % Nat.gcd (divisor l.rate) 16 == x.1 % Nat.gcd (divisor l.rate) 16 && decide (secCount l.secs ≤ l.budget)
    && (!l.presetEn || topSection l.secs == some l.presetSec)

/-- LOOPS: at most 1,024 records, each id once, every limit of a record kept (R64, R252, R259). -/
def loopsChecks (b : List Byte) : List Check :=
  let l := (Config.loopsSection b).loops
  l.map fun x => (loopOk x && (l.countP fun y => y.1 == x.1) == 1, Config.itemOfs 8 b x.1)

/-- The station link range of a port lies within its identifiers (R361). -/
def CanCfg.holds (c : CanCfg) (st : Nat) : Bool := decide (c.base + 4 * (st + 1) ≤ if bitAt c.flags 5 then 2 ^ 29 else 2 ^ 11)

/-- A station record (R361, R362). -/
def stationOk (b : List Byte) (topUs : Nat) (cans : List CanCfg) : Bool :=
  let ni := leAt b 4 1
  let no := leAt b 5 1
  let items := List.range (ni + no)
  decide (leAt b 0 1 ≤ 7) && decide (leAt b 1 1 ≤ 63) && within 1 126 (leAt b 2 1) && decide (leAt b 3 1 ≤ 126) && within 1 32 ni
    && decide (no ≤ 32) && within 1 1000 (leAt b 6 2) && within 1 (topUs - 1) (leAt b 8 2) && within 1 16 (leAt b 10 1)
    && decide (leAt b 11 1 ≤ 15) && within 1 65535 (leAt b 12 2) && within 1 1000 (leAt b 14 2)
    && within 100 10000 (leAt b 16 2) && clear b 18 14
    && (cans.all fun c => c.port != leAt b 0 1 || c.holds (leAt b 1 1))
    && items.all fun k =>
      let o := 32 + 8 * k
      decide (leAt b (o + 1) 1 ≤ 7) && decide (leAt b (o + 2) 1 ≤ if leAt b (o + 1) 1 = 0 then 7 else 0)
        && decide (leAt b (o + 3) 1 ≤ if k < ni then 0 else 1) && (decide (ni ≤ k) || clear b (o + 4) 4)

/-- DISTRICT: station records (R362). -/
def stationChecks (b : List Byte) (topUs : Nat) (cans : List CanCfg) : List Check :=
  let st := (Config.stationRecords b).map (·.1)
  st.mapIdx fun i x => (stationOk x topUs cans && (st.countP fun y => slice y 0 2 == slice x 0 2) == 1,
      Config.itemOfs 10 b (65536 * 12 + i))

/-- PROGRAMS, with a record for every partition in use (R64, R269, R270). -/
def programsChecks (b : List Byte) (parts : Nat) (period : Nat) : List Check :=
  let n := leAt b 0 1
  [(within 1 4 n && n == (List.range 4).countP fun k => bitAt parts k, 0), (clear b 1 7, 1), (b.length == 8 + 544 * n, 0)]
    ++ (List.range n).flatMap fun k =>
      let o := 8 + 544 * k
      let nt := leAt b (o + 1) 1
      let per := (List.range nt).map fun i => leAt b (o + 16 + 32 * i) 2
      [(within 1 4 (leAt b o 1) && bitAt parts (leAt b o 1 - 1) && (k == 0 || decide (leAt b (o - 544) 1 < leAt b o 1)), o),
       (within 1 8 nt, o + 1), (decide (leAt b (o + 2) 1 ≤ 1), o + 2), (decide (leAt b (o + 3) 1 ≤ 32), o + 3),
       (within 64 65536 (leAt b (o + 4) 4) && leAt b (o + 4) 4 % 64 == 0, o + 4), (clear b (o + 12) 4, o + 12)]
        ++ ((List.range 8).flatMap fun i =>
          let t := o + 16 + 32 * i
          if i < nt then
            [(leAt b t 2 != 0, t), (clear b (t + 2) 2, t + 2),
             (decide (1024 ≤ leAt b (t + 4) 4) && decide (leAt b (t + 4) 4 < leAt b t 2 * 4 * (period - 10)), t + 4),
             (clear b (t + 28) 4, t + 28)]
          else [(clear b t 32, t)])
        ++ [(leAt b (o + 8) 4 == lcmList per && decide (leAt b (o + 8) 4 ≤ 65535), o + 8), (clear b (o + 0x210) 16, o + 0x210)]

/-- COMMS: ranges, roles and the historian list (R378, R379, R405). -/
def commsChecks (b : List Byte) : List Check :=
  let c := CommsCfg.ofBytes b
  let o1 := 32 + 8 * c.ports.length
  let o2 := o1 + 32 * c.ifs.length
  let o3 := o2 + 20 * c.allow.length + 16 * c.mb.length
  let roleCount := fun r => c.ifs.countP fun x => bitAt x.roles r
  [(decide (leAt b 0 1 ≤ 4), 0), (decide (leAt b 1 1 ≤ 16), 1), (decide (leAt b 2 1 ≤ 16), 2), (decide (c.dest ≤ 7), 3),
   (decide (leAt b 4 2 ≤ 1024), 4), (decide (leAt b 6 2 ≤ 8192), 6),
   (decide (1024 ≤ c.xsxPort) && c.xsxPort != 18641 && c.xsxPort != 502, 8), (within 10 3600 c.mbIdle, 14),
   (decide (c.ptpDomain ≤ 127), 16), (decide (c.ptpFlags ≤ 1), 17), (clear b 18 14, 18),
   (b.length == o3 + 8 * c.hist.length, 0)]
    ++ (c.ports.mapIdx fun i p => (decide (p.port ≤ 3) && (c.ports.countP fun x => x.port == p.port) == 1
        && decide (leAt b (33 + 8 * i) 1 ≤ 1) && clear b (34 + 8 * i) 2, 32 + 8 * i))
    ++ (c.ifs.mapIdx fun i x => ((c.ifs.countP fun y => y.port == x.port && y.vid == x.vid) == 1 && decide (x.vid ≤ 4094)
        && decide (x.roles < 16) && (!bitAt x.roles 3 || x.roles == 8) && decide (x.pcp ≤ 7) && decide (x.plen4 ≤ 32)
        && decide (x.plen6 ≤ 128) && decide (x.flags < 8) && (!bitAt x.roles 1 || roleCount 1 == 1)
        && (!bitAt x.roles 2 || roleCount 2 == 1), o1 + 32 * i))
    ++ ((List.range c.allow.length).map fun i => (decide (leAt b (o2 + 20 * i + 16) 1 ≤ 128) && clear b (o2 + 20 * i + 17) 3, o2 + 20 * i))
    ++ (c.mb.mapIdx fun i x => (decide (x.table ≤ 3) && decide (x.flags ≤ 3) && decide (x.kind ≤ 5) && decide (x.type ≤ 8),
        o2 + 20 * c.allow.length + 16 * i))
    ++ c.hist.mapIdx fun i x => (decide (x.kind ≤ 5) && decide (x.type ≤ 8) && decide (leAt b (o3 + 8 * i + 2) 1 ≤ 1)
        && decide ((c.hist.countP fun y => !y.base) ≤ 2048), o3 + 8 * i)

/-- TRUST (R482). -/
def trustChecks (b : List Byte) : List Check :=
  let slot := fun v => v == 0xFFFF || decide (v < 512)
  let t := TrustCfg.ofBytes b
  [(b.length == 264, 0), (slot (leAt b 0 2), 0), (slot (leAt b 2 2), 2), (slot (leAt b 4 2), 4), (slot (leAt b 6 2), 6),
   (within 1 480 (leAt b 8 2), 8), (decide (leAt b 10 1 < 16), 10), (within 1 3 (leAt b 11 1), 11),
   (within 1 3 (leAt b 12 1), 12), (within 1 16 (leAt b 13 1), 13), (decide (leAt b 14 1 ≤ 16), 14),
   (decide (leAt b 15 1 ≤ 16), 15), (within 2 3 (leAt b 16 1), 16), (clear b 17 7, 17),
   (t.accord.all (· < 512), 24), (t.amend.all (· < 512), 56), (t.exports.all (· < 512), 88), (clear b 120 144, 120)]

/-- TWIN (R533). -/
def twinChecks (b : List Byte) : List Check :=
  [(b.length == 16, 0), (clear b 1 1, 1), (decide (leAt b 2 2 < 512), 2), (clear b 10 2, 10), (within 1 16 (leAt b 12 1), 12),
   (clear b 13 3, 13)]

/-- Step 11: the first limit that fails, section by section in type order. -/
def limitErr (b : List Byte) (l : List Sect) : Option AcdErr :=
  let v := sectVal b l
  let str := StructCfg.ofBytes (v 2)
  let mclk := Config.pinsMclk (v 6)
  let dio := DioCfg.ofBytes (Config.pinsDio (v 6))
  let topUs := leAt (v 5) 0 4 / 100
  let tests : List (Nat × Option Nat) :=
    [(1, firstBad (headChecks (v 1))), (2, firstBad (structChecks (v 2) (leAt b 17 1))),
        (3, firstBad (memoryChecks (Config.memorySection (v 3)) (v 3))),
     (4, firstBad (fabricChecks (v 4))), (5, firstBad (framesChecks (v 5))),
     (6, (firstBad (pinsChecks (v 6))).or (Config.pinFault (v 6))), (7, firstBad (meterChecks (v 7) mclk str.twin dio)),
     (8, firstBad (loopsChecks (v 8))),
     (9, firstBad (solveChecks (Config.solveSection (v 9)) (Config.districtSection (v 10)) (leAt (v 5) 4 2) (v 9))),
     (10, (firstBad (stationChecks (v 10) topUs ((Config.pinsCan (v 6)).map CanCfg.ofBytes)
       ++ districtChecks (Config.districtSection (v 10)) (v 10))).or (Config.districtFault (v 10))),
     (11, firstBad (programsChecks (v 11) (leAt (v 2) 9 1) (leAt (v 5) 0 4))), (12, firstBad (commsChecks (v 12))),
     (13, firstBad (trustChecks (v 13))),
     (14, if (l.any fun x => x.type == 14) then firstBad (twinChecks (v 14)) else none)]
  match firstBad (headerChecks b) with
  | some o => some ⟨0x0B, 0, o⟩
  | none => tests.findSome? fun t => t.2.map fun o => ⟨0x0B, t.1, sectOfs l t.1 + o⟩

/-! ### Steps 12 to 16 -/

/-- A station with a number of input items is declared. -/
def RunCfg.hasStn (c : RunCfg) (port st : Nat) (f : StnCfg → Bool) : Bool := c.stns.any fun x => x.port == port && x.st == st && f x

/-- A partition in use has an output item (R271). -/
def RunCfg.hasItem (c : RunCfg) (part item : Nat) : Bool :=
  c.prog.parts.any fun p => p.part == part && p.bind.outs.any fun l => l.any fun o => o.item == item

/-- A metering word is that of a declared point, or of no point (R327). -/
def MeterCfg.hasWord (m : MeterCfg) (w : Nat) : Bool :=
  let o := 4 * w
  if 0x4000 ≤ o ∧ o < 0x5000 then m.ac.any fun p => p.pt == (o - 0x4000) / 128
  else if 0x5000 ≤ o ∧ o < 0x5200 then m.dc.any fun p => p.pt == (o - 0x5000) / 32
  else if 0x6000 ≤ o ∧ o < 0x8000 then m.therm.any fun p => p.pt == (o - 0x6000) / 32
  else true

/-- What a bound source names is declared, and a DIO channel that it reads is not OFF (R15, R64). -/
def RunCfg.srcOk (c : RunCfg) (x : Src) : Bool :=
  let on := fun ch => match c.dio.ch[ch]? with | some y => y.mode != 0 | none => false
  let vars := match c.dist.disp with | some d => d.vars.length * d.horizon | none => 0
  match x with
  | .none | .level | .sys _ => true
  | .dio ch | .dioCount ch => on ch
  | .station port st k => c.hasStn port st fun y => decide (k < y.ins.length)
  | .stationWord port st w => c.hasStn port st fun y => decide (4 * w < y.inLen)
  | .stationState port st | .stationAge port st => c.hasStn port st fun _ => true
  | .meter w => c.meter.hasWord w
  | .substation k _ => c.dist.substs.any fun u => u.id == k
  | .net k _ => c.dist.nets.any fun n => n.id == k
  | .program part item => c.hasItem part item
  | .target k => decide (k < vars)
  | .dispatch k _ _ item => decide (k < vars) && c.hasItem c.str.fallback item
  | .staggerWait key => c.prog.stagger.contains key
  | .flex g _ => c.dist.groups.any fun y => y.id == g
  | .loopOut kind e => c.loops.loops.any fun l => l.2.destKind == kind && l.2.destEntry == e

/-- The sources that DISTRICT binds, with the class and position of their object (R15, R21 to R25, R213, R223, R235). -/
def DistrictCfg.srcs (c : DistrictCfg) : List (Nat × Nat × List Src) :=
  let at_ := fun (cls : Nat) (l : List (List Src)) => l.mapIdx fun i x => (cls, i, x)
  let cmd := fun k : BranchKind => match k with
    | .valve _ s => [s]
    | .pipe _ _ _ | .pump _ _ | .plant _ _ | .store _ _ => []
  at_ 2 (c.branches.map fun x => cmd x.kind) ++ at_ 4 (c.plants.map fun x => x.outlet.map (·.2))
    ++ at_ 5 (c.stores.map fun x => [x.energy]) ++ at_ 6 (c.pumps.map fun x => [x.cmd])
    ++ at_ 8 (c.groups.map fun x => x.phi.flatMap fun y => y.1 :: y.2) ++ at_ 10 (c.strings.map fun x => [x.energy])
    ++ match c.disp with
      | some d => at_ 14 [[d.losses.1, d.losses.2, d.site.1] ++ d.site.2] ++ at_ 15 (d.outs.map fun x => [x.measured])
        ++ at_ 18 (d.trip.map fun x => [x.cause.src])
      | none => []

/-- Where an output item of a partition goes exists: a DIO output channel, an output item of a declared station (R15, R271). -/
def RunCfg.destOk (c : RunCfg) : OutDest → Bool
  | .dio ch => match c.dio.ch[ch]? with | some y => y.mode == 5 | none => false
  | .station port st k => c.hasStn port st fun y => decide (k < y.outs.length)
  | .setpoint => true

/-- Every writer of a physical output, by section and item, with the output that it writes: a loop's DIO destination or the station
item that its output entry feeds, a partition's output item and an energy pulse (R27). -/
def RunCfg.writers (c : RunCfg) : List (Nat × Nat × Nat) :=
  (c.loops.loops.filterMap fun x => if x.2.destKind = 2 then some (8, x.1, x.2.destEntry) else none)
    ++ (c.loops.loops.filterMap fun x => if x.2.destKind = 0 then some (8, x.1, 2 ^ 30 + x.2.destEntry) else none)
    ++ (c.stns.zipIdx.flatMap fun y => y.1.outs.zipIdx.filterMap fun o => match o.1.loop with
      | some _ => some (10, 65536 * 12 + y.2, stnKey y.1 o.2)
      | none => none)
    ++ (c.meter.pulses.mapIdx fun i x => (7, i, x.ch))
    ++ c.prog.parts.zipIdx.flatMap fun p => p.1.bind.outs.flatMap fun l => l.filterMap fun o => o.dest.key.map fun k => (11, p.2, k)

/-- The first writer of an output that has another (R27). -/
def RunCfg.twoWriters (c : RunCfg) : Option (Nat × Nat) :=
  let l := c.writers
  (l.find? fun x => (l.countP fun y => y.2.2 == x.2.2) != 1).map fun x => (x.1, x.2.1)

/-- The sources bound to a set-point entry of an engine; under TAKEOVER both tables hold the entries of both engines, so that a binding
of either engine writes it (R26, R263). -/
def LoopsCfg.sources (c : LoopsCfg) (engine entry : Nat) : List Src :=
  ((c.binds.filter fun b => (c.takeover || b.1 == engine) && b.2.1 == entry).map fun b => b.2.2).eraseDups

/-- A source of the kind that SP_SRC names: 1 PROGRAM, 2 DISPATCH (R248). -/
def Src.feeds (kind : Nat) : Src → Bool
  | .program _ _ => kind == 1
  | .dispatch _ _ _ _ => kind == 2
  | .none | .station _ _ _ | .stationWord _ _ _ | .meter _ | .substation _ _ | .net _ _ | .stationState _ _ | .stationAge _ _
  | .target _ | .level | .sys _ | .staggerWait _ | .dioCount _ | .dio _ | .flex _ _ | .loopOut _ _ => false

/-- A loop's set-point has exactly one source, of its declared kind: its entry in its engine's table is bound once, and no other loop
of that engine reads it as the other kind (R26). -/
def RunCfg.setpointOk (c : RunCfg) (x : Nat × Loop) : Bool :=
  x.2.spKind == 0 || (match c.loops.sources (x.1 / 512) x.2.spEntry with | [s] => s.feeds x.2.spKind | _ => false)

/-- The first loop whose set-point has not exactly one source (R26). -/
def RunCfg.badSetpoint (c : RunCfg) : Option Nat := (c.loops.loops.find? fun x => !c.setpointOk x).map (·.1)

/-- PART and REF of a historian entry name a source: a partition in use, an offset in the metering block or the module's block, an
output entry, or a field of the status record or of the substation table (R398, R405; DEDUCED, log entry 16). -/
def RunCfg.histSource (c : RunCfg) (h : HistEntry) : Bool :=
  if h.kind = 0 then c.prog.parts.any fun p => p.part == h.part
  else h.part == 0 && (if h.kind = 2 then decide (fld h.ref 31 30 < 2) && decide (fld h.ref 29 0 < 1024)
    else decide (h.ref < if h.kind = 3 then 64 else if h.kind = 4 then 262144 else 65536))

/-- Step 12: the references section by section, with the item that fails (R27, R64, R68, R102, R577). -/
def RunCfg.refChecks (c : RunCfg) (q : Keys) (v : Nat → List Byte) : List (Bool × Nat × Nat) :=
  let out := fun ch => match c.dio.ch[ch]? with | some y => y.mode == 5 | none => false
  let pk := fun k => q.usable k && (q.slot k).type == .pk
  let item := fun t k => Config.itemOfs t (v t) k
  let mine := fun k => k == 3 || q.slots.any fun x => x.2.type == .sk && x.2.state == .active && x.2.id == (q.slot k).id
    && Config.mldsaPublic x.2.mat == q.file k
  let stn := fun (x : StnCfg) => c.can.any fun p => p.port == x.port && bitAt p.flags 0 && bitAt p.flags 6
  let port := fun (x : IfCfg) => c.comms.ports.any fun p => p.port == x.port
  let o2 := 32 + 8 * c.comms.ports.length + 32 * c.comms.ifs.length
  let o3 := o2 + 20 * c.comms.allow.length + 16 * c.comms.mb.length
  ((List.range 48).map fun k => (!c.producer k || (c.mem.ringOf k).isSome, 3, item 3 (65536 + k)))
    ++ (c.mem.rings.mapIdx fun i r => (decide (r.2.2.2 ≤ 6), 3, item 3 (65536 + i)))
    ++ ((List.range 256).map fun p => (slotKind (v 4) p == 0 || c.inUse (slotOwner (v 4) p), 4, p))
    ++ (c.loops.loops.map fun x => (x.2.destKind != 2 || out x.2.destEntry, 8, item 8 x.1))
    ++ (c.loops.binds.mapIdx fun i x => (c.srcOk x.2.2, 8, item 8 (65536 + i)))
    ++ (c.loops.atStart.mapIdx fun i x => ((c.loops.loops.any fun y => y.1 == x), 8, item 8 (65536 * 2 + i)))
    ++ ((districtRefs c.dist c.solve c.meter (v 10)).map fun x => (x.1, 10, x.2))
    ++ (c.dist.srcs.map fun x => (x.2.2.all c.srcOk, 10, item 10 (65536 * x.1 + x.2.1)))
    ++ (c.dist.groups.mapIdx fun i x => (c.dist.disp.isNone || c.hasItem c.str.fallback x.item, 10, item 10 (65536 * 8 + i)))
    ++ (c.stns.mapIdx fun i x => (stn x, 10, item 10 (65536 * 12 + i)))
    ++ (c.prog.parts.mapIdx fun i p => ((p.bind.ins.all fun l => l.all c.srcOk)
        && (p.bind.outs.all fun l => l.all fun o => c.destOk o.dest), 11, 8 + 544 * i))
    ++ (c.comms.ifs.mapIdx fun i x => (port x, 12, 32 + 8 * c.comms.ports.length + 32 * i))
    ++ [(c.frames.src != 2 || c.comms.hasRole 2, 12, 1), (c.comms.hasRole 3 == c.str.twin, 12, 1)]
    ++ (c.comms.hist.mapIdx fun i h => (c.histSource h, 12, o3 + 8 * i))
    ++ (c.trust.accord.mapIdx fun i k => (pk k, 13, 24 + 2 * i)) ++ (c.trust.amend.mapIdx fun i k => (pk k, 13, 56 + 2 * i))
    ++ (c.trust.exports.mapIdx fun i k => (pk k && mine k, 13, 88 + 2 * i))
    ++ [(!c.str.twin || (match c.comms.ifs[c.twin.iface]? with | some x => bitAt x.roles 3 | none => false), 14, 0)]

/-- Step 12: the first reference that fails; a set-point with two sources and an output with two writers are found first, in LOOPS
and where the writer stands (DEDUCED, log entry 57). -/
def RunCfg.refErr (c : RunCfg) (q : Keys) (b : List Byte) (l : List Sect) : Option AcdErr :=
  let v := sectVal b l
  let at_ := fun t o => (⟨0x0C, t, sectOfs l t + o⟩ : AcdErr)
  match c.badSetpoint, c.twoWriters, (c.refChecks q v).find? fun x => !x.1 with
  | some k, _, _ => some (at_ 8 (Config.itemOfs 8 (v 8) k))
  | none, some (t, k), _ => some (at_ t (if t = 7 then Config.itemOfs 7 (v 7) k else if t = 11 then 8 + 544 * k
      else Config.itemOfs t (v t) k))
  | none, none, some x => some (at_ x.2.1 x.2.2)
  | none, none, none => (Config.crossFault b).map fun e => ⟨0x0C, e.1, sectOfs l e.1 + e.2⟩

/-- Step 13: the profile rules (R3, R4, R61, R63). -/
def RunCfg.profileErr (c : RunCfg) (b : List Byte) (l : List Sect) : Option AcdErr :=
  let at_ := fun t o => some (⟨0x0D, t, sectOfs l t + o⟩ : AcdErr)
  let twin := l.any fun x => x.type == 14
  let src := match c.dist.disp with | some d => d.source | none => 0
  if !c.hdr.estate && decide (512 < c.dist.substs.length) then
    at_ 10 (Config.itemOfs 10 (sectVal b l 10) (65536 * 7 + 512))
  else if c.str.twin && (!c.hdr.estate || !twin) then at_ 2 16
  else if twin && (!c.hdr.estate || !c.str.twin) then at_ 14 0
  else if !c.hdr.estate && !c.comms.hist.isEmpty then at_ 12 6
  else if !c.hdr.estate && src != 0 then at_ 9 (Config.itemOfs 9 (sectVal b l 9) 65538)
  else none

/-- The load bound of a loop engine over some loops, with N_m mirrored (R254). -/
def loadBound (loops : List (Nat × Loop)) (nm : Nat) : Nat :=
  (loops.map fun x => 12 + 6 * x.2.budget).sum
    + ((List.range 16).map fun g => ((loops.filter fun x => x.1 % 16 == g).map fun x => 14 + 6 * x.2.budget).sum).foldl max 0
    + 3 * nm

/-- The first loop with which the load of some loops passes the window of R36; `mirror` counts each as mirrored too (R254, R260). -/
def overload (loops : List (Nat × Loop)) (mirror : Bool) : Option Nat :=
  ((List.range loops.length).find? fun k => decide (76800 < loadBound (loops.take (k + 1)) (if mirror then k + 1 else 0))).bind
    fun k => loops[k]?.map (·.1)

/-- Step 15: the loads of R254 and R260, the collector and the slots of each initiator. The failing item is the first ring beyond 48, the
first loop with which a load is too large, or the slot table (R102, R106, R254, R260; DESIGN CHOICE, log entry 57). -/
def RunCfg.budgetErr (c : RunCfg) (v : Nat → List Byte) (l : List Sect) : Option AcdErr :=
  let v4 := v 4
  let at_ := fun t o => some (⟨0x0F, t, sectOfs l t + o⟩ : AcdErr)
  let loop := fun k => at_ 8 (Config.itemOfs 8 (v 8) k)
  let own := fun n => c.loops.loops.filter fun x => decide (x.1 / 512 = n)
  let slots := fun o => (List.range 256).filter fun p => slotKind v4 p != 0 && slotOwner v4 p == o
  let plus := fun o r => (slots o).any fun p => slotKind v4 p == 2 && p % 4 == r
  let peri := fun o => o == 0 || (decide (o ≤ 6) && c.mem.grants.any fun g => g.2 == o)
  let dma := fun o => c.mem.dmaRoles.contains o || (decide (9 ≤ o) && decide (o ≤ 0x0C)) || o == 0x12
  if 48 < c.mem.rings.length then at_ 3 (Config.itemOfs 3 (v 3) (65536 + 48))
  else match overload (own 0) c.loops.takeover, overload (own 1) c.loops.takeover with
  | some k, _ | none, some k => loop k
  | none, none =>
  match (c.loops.loops[512]?.map (·.1)).or (overload c.loops.loops false) with
  | some k => if c.loops.takeover then loop k else none
  | none =>
  if (List.range 21).any fun o => c.inUse o
      && ((slots o).isEmpty || (peri o && !plus o 0) || (dma o && !plus o 1)) then at_ 4 0
  else none

/-- Step 16: the first digest of PROGRAMS whose image flash does not hold, or cannot read (R68, R575). -/
def RunCfg.digestErr (c : RunCfg) (l : List Sect) (bad : Option BadRead) : Option AcdErr :=
  let code := fun (p : PartCfg) (b : Bool) =>
    let d := if b then p.digB else p.digA
    if allZero d then none
    else if bad = some (.image p.part b) then some 0x11
    else if Config.flashHolds p.part b d then none else some 0x10
  (c.prog.parts.zipIdx.flatMap fun x => [(x, false), (x, true)]).findSome? fun y =>
    (code y.1.1 y.2).map fun e => ⟨e, 11, sectOfs l 11 + 8 + 544 * y.1.2 + (if y.2 then 0x150 else 0x110)⟩

/-! ### The whole validation (R68) -/

/-- Why an accord is validated. -/
inductive Purpose where
  | boot | load | configure
  deriving DecidableEq, Repr

/-- The error of steps 1 to 5 on the header. -/
def headerErr (b : List Byte) (held : Nat) (uid : List Byte) : Option AcdErr :=
  if b.take 4 ≠ ascii "XJAC" then some ⟨1, 0, 0⟩
  else if leAt b 4 2 ≠ 1 then some ⟨2, 0, 4⟩
  else if leAt b 6 2 ≠ 64 then some ⟨3, 0, 6⟩
  else if leAt b 8 4 % 8 ≠ 0 ∨ 16777216 < leAt b 8 4 ∨ leAt b 8 4 ≠ held then some ⟨3, 0, 8⟩
  else if leAt b 24 4 ≠ 0x9640 then some ⟨4, 0, 0x18⟩
  else if ¬ clear b 32 16 ∧ slice b 32 16 ≠ uid then some ⟨5, 0, 0x20⟩
  else none

/-- The slots that may verify accords: those of TRUST of the running accord, or the factory policy (R68, R482). -/
def State.mayVerify (s : State) (k : Nat) (amend : Bool) : Bool :=
  s.key.usable k && (s.key.slot k).state == .active && (s.key.slot k).type == .pk && (s.key.slot k).may 4
    && (if s.acc.locked then (if amend then s.run.trust.amend else s.run.trust.accord).contains k else true)

/-- The SIGN section is laid out as in R65 and its signature verifies over a digest with a context. A value laid out otherwise fails
step 8 with 0x08, section 0x0F, at the TLV header of SIGN: no step of R68 names it (DESIGN CHOICE, log entry 57). -/
def signOk (pk b : List Byte) (x : Sect) (digest ctx : List Byte) : Bool :=
  x.len == 3317 && leAt b x.ofs 2 == 1 && leAt b (x.ofs + 2) 2 == 0 && leAt b (x.ofs + 4) 4 == 3309
    && Config.mldsaVerify pk digest ctx (slice b (x.ofs + 8) 3309)

/-- The offset of a byte that fails at a step of R68 or before it. -/
def BadRead.at_ (step : Nat) : BadRead → Option Nat
  | .byte o k => if k ≤ step then some o else none
  | .image _ _ => none

/-- Validation: the error, or the content (R68). `bad` is what flash cannot read (R575). -/
def State.validateAcd (s : State) (b : List Byte) (held : Nat) (why : Purpose) (bad : Option BadRead) : Except AcdErr RunCfg :=
  let at_ := fun k => bad.bind (BadRead.at_ k)
  match (at_ 1).filter (· < 64) with
  | some o => .error ⟨0x11, 0, o⟩
  | none =>
  match headerErr b held Config.deviceUid with
  | some e => .error e
  | none =>
  match accordSects b (at_ 6) with
  | .error e => .error e
  | .ok l =>
  let k := leAt b 28 2
  let sg := l.getLast?.getD { type := 15, ofs := 0, len := 0 }
  if !s.mayVerify k false then .error ⟨7, 0, 0x1C⟩
  else
  match (at_ 8).filter (· < held) with
  | some f => .error ⟨0x11, if f < 64 then 0 else ((l.filter fun x => decide (x.ofs ≤ f + 8)).map (·.type)).foldl max 0, f⟩
  | none =>
  let digest := digest64 (b.take (sg.ofs - 8))
  if !signOk (s.key.file k) b sg digest (ascii "XJ9640 accord") then .error ⟨8, 0x0F, sg.ofs - 8⟩
  else if leAt b 16 1 < s.key.otp[1] then .error ⟨9, 0, 0x10⟩
  else if why != .boot && s.acc.locked && decide (leAt b 12 4 ≤ s.run.hdr.seq) then .error ⟨0x0A, 0, 0x0C⟩
  else
  match limitErr b l with
  | some e => .error e
  | none =>
  let c := RunCfg.ofBytes b l
  match c.refErr s.key b l with
  | some e => .error e
  | none =>
  match c.profileErr b l with
  | some e => .error e
  | none =>
  match capacityErr c.dist c.solve c.loops.loops.length with
  | some e => .error ⟨0x0E, e.1, sectOfs l e.1 + Config.itemOfs e.1 (sectVal b l e.1) e.2⟩
  | none =>
  match c.budgetErr (sectVal b l) l with
  | some e => .error e
  | none =>
  match c.digestErr l bad with
  | some e => .error e
  | none => .ok c

end Sys2Proof.Machine
end

