-- ==== Sys2Proof/Machine/Accord.lean ====
section
/-! DEFINITION. Accord commands, amendments and the accord registers (R70 to R90). -/

namespace Sys2Proof.Machine

/-! ### Slots -/

/-- The bytes of a slot. -/
def AccordUnit.slot (a : AccordUnit) : Slot → List Byte
  | .a => a.slotA | .b => a.slotB

/-- The amendment log of a slot. -/
def AccordUnit.log (a : AccordUnit) : Slot → List (List Byte)
  | .a => a.logA | .b => a.logB

/-- A slot written: it holds no valid accord until it is marked. Its amendment log becomes empty and its journal entries go: what
LOAD and ERASE do to them the manual does not say (R71, R72; DESIGN CHOICE, log entry 57). -/
def AccordUnit.store (x : Slot) (b : List Byte) (a : AccordUnit) : AccordUnit :=
  let a1 := { a with journal := a.journal.filter fun e => e.1 != x }
  match x with
  | .a => { a1 with slotA := b, logA := [], aValid := false, seqA := 0 }
  | .b => { a1 with slotB := b, logB := [], bValid := false, seqB := 0 }

/-- A slot marked valid with the SEQUENCE of its accord, or not valid (SYS_ACD_STATUS, SYS_ACD_SEQ_A, SYS_ACD_SEQ_B). -/
def AccordUnit.mark (x : Slot) (seq : Option Nat) (a : AccordUnit) : AccordUnit :=
  match x with
  | .a => { a with aValid := seq.isSome, seqA := seq.getD 0 }
  | .b => { a with bValid := seq.isSome, seqB := seq.getD 0 }

/-- The amendment log of a slot replaced. -/
def AccordUnit.setLog (x : Slot) (l : List (List Byte)) (a : AccordUnit) : AccordUnit :=
  match x with
  | .a => { a with logA := l } | .b => { a with logB := l }

/-- The section that holds an offset of an accord, 0 for the header (R575). -/
def sectAt (b : List Byte) (f : Nat) : Nat :=
  match accordSects b none with
  | .ok l => if f < 64 then 0 else ((l.filter fun x => decide (x.ofs ≤ f + 8)).map (·.type)).foldl max 0
  | .error _ => 0

/-- No error. -/
def AcdErr.none : AcdErr := { code := 0, sect := 0, ofs := 0 }

/-- An accord command ends: its result stands in the registers and source 7 asserts (R431, SYS_ACD_STATUS). -/
def State.acdDone (c : AcdCmd) (e : AcdErr) (s : State) : State :=
  (s.modAcc fun a => { a with
    busy := none, lastCmd := c.code, err := e.code, errSection := e.sect % 256, errOfs := e.ofs }).raise 7

/-! ### LOAD, ERASE, COMMIT_ROLLBACK (R72 to R75) -/

/-- The bytes of a slot whose header has not been written yet (R72, R73). -/
def headless (b : List Byte) : List Byte := zeros (min 64 b.length) ++ b.drop 64

/-- The work of a LOAD or a COMMIT_ROLLBACK ends: the header of the slot is written last, after which the slot is read back; or the
last fuse is written (R72, R75). -/
def State.endWork (w : AcdWork) (s : State) : State :=
  match w.slot with
  | some x =>
    let s1 := s.modAcc fun a => { a.store x w.bytes with work := none }
    match w.bad with
    | some (f, t) => s1.acdDone .load ⟨0x11, t, f⟩
    | none => (s1.modAcc (AccordUnit.mark x (some w.seq))).acdDone .load AcdErr.none
  | none =>
    ((s.modKey fun q => { q with otp := q.otp.set 1 (max q.otp[1] w.level) }).modAcc fun a =>
      { a with work := none, otpLevel := max s.key.otp[1] w.level }).acdDone .commitRollback AcdErr.none

/-- The running work ends once its time has come. -/
def State.settleAcd (s : State) : State :=
  match s.acc.work with
  | some w => if w.endAt ≤ s.now then s.endWork w else s
  | none => s

/-- Supply loss or a reset during the work: the slot keeps no valid header, and the counter reads its old value or a higher one no
greater than the target (R73, R75). -/
def State.dropWork (s : State) : State :=
  match s.acc.work with
  | some w =>
    let s1 := s.modAcc fun a => { a with work := none, busy := none }
    match w.slot with
    | some _ => s1
    | none =>
      let old := s.key.otp[1]
      { s1 with free := s.free + 1 }.modKey fun q => { q with
        otp := q.otp.set 1 (old + Config.freeNat s.free % (max w.level old - old + 1)) }
  | none => s

/-- LOAD: after a fallback the pointer is first set to the active slot; the image is validated from DRAM and written to the inactive
slot, its header last; how long the write takes is free. `bad` is a program image that step 16 cannot read, or a byte that the
read-back cannot correct
(R575). -/
def State.acdLoad (bad : Option BadRead) (s : State) : State :=
  let s1 := if s.acc.fallback then s.modAcc fun a => { a with ptr := a.active.getD a.ptr, fallback := false } else s
  let b := Mem.readN s.mem s.acc.src s.acc.len
  let image := match bad with | some (.image p x) => some (BadRead.image p x) | _ => none
  match s1.validateAcd b s.acc.len .load image with
  | .error e => s1.acdDone .load e
  | .ok c =>
    let x := (s1.acc.active.getD s1.acc.ptr).other
    let w : AcdWork := { slot := some x, bytes := b, seq := c.hdr.seq, level := 0, endAt := s.now + Config.freeNat s.free,
                         bad := ((bad.bind (BadRead.at_ 8)).filter (· < b.length)).map fun f => (f, sectAt b f) }
    { s1 with free := s.free + 1 }.modAcc fun a =>
      { a.store x (headless b) with work := some w, busy := some .load, lastCmd := 1 }

/-- ERASE: the slot is erased if it is inactive, and the command is refused with 0x12 SLOT otherwise. -/
def State.acdErase (x : Slot) (s : State) : State :=
  if s.acc.active = some x then s.acdDone .erase ⟨0x12, 0, 0⟩
  else (s.modAcc (AccordUnit.store x [])).acdDone .erase AcdErr.none

/-- COMMIT_ROLLBACK: in SERVICE only, the OTP accord counter advances to the level of the active accord; each step is one fuse
and takes 2,000 SEC cycles, and BUSY stays set until the last. -/
def State.acdRollback (s : State) : State :=
  if s.sys.state = .service then
    let lv := s.run.hdr.rollback
    if lv ≤ s.key.otp[1] then s.acdDone .commitRollback AcdErr.none
    else
      let w : AcdWork := { slot := none, bytes := [], seq := 0, bad := none, level := lv,
                           endAt := s.now + (lv - s.key.otp[1]) * (2000 * secV) }
      s.modAcc fun a => { a with busy := some .commitRollback, lastCmd := 4, work := some w }
  else s.acdDone .commitRollback ⟨0x14, 0, 0⟩

/-! ### CONFIGURE (R76) -/

/-- CONFIGURE: accepted in the four running states, where the slot is validated while the module runs; the switch then waits for
the next base tick. -/
def State.acdConfigure (x : Slot) (bad : Option BadRead) (s : State) : State :=
  if s.running then
    match s.validateAcd (s.acc.slot x) (s.acc.slot x).length .configure bad with
    | .error e => s.acdDone .configure e
    | .ok _ => s.modAcc fun a => { a with busy := some .configure, lastCmd := 2, target := some (x, s.fs.bnc), stopped := false }
  else s.acdDone .configure ⟨0x14, 0, 0⟩

/-! ### Amendments (R80 to R88) -/

/-- Records of an amendment from an offset, each with its offset, and the offset after the last; an error gives the offset of the
first failing byte (R81, R82 step 2). -/
def amdRecords (b : List Byte) (total : Nat) : Nat → Nat → Except Nat (List (Nat × AmdRecord) × Nat)
  | 0, off => .ok ([], off)
  | n + 1, off =>
    let len := leAt b (off + 12) 4
    let stop := off + 16 + pad8 len
    if total < off + 16 ∨ total < stop then .error off
    else if !clear b (off + 16 + len) (pad8 len - len) then .error (off + 16 + len)
    else
      match amdRecords b total n stop with
      | .error o => .error o
      | .ok (l, e) =>
        .ok ((off, { sect := leAt b off 2, table := leAt b (off + 2) 2, index := leAt b (off + 4) 4, field := leAt b (off + 8) 2,
                     count := leAt b (off + 10) 2, value := slice b (off + 16) len }) :: l, e)

/-- The SIGN TLV of an amendment at an offset is laid out as in R65 and ends the amendment. -/
def amdSign (b : List Byte) (total o : Nat) : Bool :=
  o + 3328 == total && leAt b o 2 == 15 && leAt b (o + 2) 2 == 0 && leAt b (o + 4) 4 == 3317 && leAt b (o + 8) 2 == 1
    && leAt b (o + 10) 2 == 0 && leAt b (o + 12) 4 == 3309 && clear b (o + 3325) 3

/-- Step 2 of R82: the records and the offset of the SIGN TLV. -/
def amdForm (b : List Byte) (held : Nat) : Except AcdErr (List (Nat × AmdRecord) × Nat) :=
  let total := leAt b 8 4
  let head : List Check :=
    [(b.take 4 == ascii "XJAM", 0), (leAt b 4 2 == 1, 4), (leAt b 6 2 == 96, 6),
     (total % 8 == 0 && decide (total ≤ 65536) && total == held, 8), (clear b 0x1C 4, 0x1C), (within 1 4096 (leAt b 0x18 2), 0x18)]
  match firstBad head with
  | some o => .error ⟨0x20, 0, o⟩
  | none =>
    match amdRecords b total (leAt b 0x18 2) 96 with
    | .error o => .error ⟨0x20, leAt b o 1, o⟩
    | .ok (l, o) => if amdSign b total o then .ok (l, o) else .error ⟨0x20, 0x0F, o⟩

/-- A PROGRAMS record: its partition, whether it gives the digest of the migration map, and the digest (R61, R81, R269). -/
def AmdRecord.prog (r : AmdRecord) : Option (Nat × Bool × List Byte) :=
  if r.sect = 11 then (Config.progField r.table r.field).map fun mig => (r.index, mig, r.value) else none

/-- The online change that the PROGRAMS records of an amendment name: the partition, the digest of its idle bank and that of the
migration map, each in the last record that gives it (R85, R293). -/
def progChange (l : List AmdRecord) : Option (Nat × List Byte × List Byte) :=
  let x := l.filterMap AmdRecord.prog
  match (x.filter fun y => !y.2.1).getLast?, (x.filter fun y => y.2.1).getLast? with
  | some a, some b => some (a.1, a.2.2, b.2.2)
  | _, _ => none

/-- An amendment with PROGRAMS records is refused unless it names both digests of its partition's staged package (R293). -/
def State.amdStaged (s : State) (l : List AmdRecord) : Bool :=
  match progChange l with
  | some (p, img, mig) => if h : 1 ≤ p ∧ p ≤ 4 then s.prog.p[p - 1].staged img mig else false
  | none => l.all fun r => r.sect != 11

/-- The words of a loop record that an amendment may write: the coefficients B0, B1, B2, A1 and A2 of the sections, IN_GAIN, IN_OFS,
SP_FIXED, SP_DB, RAMP, UMIN, UMAX, RLIM and OUT_GAIN (R61). -/
def loopField (i : Nat) : Bool :=
  i == 1 || i == 2 || within 4 9 i || i == 11 || (within 20 99 i && decide ((i - 20) % 10 ≤ 4))

/-- Step 7 of R82: the record names an amendable field of R61. A LOOPS record names its word with FIELD and has TABLE 0, for R81 gives
that section no TABLE numbers; a PROGRAMS record gives one of the two digests of one partition (DESIGN CHOICE, log entry 22). The
fields of SOLVE and DISTRICT are open with their layouts. -/
def AmdRecord.fieldOk (r : AmdRecord) (acd : List Byte) : Bool :=
  if r.sect = 8 then r.table == 0 && loopField r.field
  else if r.sect = 11 then r.prog.isSome && r.count == 1
  else if r.sect = 9 ∨ r.sect = 10 then (match Config.amendFault r acd with | some (false, _) => false | _ => true)
  else false

/-- PROGRAMS with an amendment record: a digest of the idle bank makes that bank the active one, and a digest of the migration map
replaces the old one (R84, R293). -/
def PartCfg.amend (mig : Bool) (d : List Byte) (c : PartCfg) : PartCfg :=
  if mig then { c with migDig := d }
  else { c with bankB := !c.bankB, digA := if c.bankB then d else c.digA, digB := if c.bankB then c.digB else d,
                bind := { Config.bindings d c.part with symmap := (Config.flashSymmap d).getD [] } }

/-- The content of the accord with an amendment record (R84). What R16 and R210 call structural keeps its value. -/
def RunCfg.amend (c : RunCfg) (r : AmdRecord) : RunCfg :=
  if r.sect = 8 then { c with loops := { c.loops with loops := c.loops.loops.map r.loop } }
  else if r.sect = 9 then { c with solve := c.solve.withParams (Config.amendSolve r c.solve) }
  else if r.sect = 10 then { c with dist := c.dist.withParams (Config.amendDistrict r c.dist) }
  else match r.prog with
    | some (p, mig, d) =>
      { c with prog := { c.prog with parts := c.prog.parts.map fun x => if x.part = p then x.amend mig d else x } }
    | none => c

/-- Step 8 of R82 on one record: COUNT is 1 or more and the objects named are declared; a LOOPS value has one word an object; the
section with the new values still meets its limits, PIVREG ≥ PIVMIN among them. The code of the first that fails. -/
def RunCfg.valueErr (c : RunCfg) (r : AmdRecord) (acd : List Byte) : Option Nat :=
  let n := c.amend r
  if r.count = 0 then some 0x0B
  else if r.sect = 8 ∧ ¬ (List.range r.count).all fun i => c.loops.loops.any fun x => x.1 == r.index + i then some 0x0C
  else if r.sect = 8 ∧ r.value.length ≠ 4 * r.count then some 0x0B
  else if r.sect = 9 ∧ (firstBad (solveChecks n.solve n.dist c.frames.h [])).isSome then some 0x0B
  else if r.sect = 11 ∧ ¬ c.prog.parts.any (fun x => x.part == r.index) then some 0x0C
  else if r.sect = 11 ∧ r.value.length ≠ 64 then some 0x0B
  else if r.sect = 10 ∧ (firstBad (districtChecks n.dist [])).isSome then some 0x0B
  else if r.sect = 10 ∧ (firstBad (districtRefs n.dist n.solve n.meter [])).isSome then some 0x0C
  else if r.sect = 11 then none
  else match Config.amendFault r acd with | some (true, e) => some e | _ => none

/-- Steps 2 to 8 of R82. The next number is one more than the highest applied or pending, and the PROGRAMS records of one amendment name
one partition (R61, R82; DEDUCED, log entry 62). `live` is false for the replay of a logged amendment, which leaves out steps
4 and 6 (R86). -/
def State.amdCheck (s : State) (b : List Byte) (held : Nat) (live : Bool) : Except AcdErr (List AmdRecord) :=
  match amdForm b held with
  | .error e => .error e
  | .ok (l, o) =>
    let next := (s.acc.pending.map (·.number)).foldl max s.acc.appliedNum + 1
    let acd := match s.acc.active with | some x => s.acc.slot x | none => []
    let field := l.findSome? fun x => if x.2.fieldOk acd then none else some (⟨0x23, x.2.sect % 256, x.1⟩ : AcdErr)
    let value := l.findSome? fun x => (s.run.valueErr x.2 acd).map fun e => (⟨e, x.2.sect % 256, x.1⟩ : AcdErr)
    let prog := l.filter fun x => x.2.sect == 11
    let parts := prog.find? fun x => prog.head?.any fun y => y.2.index != x.2.index
    let unstaged := if s.amdStaged (l.map (·.2)) then none else prog.head?
    if leAt b 12 4 ≠ s.run.hdr.seq then .error ⟨0x21, 0, 12⟩
    else if (b.drop 0x20).take 64 ≠ s.run.hdr.digest then .error ⟨0x21, 0, 0x20⟩
    else if live ∧ 255 < next then .error ⟨0x26, 0, 16⟩
    else if live ∧ leAt b 16 4 ≠ next then .error ⟨0x22, 0, 16⟩
    else if !s.mayVerify (leAt b 0x1A 2) true then .error ⟨7, 0, 0x1A⟩
    else if !Config.mldsaVerify (s.key.file (leAt b 0x1A 2)) (digest64 (b.take o)) (ascii "XJ9640 amendment")
        ((b.drop (o + 16)).take 3309) then .error ⟨8, 0x0F, o⟩
    else if live ∧ leAt b 0x14 4 ≠ 0 ∧ leAt b 0x14 4 ≤ s.fs.bnc then .error ⟨0x24, 0, 0x14⟩
    else match field.or (parts.map fun x => ⟨0x23, 11, x.1⟩) with
    | some e => .error e
    | none => match value with
      | some e => .error e
      | none => match live, unstaged with
        | true, some x => .error ⟨0x0C, 11, x.1⟩
        | _, _ => .ok (l.map (·.2))

/-- AMEND: state, room (R83) and the checks of R82; an accepted amendment waits for its base tick, the next one when EFFECTIVE is
0. -/
def State.acdAmend (s : State) : State :=
  let b := Mem.readN s.mem s.acc.src s.acc.len
  if !s.running then s.acdDone .amend ⟨0x25, 0, 0⟩
  else if 8 ≤ s.acc.pending.length + s.acc.journal.length then s.acdDone .amend ⟨0x13, 0, 0⟩
  else match s.amdCheck b s.acc.len true with
    | .error e => s.acdDone .amend e
    | .ok l =>
      let eff := leAt b 0x14 4
      let m : Amendment := { number := leAt b 16 4, effective := eff, due := if eff = 0 then wrapInc 32 s.fs.bnc else eff,
                             records := l, bytes := b }
      (s.modAcc fun a => { a with pending := a.pending ++ [m] }).acdDone .amend AcdErr.none

/-- Entry 0x141 for an amendment with its result (R523). -/
def State.amdLog (number effective result : Nat) (s : State) : State :=
  s.log silSYS 0 1 0x141 (toLe 4 number ++ toLe 4 effective ++ toLe 1 result)

/-- Every amendment that waits is discarded and recorded (R79, R87); `reset` says DRYDOWN or a reset. -/
def State.discardAmds (reset : Bool) (s : State) : State :=
  (s.acc.pending.foldl (fun (s : State) m => s.amdLog m.number m.effective (Config.discardCause reset)) s).modAcc fun a =>
    { a with pending := [] }

/-- An amended weight of the dispatch clears the cached factors of its problems, as an amended value of SOLVE does: for each dispatch job
the record is queued, naming that job's problem (R183, R226). -/
def State.dropWeights (old : DistrictCfg) (r : AmdRecord) (s : State) : State :=
  match s.run.dist.disp with
  | some c =>
    if s.run.dist.weights == old.weights then s
    else { s with se := (c.seg ++ c.prot.toList).foldl (fun v j => v.set j.engine
        { v[j.engine] with amends := v[j.engine].amends ++ [({ r with index := j.problem, count := 1 }, s.fs.tickAt)] }) s.se }
  | none => s

/-- One record takes effect at its base tick: LOOPS words reach the engines between instant 3 of this top note and instant 2 of
the next, SOLVE values reach the engines that run the problem, DISTRICT values the running tables (R84). -/
def State.amdRecord (s : State) (r : AmdRecord) : State :=
  if r.sect = 8 then
    let hit := fun p : Nat × Loop => decide (r.index ≤ p.1) && decide (p.1 < r.index + r.count)
    let wait := fun e : LoopEngine =>
      if (e.own ++ e.standby).any hit then { e with amd := e.amd ++ [r], amdFrom := s.fs.tickAt + 20000 * periV } else e
    { s with run := s.run.amend r }.modLoops fun l => { l with le := vmap l.le wait }
  else if r.sect = 9 then
    let uses := fun n : Fin 4 => s.run.solve.problems.any fun p => p.engine == n.val && decide (r.index ≤ p.problem) &&
      decide (p.problem < r.index + r.count)
    let se := Vector.ofFn fun n : Fin 4 => if uses n then { s.se[n] with amends := s.se[n].amends ++ [(r, s.fs.tickAt)] } else s.se[n]
    { s with run := s.run.amend r, se := se }
  else if r.sect = 10 then ({ s with run := s.run.amend r }).dropWeights s.run.dist r
  else s

/-- The staged package that the PROGRAMS records of an amendment name is authorised (R293). -/
def State.amdProg (s : State) (l : List AmdRecord) : State :=
  match progChange l with
  | some (p, img, mig) => if h : 1 ≤ p ∧ p ≤ 4 then s.authorise ⟨p - 1, by omega⟩ img mig else s
  | none => s

/-- An amendment is applied: its records in order, the MRAM journal, source 8 and entry 0x141 (R84, R86). -/
def State.applyAmd (s : State) (m : Amendment) : State :=
  let s1 := (m.records.foldl State.amdRecord s).amdProg m.records
  let s2 := s1.modAcc fun a =>
    { a with appliedNum := max a.appliedNum m.number, pending := a.pending.erase m,
             journal := a.journal ++ [(a.active.getD a.ptr, m.bytes)] }
  (s2.raise 8).amdLog m.number m.effective 0

/-- BNC of the base tick that is being taken: before the base tick has been counted, the value that it gives BNC. -/
def State.tickBnc (s : State) : Nat := if s.fs.baseDue ∧ s.fs.tnc ≠ 0 then wrapInc 32 s.fs.bnc else s.fs.bnc

/-- The amendments due at the present base tick, in ascending NUMBER (R84, R85). -/
def State.applyDue (s : State) : State :=
  (s.acc.pending.filter fun m => decide ((s.tickBnc + 2 ^ 32 - m.due) % 2 ^ 32 < 2 ^ 31)).foldl State.applyAmd s

/-- AMENDMENT_APPLY: the present top tick is a base tick. -/
def execAmendmentApply (s : State) : Host.Outcome State Fault Refusal :=
  .next (if s.notesRun && s.fs.hpos == 0 && s.fs.bpos == 0 then s.applyDue else s)

/-- AMENDMENT_FLASH_COPY: the flash copy of the oldest journal entry is written and read back, and the entry is freed (R86). -/
def execAmendmentFlashCopy (s : State) : Host.Outcome State Fault Refusal :=
  match s.alive, s.acc.journal with
  | true, (x, b) :: rest => .next (s.modAcc fun a => { a.setLog x (a.log x ++ [b]) with journal := rest })
  | _, _ => .next s

/-- The journal entries of a slot are completed into its flash log (R88). -/
def AccordUnit.flush (x : Slot) (a : AccordUnit) : AccordUnit :=
  { a.setLog x (a.log x ++ ((a.journal.filter fun e => e.1 == x).map (·.2))) with
    journal := a.journal.filter fun e => e.1 != x }

/-- The amendment log replayed in NUMBER order; the first that fails and every later one are removed and recorded with the error
code (R86). -/
def State.replay : List (List Byte) → Nat → State → State
  | [], _, s => s
  | b :: rest, n, s =>
    match s.amdCheck b b.length false with
    | .ok l =>
      if leAt b 16 4 = n + 1 then
        State.replay rest (n + 1) ({ s with run := l.foldl RunCfg.amend s.run }.modAcc fun a => { a with appliedNum := n + 1 })
      else (b :: rest).foldl (fun (s : State) x => s.amdLog (leAt x 16 4) (leAt x 0x14 4) 0x22) s
    | .error e => (b :: rest).foldl (fun (s : State) x => s.amdLog (leAt x 16 4) (leAt x 0x14 4) e.code) s

/-- The log of the active slot is replayed in NUMBER order, and keeps the amendments that passed (R86, R88). -/
def State.replayLog (x : Slot) (s : State) : State :=
  let s1 := s.modAcc fun a => { a.flush x with appliedNum := 0 }
  let l := sortBy (fun b => leAt b 16 4) (s1.acc.log x)
  let s2 := State.replay l 0 s1
  s2.modAcc fun a => a.setLog x (l.take a.appliedNum)

/-! ### SYS_ACD_CTRL (R89) -/

/-- The command that CMD names; other values are ignored. -/
def AcdCmd.ofCode : Nat → Option AcdCmd
  | 1 => some .load | 2 => some .configure | 3 => some .amend | 4 => some .commitRollback | 5 => some .erase | _ => none

/-- A write of SYS_ACD_CTRL: only by the supervisor role or the security core pair; refused with 0x13 BUSY while a command runs. A
CONFIGURE written while one runs is answered so, and not with 0x14 STATE, whatever the state (R79 and R89 before R76; DESIGN CHOICE,
log entry 57). -/
def State.acdCtrl (w : Initiator) (v : Nat) (bad : Option BadRead) (s0 : State) : State :=
  s0.settleAcd.guardWrite (isSuperSec w) 0x40000200 w v fun s =>
    let x := if bitAt v 8 then Slot.b else Slot.a
    match AcdCmd.ofCode (fld v 3 0) with
    | none => s
    | some c =>
      if s.acc.busy.isSome then
        s.modAcc fun a => { a with lastCmd := c.code, err := 0x13, errSection := 0, errOfs := 0 }
      else match c with
        | .load => s.acdLoad bad
        | .configure => s.acdConfigure x bad
        | .amend => s.acdAmend
        | .commitRollback => s.acdRollback
        | .erase => s.acdErase x

/-- LOAD. -/
def execLoad (who : Initiator) (bad : Option BadRead) (s : State) : Host.Outcome State Fault Refusal :=
  .next (if s.acts who then s.acdCtrl who 1 bad else s)

/-- CONFIGURE. -/
def execConfigure (who : Initiator) (slotB : Bool) (bad : Option BadRead) (s : State) : Host.Outcome State Fault Refusal :=
  .next (if s.acts who then s.acdCtrl who (2 + flag slotB 8) bad else s)

/-- AMEND. -/
def execAmend (who : Initiator) (s : State) : Host.Outcome State Fault Refusal :=
  .next (if s.acts who then s.acdCtrl who 3 none else s)

/-- COMMIT_ROLLBACK. -/
def execCommitRollback (who : Initiator) (s : State) : Host.Outcome State Fault Refusal :=
  .next (if s.acts who then s.acdCtrl who 4 none else s)

/-- ERASE. -/
def execErase (who : Initiator) (slotB : Bool) (s : State) : Host.Outcome State Fault Refusal :=
  .next (if s.acts who then s.acdCtrl who (5 + flag slotB 8) none else s)

/-! ### Registers -/

/-- SYS_ACD_STATUS. -/
def AccordUnit.status (a : AccordUnit) : Nat :=
  flag a.busy.isSome 31 + flag a.fallback 28 + put ((a.active.map (·.code + 1)).getD 0) 24 2 + flag a.bValid 21
    + flag a.aValid 20 + put a.lastCmd 16 4 + put a.err 8 8 + put a.errSection 0 8

/-- The value of an accord register at an offset of the SYS block. -/
def State.acdRead (s : State) (ofs : Nat) : Nat :=
  let a := s.settleAcd.acc
  if ofs = 0x204 then a.src % 2 ^ 32
  else if ofs = 0x208 then a.src / 2 ^ 32 % 256
  else if ofs = 0x20C then a.len
  else if ofs = 0x210 then a.status
  else if ofs = 0x214 then a.errOfs % 2 ^ 32
  else if ofs = 0x218 then a.seqA
  else if ofs = 0x21C then a.seqB
  else if ofs = 0x220 then put a.pending.length 8 4 + put a.appliedNum 0 8
  else if ofs = 0x224 then put a.accordLevel 8 7 + put a.otpLevel 0 7
  else 0

/-- A write of an accord register: bits [2:0] of SYS_ACD_SRC_LO must be 0 and are kept so (R89). -/
def State.acdWrite (s : State) (w : Initiator) (ofs v : Nat) : State :=
  if ofs = 0x200 then s.acdCtrl w v none
  else s.guardWrite (s.granted w 0) (0x40000000 + ofs) w v fun s =>
    if ofs = 0x204 then s.modAcc fun a => { a with src := a.src / 2 ^ 32 * 2 ^ 32 + v / 8 * 8 }
    else if ofs = 0x208 then s.modAcc fun a => { a with src := v % 256 * 2 ^ 32 + a.src % 2 ^ 32 }
    else if ofs = 0x20C then s.modAcc fun a => { a with len := fld v 24 0 }
    else s

end Sys2Proof.Machine
end

