-- ==== Sys2Proof/Machine/PlanProblem.lean ====
section
/-! DEFINITION. The dispatch problem that the district services role builds: boxes, rows, objective, and the residuals that it judges
a plan by (R223 to R226, R229, R232). -/

namespace Sys2Proof.Machine

/-! ### Variables and boxes (R223, R225) -/

/-- 1 at the coefficient scale. -/
def DispatchCfg.one (c : DispatchCfg) : Int := (2 ^ c.places : Nat)

/-- A term of a row: a variable of step `t` with its coefficient; none for a variable that the problem does not have. -/
def DispatchCfg.term (c : DispatchCfg) (t : Nat) (v : PlanVar) (coef : Int) : List (Nat × Int) :=
  match c.vars.idxOf? v with
  | some i => [(t * c.vars.length + i, coef)]
  | none => []

/-- The declared box of a variable: the limits of plants, ramps, stores, feeders and shifts, and the reserve of each string as
b ≥ E_res and β ≥ −(P_dis − P_res) (R223, R225). -/
def DistrictCfg.box (d : DistrictCfg) (c : DispatchCfg) (v : PlanVar) : Int × Int :=
  let out := fun k => c.outs.find? fun o => o.id == k
  let store := fun k => c.stores.find? fun o => o.id == k
  let feeder := fun k => d.feeders.find? fun o => o.id == k
  let string := fun k => d.strings.find? fun o => o.id == k
  match v with
  | .out k => match out k with | some o => (o.lo, o.hi) | none => (0, 0)
  | .ramp k => match out k with | some o => (o.rampLo, o.rampHi) | none => (0, 0)
  | .energy k => match store k with | some o => (o.eLo, o.eHi) | none => (0, 0)
  | .rate k => match store k with | some o => (o.vLo, o.vHi) | none => (0, 0)
  | .imp k => match feeder k with | some o => (0, o.impMax) | none => (0, 0)
  | .exp k => match feeder k with | some o => (0, o.expMax) | none => (0, 0)
  | .batt k => match string k with | some o => (o.eRes, o.eMax) | none => (0, 0)
  | .charge k => match string k with | some o => (-(o.pDis - o.pRes), o.pMax) | none => (0, 0)
  | .shift k => match c.shiftBox.find? fun o => o.1 == k with | some o => (o.2.1, o.2.2) | none => (0, 0)
  | .unserved _ => (0, c.unservedMax)

/-- A variable of a string (R25, R232). -/
def PlanVar.battery : PlanVar → Bool
  | .batt _ | .charge _ => true
  | .out _ | .ramp _ | .energy _ | .rate _ | .imp _ | .exp _ | .shift _ | .unserved _ => false

/-- The box of a variable now: the upper bound of a tripped object is 0 (R233). -/
def State.box (s : State) (c : DispatchCfg) (v : PlanVar) : Int × Int :=
  let b := s.run.dist.box c v
  if c.trip.any fun t => s.plan.tripped.contains t.obj && t.vars.contains v then (b.1, 0) else b

/-- The variable of a word of a plan. -/
def DispatchCfg.varAt (c : DispatchCfg) (i : Nat) : PlanVar := c.vars.getD (i % max c.vars.length 1) default

/-- Each variable is clamped into its box (R225). -/
def State.clampPlan (s : State) (c : DispatchCfg) (ws : List Int) : List Int :=
  ws.mapIdx fun i x => let b := s.box c (c.varAt i); clampI x b.1 b.2

/-! ### The parameter snapshot (R223, R224, R235) -/

/-- The value of a tariff table at a calendar time: that of the last step of its period that has begun (R224; DESIGN CHOICE, log
entry 56). -/
def TariffCfg.at_ (x : TariffCfg) (time : Nat) : Int :=
  let t := time % max x.period 1
  ((x.steps.filter fun p => decide (p.1 ≤ t)).getLast?.map (·.2)).getD ((x.steps.getLast?.map (·.2)).getD 0)

/-- The calendar time at which horizon step `t` begins, counted from the step that contains the next base note (R224, R238): the
RTC now, moved by whole base notes. -/
def State.stepTime (s : State) (t : Nat) : Nat :=
  let step := max s.run.solve.stepBn 1
  let first := (s.fs.bnc + 1) / step * step
  let base := s.heartLen * s.fs.b
  secReg s.rtc.t + (first + t * step) * base / 100000000 - s.fs.bnc * base / 100000000

/-- The quality of a value formed from several: SUBST unless all are GOOD. -/
def formed (l : List Quality) : Quality := if l.all (· == .good) then .good else .subst

/-- The demand that the models of the groups of the heating (false) or cooling (true) networks forecast for a step, with the
declared losses or gains, and its quality (R223, R235). -/
def State.forecast (s : State) (c : DispatchCfg) (cold : Bool) (t : Nat) : Int × Quality :=
  let d := s.run.dist
  let nets := (d.nets.filter fun k => k.cold == cold).map (·.id)
  let mine := fun (g : GroupCfg) => (d.substs.find? fun u => u.group == g.id).any fun u => (d.netOf u.supply).any nets.contains
  let gs := d.groups.filter mine
  let base := s.srcVal (if cold then c.losses.2 else c.losses.1)
  ((gs.map fun g => gain29 (s.predict g (some t)) g.gain).sum + base.1,
    formed (base.2 :: gs.flatMap fun g => g.phi.map fun x => (s.regressor x (some t)).2))

/-- The parameter snapshot of a dispatch over `steps` steps. Step 0 is the step of the next base note: where that step is yet to begin, the
shifts in force are those of the step before it (R223, R228). -/
def State.dispIn (s : State) (c : DispatchCfg) (steps : Nat) : DispIn :=
  let d := s.run.dist
  let ts := List.range steps
  { outs := c.outs.map fun o => (o.id, (s.srcVal o.measured).1)
    stores := d.stores.map fun o => (o.id, (s.srcVal o.energy).1)
    strings := d.strings.map fun o => (o.id, (s.srcVal o.energy).1)
    heat := ts.map fun t => (s.forecast c false t).1
    cold := ts.map fun t => (s.forecast c true t).1
    site := ts.map fun t => (s.regressor c.site (some t)).1
    quals := ts.map fun t => ((s.forecast c false t).2, (s.forecast c true t).2, (s.regressor c.site (some t)).2)
    tariffs := c.tariffs.map fun x => ts.map fun t => x.at_ (s.stepTime t)
    past := if (s.fs.bnc + 1) % max s.run.solve.stepBn 1 = 0 then s.plan.groupShifts :: s.plan.past else s.plan.past }

/-! ### Rows (R223) -/

/-- An equation. -/
def Row.eq (l : List (Nat × Int)) (v : Int) : Row := { entries := l, lo := v, hi := v }

/-- The rows of the variable boxes of a step. -/
def State.boxRows (s : State) (c : DispatchCfg) (t : Nat) : List Row :=
  c.vars.mapIdx fun i v => let b := s.box c v; { entries := [(t * c.vars.length + i, c.one)], lo := b.1, hi := b.2 }

/-- The heating (false) or cooling (true) balance of a step: a group's shift enters at the step that lies its delay later. -/
def State.balanceRow (s : State) (c : DispatchCfg) (x : DispIn) (deltas : List (Nat × Nat)) (cold : Bool) (steps t : Nat) : Row :=
  let d := s.run.dist
  let nets := (d.nets.filter fun k => k.cold == cold).map (·.id)
  let mine := fun (g : GroupCfg) => (d.substs.find? fun u => u.group == g.id).any fun u => (d.netOf u.supply).any nets.contains
  Row.eq ((c.outs.filter fun o => o.feeds == some cold).flatMap (fun o => c.term t (.out o.id) c.one)
      ++ (c.stores.filter fun o => o.cold == cold).flatMap (fun o => c.term t (.rate o.id) (-c.one))
      ++ c.term t (.unserved cold) c.one
      ++ (d.groups.filter mine).flatMap fun g =>
        let u := t + Tbl.getD deltas g.id 0
        if u < steps then c.term u (.shift g.id) (-c.one) else [])
    ((if cold then x.cold else x.heat).getD t 0)

/-- A variable at step t − 1: an entry, or at step 0 the measured state as a constant on the right side. -/
def DispatchCfg.before (c : DispatchCfg) (t : Nat) (v : PlanVar) (coef : Int) (measured : Int) : List (Nat × Int) × Int :=
  if t = 0 then ([], -(rndDiv (coef * measured) (2 ^ c.places))) else (c.term (t - 1) v coef, 0)

/-- Store dynamics: e_t − e_(t−1) − Δt·v_t = −standing loss. -/
def DispatchCfg.storeRow (c : DispatchCfg) (x : DispIn) (t : Nat) (o : StoreCfg) : Row :=
  let b := c.before t (.energy o.id) (-c.one) (Tbl.getD x.stores o.id 0)
  Row.eq (c.term t (.energy o.id) c.one ++ b.1 ++ c.term t (.rate o.id) (-c.dt)) (b.2 - o.standing)

/-- Ramp definitions: r_t − y_t + y_(t−1) = 0. -/
def DispatchCfg.rampRow (c : DispatchCfg) (x : DispIn) (t : Nat) (o : OutCfg) : Row :=
  let b := c.before t (.out o.id) c.one (Tbl.getD x.outs o.id 0)
  Row.eq (c.term t (.ramp o.id) c.one ++ c.term t (.out o.id) (-c.one) ++ b.1) b.2

/-- Coupling of two outputs of a plant: y − α·y' = 0. -/
def DispatchCfg.coupleRow (c : DispatchCfg) (t : Nat) (o : OutCfg) : List Row :=
  match o.coupled with
  | some (k, a) => [Row.eq (c.term t (.out o.id) c.one ++ c.term t (.out k) (-a)) 0]
  | none => []

/-- Electrical balance: Σ I − Σ X + Σ electrical coefficients × y − Σ β = forecast site load. -/
def DistrictCfg.electricRow (d : DistrictCfg) (c : DispatchCfg) (x : DispIn) (t : Nat) : Row :=
  Row.eq (d.feeders.flatMap (fun f => c.term t (.imp f.id) c.one ++ c.term t (.exp f.id) (-c.one))
      ++ (c.outs.filter fun o => o.electric != 0).flatMap (fun o => c.term t (.out o.id) o.electric)
      ++ d.strings.flatMap fun b => c.term t (.charge b.id) (-c.one))
    (x.site.getD t 0)

/-- Δt·η at the coefficient scale. -/
def DispatchCfg.dtEta (c : DispatchCfg) (b : StringCfg) : Int := rndDiv (c.dt * b.eta) (2 ^ c.places)

/-- Battery dynamics: b_t − b_(t−1) − Δt·η·β_t = 0. -/
def DispatchCfg.battRow (c : DispatchCfg) (x : DispIn) (t : Nat) (b : StringCfg) : Row :=
  let p := c.before t (.batt b.id) (-c.one) (Tbl.getD x.strings b.id 0)
  Row.eq (c.term t (.batt b.id) c.one ++ p.1 ++ c.term t (.charge b.id) (-(c.dtEta b))) p.2

/-- Comfort window of a group: E_dn ≤ Σ of its shifts over COMFORT_W steps ≤ E_up, with the applied shifts of the steps before
step 0 as constants. -/
def DispatchCfg.comfortRow (c : DispatchCfg) (w : Nat) (x : DispIn) (t : Nat) (g : GroupCfg) : Row :=
  let k := max w 1
  let old := ((List.range (k - 1 - min t (k - 1))).map fun i => Tbl.getD (x.past.getD i []) g.id 0).sum
  { entries := (List.range (min k (t + 1))).flatMap fun i => c.term (t - i) (.shift g.id) c.one,
    lo := g.down - old, hi := g.up - old }

/-- The least value that a lower bound can take: a row with only an upper bound. -/
def noBound : Int := -2147483648

/-- Head limit of a critical pair: its linearised pump head ≤ its available head (R223, R226). -/
def State.headLimit (s : State) (c : DispatchCfg) (t : Nat) (k : Nat × PairCfg) : Row :=
  let x := ((s.run.dist.nets.zip s.plan.nets).find? fun y => y.1.id == k.2.net).map (·.2)
  { entries := (k.2.vars.zip (s.plan.sens.getD k.1 [])).flatMap fun v => c.term t v.1 v.2,
    lo := noBound, hi := Config.headAvail k.1 ((x.map (·.sol)).getD []) ((x.map (·.cmds)).getD []) }

/-- The rows of step `t` of a problem of `steps` steps, in the order of R223. -/
def State.stepRows (s : State) (c : DispatchCfg) (x : DispIn) (deltas : List (Nat × Nat)) (steps t : Nat) : List Row :=
  let d := s.run.dist
  s.boxRows c t ++ [s.balanceRow c x deltas false steps t, s.balanceRow c x deltas true steps t] ++ d.stores.map (c.storeRow x t)
    ++ c.outs.map (c.rampRow x t) ++ c.outs.flatMap (c.coupleRow t) ++ [d.electricRow c x t] ++ d.strings.map (c.battRow x t)
    ++ d.groups.map (c.comfortRow s.run.solve.comfortW x t) ++ (c.pairs.mapIdx fun i p => s.headLimit c t (i, p))

/-! ### Objective (R224) -/

/-- The value of a tariff table at a step. -/
def DispIn.tariff (x : DispIn) (k t : Nat) : Int := (x.tariffs.getD k []).getD t 0

/-- The linear cost of a variable at step `t`. -/
def DistrictCfg.cost (d : DistrictCfg) (c : DispatchCfg) (x : DispIn) (steps t : Nat) (v : PlanVar) : Int :=
  let dt := fun p => rndDiv (c.dt * p) (2 ^ c.places)
  let feeder := fun k => d.feeders.find? fun o => o.id == k
  match v with
  | .out k => match (c.outs.find? fun o => o.id == k).bind (·.fuel) with
    | some (f, e) => dt (rndDiv (x.tariff f t * e) (2 ^ c.places))
    | none => 0
  | .imp k => match feeder k with | some f => dt (x.tariff f.impTariff t) | none => 0
  | .exp k => match feeder k with | some f => -(dt (x.tariff f.expTariff t)) | none => 0
  | .unserved cold => if cold then c.rho.2 else c.rho.1
  | .energy k => if t + 1 = steps then match d.stores.find? fun o => o.id == k with | some o => -o.term | none => 0 else 0
  | .ramp _ | .rate _ | .batt _ | .charge _ | .shift _ => 0

/-- The dispatch problem over `steps` steps (R223, R224). -/
def State.qp (s : State) (c : DispatchCfg) (x : DispIn) (deltas : List (Nat × Nat)) (steps : Nat) : Qp :=
  let d := s.run.dist
  let ts := List.range steps
  { p := ts.flatMap fun _ => c.vars.map (d.weight c)
    q := ts.flatMap fun t => c.vars.map (d.cost c x steps t)
    rows := ts.flatMap (s.stepRows c x deltas steps) }

/-- The matrix that the ADMM iteration factors, P + σ·I + ρ·AᵀA: of each variable the nonzero entries up to the diagonal (R224). -/
def Qp.factored (x : Qp) (places sigma penalty : Nat) : List (List (Nat × Int)) :=
  let at_ := fun (r : Row) (i : Nat) => ((r.entries.filter fun e => e.1 == i).map (·.2)).sum
  x.p.mapIdx fun i w => (List.range (i + 1)).filterMap fun k =>
    let a := rndDiv ((penalty : Int) * (x.rows.map fun r => at_ r i * at_ r k).sum) (2 ^ (2 * places))
    let v := a + if k = i then w + (sigma : Int) else 0
    if v = 0 then none else some (k, v)

/-- The matrix A of a problem. -/
def Qp.matrix (x : Qp) : List (List (Nat × Int)) := x.rows.map (·.entries)

/-! ### Residuals (R229, R232) -/

/-- How far a value lies outside the bounds of a row. -/
def Row.excess (r : Row) (v : Int) : Nat := (max (max (r.lo - v) (v - r.hi)) 0).toNat

/-- The value of a row on the words of a plan. -/
def DispatchCfg.rowValue (c : DispatchCfg) (r : Row) (ws : List Int) : Int :=
  rndDiv (r.entries.map fun e => e.2 * ws.getD e.1 0).sum (2 ^ c.places)

/-- The largest residual of the battery dynamics rows on the words of a plan (R225, R229). -/
def State.battResidual (s : State) (c : DispatchCfg) (x : DispIn) (ws : List Int) : Nat :=
  ((List.range (ws.length / max c.vars.length 1)).flatMap fun t => s.run.dist.strings.map fun b =>
    let r := c.battRow x t b
    r.excess (c.rowValue r ws)).foldl max 0

/-- The primal residual of an imported plan from the products of its residual jobs: the largest excess over the rows (R232). -/
def productResidual (rows : List Row) (l : List (Nat × List Int)) : Nat :=
  (l.flatMap fun y => y.2.mapIdx fun i v => match rows[y.1 + i]? with | some r => r.excess v | none => 0).foldl max 0

end Sys2Proof.Machine
end

