-- ==== Sys2Proof/Machine/Plan.lean ====
section
/-! DEFINITION. The network model and the dispatch that the district services role runs: the heart-note schedule, acceptance,
segments, protection, adaptation, the fallback ladder and the status record (R210 to R241). -/

namespace Sys2Proof.Machine

/-! ### Records -/

/-- A record that the role still waits for beyond the present heart note: of the latest segment, or of a protection, adaptation or residual
job. -/
def Planner.awaits (p : Planner) (b : List Byte) : Bool :=
  let tag := fun t => leAt b 60 4 == t % 2 ^ 32
  p.segTag.any tag || (p.prot.any fun x => tag x.1) || (p.rlsTag.any fun x => tag x.1) || (p.imp.any fun x => tag x.2)

/-- The role takes the records of the solver engines' rings that it owns and releases the entries (R107, R125). -/
def State.releaseRings (s : State) : State :=
  (List.range 4).foldl (fun s k => match s.run.mem.ringOf k with
    | some (_, _, o) =>
      if o = planRole then
        (s.modPlan fun p => { p with inbox := p.inbox ++ (s.heldRecs k).map fun b => (k, b) }).modFab fun f =>
          f.setProducer k { f.producer k with fill := 0 }
      else s
    | none => s) (s.modPlan fun p => { p with inbox := p.inbox.filter fun x => p.awaits x.2 })

/-- STATUS of a record. -/
def recStatus (r : List Byte) : Nat := leAt r 0 1

/-- The dispatch's declaration. -/
def State.disp (s : State) : Option DispatchCfg := s.run.dist.disp

/-- The dispatch and the network model run: notes run outside standby (R539). -/
def State.planning (s : State) : Bool := s.solving && s.fs.started

/-- The role acts: it plans, and its pair runs (R111, R117, R240). -/
def State.planActs (s : State) : Bool := s.planning && s.roleUp 5

/-! ### Acceptance of dispatch results (R225, R229) -/

/-- Checks 2 to 4 of R229 on the leader's record and the clamped words, with the snapshot of the problem: the code of the first that
fails. -/
def State.checkRec (s : State) (c : DispatchCfg) (x : DispIn) (r : List Byte) (ws : List Int) : Nat :=
  let st := recStatus r
  let v := s.run.solve
  if 3 ≤ st then 2
  else if (st = 1 ∨ st = 2) ∧ (v.acceptP < leAt r 8 4 ∨ v.acceptD < leAt r 12 4) then 3
  else if v.battTol * v.kwh < 1000 * s.battResidual c x ws then 4
  else 0

/-- A network state has quality BAD (check 5). -/
def State.netBad (s : State) : Bool := s.plan.nets.any fun x => x.quality == .bad

/-- The built-in plan of this base note judged: its code and, when 0, its clamped words (R229). -/
def State.judge (s : State) (c : DispatchCfg) : Nat × List Int :=
  match s.plan.segTag with
  | none => (9, [])
  | some tag =>
    let recs := c.seg.map fun j => s.findRec j tag
    let ws := s.clampPlan c (c.seg.flatMap s.jobWords)
    match recs with
    | some r :: _ =>
      if recs.any (·.isNone) then (1, [])
      else
        let e := s.checkRec c s.plan.inp r ws
        if e != 0 then (e, []) else if s.netBad then (5, []) else (0, ws)
    | _ => (1, [])

/-- The words of an imported plan (R404). -/
def planWords (b : List Byte) : List Int :=
  (List.range ((b.length - 16) / 4)).map fun i => toSigned 32 (leAt b (16 + 4 * i) 4)

/-- The form of an imported plan, judged for the base note that begins: it names the step that contains it, covers K base notes beyond
it, and has the problem's variables (check 0x08 of R232, R404). -/
def State.importForm (s : State) (c : DispatchCfg) (b : List Byte) : Bool :=
  let step := max s.run.solve.stepBn 1
  let step0 := leAt b 0 4
  let n := leAt b 4 2
  step0 % step == 0 && step0 / step == s.fs.bnc / step && leAt b 6 2 == c.vars.length
    && decide (s.fs.bnc + s.run.solve.k < step0 + n * step) && b.length == 16 + 4 * (n * c.vars.length)

/-- The products of the residual jobs of an imported plan, each with its first row; none while a record is missing or not
CONVERGED. -/
def State.products (s : State) (c : DispatchCfg) (tag : Nat) : Option (List (Nat × List Int)) :=
  if !c.imp.isEmpty && c.imp.all fun p => match s.findRec p.job tag with | some r => recStatus r == 0 | none => false then
    some (c.imp.map fun p => (p.row, s.jobWords p.job))
  else none

/-- An imported plan judged: its code (R232). A word outside its box has code 0x07, but below the reserve of a string 0x06. -/
def State.judgeImport (s : State) (c : DispatchCfg) (b : List Byte) (tag : Nat) : Nat :=
  let ws := planWords b
  let low := fun (x : Int × Nat) => decide (x.1 < (s.box c (c.varAt x.2)).1)
  let high := fun (x : Int × Nat) => decide ((s.box c (c.varAt x.2)).2 < x.1)
  let rows := (s.qp c s.plan.inp s.plan.deltas (ws.length / max c.vars.length 1)).rows
  if !s.importForm c b then 8
  else if ws.zipIdx.any fun x => high x || (low x && !(c.varAt x.2).battery) then 7
  else if ws.zipIdx.any low then 6
  else match s.products c tag with
    | none => 3
    | some l =>
      if s.run.solve.acceptP < productResidual rows l then 3
      else if s.run.solve.battTol * s.run.solve.kwh < 1000 * s.battResidual c s.plan.inp ws then 4
      else if s.netBad then 5 else 0

/-- An entry of the role's firmware block (R526, DESIGN CHOICE, log entry 7). -/
def State.planLog (i cls : Nat) (payload : List Byte) (s : State) : State :=
  s.log (0x20 + planRole) 0 cls (Config.entryNumber i) payload

/-! ### The heart tick (R213, R221, R227, R229, R232, R235) -/

/-- The base note after the one that a heart tick ends or continues: at a base tick it has just begun. -/
def State.nextBnc (s : State) : Nat := if s.fs.bpos = 0 then s.fs.bnc else wrapInc 32 s.fs.bnc

/-- The warm slot of a segment was saved in the heart note before its DEADLINE (R179, R240). -/
def State.slotSaved (s : State) (j : JobCfg) (tag : Nat) : Bool :=
  let a := s.warmAddr j.engine j.problem (leAt (padTo 64 j.bytes) 24 1)
  Mem.le s.mem a 1 == 1 && decide ((tag + 2 ^ 32 - Mem.le s.mem (a + 4) 4) % 2 ^ 32 ≤ s.fs.h)

/-- The records of the latest segment are taken: counts of the base note, and whether it converged and saved the slot. A segment whose
records are lost counts as not run, but its slot may have been saved (R227, R228, R240, R241). -/
def State.harvest (c : DispatchCfg) (s : State) : State :=
  match s.plan.segWait, s.plan.segTag with
  | true, some tag =>
    let recs := c.seg.filterMap fun j => s.findRec j tag
    match c.seg.head?.bind fun j => s.findRec j tag with
    | some r =>
      s.modPlan fun p => { p with
        segWait := false, segments := p.segments + 1, lastRec := r, iters := p.iters + leAt r 6 2,
        piv := p.piv + (recs.map fun b => leAt b 24 4).sum,
        flags := recs.foldl (fun f b => f ||| leAt b 1 1) p.flags,
        segDone := p.segDone || recStatus r == 0,
        savedBnc := if recStatus r ≤ 2 then some s.nextBnc else p.savedBnc }
    | none => s.modPlan fun p => { p with
        segWait := false, savedBnc := if c.seg.head?.any fun j => s.slotSaved j tag then some s.nextBnc else p.savedBnc }
  | _, _ => s

/-- One network at a heart tick: snapshot, blocks and hydraulic job (instants 1 and 2 of R221). -/
def State.startNet (s : State) (k : Nat × NetCfg) : State :=
  let x := s.netSnapshot k.2 (s.plan.nets.getD k.1 NetState.start)
  let s1 := (s.netInputs k.2 x).sendJob k.2.hyd s.run.solve.hydIter s.plan.hydTag k.2.hyd.flags false false
  s1.modPlan fun p => { p with nets := p.nets.mapIdx fun i y => if i = k.1 then x else y }

/-- The networks with their numbers. -/
def State.netCfgs (s : State) : List (Nat × NetCfg) := s.run.dist.nets.mapIdx fun i x => (i, x)

/-! ### Model adaptation (R235, R236) -/

/-- A group's flow and whether each of its substations has quality GOOD, in the snapshots of this heart note. -/
def State.groupFlow (s : State) (g : Nat) : Int × Bool :=
  let mine := fun (f : Nat × Int × Quality) => s.run.dist.substs.any fun u => u.id == f.1 && u.group == g
  let l := (s.plan.nets.flatMap (·.flows)).filter mine
  ((l.map fun f => f.2.1).sum, l.all fun f => f.2.2 == .good)

/-- The flows of this heart note enter the samples. -/
def State.gather (s : State) : State :=
  s.modPlan fun p => { p with sums := s.run.dist.groups.map fun g =>
    let x := Tbl.getD p.sums g.id { sum := 0, count := 0, good := true }
    let f := s.groupFlow g.id
    (g.id, { sum := x.sum + f.1, count := x.count + 1, good := x.good && f.2 }) }

/-- A group's sample, and whether it updates the model: weight 0 when a substation lacked quality GOOD or the prediction error
exceeds the group's bound (R236). -/
def State.sample (s : State) (g : GroupCfg) : Int × Bool :=
  let x := Tbl.getD s.plan.sums g.id { sum := 0, count := 0, good := false }
  let m := rndDiv x.sum x.count
  (m, x.good && x.count != 0 && decide (absI (m - s.predict g none) ≤ (g.bound : Int)))

/-- The input words of a group: θ, φ, sample and weight. -/
def State.adaptWords (s : State) (a : AdaptCfg) (g : GroupCfg) : List Int :=
  let pad := fun (l : List Int) => (l ++ List.replicate a.p 0).take a.p
  let y := s.sample g
  pad (s.thetaOf g) ++ pad (g.phi.map fun x => (s.regressor x none).1) ++ [y.1, if y.2 then 1 else 0]

/-- At BPOS 0 the role submits the adaptation job with the samples of the base note that has ended (R235). -/
def State.sendAdapt (a : AdaptCfg) (s : State) : State :=
  let d := s.run.dist
  let n := d.groups.countP fun g => (s.sample g).2
  ((s.putBlk a.job a.blk (d.groups.flatMap (s.adaptWords a))).sendJob a.job 0 s.plan.trTag a.job.flags s.plan.rlsSel
    false).modPlan fun p => { p with rlsTag := some (p.trTag, n) }

/-- The horizon step that contains a base note (R228). -/
def State.stepOf (s : State) (bnc : Nat) : Nat := bnc / max s.run.solve.stepBn 1

/-- The samples of the base note that has ended are put aside: when a horizon step begins, they are the demand one step earlier
(R235; DEDUCED, log entry 56). -/
def State.closeSums (s : State) : State :=
  s.modPlan fun p => { p with
    lag := if s.fs.bnc % max s.run.solve.stepBn 1 = 0 then p.sums.map fun x => (x.1, rndDiv x.2.sum x.2.count) else p.lag
    sums := [] }

/-- The adaptation's record is taken: a CONVERGED record switches the parameter sets (R236). -/
def State.adapt (c : DispatchCfg) (s : State) : State :=
  match c.rls, s.plan.rlsTag with
  | some a, some (tag, n) =>
    let ok := match s.findRec a.job tag with | some b => recStatus b == 0 | none => false
    let new := (s.run.dist.groups.map (·.id)).zip (chunks a.p (s.jobWords a.job) s.run.dist.groups.length)
    let s1 := s.modPlan fun p => { p with rlsTag := none }
    if ok then
      (s1.modPlan fun p => { p with rlsSel := !p.rlsSel, theta := new, adapted := n }).planLog 4 0 (toLe 4 n)
    else s1
  | _, _ => s

/-! ### The heart tick (R213, R221, R227, R229, R232) -/

/-- The pivot columns of a member's record, in two entries: engine, first column, four columns (R229; DESIGN CHOICE, log entry 7). -/
def State.logPivots (tag : Nat) (s : State) (j : JobCfg) : State :=
  match s.findRec j tag with
  | some b =>
    if leAt b 24 4 = 0 then s
    else ((s.planLog 5 0 (toLe 1 j.engine.val ++ toLe 1 0 ++ (b.drop 36).take 12)).planLog 5 0
      (toLe 1 j.engine.val ++ toLe 1 4 ++ (b.drop 48).take 12))
  | none => s

/-- Heart note B − 1: the built-in plan is judged, and the residual jobs of an imported plan start (R229, R232, R404). -/
def State.judgeNote (c : DispatchCfg) (s : State) : State :=
  let s1 :=
    if c.source = 1 then s
    else
      let r := s.judge c
      let s2 := s.modPlan fun p => { p with
        reject := if r.1 = 0 then p.reject else r.1,
        armed := if r.1 = 0 then some { words := r.2, bnc := s.fs.bnc, imported := false, snap := p.snap } else none }
      let s3 := if s2.plan.flags = 0 then s2 else s2.planLog 3 0 (toLe 1 s2.plan.flags ++ toLe 1 r.1 ++ toLe 4 s2.plan.piv)
      match s.plan.segTag with
      | some tag => c.seg.foldl (State.logPivots tag) s3
      | none => s3
  match c.source, s1.net.plan with
  | 0, _ => s1
  | _, some b =>
    let tag := s.fs.tnc + s.fs.h
    let ws := planWords b
    let s2 := c.imp.foldl (fun (s : State) p =>
      (s.putBlk p.job p.blk ((ws.drop p.first).take p.count)).sendJob p.job 0 tag p.job.flags false false) s1
    { s2.modPlan fun p => { p with imp := some (b, tag) } with net := { s2.net with plan := none } }
  | _, none => s1

/-- The district services role at a heart tick; at a base tick after BNC has advanced, amendments have applied and the substation table has
aged (R29, R31, R393). -/
def State.planHeart (s : State) : State :=
  if s.planActs then
    let s1 := s.modPlan fun p => { p with
      hydTag := s.fs.tnc + s.run.solve.hydDl, trTag := s.fs.tnc + s.run.solve.trackTn, judged := false, published := false }
    let s2 := match s.disp with | some c => s1.harvest c | none => s1
    let s3 := s2.releaseRings
    let s4 := if s.fs.tnc = 0 then s3.modPlan fun p => { p with inbox := [] } else s3
    let s5 := s4.netCfgs.foldl State.startNet s4
    match s.disp with
    | some c =>
      let s6 := if s.fs.bpos = 0 then (match c.rls with | some a => s5.sendAdapt a | none => s5).closeSums else s5
      let s7 := s6.gather
      if s.fs.bpos + 1 = s.fs.b then s7.judgeNote c else s7
    | none => s5
  else s

/-! ### Acceptance and publication (R216 to R222) -/

/-- A hydraulic record is accepted (R216). -/
def hydAccepted (accept : Nat) (r : Option (List Byte)) : Bool :=
  match r with
  | some b => recStatus b == 0 || ((recStatus b == 1 || recStatus b == 2) && decide (leAt b 8 4 ≤ accept))
  | none => false

/-- A network after its hydraulic record: accepted, held, or BAD after HYD_HOLD rejections in a row (R216). -/
def NetState.judge (ok : Bool) (hold : Nat) (words fac : List Int) (x : NetState) : NetState :=
  if ok then { x with sol := words, fac := fac, quality := .good, rejects := 0 }
  else
    { x with rejects := x.rejects + 1,
             quality := if x.quality = .bad ∨ hold ≤ x.rejects + 1 then .bad else .held }

/-- The transport job of a network with its segments' inputs (R218, R221). -/
def State.sendTransport (s : State) (k : Nat × NetCfg) : State :=
  let x := s.plan.nets.getD k.1 NetState.start
  (s.segInputs k.2 x).sendJob k.2.tr 0 s.plan.trTag k.2.tr.flags x.sel false

/-- One network at the HYD_DL tick: acceptance, the entry for its flags, and its transport job (instant 3 of R221). -/
def State.acceptNet (s : State) (k : Nat × NetCfg) : State :=
  let r := s.findRec k.2.hyd s.plan.hydTag
  let ok := hydAccepted s.run.solve.hydAccept r
  let words := s.jobWords k.2.hyd
  let fac := s.words (s.blk k.2.hyd.engine k.2.hyd.problem k.2.facBlk)
  let s1 := s.modPlan fun p => { p with
    nets := p.nets.mapIdx fun i x => if i = k.1 then x.judge ok s.run.solve.hydHold words fac else x }
  let fl := match r with | some b => leAt b 1 1 | none => 0
  let s2 := if fl % 2 = 1 ∨ fl / 2 % 2 = 1 ∨ fl / 16 % 2 = 1 then s1.planLog 2 0 (toLe 1 k.1 ++ toLe 1 fl) else s1
  s2.sendTransport k

/-- HYDRAULIC_ACCEPTANCE: at the HYD_DL tick the hydraulic records are accepted and the transport jobs submitted (R216, R221). -/
def execHydraulicAcceptance (s : State) : Host.Outcome State Fault Refusal :=
  if s.planActs && !s.plan.judged && s.fs.hpos == s.run.solve.hydDl then
    .next ((s.netCfgs.foldl State.acceptNet s).modPlan fun p => { p with judged := true })
  else .next s

/-- One network at the TRACK_TN instant: a CONVERGED transport record is accepted, switches the selector and gives new node values;
otherwise arrival temperatures and delays are held (R217, R219, R222). -/
def State.arriveNet (s : State) (k : Nat × NetCfg) : State :=
  let ok := match s.findRec k.2.tr s.plan.trTag with | some b => recStatus b == 0 | none => false
  let ws := s.jobWords k.2.tr
  let new := fun (x : NetState) =>
    if ok then
      let y := { x with arr := ws, arrIdx := s.heartIndex, arrQ := .good, sel := !x.sel }
      { y with nodes := s.nodeValues k.2 y }
    else { x with arrQ := if x.arrQ = .bad then .bad else .held }
  s.modPlan fun p => { p with nets := p.nets.mapIdx fun i x => if i = k.1 then new x else x }

/-- VALID = 0 in the slot header of a job (R228). -/
def State.dropSlot (s : State) (j : JobCfg) : State :=
  s.busWrite planRole (s.warmAddr j.engine j.problem (leAt (padTo 64 j.bytes) 24 1)) [0]

/-- The head-limit sensitivities of the critical pairs from the latest accepted hydraulic factors; they are refreshed only in a base note in
which a horizon step begins (R226). -/
def State.newSens (s : State) (c : DispatchCfg) : List (List Int) :=
  if s.fs.bnc % max s.run.solve.stepBn 1 = 0 then
    c.pairs.mapIdx fun i k =>
      let x := ((s.run.dist.nets.zip s.plan.nets).find? fun y => y.1.id == k.net).map (·.2)
      Config.headRow i ((x.map (·.fac)).getD []) k.vars.length
  else s.plan.sens

/-- The first segment of a base note: delays and sensitivities, the problem from the parameter snapshot, and its words in the
engines. The matrix has changed when its entries differ from those of the segments before (R226). -/
def State.buildQp (c : DispatchCfg) (s : State) : State :=
  let ds := s.groupDeltas
  let s1 := s.modPlan fun p => { p with deltas := ds, sens := s.newSens c }
  let x := s1.qp c s.plan.inp ds c.horizon
  let h := x.factored c.places s.run.solve.sigma s.run.solve.penalty
  (c.seg.zipIdx.foldl (fun s j => s.putBlocks j.1.engine (Config.placeQp j.2 x h)) s1).modPlan fun p =>
    { p with matrix := x.matrix, newFactor := x.matrix != s.plan.matrix }

/-- The segment of a heart note is submitted to every member of the group (R226, R227, R228). -/
def State.sendSegment (c : DispatchCfg) (s : State) : State :=
  let first := s.plan.segTag.isNone
  let s0 := if first then s.buildQp c else s
  let nf := first && s0.plan.newFactor
  let gap := match s.plan.savedBnc with | some q => s.stepOf (s.fs.bnc + 1) - s.stepOf q | none => 0
  let sh := first && gap == 1
  let s1 := if first && decide (1 < gap) then c.seg.foldl State.dropSlot s0 else s0
  let tag := s.fs.tnc + (s.fs.h - s.fs.hpos)
  let flags := flag sh 0 + flag (!nf) 1 + 4
  (c.seg.foldl (fun s j => s.sendJob j s.run.solve.segCap tag flags false false) s1).modPlan fun p => { p with
    segTag := some tag, segWait := true, shifted := p.shifted || sh }

/-- NETWORK_STATE_PUBLISH: at instant 1 of the TRACK_TN top note (R219, R222, R227, R236). -/
def execNetworkStatePublish (s : State) : Host.Outcome State Fault Refusal :=
  if s.planActs && !s.plan.published && s.fs.hpos == s.run.solve.trackTn then
    let s1 := s.netCfgs.foldl State.arriveNet s
    let s2 := s1.modPlan fun p => { p with published := true, pub := p.nets }
    let s3 := s2.latchInputs
    match s.disp with
    | some c =>
      let s4 := s3.adapt c
      .next (if s.fs.bpos + 1 < s.fs.b && !s4.plan.segDone && c.source != 1 then s4.sendSegment c else s4)
    | none => .next s3
  else .next s

/-! ### Protection (R233, R234) -/

/-- A protection job for the tripped objects, as URGENT: the step-0 problem of the state measured at its trigger (R233). -/
def State.sendProtection (c : DispatchCfg) (j : JobCfg) (trig : Nat) (inp : DispIn) (s : State) : State :=
  let tag := s.fs.tnc + s.run.solve.protDl
  let x := s.qp c inp s.plan.deltas 1
  let h := x.factored c.places s.run.solve.sigma s.run.solve.penalty
  ((s.putBlocks j.engine (Config.placeQp 4 x h)).sendJob j 0 tag j.flags false true).modPlan fun p =>
    { p with prot := some (tag, trig), protIn := inp }

/-- PROTECTION_TRIGGER: the upper bound of each tripped object becomes 0; a trigger during a job in flight is latched. The command is the
event that DISTRICT binds to each object; an object that it binds to none has no effect (R233; DESIGN CHOICE, log entry 56). -/
def execProtectionTrigger (objs : List Nat) (s : State) : Host.Outcome State Fault Refusal :=
  match s.planActs, s.disp with
  | true, some c =>
    let mine := objs.filter fun o => c.trip.any fun t => t.obj == o
    match c.prot, mine with
    | some j, _ :: _ =>
      let s1 := s.modPlan fun p => { p with
        tripped := p.tripped ++ mine.filter fun o => !p.tripped.contains o, trigTnc := s.fs.tnc }
      let inp := s.dispIn c 1
      .next (match s.plan.prot with
        | some _ => s1.modPlan fun p => { p with latched := p.latched ++ mine, latchIn := (s.fs.tnc, inp) }
        | none => s1.sendProtection c j s.fs.tnc inp)
    | _, _ => .next s
  | _, _ => .next s

/-- Targets of one step by plan variable. -/
def stepImage (ws : List Int) : List (Nat × Int) := ws.mapIdx fun i x => (i, x)

/-- PROTECTION_ACCEPTANCE: the record of the protection job, or its absence at the deadline, is judged; accepted targets are
armed for the next top tick; latched triggers cause one further job (R233, R234). -/
def execProtectionAcceptance (s : State) : Host.Outcome State Fault Refusal :=
  match s.planActs, s.disp, s.plan.prot with
  | true, some c, some (tag, trig) =>
    match c.prot with
    | some j =>
      let r := s.findRec j tag
      if r.isNone && decide (s.fs.tnc < tag) then .next s
      else
        let ws := s.clampPlan c (s.jobWords j)
        let e := match r with | some b => s.checkRec c s.plan.protIn b ws | none => 1
        let s1 := s.modPlan fun p => { p with
          prot := none, protArmed := if e = 0 then some (stepImage ws, trig) else p.protArmed }
        .next (if s1.plan.latched.isEmpty then s1
          else (s1.modPlan fun p => { p with latched := [] }).sendProtection c j s.plan.latchIn.1 s.plan.latchIn.2)
    | none => .next s
  | _, _, _ => .next s

/-! ### The base tick (R230, R234, R237, R238, R241) -/

/-- The active step of a plan at the present base note (R238). -/
def State.activeStep (s : State) (p : Plan) : Nat := s.stepOf s.fs.bnc - s.stepOf (p.bnc + 1)

/-- The targets of a plan at its active step, clamped; none beyond its last step (R230, R238, DEDUCED, log entry 14). -/
def State.activeImage (s : State) (c : DispatchCfg) (p : Plan) : Option (List (Nat × Int)) :=
  let ws := (p.words.drop (s.activeStep p * c.vars.length)).take c.vars.length
  if ws.isEmpty then none else some (stepImage (s.clampPlan c ws))

/-- The imported plan's verdict: an accepted one takes the place of the built-in plan (R232). -/
def State.takeImport (c : DispatchCfg) (s : State) : State :=
  match s.plan.imp with
  | some (b, tag) =>
    let e := s.judgeImport c b tag
    s.modPlan fun p =>
      if e = 0 then
        { p with imp := none, armed := some { words := planWords b, bnc := (s.fs.bnc + (2 ^ 32 - 1)) % 2 ^ 32, imported := true,
                                              snap := p.snap } }
      else { p with imp := none, reject := e }
  | none => s

/-- Level, carried count and plan at a base tick (R238). -/
def Planner.ladder (k : Nat) (p : Planner) : Planner :=
  match p.armed with
  | some a => { p with level := 0, carried := 0, plan := some a }
  | none =>
    let n := p.carried + 1
    { p with carried := n, level := if n ≤ k ∧ p.plan.isSome then 1 else 2 }

/-- The target image at a base tick: protection targets stay until a plan with a later snapshot, or until RULES (R230, R234,
R237). -/
def State.commitImage (c : DispatchCfg) (armed : Option Plan) (s : State) : State :=
  let p := s.plan
  let keep := match p.protActive, armed with
    | some trig, some a => decide (a.snap ≤ trig)
    | some _, none => true
    | none, _ => false
  if p.level = 2 then s.modPlan fun p => { p with rules := true, protActive := none }
  else if keep then s.modPlan fun p => { p with rules := false }
  else
    let img := match p.plan with | some a => s.activeImage c a | none => none
    s.modPlan fun p => { p with rules := false, protActive := none, image := img.getD p.image }

/-- The shifts of the groups, from the committed image or at level RULES from the fallback partition, and those sent to the
substations, each its declared share (R28, R230). -/
def State.setShifts (c : DispatchCfg) (s : State) : State :=
  let d := s.run.dist
  let gs := d.groups.map fun g =>
    (g.id, if s.plan.rules then (s.fallbackVal g.item).1
      else match c.vars.idxOf? (.shift g.id) with | some i => s.target i | none => 0)
  s.modPlan fun p => { p with
    groupShifts := gs, shifts := d.substs.map fun u => (u.id, gain29 (Tbl.getD gs u.group 0) u.share) }

/-- At instant 1 of a top tick armed protection targets are committed, the shifts of the flex groups among them, but not in TEST; at level
RULES the set-points stay with the fallback partition until a base tick (R28, R230, R234, R275). -/
def State.commitProtection (s : State) : State :=
  match s.plan.protArmed with
  | some (img, trig) =>
    if s.sys.state = .test then s.modPlan fun p => { p with protArmed := none }
    else
      let s1 := s.modPlan fun p => { p with protArmed := none, image := img, protActive := some trig }
      match s.disp with | some c => s1.setShifts c | none => s1
  | none => s

/-- The 64-byte status record (R241). -/
def State.statusRecord (s : State) (c : DispatchCfg) : List Byte :=
  let p := s.plan
  let inUse := if p.level = 2 then none else p.plan
  toLe 4 s.fs.bnc ++ toLe 1 p.level ++ toLe 1 (min p.carried 255)
    ++ toLe 1 (match inUse with | some a => (if a.imported then 1 else 0) | none => 0xFF) ++ toLe 1 p.reject
    ++ toLe 4 (match inUse with | some a => a.bnc | none => 0)
    ++ toLe 2 (match inUse with | some a => min (s.activeStep a) (c.horizon - 1) | none => 0)
    ++ toLe 1 p.segments ++ toLe 1 (recStatus p.lastRec) ++ toLe 4 p.iters ++ toLe 4 (leAt p.lastRec 8 4)
    ++ toLe 4 (leAt p.lastRec 12 4) ++ toLe 4 p.piv ++ toLe 8 (leAt p.lastRec 16 8)
    ++ toLe 4 (((s.run.dist.nets.zip p.nets).map fun x => x.2.quality.code * 4 ^ x.1.id).sum)
    ++ toLe 4 (flag p.protActive.isSome 0 + flag (bitAt p.flags 3) 1 + flag (bitAt p.flags 4) 2 + flag (bitAt p.flags 1) 3
        + flag (bitAt p.flags 2) 4 + flag p.shifted 5 + flag p.newFactor 6 + flag (decide (0 < p.adapted)) 7)
    ++ toLe 4 p.adapted ++ zeros 12

/-- A new base note: its counts start at 0 and its parameters are snapshotted (R223, R241). -/
def State.newBaseNote (c : DispatchCfg) (s : State) : State :=
  s.modPlan fun p => { p with
    segTag := none, segWait := false, segments := 0, segDone := false, lastRec := [], iters := 0, piv := 0, flags := 0,
    shifted := false, newFactor := false, armed := none, imp := none, adapted := 0, snap := s.fs.tnc,
    inp := s.dispIn c c.horizon }

/-- When a horizon step begins, the shifts of the step that ended are kept for the comfort windows (R223). -/
def State.keepShifts (s : State) : State :=
  if s.fs.bnc % max s.run.solve.stepBn 1 = 0 then s.modPlan fun p => { p with past := (p.groupShifts :: p.past).take 8 } else s

/-- The role writes the status record (R241). -/
def State.writeStatus (c : DispatchCfg) (s : State) : State :=
  if s.roleUp 5 then s.busWrite planRole c.statusAddr (s.statusRecord c) else s

/-- The verdict on an imported plan at a base tick, before the amendments of that tick apply: its problem is that of the base note that ends
(R31, R232). -/
def State.planVerdict (s : State) : State :=
  match s.planActs && s.fs.tnc != 0, s.disp with
  | true, some c => s.takeImport c
  | _, _ => s

/-- The dispatch at a base tick; at the first base tick of START the status is written and the parameters are taken (R239). The commit does
not depend on the role (R240); the status record is the role's. -/
def State.planBase (s : State) : State :=
  match s.planning, s.disp with
  | true, some c =>
    if s.fs.tnc = 0 then (s.writeStatus c).newBaseNote c
    else
      let armed := s.plan.armed
      let s2 := s.modPlan (Planner.ladder s.run.solve.k)
      let s3 := if s2.plan.level = s.plan.level then s2
        else s2.planLog 1 1 (toLe 1 s2.plan.level ++ toLe 1 s.plan.level ++ toLe 1 (min s2.plan.carried 255))
      let s4 := if s.sys.state = .test then s3 else s3.commitImage c armed
      (((s4.writeStatus c).keepShifts).setShifts c).newBaseNote c
  | _, _ => s

/-- The planner at CONFIGURE step 7 (R239). -/
def Planner.configure (c : DistrictCfg) : Planner :=
  { Planner.reset with nets := c.nets.map fun _ => NetState.start, pub := c.nets.map fun _ => NetState.start }

/-! ### After a migration (R118, R240) -/

/-- The network jobs of a heart note, where the role still had a pair at its heart tick: those without a result are issued again. -/
def State.resendNets (s : State) : State :=
  let v := s.run.solve
  let lost := fun (j : JobCfg) tag => (s.findRec j tag).isNone
  if s.fs.hpos < v.hydDl then
    s.netCfgs.foldl (fun s k => if lost k.2.hyd s.plan.hydTag then
      s.sendJob k.2.hyd v.hydIter s.plan.hydTag k.2.hyd.flags false false else s) s
  else if s.fs.hpos < v.trackTn ∧ s.plan.judged = true then
    s.netCfgs.foldl (fun s k => if lost k.2.tr s.plan.trTag then s.sendTransport k else s) s
  else s

/-- The adaptation, residual and protection jobs without a result are issued again, but for those that a heart tick made up for has just
issued: `s0` is the state before it. -/
def State.resendDispatch (c : DispatchCfg) (s0 s : State) : State :=
  let lost := fun (j : JobCfg) tag => (s.findRec j tag).isNone
  let s1 := match c.rls, s.plan.rlsTag with
    | some a, some (tag, _) =>
      if lost a.job tag && s.plan.rlsTag == s0.plan.rlsTag then s.sendJob a.job 0 tag a.job.flags s.plan.rlsSel false else s
    | _, _ => s
  let s2 := match s.plan.imp with
    | some (_, tag) =>
      if s.plan.imp == s0.plan.imp then c.imp.foldl (fun (s : State) p =>
        if lost p.job tag then s.sendJob p.job 0 tag p.job.flags false false else s) s1
      else s1
    | none => s1
  match c.prot, s.plan.prot with
  | some j, some (tag, _) => if lost j tag then s2.sendJob j 0 tag j.flags false true else s2
  | _, _ => s2

/-- The new placement of the role issues again the hydraulic, transport, adaptation, residual and protection work that has no result with
its epoch; a heart tick that fell while the role had no pair is made up for. A lost segment counts as not run (R118, R240). -/
def State.reissue (s : State) : State :=
  if s.planActs then
    let s1 := if s.plan.hydTag + s.fs.hpos = s.fs.tnc + s.run.solve.hydDl then s.resendNets
      else if s.fs.hpos < s.run.solve.hydDl then s.planHeart else s
    match s.disp with
    | some c => State.resendDispatch c s s1
    | none => s1
  else s

end Sys2Proof.Machine
end

