-- ==== Sys2Proof/Machine/Configure.lean ====
section
/-! DEFINITION. Boot and CONFIGURE: verification of the firmware, choice of the accord, the switch to another accord, the
sections applied in step 7 and the entry into START (R71, R76 to R79, R477, R499 to R502). -/

namespace Sys2Proof.Machine

/-! ### Step 7: the sections applied in type order (R76) -/

/-- TCM images of MEMORY into the master copies (R96, R127). -/
def State.loadMasters (v3 : List Byte) (s : State) : State :=
  { s with mem := (List.range 7).foldl (fun (m : Mem) r =>
      (Config.tcmImage v3 r).foldl (fun (m : Mem) (w : Nat × List Byte) => Mem.writeN m (masterBase r + w.1) w.2)
        (Mem.erase m (masterBase r) 0xD0000)) s.mem }

/-- The runtime loads the routing, priorities and coalescing rules into the source registers, and the targets of the restarted
roles serve their sources from the start (R433). -/
def State.loadRoutes (v3 : List Byte) (s : State) : State :=
  let s1 := (List.finRange 7).foldl (fun (s : State) r => s.emptyStack (r.castLE (by decide))) s
  let s2 := s1.modHub fun h => (Config.hubRoutes v3).foldl (fun (h : Hub) (e : Nat × Nat × Nat) =>
    h.setRoute e.1 false (((h.route e.1).writeCfg e.2.1).writeCoal e.2.2)) h
  (List.finRange 7).foldl (fun (s : State) r =>
    if s.pairs.failed[s.pairs.place[r]] then s else s.releaseTarget (r.castLE (by decide))) s2

/-- The slot table and the class weights of FABRIC (R100, R104). -/
def State.loadFabric (v4 : List Byte) (s : State) : State :=
  s.modFab fun f => { f with slots := (v4.take 256).map (·.toNat), be := ((v4.drop 256).take 16).map (·.toNat), wrr := (7, 0) }

/-- The warm slots of a problem are marked empty (R180). -/
def State.clearWarm (s : State) (p : ProblemCfg) : State :=
  if h : p.engine < 4 then
    let n : Fin 4 := ⟨p.engine, h⟩
    { s with mem := (List.range (s.dirField n p.problem 0x0A 1)).foldl (fun (m : Mem) k =>
        Mem.writeN m (s.warmAddr n p.problem k) (zeros 4)) s.mem }
  else s

/-- The directory entries of the declared problems of an engine (R140). -/
def SolveCfg.writeDir (c : SolveCfg) (n : Fin 4) (m : Mem) : Mem :=
  (c.problems.filter fun p => p.engine == n.val).foldl (fun (m : Mem) p => Mem.writeN m (seBase n + 64 * p.problem) (p.dir.take 64)) m

/-- SOLVE: problem directory and operand images, warm slots empty, cached factors invalid, engines enabled (R140, R160, R166,
R180, R183). -/
def State.loadSolvers (s : State) : State :=
  let c := s.run.solve
  let m0 := (List.finRange 4).foldl (fun (m : Mem) n => Mem.erase m (seBase n) 0x4000) s.mem
  let m2 := c.image.foldl (fun (m : Mem) (w : Nat × Nat × List Byte) =>
    if h : w.1 < 4 then Mem.writeN m (seBase ⟨w.1, h⟩ + w.2.1) w.2.2 else m) m0
  let m1 := (List.finRange 4).foldl (fun m n => c.writeDir n m) m2
  let se := Vector.ofFn fun n : Fin 4 =>
    { s.se[n] with enable := c.problems.any (fun p => p.engine == n.val), coop := c.coop[n], cache := [], amends := [],
                   cancelReq := false, draining := false, quietEvt := false }
  c.problems.foldl State.clearWarm { s with mem := m1, se := se }

/-- LOOPS: records and engines. What only a reset clears stays: FAILED, HOSTING while TAKEOVER is permitted, the mismatches since reset,
errors, address and event enables (R261, R266, R267). -/
def State.loadLoops (s : State) : State :=
  let x := Loops.configure s.run.loops
  s.modLoops fun l => { x with le := Vector.ofFn fun n =>
    let o := l.le[n]
    { x.le[n] with
      evtEn := o.evtEn, failed := o.failed, hosting := o.hosting && x.le[n].takeover, waddrLoop := o.waddrLoop,
      waddrWord := o.waddrWord, mismatches := o.mismatches, first := o.first, err := o.err } }

/-- PROGRAMS: each partition in use is loaded and restored; the stagger queue and every image start empty (R301 to R305). -/
def State.loadPrograms (cfg : Bool) (s : State) : State :=
  let s1 := s.modProg fun q => { q with
    outs := [], setpts := [], queue := [], lastRel := none, test := [], outDue := []
    p := Vector.ofFn fun i : Fin 4 => match s.partCfg i with
      | some c => PartSt.configure c q.p[i].lastPkg
      | none => { PartSt.reset with lastPkg := q.p[i].lastPkg } }
  (List.finRange 4).foldl (fun (s : State) p =>
    if (s.partCfg p).isSome then s.restore p (s.restoreKind p cfg) else s) s1

/-- PINS: the CAN ports, with the message buffers of firmware and the writes that wait for them; no station is declared before START (R346,
R358, R376). -/
def State.loadCan (s : State) : State :=
  { s with can := Vector.ofFn fun n =>
      let old := s.can[n]
      let p := match s.run.can.find? fun c => c.port == n.val with
        | some c => CanPort.configure c
        | none => CanPort.reset
      { p with evtEn := old.evtEn, bufs := old.bufs, cfgWait := old.cfgWait, dominant := old.dominant } }

/-- PINS: the DIO banks; the outputs of the new accord take the safe states that stand (R410, R420). -/
def State.loadDio (s : State) : State := (s.modDio (Dio.configure s.run.dio)).driveAll

/-- The identifiers that occur in two lists. -/
def eitherIds (a b : List Nat) : List Nat := a ++ b.filter fun k => !a.contains k

/-- Entries 0x14E: metering points whose definitions differ between the two accords, one that only one of them declares included
(R77). -/
def State.logPoints (old : MeterCfg) (s : State) : State :=
  let new := s.run.meter
  let note := fun kind pt (s : State) => s.log silMTR 0 1 0x14E (toLe 1 kind ++ zeros 1 ++ toLe 2 pt)
  let chan := fun (m : MeterCfg) ch => m.chans.find? fun c => c.ch == ch
  let same := fun (x y : PointCfg) => x == y && x.ch.all fun ch => chan old ch == chan new ch
  let points := fun kind (a b : List PointCfg) (s : State) =>
    (eitherIds (a.map (·.pt)) (b.map (·.pt))).foldl (fun (s : State) k =>
      match a.find? fun x => x.pt == k, b.find? fun x => x.pt == k with
      | some x, some y => if same x y then s else note kind k s
      | _, _ => note kind k s) s
  let s1 := points 1 old.dc new.dc (points 0 old.ac new.ac s)
  (eitherIds (old.therm.map (·.pt)) (new.therm.map (·.pt))).foldl (fun (s : State) k =>
    if (old.therm.find? fun x => x.pt == k) == (new.therm.find? fun x => x.pt == k) then s else note 2 k s) s1

/-- Step 7 of CONFIGURE on the slot chosen: the amendment log is replayed (R86), the sections are applied in type order, the
images loaded and the RWL fields locked. `cfg` says that a CONFIGURE command brought the module here. When a role is left without
a pair, no role is loaded and the module enters SAFE_HOLD (R119), which ends the command. -/
def State.applyAccord (x : Slot) (cfg : Bool) (s : State) : State :=
  let b := s.acc.slot x
  match accordSects b none with
  | .error _ => s
  | .ok l =>
    let c := RunCfg.ofBytes b l
    if roleUnplaced c.str s.pairs.down then
      let s1 := s.toSafeHold.modAcc fun a => { a with target := none, stopped := false }
      if cfg then s1.acdDone .configure AcdErr.none else s1
    else
      let old := s.run
      let s1 := ({ s with run := c }.modAcc fun a => { a with
        locked := true, active := some x, accordLevel := c.hdr.rollback, otpLevel := s.key.otp[1], stopped := false }).replayLog x
      let keep := !cfg || (old.frames.period == c.frames.period && old.frames.src == c.frames.src)
      let s2 := (s1.modPairs (Pairs.placeRoles c.str)).loadMasters (sectVal b l 3)
      let s3 := ((s2.loadRoles.loadRoutes (sectVal b l 3)).loadFabric (sectVal b l 4)).modFs (FrameSeq.loadFrames c.frames keep)
      let s4 := s3.loadDio.loadCan.mtrRestore.loadLoops.loadSolvers
      let s5 := (s4.modPlan fun _ => Planner.configure s4.run.dist).loadPrograms cfg
      let s6 := s5.netConfigure.modNet fun n => { n with mbWait := [], mbImg := [], plan := none, hist := { n.hist with gapDone := false } }
      if cfg then s6.logPoints old.meter else s6

/-! ### Boot (R71, R477) -/

/-- FIRMWARE_VERIFY: the pointer slot and then the other are checked; `bist` names the pairs whose lockstep self-test failed
(R119). FAULT_N goes high when a slot passes; when neither does, the module stays in BOOT (R477, R509). -/
def execFirmwareVerify (bist : List (Fin 8)) (s : State) : Host.Outcome State Fault Refusal :=
  if s.alive && s.sys.state == .boot && !s.pwr.fwOk then
    let s1 := s.modPairs fun q => { q with
      bist := Vector.ofFn fun p => bist.contains p
      p := Vector.ofFn fun i => { q.p[i] with isolated := q.p[i].isolated || bist.any fun p => p.val == i.val } }
    let ok := fun b => fwOk (Config.firmware b) s.key.otp[0]
    if ok Config.firmwarePtr then .next (s1.modPwr fun p => { p with fwOk := true, faultN := false })
    else if ok (!Config.firmwarePtr) then
      .next ((s1.modPwr fun p => { p with fwOk := true, faultN := false }).modKey fun q => { q with fwFallback := true })
    else .next s1
  else .next s

/-- A slot passed validation at boot: open flash copies of amendments are completed from the journal (R88), the registers are
reloaded from the slot, its amendment log and OTP (R90), and the module enters CONFIGURE (R71, R502). -/
def State.bootUse (x : Slot) (c : RunCfg) (fallback : Bool) (s : State) : State :=
  let s1 := s.modAcc fun a => { (AccordUnit.flush .b (AccordUnit.flush .a a)).mark x (some c.hdr.seq) with
    active := some x, fallback := fallback, target := some (x, 0) }
  let done := ({ s1 with run := c }.replayLog x).acc.appliedNum
  (s1.modAcc fun a => { a with appliedNum := done, accordLevel := c.hdr.rollback, otpLevel := s.key.otp[1] }).enterState .configure

/-- BOOT_ACCORD_SELECT: the slot of the pointer, or else the other slot with entry 0x149, or SAFE_HOLD; `badA` and `badB` are
bytes of the slots that flash cannot read (R6, R71, R575). -/
def execBootAccordSelect (badA badB : Option BadRead) (s : State) : Host.Outcome State Fault Refusal :=
  if s.alive && s.sys.state == .boot && s.pwr.fwOk then
    let bad := fun x : Slot => match x with | .a => badA | .b => badB
    let check := fun x => s.validateAcd (s.acc.slot x) (s.acc.slot x).length .boot (bad x)
    let s1 := s.modAcc fun a => (a.mark .a none).mark .b none
    let x := s.acc.ptr
    match check x with
    | .ok c => .next (s1.bootUse x c false)
    | .error e => match check x.other with
      | .ok c => .next ((s1.log silSYS 0 3 0x149 (toLe 1 x.other.code ++ toLe 1 e.code ++ toLe 1 e.sect ++ zeros 1
          ++ toLe 4 e.ofs)).bootUse x.other c true)
      | .error _ => .next ((s1.modAcc fun a => { AccordUnit.flush .b (AccordUnit.flush .a a) with
          otpLevel := s.key.otp[1] }).toSafeHold)
  else .next s

/-! ### The CONFIGURE command from step 2 on (R76 to R79) -/

/-- Running program cycles are abandoned (R76, R511). -/
def State.haltTasks (s : State) : State :=
  s.modProg fun q => { q with p := vmap q.p fun x => { x with
    tasks := vmap x.tasks fun t => { t with running := false, own := [], reads := [], pend := none } } }

/-- The checkpoints of all partitions in use are finalised; `st` is the state code at the tick (R76, R300, R511). -/
def State.finishCkpts (st : Nat) (s : State) : State :=
  (List.finRange 4).foldl (fun (s : State) p => if (s.partCfg p).isSome then s.finishCkpt st p else s) s

/-- Every loop is held with cause CONFIGURE (R76, R250). -/
def LoopEngine.holdAll (e : LoopEngine) : LoopEngine :=
  { e with own := e.own.map fun p => (p.1, p.2.holdBy 4), standby := e.standby.map fun p => (p.1, p.2.holdBy 4) }

/-- Step 2, at the base tick: new program cycles stop, running ones are abandoned and solver jobs are cancelled; steps 3 and 4 follow at
instant 4 of the note. -/
def State.configureHalt (s : State) : State :=
  ((List.finRange 4).foldl State.cancelAll s.haltTasks).modAcc fun a => { a with halted := some (s.fs.tickAt + 25000 * periV) }

/-- Steps 2 to 4: programs stop, solver jobs are cancelled, outputs take their safe states, loops are held, a metering capture begins, and
checkpoints and a sillage capture are saved. -/
def State.configureStop (s : State) : State :=
  let st := s.sys.state.code
  let s1 := (List.finRange 4).foldl State.cancelAll (s.settleLoops.haltTasks.dropAllForces)
  let s2 := ((s1.negateClaim.dioSafeNow).modLoops fun l => { l with le := vmap l.le LoopEngine.holdAll }).mtrCapture
  (((s2.finishCkpts st).capture 2).finishCapture).modAcc fun a => { a with halted := none, stopped := true }

/-- The solver engines have ended their jobs and handed over every record (R156). -/
def State.solversQuiet (s : State) : Bool := s.se.toList.all fun e => e.job.isNone && e.queue.isEmpty && e.out.isEmpty

/-- Steps 5 and 6: the pointer names the target slot, pending amendments and a mode request are discarded, SYS_STATE becomes
CONFIGURE, and counters and RWL fields take their reset values. -/
def State.configureEnter (x : Slot) (s : State) : State :=
  let s1 := (s.discardAmds false).modAcc fun a => { a with ptr := x, fallback := false, active := some x, locked := false }
  (((s1.rebaseTx).enterState .configure).modFs FrameSeq.onConfigure).modSys fun y => { y with reqMode := none }

/-- Steps 5 to 7, once the metering capture is written and no solver job is left; before, the command waits for METER_CAPTURE_DONE and for
the records of the cancelled jobs. -/
def State.configureGo (x : Slot) (s : State) : State :=
  if s.solversQuiet && !s.mtr.capReq then (s.configureEnter x).applyAccord x true else s

/-- CONFIGURE_SWITCH: at the next base tick after the command programs and solver jobs stop; from instant 4 of that top note on, at once or
at a later CONFIGURE_SWITCH, outputs go safe, the state is saved and the metering capture begins; and at one after the capture is written
and the cancelled solver jobs have posted their records, the new accord is applied (R76, R337). -/
def execConfigureSwitch (s : State) : Host.Outcome State Fault Refusal :=
  match s.alive && s.running, s.acc.target with
  | true, some (x, bnc) =>
    .next (if s.acc.stopped then s.configureGo x
      else match s.acc.halted with
        | some t => if t ≤ s.now then s.configureStop.configureGo x else s
        | none =>
          if s.fs.hpos = 0 ∧ s.fs.bpos = 0 ∧ s.tickBnc ≠ bnc then
            (if s.fs.tickAt + 25000 * periV ≤ s.now then s.configureStop.configureGo x else s.configureHalt)
          else s)
  | _, _ => .next s

/-- The twin block at START: SEEKING with a twin and NONE without, mirror progress empty (R539, R543, R546). -/
def Twin.start (t : Twin) : Twin :=
  { Twin.reset t.sel t.claimIn with
    state := t.state, takeovers := t.takeovers, conflicts := t.conflicts, claimWire := t.claimWire, selEqual := t.selEqual,
    digest := t.digest, link := t.link, gap := t.gap, tag := t.tag, seqOut := t.seqOut, sent := t.sent }

/-- START is entered: the operating mode is SERVICE, the twin seeks, or stands by where the partner's claim is asserted, and
the first top tick follows 8 ms later, or at once after a
CONFIGURE command (R499, R501, R503, R539). -/
def State.enterStart (s : State) : State :=
  let cmd := s.acc.busy == some .configure
  let s1 := (s.enterState .start).modPwr fun p => { p with
    startAt := s.now, lead := if cmd then 0 else 8000 * usV, cold := p.cold && !cmd }
  let s2 := (s1.modSys fun y => { y with mode := .service, reqMode := none }).modTwin Twin.start
  let s3 := if s.run.str.twin then (if s2.twin.claimIn then (s2.twinTo .seeking).standBy else s2.twinTo .seeking) else s2.twinTo .none
  let s4 := s3.modAcc fun a => { a with target := none }
  if cmd then s4.acdDone .configure AcdErr.none else s4

/-- CONFIGURE_COMPLETE: at boot the sections of the slot chosen are applied first; then the module enters START. -/
def execConfigureComplete (s : State) : Host.Outcome State Fault Refusal :=
  match s.alive && s.sys.state == .configure, s.acc.target with
  | true, some (x, _) =>
    let s1 := if s.acc.locked then s else s.applyAccord x false
    .next (if s1.sys.state = .configure then s1.enterStart else s1)
  | _, _ => .next s

end Sys2Proof.Machine
end

