-- ==== Sys2Proof/Machine/PowerBlock.lean ====
section
/-! DEFINITION. Resets, drydown, supply inputs, watchdog, mode requests and the PWR registers (R8, R51, R492 to R520). -/

namespace Sys2Proof.Machine

/-! ### Resets (R8, R57, R90, R127, R446, R501, R520) -/

/-- A reset that stops PLL A, so that TB restarts from 0 (R57). -/
def ResetKind.cold : ResetKind → Bool
  | .powerOn | .drydownEnd => true
  | .resetN | .watchdog | .software => false

/-- Memory over a reset: power-on and drydown end leave retention MRAM alone and all other memory 0; every kind clears the result
bank and the substation table (R127, R409). -/
def Mem.onReset (k : ResetKind) (subst : Nat) (m : Mem) : Mem :=
  if k.cold then m.filter fun p => decide (0x30000000 ≤ p.1) && decide (p.1 < 0x30800000)
  else Mem.erase (Mem.erase m 0x107C0000 0x40000) subst 0x40000

/-- The accord unit over a reset: registers clear; slots, pointer, logs and journal stay (R70, R86, R90). -/
def AccordUnit.onReset (a : AccordUnit) : AccordUnit :=
  { AccordUnit.reset with slotA := a.slotA, slotB := a.slotB, ptr := a.ptr, logA := a.logA, logB := a.logB, journal := a.journal }

/-- The PROG block over a reset; the map of each partition's latest online change stays in flash (R303, R307). -/
def Programs.onReset (q : Programs) : Programs :=
  { Programs.reset with p := vmap q.p fun x => { PartSt.reset with lastPkg := x.lastPkg } }

/-- The DIO block over a reset: the bank links run on when the banks stay powered (R429, R501). -/
def Dio.onReset (k : ResetKind) (d : Dio) : Dio :=
  if k.cold then Dio.reset
  else { Dio.reset with bank := vmap d.bank fun b => { DioBank.reset with link := b.link, uv := b.uv } }

/-- The drydown record at a boot: an open marker is found and counted; OPEN is updated at the boot after a power-on or a drydown end
(R498, R508, R520). -/
def DdRecord.atBoot (k : ResetKind) (d : DdRecord) : DdRecord :=
  if d.isOpen then { d with foundOpen := true, isOpen := false, opens := satInc 65535 d.opens }
  else if k.cold then { d with foundOpen := false }
  else d

/-- The power block over a reset (R507, R509, R520). -/
def Power.onReset (k : ResetKind) (now : Nat) (p : Power) : Power :=
  { p with halted := false, haltCmd := false, wdtLock := false, wdtTimeout := 2000, kicked := false, wdtFrom := now,
           wdtPaused := false, evtEn := 255, faultN := true, fwOk := false, deferred := none, lead := 0, startAt := now,
           cold := k.cold, dd := p.dd.atBoot k, ddMark := p.dd.isOpen }

/-- A reset of a kind: every block takes the state of its reset table, pending amendments are recorded as discarded (R87), and
SYS_STATE reads BOOT with the kind, which an entry records (R8, R502). -/
def State.doReset (k : ResetKind) (s : State) : State :=
  let s0 := (s.dropWork.silBoot.keyReset).settleMirror false
  let s1 := s0.discardAmds true
  let lockEnd := if k.cold then s1.key.lockEnd.map (· - s1.now) else s1.key.lockEnd
  let now := if k.cold then 0 else s1.now
  let s2 : State := { s1 with
    now := now, sys := Sys.reset k, fs := s1.fs.onReset k, hub := Hub.reset, rtc := s1.rtc.onReset, pwr := s1.pwr.onReset k now,
    twin := Twin.reset s1.twin.sel s1.twin.claimIn, pairs := Pairs.reset, fab := Fabric.reset, acc := s1.acc.onReset,
    se := Vector.replicate 4 SolverEngine.reset, loops := Loops.reset, plan := Planner.reset, prog := s1.prog.onReset,
    mtr := { Meter.reset s1.mtr.bufs s1.mtr.newest with edges := if k.cold then 0 else s1.mtr.edges },
    can := Vector.replicate 8 CanPort.reset, dio := s1.dio.onReset k, key := { s1.key with lockEnd := lockEnd },
    net := Net.reset (s1.net.ptp.onReset k) { s1.net.hist with buf := [], gapDone := false }, run := default,
    mem := s1.mem.onReset k s1.run.mem.substBase }
  s2.log silSYS 0 1 9 (toLe 4 (k.code * 256))

/-- A waiting reset takes effect once the metering capture and the sillage capture are written (R337, R501, R528). -/
def State.tryReset (s : State) : State :=
  match s.pwr.deferred with
  | some k => if s.mtr.capReq || s.sil.running.isSome then s else s.doReset k
  | none => s

/-- A RESET_N, watchdog or software reset arises: it starts the captures that defer it; a second one is merged (R337, R528). -/
def State.askReset (k : ResetKind) (s : State) : State :=
  if s.pwr.deferred.isSome then s
  else
    let s1 := (s.modPwr fun p => { p with deferred := some k }).capture 3
    (if s1.acc.locked then s1.mtrCapture else s1).tryReset

/-- METER_CAPTURE_DONE: the capture edge has been processed (R337). -/
def execMeterCaptureDone (s : State) : Host.Outcome State Fault Refusal :=
  .next (if s.alive && s.mtr.capReq && s.mtr.capEdge then s.resumeMtr.tryReset else s)

/-- SILLAGE_CAPTURE: the capture that runs is written, its header VALID last (R529, R530). -/
def execSillageCapture (s : State) : Host.Outcome State Fault Refusal :=
  .next (if s.alive && s.sil.running.isSome then s.finishCapture.tryReset else s)

/-- CLOCK_FAULT: FAULT_N goes low, CLK_FAULT sets and a watchdog reset takes effect at once (R51, R337, R528). -/
def execClockFault (s : State) : Host.Outcome State Fault Refusal :=
  .next (if s.pwr.powered && !s.pwr.halted then
      ((s.modFs fun f => { f with clkFault := true }).doReset .watchdog).setBit 0x40000110 8 else s)

/-! ### Drydown (R510 to R513) -/

/-- The station engine stops: no new frame starts, and the frame in transmission, which is the one offered, may complete (R376). -/
def CanPort.stopLink (p : CanPort) : CanPort :=
  { p with stop := 1, outQ := match p.offered with
      | some (.inr i) => (p.outQ.drop i).take 1
      | some (.inl _) | none => [] }

/-- Step 2: programs, loops, solver engines, station engines and ports stop; the jobs abandoned are counted; the running key
command ends ABORTED; pending amendments are discarded. -/
def State.drydownStop (s : State) : State :=
  let jobs := (s.se.toList.map SolverEngine.abandoned).sum
  let se := vmap s.se fun e => { e with job := none, queue := [], out := [] }
  let can := s.can.map CanPort.stopLink
  let s1 := (({ s with se := se, can := can }.haltTasks.keyAbort).dropWork).discardAmds true
  s1.modPwr fun p => { p with dd := { p.dd with jobs := min jobs 65535 } }

/-- The effect of one step, 1 to 6, of R511; `st` is the state code that the module left, and `edge` holds the bits of the capture edge of
step 3 (R337). -/
def State.drydownStep (st : Nat) (edge : List (Fin 96 × List Bool)) (s : State) (n : Nat) : State :=
  if n = 1 then s.negateClaim.dioSafeNow.cutPulses
  else if n = 2 then s.drydownStop
  else if n = 3 then (if s.acc.locked then s.captureMtr edge else s)
  else if n = 4 then (s.capture 1).finishCapture
  else if n = 5 then s.finishCkpts st
  else s.modPwr fun p => { p with dd := { p.dd with isOpen := false } }

/-- The drydown record as the steps leave it (PWR_DD_INFO to PWR_DD_STEP6): TIME and the hold voltage at the end have no value of
the manual when step 6 was not reached. -/
def State.ddRecord (c : DdCause) (d : DrydownRun) (s : State) : State :=
  let done := d.times.length
  let free := fun k => Config.freeNat (s.free + k)
  { s with free := s.free + 2 }.modPwr fun p => { p with dd := { p.dd with
    cause := c, returned := d.aBack || d.bBack, heldReset := d.reset || s.pwr.deferred.isSome, holdLow := !p.holdReady
    restart := false, holdStart := d.holdStart % 65536,
    steps := Vector.ofFn fun i => if i.val < done then (d.times.getD i.val 0) % 2 ^ 24 else 0xFFFFFF
    time := if 6 ≤ done then (d.times.getD 5 0) % 2 ^ 24 else free 0 % 2 ^ 24
    holdEnd := if 6 ≤ done then d.holdEnd % 65536 else free 1 % 65536 } }

/-- The module halts: outputs are off and FAULT_N is low (R509, R511 step 7). -/
def State.halt (cmd : Bool) (s : State) : State :=
  (s.modPwr fun p => { p with halted := true, haltCmd := cmd, faultN := true, deferred := none, qual := false }).modDio fun d =>
    { d with live := false, ch := vmap d.ch fun x => { x with driven := false } }

/-- The module stops for want of power: outputs are off and the claim reads negated (R496). -/
def State.unpower (s : State) : State :=
  ((s.dropWork.halt false).modPwr fun p => { p with powered := false, halted := false, holdReady := false }).modTwin fun t =>
    { t with claimOut := false, gate := false, settleFrom := none }

/-- A drydown from its open marker to its end: the steps that the hold-up energy allows, then the restart of R512, the halt, the reset
that a clock fault forces, or the module stops where it stands (R498, R508, R510 to R513). -/
def State.runDrydown (c : DdCause) (d : DrydownRun) (s : State) : State :=
  let st := s.sys.state.code
  let s1 := (s.forcesOff.enterState .drydown).modPwr fun p => { p with
    qual := false, dd := { p.dd with isOpen := true, total := satInc 65535 p.dd.total, jobs := 0 } }
  let s2 := s1.ddRecord c d
  let s3 := ((List.range (min 6 d.times.length)).map (· + 1)).foldl (State.drydownStep st d.edge) s2
  let s4 := s3.modPwr fun p => { p with
    aOk := p.aOk || d.aBack, bOk := p.bOk || d.bBack, holdSw := p.holdSw && !(d.aBack || d.bBack) }
  if d.times.length < 6 then
    (if d.clock then ((s4.modFs fun f => { f with clkFault := true }).doReset .watchdog).setBit 0x40000110 8 else s4.unpower)
  else if c != .commandHalt && (s4.pwr.aOk || s4.pwr.bOk) then
    (s4.modPwr fun p => { p with dd := { p.dd with restart := true } }).doReset .drydownEnd
  else s4.halt (c == .commandHalt)

/-- DRYDOWN_TRIGGER: both inputs have stayed below the falling threshold for the qualification time; in BOOT the module halts
without a save (R7, R510). -/
def execDrydownTrigger (d : DrydownRun) (s : State) : Host.Outcome State Fault Refusal :=
  if s.pwr.powered && !s.pwr.halted && s.pwr.qual then
    let s1 := s.to (s.pwr.qualAt + 10000 * periV)
    if s.sys.state = .boot then .next (s1.halt false) else .next (s1.runDrydown .supplyLoss d)
  else .next s

/-- A write of PWR_CTRL with the key 0x9640 (R510, R519): DRYDOWN, DRYDOWN_HALT (both refused in BOOT) or SW_RESET. -/
def State.pwrCtrl (w : Initiator) (v : Nat) (d : DrydownRun) (s : State) : State :=
  s.guardWrite (isSuperSec w) 0x40600004 w v fun s =>
    let c := fld v 3 0
    if fld v 31 16 ≠ 0x9640 then s
    else if c = 3 then s.askReset .software
    else if c = 1 ∧ s.sys.state ≠ .boot then s.runDrydown .command d
    else if c = 2 ∧ s.sys.state ≠ .boot then s.runDrydown .commandHalt d
    else s

/-- DRYDOWN. -/
def execDrydown (who : Initiator) (d : DrydownRun) (s : State) : Host.Outcome State Fault Refusal :=
  .next (if s.acts who then s.pwrCtrl who 0x96400001 d else s)

/-- DRYDOWN_HALT. -/
def execDrydownHalt (who : Initiator) (d : DrydownRun) (s : State) : Host.Outcome State Fault Refusal :=
  .next (if s.acts who then s.pwrCtrl who 0x96400002 d else s)

/-- A drydown whose times and voltages the command does not carry: they are free values (DESIGN CHOICE, log entry 2). -/
def State.freeRun (s : State) : DrydownRun :=
  let f := fun k => Config.freeNat (s.free + k)
  { times := (List.range (f 0 % 7)).map fun k => f (k + 1), holdStart := f 7, holdEnd := f 8, aBack := f 9 % 2 == 1,
    bBack := f 10 % 2 == 1, reset := f 11 % 2 == 1, clock := f 12 % 2 == 1,
    edge := Config.freeBits (s.free + 13) }

/-- SW_RESET. -/
def execSwReset (who : Initiator) (s : State) : Host.Outcome State Fault Refusal :=
  .next (if s.acts who then s.pwrCtrl who 0x96400003 s.freeRun else s)

/-! ### Supply inputs (R492 to R496, R499, R518) -/

/-- The power block asserts source 288 + i (R518). -/
def State.pwrRaise (i : Nat) (s : State) : State := s.raiseEn s.pwr.evtEn 288 i

/-- PWR_STATUS. -/
def Power.status (p : Power) : Nat :=
  flag p.holdReady 31 + flag p.holdFault 30 + flag p.holdSw 29 + flag p.qual 28 + flag p.vbatLow 27 + flag p.bOk 1 + flag p.aOk 0

/-- The PRESENT bit of an input. -/
def Power.setIn (b v : Bool) (p : Power) : Power := if b then { p with bOk := v } else { p with aOk := v }

/-- The PRESENT bit of an input as it stands. -/
def Power.isIn (b : Bool) (p : Power) : Bool := if b then p.bOk else p.aOk

/-- The source and the entry of a change of an input (R493). -/
def State.vinEvent (b : Bool) (s : State) : State :=
  if s.alive then
    let i := if b then 1 else 0
    (s.pwrRaise i).log silPWR 0 1 (288 + i) (toLe 4 s.pwr.status)
  else s

/-- POWER_ON: an input becomes PRESENT on an unpowered module, which starts from BOOT (R499). -/
def execPowerOn (b : Bool) (s : State) : Host.Outcome State Fault Refusal :=
  if s.pwr.powered then .next s
  else
    .next ((s.modPwr fun p => { p with
      powered := true, aOk := !b, bOk := b, holdReady := false, holdFault := false, holdSw := false, qual := false }).doReset
        .powerOn)

/-- VIN_LOSS: the input's bit clears; when no input is left, the hold switch closes and qualification begins with source 290
(R493, R496, R510). -/
def execVinLoss (b : Bool) (s : State) : Host.Outcome State Fault Refusal :=
  if s.pwr.powered && s.pwr.isIn b then
    let s1 := (s.modPwr (Power.setIn b false)).vinEvent b
    if s1.pwr.aOk || s1.pwr.bOk then .next s1
    else
      let s2 := s1.modPwr fun p => { p with holdSw := true, qual := !p.halted, qualAt := s.now }
      .next (if s2.alive then s2.pwrRaise 2 else s2)
  else .next s

/-- VIN_RETURN: the input's bit sets; a hold switch that was closed opens, and qualification ends with source 291. A halted module
restarts with a reset of kind drydown end (R493, R496, R510, R513). -/
def execVinReturn (b : Bool) (s : State) : Host.Outcome State Fault Refusal :=
  if s.pwr.powered && !s.pwr.isIn b then
    let first := !s.pwr.aOk && !s.pwr.bOk
    let s1 := (s.modPwr fun p => { p.setIn b true with holdSw := false, qual := false }).vinEvent b
    if s.pwr.halted then .next (if first then s1.doReset .drydownEnd else s1)
    else .next (if s.pwr.qual && s1.alive then s1.pwrRaise 3 else s1)
  else .next s

/-- POWER_OFF: with no input PRESENT the bus falls below HOLD_MIN (R496). -/
def execPowerOff (s : State) : Host.Outcome State Fault Refusal :=
  .next (if s.pwr.powered && !s.pwr.aOk && !s.pwr.bOk then s.unpower else s)

/-- HOLD_READY (R495). -/
def execHoldReady (s : State) : Host.Outcome State Fault Refusal :=
  if s.pwr.powered then
    let s1 := s.modPwr fun p => { p with holdReady := true, holdFault := false }
    .next (if s1.alive && !s.pwr.holdReady then s1.pwrRaise 4 else s1)
  else .next s

/-- HOLD_READY_LOSS (R495). -/
def execHoldReadyLoss (s : State) : Host.Outcome State Fault Refusal :=
  .next (if s.pwr.powered then s.modPwr fun p => { p with holdReady := false } else s)

/-- HOLD_FAULT: while an input is PRESENT (R495). -/
def execHoldFault (s : State) : Host.Outcome State Fault Refusal :=
  if s.pwr.powered && (s.pwr.aOk || s.pwr.bOk) then
    let s1 := s.modPwr fun p => { p with holdFault := true }
    .next (if s1.alive && !s.pwr.holdFault then s1.pwrRaise 5 else s1)
  else .next s

/-- VBAT_MEASURE: VBAT_LOW sets below 2.20 V and clears above 2.30 V (R517). -/
def execVbatMeasure (mv : BitVec 16) (s : State) : Host.Outcome State Fault Refusal :=
  if s.pwr.powered && (s.pwr.aOk || s.pwr.bOk) then
    let low := if mv.toNat < 2200 then true else if 2300 < mv.toNat then false else s.pwr.vbatLow
    let s1 := s.modPwr fun p => { p with vbat := mv.toNat, vbatLow := low }
    .next (if s1.alive && low && !s.pwr.vbatLow then s1.pwrRaise 6 else s1)
  else .next s

/-! ### RESET_N and the watchdog (R506 to R508) -/

/-- RESET_N: a low level of at least 10 µs resets the module, which starts when the pin rises; a halted module with an input
PRESENT starts with a reset of kind drydown end (R506, R513). -/
def execResetN (low : Bool) (s : State) : Host.Outcome State Fault Refusal :=
  if !s.pwr.powered then .next s
  else if !low then .next (s.modPwr fun p => { p with inReset := false })
  else
    let s1 := s.modPwr fun p => { p with inReset := true }
    if s.pwr.halted then .next (if s.pwr.aOk || s.pwr.bOk then s1.doReset .drydownEnd else s1)
    else if s.pwr.inReset then .next s1
    else .next (s1.askReset .resetN)

/-- The instant from which the watchdog may expire: its timeout holds within 10 % (R507). -/
def Power.wdtEnd (p : Power) : Nat := p.wdtFrom + p.wdtTimeout * 900 * usV

/-- WATCHDOG_EXPIRY. -/
def execWatchdogExpiry (s : State) : Host.Outcome State Fault Refusal :=
  .next (if s.alive && !s.pwr.wdtPaused then (s.to s.pwr.wdtEnd).askReset .watchdog else s)

/-- A write of PWR_WDT_KICK: 0x5A and then 0xA5 restart the count; any other value, and a 0xA5 that does not directly follow a
0x5A, is recorded as entry 0x148 (R507, R519). -/
def State.wdtKick (w : Initiator) (v : Nat) (s : State) : State :=
  s.guardWrite (isSuper w) 0x40600014 w v fun s =>
    let x := fld v 7 0
    if x = 0x5A then s.modPwr fun p => { p with kicked := true }
    else if x = 0xA5 ∧ s.pwr.kicked then
      s.modPwr fun p => { p with kicked := false, wdtFrom := if p.wdtPaused then 0 else s.now }
    else (s.modPwr fun p => { p with kicked := false }).log silPWR 0 2 0x148 (toLe 1 x ++ toLe 1 w.code)

/-- WATCHDOG_KICK. -/
def execWatchdogKick (who : Initiator) (v : Word) (s : State) : Host.Outcome State Fault Refusal :=
  .next (if s.acts who then s.wdtKick who v.toNat else s)

/-- The watchdog pauses while a core of the pair that holds role 0 is held halted (R507). -/
def State.wdtPause (s : State) : State :=
  let hold := s.pairs.p[s.pairs.place[0].castSucc].debugHalt
  if hold = s.pwr.wdtPaused then s
  else s.modPwr fun p => { p with wdtPaused := hold, wdtFrom := s.now - p.wdtFrom }

/-- DEBUG_HALT: with JTAG debug open at DEBUG level in COMMISSIONING or TEST the debug module halts a core of a pair or lets
it run; the security core
pair is out of its reach (R481, R482, R507). -/
def execDebugHalt (p : Fin 9) (halt : Bool) (s : State) : Host.Outcome State Fault Refusal :=
  if s.alive && s.debugOpen && (s.sys.state == .commissioning || s.sys.state == .test) && p != 8 then
    .next (s.modPairs fun q => { q with p := upd q.p p fun x => { x with debugHalt := halt } }).wdtPause
  else .next s

/-! ### Mode requests (R503, R505) -/

/-- The operating mode that MODE names; other values are ignored. -/
def OpMode.ofCode : Nat → Option OpMode
  | 3 => some .service | 4 => some .commissioning | 5 => some .test | _ => none

/-- The result of a mode request (SYS_MODE_REQ.ERR): state, then operating mode, then field access. -/
def State.modeErr (s : State) (m : OpMode) : Nat :=
  let open_ := decide (2 ≤ s.key.level)
  if !s.running then 3
  else match s.sys.mode, m with
    | .service, .commissioning => if open_ then 0 else 2
    | .commissioning, .test => if open_ then 0 else 2
    | .test, .commissioning => 0
    | .commissioning, .service => 0
    | .service, .service | .service, .test | .commissioning, .commissioning | .test, .service | .test, .test => 1

/-- A write of SYS_MODE_REQ (R503, R519). -/
def State.modeReq (w : Initiator) (v : Nat) (s : State) : State :=
  s.guardWrite (isSuperSec w) 0x40000020 w v fun s =>
    let s := s.settleAcc
    match OpMode.ofCode (fld v 3 0) with
    | none => s
    | some m =>
      let e := s.modeErr m
      s.modSys fun y => { y with reqErr := e, reqMode := if e = 0 then some m else y.reqMode }

/-- MODE_REQUEST. -/
def execModeRequest (who : Initiator) (v : Word) (s : State) : Host.Outcome State Fault Refusal :=
  .next (if s.acts who then s.modeReq who v.toNat else s)

/-! ### LEDs (R509) -/

/-- LED_FLT is lit while FAULT_N is low. -/
def State.ledFlt (s : State) : Bool := s.pwr.faultN

/-- LED_RUN is lit in START, SERVICE, COMMISSIONING, TEST and RECOVERY. -/
def State.ledRun (s : State) : Bool := s.alive && (s.sys.state == .start || s.running)

/-! ### Registers (R519, R520) -/

/-- PWR_DD_INFO. -/
def DdRecord.info (d : DdRecord) : Nat :=
  put d.cause.code 28 4 + flag d.foundOpen 27 + flag d.returned 26 + flag d.restart 25 + flag d.heldReset 24 + flag d.holdLow 23
    + put (if d.cause = .none then 0 else packBits (d.steps.toList.map fun t => t != 0xFFFFFF)) 16 6 + put d.jobs 0 16

/-- The value of a PWR register at an offset. -/
def State.pwrRead (s : State) (ofs : Nat) : Nat :=
  let p := s.pwr
  if ofs = 0x00 then p.status
  else if ofs = 0x08 then put p.vinB 16 16 + put p.vinA 0 16
  else if ofs = 0x0C then put p.vbat 16 16 + put p.hold 0 16
  else if ofs = 0x10 then flag p.wdtLock 31 + put p.wdtTimeout 0 11
  else if ofs = 0x20 then p.dd.info
  else if ofs = 0x24 then p.dd.time
  else if ofs = 0x28 then put p.dd.holdStart 16 16 + put p.dd.holdEnd 0 16
  else if ofs = 0x2C then put p.dd.total 16 16 + put p.dd.opens 0 16
  else if ofs = 0x30 then p.evtEn
  else if 0x40 ≤ ofs ∧ ofs < 0x58 ∧ ofs % 4 = 0 then p.dd.steps.toList.getD ((ofs - 0x40) / 4) 0
  else 0

/-- A permitted write of PWR_WDT_CFG: TIMEOUT from 10 to 2,000 unless LOCK is set, and LOCK sets (R507). -/
def Power.wdtCfg (v : Nat) (p : Power) : Power :=
  let t := fld v 10 0
  { p with wdtTimeout := if !p.wdtLock && decide (10 ≤ t) && decide (t ≤ 2000) then t else p.wdtTimeout,
           wdtLock := p.wdtLock || bitAt v 31 }

/-- A write of a PWR register. -/
def State.pwrWrite (s : State) (w : Initiator) (ofs v : Nat) : State :=
  if ofs = 0x04 then { s with free := s.free + 14 }.pwrCtrl w v s.freeRun
  else if ofs = 0x10 then s.guardWrite (isSuperSec w) 0x40600010 w v fun s => s.modPwr (Power.wdtCfg v)
  else if ofs = 0x14 then s.wdtKick w v
  else if ofs = 0x30 then
    s.guardWrite (s.granted w 0x60) 0x40600030 w v fun s => s.modPwr fun p => { p with evtEn := fld v 7 0 }
  else s

end Sys2Proof.Machine
end

