-- ==== Sys2Proof/Machine/Twin.lean ====
section
/-! DEFINITION. Twin standby: the claim interlock, heartbeats, mirroring and takeover (R533 to R546). -/

namespace Sys2Proof.Machine

/-! ### Received frames (R533, R541) -/

/-- Address of TWIN_STATUS. -/
def twinStatus : Nat := 0x40710004

/-- The tag of a received frame verifies. -/
def State.twinTagOk (s : State) (type : Nat) (f : TwinIn) : Bool :=
  f.tag == twinTag s.twinKey (twinHeader type f.seq f.part f.commit f.payload.length) f.payload

/-- GAP or DIGEST sets: source 302 asserts when the flag was clear (R544). -/
def State.twinFlag (gap : Bool) (s : State) : State :=
  let was := if gap then s.twin.gap else s.twin.digest
  let s1 := (s.modTwin fun t => if gap then { t with gap := true } else { t with digest := true }).setBit twinStatus (if gap then 3 else 5)
  if was then s1 else s1.twinRaise 6

/-- A frame of the partner is missing: GAP sets, SYNC clears, and a STANDBY module asks for every partition (R541). -/
def State.twinGap (s : State) : State :=
  let s1 := s.twinFlag true
  if s1.twin.state = .standby then s1.loseSync else s1.modTwin fun t => { t with sync := false }

/-- The sequence number of an authenticated frame: a jump shows that a frame is missing. -/
def State.twinSeq (seq : Nat) (s : State) : State :=
  let gap := match s.twin.seqIn with | some q => seq != (q + 1) % 2 ^ 32 | none => false
  let s1 := s.modTwin fun t => { t with seqIn := some seq }
  if gap then s1.twinGap else s1

/-- A twin frame arrives: one with a wrong tag is dropped and sets TAG. -/
def State.twinRecv (type : Nat) (f : TwinIn) (k : State → State) (s : State) : State :=
  if !s.twinUsed then s
  else if !s.twinTagOk type f then (s.modTwin fun t => { t with tag := true }).setBit twinStatus 2
  else k (s.twinSeq f.seq)

/-- SYNC of a STANDBY module: it is up to date with every partition (R545). -/
def Twin.settleSync (t : Twin) : Twin :=
  { t with sync := t.state == .standby && !t.digestDiff && t.stale.toList.all (· == false) && t.lag.toList.all (· == 0) }

/-! ### Heartbeats (R536, R537, R539, R540) -/

/-- The claim is wanted (R539): by the preferred module while both show SEEKING, after three failed checks, or by a STANDBY
module whose partner has released. -/
def State.claimWanted (s : State) : Bool :=
  let t := s.twin
  match t.state with
  | .seeking => (t.partnerState == .seeking && t.sel && t.beat) || decide (3 ≤ t.missed)
  | .standby => decide (3 ≤ t.missed) || t.partnerReleased
  | .none | .active | .released => false

/-- Both straps are equal: the claim is negated and requested again after 1 to BACKOFF_MAX top notes (R536). -/
def State.backOff (s : State) : State :=
  let n := 1 + Config.freeNat s.free % max s.run.twin.backoffMax 1
  let s1 := (({ s with free := s.free + 1 }.negateClaim).modTwin fun t =>
    { t with selEqual := true, backoff := some (s.fs.tnc + n) }).setBit twinStatus 6
  if s.twin.selEqual then s1 else s1.twinRaise 7

/-- What an accepted heartbeat leads to (R536, R539). -/
def State.twinReact (s : State) : State :=
  let t := s.twin
  let idle := t.state == .seeking || t.state == .standby
  if t.partnerSel == t.sel && idle && !t.gate && t.partnerState != .active then
    if t.backoff.isSome then s else s.backOff
  else if t.state == .seeking && t.partnerState == .active then s.standBy
  else if s.claimWanted then s.twinClaim
  else s

/-- Fields of a heartbeat payload (R540). A second heartbeat of one heart note does not count towards CLAIM_WIRE again (R537). -/
def Twin.heartbeat (b : List Byte) (diff : Bool) (t : Twin) : Twin :=
  let fl := leAt b 1 1
  let wire := bitAt fl 1 != t.claimOut
  let run := if !wire then 0 else if t.beat then max 1 t.wireRun else t.wireRun + 1
  Twin.settleSync { t with
    partnerState := TwinState.ofCode (leAt b 0 1), partnerReleased := bitAt fl 0, partnerSel := bitAt fl 2,
    partnerSync := bitAt fl 3, beat := true, wireRun := min run 2, claimWire := t.claimWire || decide (2 ≤ run),
    digestDiff := diff, lag := Vector.ofFn fun p => leAt b (32 + 8 * p.val) 8 - t.applied[p] }

/-- A heartbeat is accepted. -/
def State.heartIn (b : List Byte) (s : State) : State :=
  let diff := (b.drop 16).take 16 != s.run.hdr.digest.take 16
  let s1 := (s.modTwin (Twin.heartbeat b diff)).setIf
    (decide (2 ≤ (Twin.heartbeat b diff s.twin).wireRun)) twinStatus 7
  let s2 := if s1.twin.claimWire && !s.twin.claimWire then s1.twinRaise 7 else s1
  (if diff then s2.twinFlag false else s2).twinReact

/-- TWIN_HEARTBEAT. -/
def execTwinHeartbeat (f : TwinIn) (s : State) : Host.Outcome State Fault Refusal :=
  .next (s.twinRecv 1 f (State.heartIn f.payload))

/-- The payload of this module's heartbeat; bit 0 of its flags is set while the module is RELEASED (R539, R540). -/
def State.heartPayload (s : State) : List Byte :=
  let t := s.twin
  toLe 1 t.state.code ++ toLe 1 (flag (t.state == .released) 0 + flag t.claimIn 1 + flag t.sel 2 + flag t.sync 3)
    ++ toLe 2 (s.sys.kind.code * 256 + s.sys.prev.code * 16 + s.sys.state.code) ++ toLe 4 s.fs.bnc ++ toLe 8 s.fs.tnc
    ++ (padTo 16 (s.run.hdr.digest.take 16)) ++ t.sealedOut.toList.flatMap (toLe 8)

/-- At instant 4 of a top note with HPOS 0 the module sends its heartbeat (R540). -/
def State.twinBeat (s : State) : State :=
  if s.twinUsed && s.fs.hpos == 0 then
    s.sendTwin 1 0 0 s.heartPayload
  else s

/-! ### Claims (R535 to R538) -/

/-- CLAIM_REQUEST: a request that R539 calls for. -/
def execClaimRequest (s : State) : Host.Outcome State Fault Refusal :=
  .next (if s.twinUsed && s.claimWanted then s.twinClaim else s)

/-- TWIN_BACKOFF_EXPIRY: in the top note in which the back-off ends, or later, the claim is requested again (R536). -/
def execTwinBackoffExpiry (s : State) : Host.Outcome State Fault Refusal :=
  match s.twinUsed, s.twin.backoff with
  | true, some n => .next (if n ≤ s.fs.tnc then (s.modTwin fun t => { t with backoff := none }).twinClaim else s)
  | _, _ => .next s

/-- CLAIM_IN asserts: an open gate closes with the claim kept; a claim of our own that has not opened the gate conflicts, and
the module with TWIN_SEL low negates it; a SEEKING module without a claim becomes STANDBY (R536, R537, R539). -/
def State.claimRise (s : State) : State :=
  if s.twin.gate then
    let s1 := ((s.modTwin fun t => { t with settleFrom := none, claimWire := true }).setBit twinStatus 7).closeGate
    if s.twin.claimWire then s1 else s1.twinRaise 7
  else
    let s1 := if s.twin.claimOut then
        let c := (s.modTwin fun t => { t with settleFrom := none, conflicts := satInc 65535 t.conflicts }).twinRaise 5
        if s.twin.sel then c else c.negateClaim
      else s
    if s1.twin.state == .seeking && !s1.twin.claimOut then s1.standBy else s1

/-- CLAIM_IN_CHANGE: the filtered level of the partner's claim changes; when it negates, the settle time of an own claim starts
(R534 to R537). -/
def execClaimInChange (level : Bool) (s : State) : Host.Outcome State Fault Refusal :=
  if s.twin.claimIn = level || !s.alive then .next s
  else
    let s1 := s.modTwin fun t => { t with claimIn := level }
    .next (if !s.twinUsed then s1
      else if level then s1.claimRise
      else if s1.twin.claimOut then s1.modTwin fun t => { t with settleFrom := some s.now } else s1)

/-- T_SETTLE in master-VCO cycles: 10,000 PERI cycles (R535). -/
def settleV : Nat := 10000 * periV

/-- Staggered outputs that the mirrored images hold on join the stagger queue as off-to-on changes (R304, R543). -/
def Programs.requeueAll (c : RunCfg) (tnc : Nat) (g : Programs) : Programs :=
  (c.prog.stagger.filter fun k => c.isOn k (Tbl.getD g.outs k (0, .good)).1 && !g.waiting k).foldl
    (fun g k => { g with queue := enqueue tnc k g.queue }) g

/-- The gate opens: the module is ACTIVE. From STANDBY this is a takeover, with a capture and the actions of R543; a module that
was SEEKING already runs its own partitions and dispatch (DEDUCED, log entry 15). -/
def State.openGate (s : State) : State :=
  let exceeded := s.twin.state == .standby
  let todo := if exceeded then [2, 3, 5] ++ ((List.range 4).filter fun p => s.run.str.parts.toList.getD p false).map (40 + ·)
    else [2, 3]
  let s1 := (s.modTwin fun t => { t with
    gate := true, settleFrom := none, takeover := todo, sync := false, backoff := none,
    takeovers := if exceeded then satInc 65535 t.takeovers else t.takeovers }).twinTo .active
  let s2 := (if exceeded then s1.capture 9 else s1).modProg (Programs.requeueAll s.run s.fs.tnc)
  s2.driveAll.driveMclk

/-- TWIN_GATE_OPEN: CLAIM_OUT has been asserted for T_SETTLE with CLAIM_IN negated throughout (R535). -/
def execTwinGateOpen (s : State) : Host.Outcome State Fault Refusal :=
  match s.twinUsed && s.twin.claimOut && !s.twin.claimIn && !s.twin.gate, s.twin.settleFrom with
  | true, some t => .next (s.to (t + settleV)).openGate
  | _, _ => .next s

/-! ### Mirroring (R541, R542) -/

/-- A complete commit of a partition is applied whole, into the master copy, the committed area and the output image, and a
checkpoint follows (R298, R541). -/
def State.applyCommit (p : Fin 4) (c : MirrorCommit) (whole : Bool) (s : State) : State :=
  let pair := s.pairs.place[partRole p].castSucc
  let base := masterBase (p.val + 1) + 0x80000
  let s0 := c.lines.foldl (fun (s : State) (l : Nat × List Byte) => s.busWrite noCode (base + 64 * l.1) l.2) s
  let s1 := { s0 with pairs := { s0.pairs with p := upd s0.pairs.p pair fun x =>
    { x with dtcm := c.lines.foldl (fun (m : Mem) (l : Nat × List Byte) => Mem.writeN m (64 * l.1) l.2) x.dtcm } } }
  let items := match s.partCfg p with | some x => x.bind.outs.flatten | none => []
  ((s1.putImage p items c.image).modPart p fun x => { x with sealedNote := true }).modTwin fun t =>
    Twin.settleSync { t with
      applied := t.applied.set p c.commit, lag := upd t.lag p fun l => t.applied[p] + l - c.commit,
      gather := t.gather.set p none, mirrored := true, stale := if whole then t.stale.set p false else t.stale }

/-- A DELTA frame of a partition on a STANDBY module. -/
def State.deltaIn (p : Fin 4) (f : TwinIn) (s : State) : State :=
  let whole := Config.deltaWhole f.payload
  let cur := match s.twin.gather[p] with
    | some c => if c.commit = f.commit then c else { commit := f.commit, lines := [], image := [] }
    | none => { commit := f.commit, lines := [], image := [] }
  let c : MirrorCommit := { cur with
    lines := cur.lines ++ Config.deltaLines f.payload, image := cur.image ++ Config.deltaImage f.payload }
  if !whole && (s.twin.stale[p] || f.commit != s.twin.applied[p] + 1) then
    if s.twin.stale[p] then s else s.twinGap
  else if Config.deltaLast f.payload then s.applyCommit p c whole
  else s.modTwin fun t => { t with gather := t.gather.set p (some c) }

/-- A mirror frame reaches a STANDBY module; while the accord digests differ it applies nothing (R541). -/
def State.mirrorIn (k : State → State) (s : State) : State :=
  if s.twin.state = .standby && !s.twin.digestDiff then k s else s

/-- DELTA. -/
def execDelta (f : TwinIn) (s : State) : Host.Outcome State Fault Refusal :=
  .next (s.twinRecv 2 f (State.mirrorIn fun s =>
    if h : 1 ≤ f.part ∧ f.part ≤ 4 then s.deltaIn ⟨f.part - 1, by omega⟩ f else s))

/-- TWIN_LOOPS. -/
def execTwinLoops (f : TwinIn) (s : State) : Host.Outcome State Fault Refusal :=
  .next (s.twinRecv 3 f (State.mirrorIn fun s => s.modTwin fun t =>
    { t with uLast := Config.loopsULast f.payload, mirrored := true }))

/-- TWIN_BASE: warm slots go to solver SRAM; the status record and the plan are kept with the base note of arrival. -/
def execTwinBase (f : TwinIn) (s : State) : Host.Outcome State Fault Refusal :=
  .next (s.twinRecv 4 f (State.mirrorIn fun s =>
    (((Config.baseWarm f.payload).filter fun w => decide (w.1 < 4) && decide (w.2.1 + w.2.2.length ≤ 0x800000)).foldl
      (fun (s : State) w => s.busWrite noCode (0x20000000 + w.1 * 0x1000000 + w.2.1) w.2.2) s).modTwin fun t =>
        { t with base := some (s.fs.bnc, f.payload), mirrored := true }))

/-- RESYNC: the ACTIVE module sends the whole committed area of the partition within the next base note. -/
def execResync (f : TwinIn) (s : State) : Host.Outcome State Fault Refusal :=
  .next (s.twinRecv 5 f fun s =>
    if h : s.twin.state = .active ∧ 1 ≤ f.part ∧ f.part ≤ 4 then
      s.modTwin fun t => { t with resync := upd t.resync ⟨f.part - 1, by omega⟩ fun _ => true }
    else s)

/-- Whole committed areas that a RESYNC has asked for go out at a base tick. -/
def State.sendAreas (s : State) : State :=
  (List.finRange 4).foldl (fun (s : State) p =>
    if s.twin.resync[p] then
      let img := s.prog.p[p].tasks.toList.flatMap (·.img)
      ((Config.areaPayloads (s.masterData p) img).foldl (fun s x => s.sendTwin 2 (p.val + 1) s.twin.sealedOut[p] x) s).modTwin
        fun t => { t with resync := t.resync.set p false }
    else s) s

/-- U_LAST of every enabled loop. -/
def State.enabledULast (s : State) : List (Nat × Int) :=
  (List.finRange 2).flatMap fun n => s.loops.le[n].ids.filterMap fun i => match s.loops.le[n].loop? i with
    | some l => if l.enabled then some (i, l.uLast) else none
    | none => none

/-- Warm-start slots of the continuing problems, whose CLASSES permits that class (R140, R541): engine, offset within solver
SRAM and bytes. -/
def State.warmSlots (s : State) : List (Nat × Nat × List Byte) :=
  s.run.solve.problems.flatMap fun p =>
    if h : p.engine < 4 then
      let n : Fin 4 := ⟨p.engine, h⟩
      if !bitAt (s.dirField n p.problem 0x01 1) 1 then [] else
      (List.range (s.dirField n p.problem 0x0A 1)).map fun k =>
        (p.engine, s.warmAddr n p.problem k - seBase n,
          Mem.readN s.mem (s.warmAddr n p.problem k) (256 + ((s.warmLens n p.problem).map vecBytes).sum))
    else []

/-- The ACTIVE module's BASE frame at a base tick, with the areas asked for (R541). -/
def State.twinBaseOut (s : State) : State :=
  if s.twinUsed && s.twin.state == .active then
    let st := match s.disp with | some c => Mem.readN s.mem c.statusAddr 64 | none => []
    ((s.sendTwin 4 0 0 (Config.basePayload s.warmSlots st s.plan.plan))).sendAreas
  else s

/-! ### Heart ticks and switchover (R540, R541) -/

/-- The partner check of a heart tick: a failed one counts in MISSED with source 300; from the third on the claim is requested,
or LINK sets on a STANDBY module that sees the partner's claim (R539, R540). -/
def State.twinCheck (s : State) : State :=
  if s.twin.beat then s.modTwin fun t => { t with beat := false, missed := 0 }
  else
    let s1 := (s.modTwin fun t => { t with missed := satInc 15 t.missed }).twinRaise 4
    if decide (3 ≤ s1.twin.missed) && s1.twin.state == .standby && s1.twin.claimIn then
      (s1.modTwin fun t => { t with link := true }).setBit twinStatus 4
    else if s1.claimWanted then s1.twinClaim else s1

/-- A heart tick of the twin block: the check, a switchover that waits, and the ACTIVE module's LOOPS frame. -/
def State.twinHeart (s : State) : State :=
  if !s.twinUsed then s
  else
    let s1 := s.twinCheck
    let s2 := if s1.twin.releasePend then
        ((s1.modTwin fun t => { t with releasePend := false }).negateClaim).twinTo .released
      else s1
    if s2.twin.state = .active then s2.sendTwin 3 0 0 (Config.loopsPayload s2.enabledULast) else s2

/-- A write of TWIN_CTRL: SWITCHOVER on an ACTIVE module whose partner shows STANDBY with SYNC (R541, R545). -/
def State.twinCtrl (w : Initiator) (v : Nat) (s : State) : State :=
  s.guardWrite (s.granted w 0x71) 0x40710000 w v fun s =>
    if fld v 31 16 = 0x9640 ∧ fld v 3 0 = 1 ∧ s.twin.state = .active ∧ s.twin.partnerState = .standby ∧ s.twin.partnerSync then
      s.modTwin fun t => { t with releasePend := true }
    else s

/-- SWITCHOVER. -/
def execSwitchover (who : Initiator) (v : Word) (s : State) : Host.Outcome State Fault Refusal :=
  .next (if s.acts who then s.twinCtrl who v.toNat else s)

/-! ### Takeover (R543) -/

/-- An action of R543 is done. -/
def Twin.did (k : Nat) (t : Twin) : Twin := { t with takeover := t.takeover.filter (· != k) }

/-- Step 2, at an output instant: the CAN ports leave restricted operation and every GOOD station is refreshed. -/
def State.takeCan (s : State) : State :=
  if s.twin.takeover.contains 2 then
    { s.modTwin (Twin.did 2) with can := vmap s.can fun p => { p with refreshGood := true } }
  else s

/-- Step 3, at a top tick: loops are enabled under R249 with the mirrored U_LAST, or those that START enables where no LOOPS
frame came. -/
def State.takeLoops (s : State) : State :=
  if s.twin.takeover.contains 3 then
    let ids := if s.twin.uLast.isEmpty then s.run.loops.atStart.map fun i => (i, (none : Option Int))
      else s.twin.uLast.map fun x => (x.1, some x.2)
    (List.finRange 2).foldl (fun s n => ids.foldl (fun s x => match s.loops.le[n].loop? x.1 with
      | some l => s.changeLoop n x.1 fun l0 =>
          Loop.enable x.1 (s.loops.le[n].entry l.spEntry) { l0 with enabled := false, uLast := x.2.getD l0.uLast }
      | none => s) s) (s.modTwin (Twin.did 3))
  else s

/-- Step 4, at a major boundary: the partition is released from the last applied commit, or under R302 where nothing was
mirrored since START or DIGEST is set. -/
def State.takePart (s : State) (p : Fin 4) : State :=
  match s.twin.takeover.contains (40 + p.val), s.partCfg p with
  | true, some c =>
    if s.fs.tnc % c.major = 0 then
      let s1 := s.modTwin (Twin.did (40 + p.val))
      if s.twin.mirrored && !s.twin.digest then s1.modPart p fun x => { x with rstKind := 2 }
      else s1.restore p .retain
    else s
  | _, _ => s

/-- Step 5, at a base tick: the mirrored plan stands for the ladder as one carried since its arrival; without one the ladder
comes to RULES. -/
def State.takePlan (s : State) : State :=
  if s.twin.takeover.contains 5 then
    let pl : Option (Nat × Plan) := match s.twin.base with
      | some (at_, b) => (Config.basePlan b).map fun q => (at_, { q with bnc := at_ })
      | none => none
    (s.modTwin (Twin.did 5)).modPlan fun p => match pl with
      | some (at_, q) => { p with plan := some q, carried := s.fs.bnc - at_ - 1, armed := none }
      | none => { p with plan := none, carried := s.run.solve.k, armed := none }
  else s

/-! ### Registers (R545) -/

/-- The value of a TWIN register at an offset. -/
def State.twinRead (s : State) (ofs : Nat) : Nat :=
  let t := s.twin
  if ofs = 4 then
    put t.state.code 29 3 + flag t.claimOut 28 + flag t.claimIn 27 + flag t.gate 26 + flag t.sel 25 + flag t.partnerSel 24
      + put t.partnerState.code 21 3 + flag t.sync 20 + put t.missed 16 4 + flag t.claimWire 7 + flag t.selEqual 6
      + flag t.digest 5 + flag t.link 4 + flag t.gap 3 + flag t.tag 2
  else if ofs = 8 then ((List.finRange 4).map fun p => put (min t.lag[p] 255) (8 * p.val) 8).sum
  else if ofs = 12 then put t.takeovers 16 16 + put t.conflicts 0 16
  else 0

/-- A write of a TWIN register. -/
def State.twinWrite (s : State) (w : Initiator) (ofs v : Nat) : State :=
  if ofs = 0 then s.twinCtrl w v
  else s.guardWrite (s.granted w 0x71) (0x40710000 + ofs) w v fun s =>
    if ofs = 4 then
      let v := s.clears twinStatus v
      s.modTwin fun t => { t with
      claimWire := t.claimWire && !bitAt v 7, selEqual := t.selEqual && !bitAt v 6, digest := t.digest && !bitAt v 5,
      link := t.link && !bitAt v 4, gap := t.gap && !bitAt v 3, tag := t.tag && !bitAt v 2 }
    else s

end Sys2Proof.Machine
end

