-- ==== Sys2Proof/Machine/Registers.lean ====
section
/-! DEFINITION. The PERI register space: the value of every register, the effect of reading and of writing it, and
REGISTER_WRITE (R9 to R11, R95). -/

namespace Sys2Proof.Machine

/-- The value of a SYS register at an offset (R5, R8, R56, R89, R503). -/
def State.sysRead (s : State) (w : Initiator) (ofs : Nat) : Nat :=
  if ofs = 0x10 then s.sys.kind.code * 256 + s.sys.prev.code * 16 + s.sys.state.code
  else if ofs = 0x20 then put s.sys.reqErr 24 8
  else if ofs < 0x200 then s.fsRead w ofs
  else s.acdRead ofs

/-- A write of a SYS register. -/
def State.sysWrite (s : State) (w : Initiator) (ofs v : Nat) : State :=
  if ofs = 0x20 then s.modeReq w v
  else if ofs < 0x200 then s.fsWrite w ofs v
  else s.acdWrite w ofs v

/-- The value that an initiator reads from the register at a PERI address: its block in bits [22:16], its offset in
bits [15:0] (R95). An offset without a register reads 0. -/
def State.periRead (s : State) (w : Initiator) (addr : Nat) : Nat :=
  let b := blockOf addr
  let o := addr % 65536
  if b = 0x00 then s.sysRead w o
  else if b = 0x01 then s.evhRead o
  else if b = 0x02 then s.rtcRead w o
  else if b = 0x03 then s.fabRead o
  else if b = 0x04 then s.pairRead o
  else if 0x10 ≤ b ∧ b < 0x14 then s.seRead ⟨(b - 0x10) % 4, by omega⟩ o
  else if b = 0x14 then s.leRead 0 o
  else if b = 0x15 then s.leRead 1 o
  else if b = 0x18 then s.mtrRead w o
  else if 0x20 ≤ b ∧ b < 0x28 then s.canRead ⟨(b - 0x20) % 8, by omega⟩ o
  else if 0x30 ≤ b ∧ b < 0x34 then s.ethRead ⟨(b - 0x30) % 4, by omega⟩ o
  else if b = 0x34 then s.ptpRead w o
  else if b = 0x35 then s.xsxRead o
  else if b = 0x40 then s.dioRead o
  else if b = 0x50 then s.keyRead o
  else if b = 0x51 then s.accRead o
  else if b = 0x60 then (if o < 0x100 then s.pwrRead o else s.silRead o)
  else if b = 0x70 then s.progRead o
  else if b = 0x71 then s.twinRead o
  else 0

/-- The effect of a read: shadows open and close for the initiator (R56, R327, R408, R448), and LEC returns to 7 (R375). -/
def State.periTouch (s : State) (w : Initiator) (addr : Nat) : State :=
  let b := blockOf addr
  let o := addr % 65536
  if b = 0x00 then s.fsTouch w o
  else if b = 0x02 then s.rtcTouch w o
  else if b = 0x18 then s.mtrTouch w o
  else if 0x20 ≤ b ∧ b < 0x28 then s.canTouch ⟨(b - 0x20) % 8, by omega⟩ o
  else if b = 0x34 then s.ptpTouch w o
  else s

/-- A write of a value to the register at a PERI address. A write to an offset without a register has no effect. -/
def State.periWrite (s : State) (w : Initiator) (addr v : Nat) : State :=
  let b := blockOf addr
  let o := addr % 65536
  if b = 0x00 then s.sysWrite w o v
  else if b = 0x01 then s.evhWrite w o v
  else if b = 0x02 then s.rtcWrite w o v
  else if b = 0x03 then s.fabWrite w o v
  else if b = 0x04 then s.pairWrite w o v
  else if 0x10 ≤ b ∧ b < 0x14 then s.seWrite w ⟨(b - 0x10) % 4, by omega⟩ o v
  else if b = 0x14 then s.leWrite w 0 o v
  else if b = 0x15 then s.leWrite w 1 o v
  else if b = 0x18 then s.mtrWrite w o v
  else if 0x20 ≤ b ∧ b < 0x28 then s.canWrite w ⟨(b - 0x20) % 8, by omega⟩ o v
  else if 0x30 ≤ b ∧ b < 0x34 then s.ethWrite w ⟨(b - 0x30) % 4, by omega⟩ o v
  else if b = 0x34 then s.ptpWrite w o v
  else if b = 0x35 then s.xsxWrite w o v
  else if b = 0x40 then s.dioWrite w o v
  else if b = 0x50 then s.keyWrite w o v
  else if b = 0x51 then s.accWrite w o v
  else if b = 0x60 then (if o < 0x100 then s.pwrWrite w o v else s.silWrite w o v)
  else if b = 0x70 then s.progWrite w o v
  else if b = 0x71 then s.twinWrite w o v
  else s

/-- REGISTER_WRITE: a write that reaches a register; an address outside the PERI space reaches none. -/
def execRegisterWrite (who : Initiator) (addr : Addr) (v : Word) (s : State) : Host.Outcome State Fault Refusal :=
  .next (if s.acts who && isPeri addr.toNat then s.periWrite who (addr.toNat / 4 * 4) v.toNat else s)

end Sys2Proof.Machine
end

