-- ==== Sys2Proof/Machine/FabricRequest.lean ====
section
/-! DEFINITION. Fabric requests: the region check, errors, atomics and the best-effort class (R93, R97 to R105). -/

namespace Sys2Proof.Machine

/-! ### Requests (R93, R97 to R99) -/

/-- A beat of a role's DMA channel between DRAM and the D-TCM of its pair (R105). -/
def isBeat (w : Initiator) (q : FabReq) : Bool :=
  match w with
  | .role r => decide (r.val < 6) && targetOf q.addr.toNat == .dram && decide (q.size = 64) && q.addr.toNat % 64 == 0
      && (q.kind == .read || q.kind == .write)
  | .security | .solver _ | .loop _ | .metering | .canDma | .ethRt | .xsx | .dio | .sillage | .bestEffort _ => false

/-- The FAB cycle from which a request made at a master-VCO cycle can be granted: no initiator is granted twice at one position, and
a core has at most one request outstanding (R93). -/
def State.requestFrom (s : State) (w : Initiator) (q : FabReq) (t : Nat) : Nat :=
  let core : Bool := match w with
    | .role _ | .security => !isBeat w q
    | .solver _ | .loop _ | .metering | .canDma | .ethRt | .xsx | .dio | .sillage | .bestEffort _ => false
  match Tbl.get? w.code s.fab.answers with
  | some a => max (ceilDiv t fabV) (if core then ceilDiv a.ready fabV else a.grant / fabV + 1)
  | none => ceilDiv t fabV

/-! ### The checks (R97, R98, R105) -/

/-- The request lies in the sillage region, which only the sillage writer writes (R521). -/
def State.inSillage (s : State) (a : Nat) : Bool :=
  s.acc.locked && decide (s.run.mem.silBase ≤ a) && decide (a < s.run.mem.silBase + 266240)

/-- A write that only the engine or CONFIGURE may make: the problem directory and the gather store of a solver SRAM (R130). -/
def solverOnly (a : Nat) : Bool := decide (a % 0x01000000 < 0x4000) || decide (0x780000 ≤ a % 0x01000000)

/-- The cause of FAB_ERR_INFO that a request meets before it is performed; none when it passes. The spec names no cause for a request
to a TCM alias or, outside BOOT, to the boot ROM, for an AMO, LR or SC on a target other than system SRAM, and for a write that R130
forbids: the cause is that of the region check (DESIGN CHOICE, log entry 58). -/
def State.fabCause (s : State) (w : Initiator) (q : FabReq) : Option Nat :=
  let a := q.addr.toNat
  let t := targetOf a
  let ok := s.regionOk w a q.size (kindWrites q.kind)
  match t with
  | .unmapped => some 3
  | .tcm => some 0
  | .rom => if s.sys.state = .boot ∧ !kindWrites q.kind then none else some 0
  | .peri => if isBe w ∨ kindAtomic q.kind ∨ q.kind = .fetch then some 0 else none
  | .sram =>
    if a < 0x105B0000 then some 1
    else if 0x107C0000 ≤ a ∧ kindWrites q.kind then some 1
    else if ok then none else some 0
  | .solver _ => if kindAtomic q.kind ∨ !ok ∨ (kindWrites q.kind ∧ solverOnly a) then some 0 else none
  | .mram => if kindAtomic q.kind ∨ !ok ∨ (kindWrites q.kind ∧ s.inSillage a) then some 0 else none
  | .dram =>
    let core : Bool := match w with
      | .role _ | .security => !isBeat w q
      | .solver _ | .loop _ | .metering | .canDma | .ethRt | .xsx | .dio | .sillage | .bestEffort _ => false
    if kindAtomic q.kind ∨ core ∨ !ok then some 0 else none

/-! ### Writes of D-TCM (R105, R112, R113) -/

/-- The mirrored region of the role that a pair holds: offset in D-TCM and length (R112). -/
def State.mirrorOf (s : State) (p : Fin 9) : Nat × Nat :=
  if h : p.val < 8 then
    match s.pairs.roleOf ⟨p.val, h⟩ with
    | some r => ((s.run.mem.mirror.find? fun m => m.1 == r.val).map (·.2)).getD (0, 0)
    | none => (0, 0)
  else (0, 0)

/-- Bytes written to the D-TCM of a pair: a line of the mirrored region becomes dirty (R113). -/
def State.dtcmStore (p : Fin 9) (o : Nat) (bs : List Byte) (s : State) : State :=
  let m := s.mirrorOf p
  s.modPairs fun q => { q with p := upd q.p p fun x =>
    if m.1 ≤ o ∧ o < m.1 + m.2 then x.writeData o (bs.mapIdx fun i b => (i, b))
    else { x with dtcm := Mem.writeN x.dtcm o bs } }

/-! ### Effects -/

/-- The access error of a request (R98). -/
def State.fabError (w : Initiator) (q : FabReq) (cause pos : Nat) (s : State) : State :=
  s.accessError { owner := w.code, access := kindCode q.kind, cause := cause, addr := q.addr.toNat, pos := pos }

/-- The bytes that a request reads; the gather store answers with its copy 0 (R130). -/
def State.fabBytes (s : State) (w : Initiator) (a n : Nat) : List Byte :=
  match targetOf a with
  | .rom => (List.range n).map fun i => Config.bootRom (a + i)
  | .peri => toLe n (s.periRead w (a / 4 * 4) / 2 ^ (8 * (a % 4)))
  | .mram => if s.inSillage a then (List.range n).map fun i => s.sil.byteAt (a - s.run.mem.silBase + i) else Mem.readN s.mem a n
  | .solver _ =>
    if 0x780000 ≤ a % 0x01000000 then (List.range n).map fun i => Mem.read (a - a % 0x80000 + (a + i) % 0x10000) s.mem
    else Mem.readN s.mem a n
  | .tcm | .sram | .dram | .unmapped => Mem.readN s.mem a n

/-- Bytes written by a request. -/
def State.fabStore (w : Initiator) (a : Nat) (bs : List Byte) (s : State) : State := s.busWrite w.code a bs

/-- The result of an atomic operation on two values of `w` bits (the A extension). -/
def amoResult (op : AmoOp) (w old x : Nat) : Nat :=
  let so := toSigned w old
  let sx := toSigned w x
  match op with
  | .swap => x
  | .add => (old + x) % 2 ^ w
  | .xor => Nat.xor old x
  | .and => Nat.land old x
  | .or => Nat.lor old x
  | .min => if so ≤ sx then old else x
  | .max => if sx ≤ so then old else x
  | .minu => min old x
  | .maxu => max old x

/-- A beat between DRAM and the D-TCM of the pair that holds the role: a read fills the line, a write empties it into DRAM (R105). -/
def State.moveBeat (s : State) (w : Initiator) (q : FabReq) : State × Nat :=
  match w with
  | .role r =>
    let p := s.pairs.place[r].castSucc
    if kindWrites q.kind then (s.fabStore w q.addr.toNat (Mem.readN s.pairs.p[p].dtcm (64 * q.line.val) 64), 0)
    else (s.dtcmStore p (64 * q.line.val) (Mem.readN s.mem q.addr.toNat 64), Mem.le s.mem q.addr.toNat 64)
  | .security | .solver _ | .loop _ | .metering | .canDma | .ethRt | .xsx | .dio | .sillage | .bestEffort _ => (s, 0)

/-- A request that has passed its checks takes effect: the new state and the data of its answer. An SC answers 0 when it
stored and 1 when not. A beat of a role's DMA channel moves a line of its pair's D-TCM (R105). -/
def State.perform (s : State) (w : Initiator) (q : FabReq) : State × Nat :=
  let a := q.addr.toNat
  if isBeat w q then s.moveBeat w q else
  let bs := (padTo q.size q.data).take q.size
  let old := s.fabBytes w a q.size
  match q.kind with
  | .read | .fetch => (if targetOf a = .peri then s.periTouch w (a / 4 * 4) else s, leNat old)
  | .write => (if targetOf a = .peri then s.periWrite w (a / 4 * 4) (leNat (bs.take 4)) else s.fabStore w a bs, 0)
  | .amo op => (s.fabStore w a (toLe q.size (amoResult op (8 * q.size) (leNat old) (leNat bs))), leNat old)
  | .lr => (s.modFab fun f => { f with resv := f.resv.filter (fun r => r.1 != w.code) ++ [(w.code, a / 64)] }, leNat old)
  | .sc =>
    let held := s.fab.resv.contains (w.code, a / 64)
    let s1 := s.modFab fun f => { f with resv := f.resv.filter fun r => r.1 != w.code }
    if held then (s1.fabStore w a bs, 0) else (s1, 1)

/-- ECC on the bytes that a request reads from on-chip memory: counted, and source 49 for an uncorrectable error (R99). -/
def State.fabEcc (q : FabReq) (s : State) : State :=
  if (targetOf q.addr.toNat).onChip && q.kind != .write then
    match q.ecc with
    | .ok => s
    | .corrected => s.corrected 1
    | .uncorrected => s.uncorrected
  else s

/-- The request meets an uncorrectable error. -/
def eccBad (q : FabReq) : Bool := (targetOf q.addr.toNat).onChip && q.kind != .write && q.ecc == .uncorrected

/-- One fabric request of an initiator, granted at a master-VCO cycle: the state after it, with the answer that stands with the
initiator, and that answer. -/
def State.serve (s : State) (w : Initiator) (q : FabReq) (g : Nat) : State × Answer :=
  let pos := g / fabV % 256
  let a : Answer := { data := 0, err := true, pos := pos, grant := g, ready := g + latency (targetOf q.addr.toNat) q.kind * fabV }
  let r : State × Answer := match s.fabCause w q with
    | some c => (s.fabError w q c pos, a)
    | none =>
      let s1 := s.fabEcc q
      if eccBad q then (s1.fabError w q 2 pos, a)
      else
        let x := s1.perform w q
        (x.1, { a with data := x.2, err := false })
  (r.1.modFab fun f => { f with answers := Tbl.set w.code r.2 f.answers }, r.2)

/-! ### The grants (R93, R98, R104) -/

/-- The grant of a request of a real-time initiator made at a master-VCO cycle. Until an accord is applied there is no slot table,
and the request is granted on the next FAB cycle (DEDUCED, log entry 9). None where no slot will ever take it. -/
def State.grantAt (s : State) (w : Initiator) (q : FabReq) (t : Nat) : Option Nat :=
  let f0 := s.requestFrom w q t
  let kind := targetOf q.addr.toNat
  if !s.acc.locked then some (f0 * fabV)
  else (((s.fab.slotFrom w (fun b p => slotTakes b p kind) f0).or
    (if (s.fabCause w q).isSome then s.fab.slotFrom w (fun b _ => b != 0) f0 else none))).map (· * fabV)

/-- The best-effort initiator that the table grants in a FAB cycle, among those with a waiting request for a target that the position
accepts: the entry served last while it has grants left, else the next in order; with the round robin after it (R104). An entry without an
acceptable request at a position loses the grants that it had left (DESIGN CHOICE, log entry 58). -/
def Fabric.beChoice (f : Fabric) (c : Nat) : Option (Nat × Nat × Initiator × FabReq) :=
  let req := fun i => f.waiting.find? fun x => x.1.code == (f.beEntry i).1 && (f.beEntry i).2 != 0
    && f.slots.getD (c % 256) 0 / 64 == 0 && beTakes (c % 256) (targetOf x.2.addr.toNat)
  let same := if 0 < f.wrr.2 then (req f.wrr.1).map fun x => (f.wrr.1, f.wrr.2 - 1, x) else none
  same.or ((List.range 8).findSome? fun k =>
    let i := (f.wrr.1 + 1 + k) % 8
    (req i).map fun x => (i, (f.beEntry i).2 - 1, x))

/-- The next FAB cycle in which a waiting best-effort request is granted. -/
def Fabric.beNextGrant (f : Fabric) : Option Nat :=
  ((f.waiting.filter fun x => f.beNames x.1).filterMap fun x => f.beFrom (targetOf x.2.addr.toNat) f.beNext).min?

/-- Waiting best-effort requests are granted in turn, one a position, up to a FAB cycle, or until `stop` holds (R104). -/
def State.serveWaiting (stop : Fabric → Bool) (upTo : Nat) : Nat → State → State
  | 0, s => s
  | n + 1, s =>
    match s.fab.beNextGrant with
    | none => s
    | some c =>
      if stop s.fab ∨ upTo < c then s
      else match s.fab.beChoice c with
        | none => s
        | some (i, left, w, q) =>
          ((s.modFab fun f => { f with
            wrr := (i, left), beNext := c + 1, waiting := f.waiting.erase (w, q) }).serve w q (c * fabV)).1.serveWaiting stop upTo n

/-- The best-effort requests whose positions have passed by now are served. -/
def State.settleFab (s : State) : State := s.serveWaiting (fun _ => false) (s.now / fabV) s.fab.waiting.length

/-- A best-effort request made at a master-VCO cycle joins the waiting ones, once the positions before it have been granted. -/
def State.queueBe (w : Initiator) (q : FabReq) (t : Nat) (s : State) : State :=
  (s.serveWaiting (fun _ => false) (t / fabV) s.fab.waiting.length).modFab fun f => { f with
    beNext := max f.beNext (ceilDiv t fabV), waiting := f.waiting ++ [(w, q)] }

/-- FABRIC_REQUEST: a request of a real-time initiator is granted in its next slot that takes it, checked, and performed or refused; a
best-effort request waits for the positions that R104 grants it, which come as time passes. The answer stands with the initiator. A
request that no position takes waits, and nothing happens. -/
def execFabricRequest (who : Initiator) (q : FabReq) (s : State) : Host.Outcome State Fault Refusal :=
  if s.acts who then
    if isBe who && s.acc.locked then .next (s.queueBe who q s.now).settleFab
    else match s.grantAt who q s.now with
      | some g => .next (s.serve who q g).1
      | none => .next s
  else .next s

end Sys2Proof.Machine
end

