-- ==== Sys2Proof/Machine/CoreExec.lean ====
section
/-! DEFINITION. CORE_INSTRUCTION: one RV64GC instruction on a lockstep pair, with its latency, its memory access, its CSRs and
its traps (R91 to R94, R99, R105, R111, R113, R437, R438; the RISC-V rules, PRESUMED, log entry 12). -/

namespace Sys2Proof.Machine

/-! ### Registers and arithmetic (RV64I, RV64M) -/

/-- An integer register; x0 reads 0. -/
def Core.get (c : Core) (r : Fin 32) : DWord := if r.val = 0 then 0 else c.x[r]

/-- An integer register written; x0 discards the value. -/
def Core.put (r : Fin 32) (v : DWord) (c : Core) : Core := if r.val = 0 then c else { c with x := c.x.set r v }

/-- A floating-point register written. -/
def Core.putF (r : Fin 32) (v : DWord) (c : Core) : Core := { c with f := c.f.set r v }

/-- The low 32 bits, sign-extended. -/
def sext32 (v : DWord) : DWord := (v.truncate 32).signExtend 64

/-- An integer operation (RV64I). -/
def aluResult (op : AluOp) (a b : DWord) : DWord :=
  let n := b.toNat % 64
  let m := b.toNat % 32
  match op with
  | .add => a + b
  | .sub => a - b
  | .sll => a <<< n
  | .slt => if a.slt b then 1 else 0
  | .sltu => if a.ult b then 1 else 0
  | .xor => a ^^^ b
  | .srl => a >>> n
  | .sra => a.sshiftRight n
  | .or => a ||| b
  | .and => a &&& b
  | .addw => sext32 (a + b)
  | .subw => sext32 (a - b)
  | .sllw => sext32 (a <<< m)
  | .srlw => ((a.truncate 32 : BitVec 32) >>> m).signExtend 64
  | .sraw => ((a.truncate 32 : BitVec 32).sshiftRight m).signExtend 64

/-- Signed quotient towards zero: all ones for a zero divisor. -/
def divS (w : Nat) (a b : Int) : Int := if b = 0 then -1 else toSigned w (ofSigned w (Int.tdiv a b))

/-- Signed remainder: the dividend for a zero divisor. -/
def remS (a b : Int) : Int := if b = 0 then a else Int.tmod a b

/-- Unsigned quotient: all ones for a zero divisor. -/
def divU (w a b : Nat) : Nat := if b = 0 then 2 ^ w - 1 else a / b

/-- Unsigned remainder: the dividend for a zero divisor. -/
def remU (a b : Nat) : Nat := if b = 0 then a else a % b

/-- A multiplication or division (RV64M). -/
def mulResult (op : MulOp) (a b : DWord) : DWord :=
  let a32 : BitVec 32 := a.truncate 32
  let b32 : BitVec 32 := b.truncate 32
  match op with
  | .mul => a * b
  | .mulh => BitVec.ofInt 64 (a.toInt * b.toInt / 2 ^ 64)
  | .mulhsu => BitVec.ofInt 64 (a.toInt * b.toNat / 2 ^ 64)
  | .mulhu => BitVec.ofNat 64 (a.toNat * b.toNat / 2 ^ 64)
  | .mulw => sext32 (a * b)
  | .div => BitVec.ofInt 64 (divS 64 a.toInt b.toInt)
  | .divu => BitVec.ofNat 64 (divU 64 a.toNat b.toNat)
  | .rem => BitVec.ofInt 64 (remS a.toInt b.toInt)
  | .remu => BitVec.ofNat 64 (remU a.toNat b.toNat)
  | .divw => (BitVec.ofInt 32 (divS 32 a32.toInt b32.toInt)).signExtend 64
  | .divuw => (BitVec.ofNat 32 (divU 32 a32.toNat b32.toNat)).signExtend 64
  | .remw => (BitVec.ofInt 32 (remS a32.toInt b32.toInt)).signExtend 64
  | .remuw => (BitVec.ofNat 32 (remU a32.toNat b32.toNat)).signExtend 64

/-- The condition of a branch. -/
def brTaken (op : BrOp) (a b : DWord) : Bool :=
  match op with
  | .eq => a == b | .ne => a != b | .lt => a.slt b | .ge => !a.slt b | .ltu => a.ult b | .geu => !a.ult b

/-- Bytes of a load. -/
def ldBytes : LdOp → Nat
  | .b => 1 | .h => 2 | .w => 4 | .d => 8 | .bu => 1 | .hu => 2 | .wu => 4

/-- A loaded value extended to 64 bits. -/
def ldExt (op : LdOp) (v : Nat) : DWord :=
  match op with
  | .b => (BitVec.ofNat 8 v).signExtend 64
  | .h => (BitVec.ofNat 16 v).signExtend 64
  | .w => (BitVec.ofNat 32 v).signExtend 64
  | .d | .bu | .hu | .wu => BitVec.ofNat 64 v

/-- Bytes of a store. -/
def stBytes : StOp → Nat
  | .b => 1 | .h => 2 | .w => 4 | .d => 8

/-! ### Latencies (R92) -/

/-- CORE cycles of a multiplication or division. -/
def mulCycles : MulOp → Nat
  | .mul | .mulh | .mulhsu | .mulhu => 4
  | .mulw => 3
  | .div | .divu | .rem | .remu | .divw | .divuw | .remw | .remuw => 34

/-- CORE cycles of a floating-point operation. -/
def fpCycles (dbl : Bool) : FpOp → Nat
  | .add | .sub | .sgnj | .sgnjn | .sgnjx | .min | .max | .cvt => 4
  | .mul => 5
  | .madd | .msub | .nmsub | .nmadd => 6
  | .div => if dbl then 32 else 18
  | .sqrt => if dbl then 36 else 20

/-! ### One instruction on a pair -/

/-- The instruction ends: the pc, the cycles, the count of instructions, and the cycle from which the next can issue. -/
def State.retire (p : Fin 9) (pc : DWord) (cyc : Nat) (f : Core → Core) (s : State) : State :=
  s.modCore p fun c => { f c with
    pc := pc, cycles := c.cycles + cyc, instret := c.instret + 1, at_ := c.issueAt s.now + 4 * cyc }

/-- A synchronous exception: 8 CORE cycles from the issue of its instruction to the first handler instruction, also where the
exception is the access fault of a fabric error (R92, R98; PRESUMED, log entry 12). -/
def State.except (p : Fin 9) (code : Nat) (tval : DWord) (s : State) : State :=
  s.modCore p fun c => { c.trap false code tval with cycles := c.cycles + 8, at_ := c.issueAt s.now + 32 }

/-- The initiator of a pair's fabric requests: its role, or the security core pair; a spare without a role holds no slot. -/
def State.initiatorOf (s : State) (p : Fin 9) : Option Initiator :=
  if h : p.val < 8 then (s.pairs.roleOf ⟨p.val, h⟩).map Initiator.role else some .security

/-- The hub target of a pair (R430). -/
def State.targetOfPair (s : State) (p : Fin 9) : Fin 9 :=
  if h : p.val < 8 then
    match s.pairs.roleOf ⟨p.val, h⟩ with | some r => ⟨r.val, by omega⟩ | none => 7
  else 8

/-- CORE cycles from the issue of a fabric access to the edge on which a dependent instruction can issue: for a load or AMO one
CORE cycle after the data have crossed, for a store 2 FAB cycles after the grant (R48, R54, R93). -/
def fabricCycles (issue : Nat) (store : Bool) (a : Answer) : Nat :=
  ceilDiv ((if store then a.grant + 2 * fabV else ceilDiv a.ready 4 * 4 + 4) - issue) 4

/-- A memory access of a core to a fabric target, made one FAB cycle after the first FAB edge at or after its issue: one request of
its initiator; the network services role reaches DRAM through initiator 0x27, after the answer of its own access before it, and waits
for the positions that R104 grants it (R54, R93, R105). None where no position will ever take it: the core waits. -/
def State.coreFabric (s : State) (p : Fin 9) (q : FabReq) : Option (State × Answer) :=
  let t := (ceilDiv (s.issue p) fabV + 1) * fabV
  match s.initiatorOf p with
  | none => none
  | some w =>
    if s.acc.locked && w == .role 6 && targetOf q.addr.toNat == .dram then
      let t0 := s.requestFrom w q t * fabV
      let w := Initiator.bestEffort 7
      let s1 := s.queueBe w q t0
      let s2 := s1.serveWaiting (fun f => !f.waiting.contains (w, q)) (t0 / fabV + 4096) s1.fab.waiting.length
      if s2.fab.waiting.contains (w, q) then none
      else (Tbl.get? w.code s2.fab.answers).map fun a => (s2, a)
    else (s.grantAt w q t).map fun g => s.serve w q g

/-- Offset of an address in the D-TCM alias (R94). -/
def dtcmOfs (a : Nat) : Option Nat := if 0x08100000 ≤ a ∧ a < 0x08140000 then some (a - 0x08100000) else none

/-- Offset of an address in the I-TCM alias (R94). -/
def itcmOfs (a : Nat) : Option Nat := if 0x08000000 ≤ a ∧ a < 0x08080000 then some (a - 0x08000000) else none

/-- The outcome of ECC on a pair's own TCM: an uncorrectable error is a lockstep failure of the pair (R99, R111). -/
def State.tcmEcc (e : Ecc) (s : State) : State :=
  match e with
  | .corrected => s.corrected 1
  | .ok | .uncorrected => s

/-- A load of `n` bytes: the value is taken by `k`, or the access faults. An address at or above 2^40 lies outside the physical address
space, so no request reaches the fabric and it records none (DESIGN CHOICE, log entry 58). -/
def State.coreLoad (p : Fin 9) (next : DWord) (a n : Nat) (va : DWord) (e : Ecc) (k : Nat → Core → Core) (s : State) : State :=
  if a % n ≠ 0 then s.except p 4 va
  else
    match dtcmOfs a, itcmOfs a, targetOf a with
    | some o, _, _ => (s.tcmEcc e).retire p next 2 (k (Mem.le s.pairs.p[p].dtcm o n))
    | _, some o, _ => (s.tcmEcc e).retire p next 2 (k (Mem.le s.pairs.p[p].itcm o n))
    | _, _, .rom =>
      { s with free := s.free + 1 }.retire p next (Config.freeNat s.free) (k (leNat ((List.range n).map fun i => Config.bootRom (a + i))))
    | _, _, _ =>
      if 2 ^ 40 ≤ a then s.except p 5 va
      else match s.coreFabric p { kind := .read, addr := BitVec.ofNat 40 a, size := n, data := [], ecc := e, line := 0 } with
        | some (s1, r) => if r.err then s1.except p 5 va else s1.retire p next (fabricCycles (s.issue p) false r) (k r.data)
        | none => s

/-- A store of bytes. I-TCM and the boot ROM take none (R94): the core refuses the access itself, with no record of the fabric and no
source 48 (DESIGN CHOICE, log entry 58). -/
def State.coreStore (p : Fin 9) (next : DWord) (a : Nat) (va : DWord) (bs : List Byte) (e : Ecc) (s : State) : State :=
  if a % bs.length ≠ 0 then s.except p 6 va
  else
    match dtcmOfs a, itcmOfs a, targetOf a with
    | some o, _, _ => ((s.tcmEcc e).dtcmStore p o bs).retire p next 1 id
    | _, some _, _ => s.except p 7 va
    | _, _, .rom => s.except p 7 va
    | _, _, _ =>
      if 2 ^ 40 ≤ a then s.except p 7 va
      else match s.coreFabric p { kind := .write, addr := BitVec.ofNat 40 a, size := bs.length, data := bs, ecc := .ok, line := 0 } with
        | some (s1, r) => if r.err then s1.except p 7 va else s1.retire p next (fabricCycles (s.issue p) true r) id
        | none => s

/-- An AMO, LR or SC of `n` bytes. In the pair's own D-TCM it acts at once; its cycles there are free (PRESUMED, log entry 12). -/
def State.coreAmo (p : Fin 9) (next : DWord) (kind : FabKind) (a n : Nat) (va : DWord) (x : Nat) (e : Ecc)
    (k : Nat → Core → Core) (s : State) : State :=
  let lr := kind == .lr
  if a % n ≠ 0 then s.except p (if lr then 4 else 6) va
  else
    match dtcmOfs a, itcmOfs a, targetOf a with
    | some o, _, _ =>
      let code := 64 + p.val
      let old := Mem.le s.pairs.p[p].dtcm o n
      let s0 := ({ s with free := s.free + 1 }).tcmEcc e
      let cyc := Config.freeNat s.free
      match kind with
      | .amo op => (s0.dtcmStore p o (toLe n (amoResult op (8 * n) old x))).retire p next cyc (k old)
      | .sc =>
        let held := s.fab.resv.contains (code, a / 64)
        let s1 := s0.modFab fun f => { f with resv := f.resv.filter fun r => r.1 != code }
        if held then (s1.dtcmStore p o (toLe n x)).retire p next cyc (k 0) else s1.retire p next cyc (k 1)
      | .lr | .read | .write | .fetch =>
        (s0.modFab fun f => { f with resv := f.resv.filter (fun r => r.1 != code) ++ [(code, a / 64)] }).retire p next cyc (k old)
    | _, some _, _ => s.except p (if lr then 5 else 7) va
    | _, _, .rom => s.except p (if lr then 5 else 7) va
    | _, _, _ =>
      if 2 ^ 40 ≤ a then s.except p (if lr then 5 else 7) va
      else match s.coreFabric p { kind := kind, addr := BitVec.ofNat 40 a, size := n, data := toLe n x, ecc := e, line := 0 } with
        | some (s1, r) =>
          if r.err then s1.except p (if lr then 5 else 7) va else s1.retire p next (fabricCycles (s.issue p) false r) (k r.data)
        | none => s

/-! ### CSRs (Zicsr, R113, R437, R438) -/

/-- mstatus: MIE, MPIE, MPP, MPRV, TW and FS, which is held at Dirty, with SD (PRESUMED, log entry 12). No rule gives user mode another
view of memory, so MPRV changes no access. -/
def Core.mstatus (c : Core) : Nat :=
  flag c.mie 3 + flag c.mpie 7 + flag c.mprv 17 + flag c.tw 21 + (if c.mpp then 0x1800 else 0) + 0x6000 + 2 ^ 63 + 2 ^ 33

/-- The value of a CSR; none for a CSR that the core does not have. -/
def State.csrRead (s : State) (p : Fin 9) (n : Nat) : Option DWord :=
  let c := s.pairs.p[p].core
  let some' := fun k : Nat => some (BitVec.ofNat 64 k)
  if n = 0x001 then some (c.fcsr &&& 31)
  else if n = 0x002 then some (c.fcsr >>> 5 &&& 7)
  else if n = 0x003 then some (c.fcsr &&& 255)
  else if n = 0x300 then some' c.mstatus
  else if n = 0x301 then some' (2 ^ 63 + 0x10112D)
  else if n = 0x304 then some c.mieReg
  else if n = 0x305 then some c.mtvec
  else if n = 0x306 then some c.mcounteren
  else if n = 0x340 then some c.mscratch
  else if n = 0x341 then some c.mepc
  else if n = 0x342 then some c.mcause
  else if n = 0x343 then some c.mtval
  else if n = 0x344 then some' (flag s.hub.tgt[s.targetOfPair p].port.isSome 11)
  else if n = 0xB00 ∨ n = 0xC00 then some' c.cycles
  else if n = 0xB02 ∨ n = 0xC02 then some' c.instret
  else if (0xB03 ≤ n ∧ n < 0xB20) ∨ (0x323 ≤ n ∧ n < 0x340) ∨ n = 0x320 ∨ n = 0xF15 then some 0
  else if n = 0xF11 then some (Config.coreId 0)
  else if n = 0xF12 then some (Config.coreId 1)
  else if n = 0xF13 then some (Config.coreId 2)
  else if n = 0xF14 then some (Config.coreId (8 + p.val))
  else if n = 0x7C0 ∨ n = 0x7C2 then some 0
  else if n = 0x7C1 then some' (s.evClaim (s.targetOfPair p))
  else none

/-- The core with a CSR of its own written. -/
def Core.csrWrite (n : Nat) (v : DWord) (c : Core) : Core :=
  if n = 0x001 then { c with fcsr := (c.fcsr &&& 0xE0) ||| (v &&& 31) }
  else if n = 0x002 then { c with fcsr := (c.fcsr &&& 31) ||| ((v &&& 7) <<< 5) }
  else if n = 0x003 then { c with fcsr := v &&& 255 }
  else if n = 0x300 then { c with mie := bitAt v.toNat 3, mpie := bitAt v.toNat 7,
                                  mprv := bitAt v.toNat 17, tw := bitAt v.toNat 21,
                                  mpp := if fld v.toNat 12 11 = 3 then true else if fld v.toNat 12 11 = 0 then false else c.mpp }
  else if n = 0x304 then { c with mieReg := v &&& 0x888 }
  else if n = 0x305 then { c with mtvec := v &&& ~~~(2 : DWord) }
  else if n = 0x306 then { c with mcounteren := v &&& 0xFFFFFFFF }
  else if n = 0x340 then { c with mscratch := v }
  else if n = 0x341 then { c with mepc := v &&& ~~~(1 : DWord) }
  else if n = 0x342 then { c with mcause := v }
  else if n = 0x343 then { c with mtval := v }
  else if n = 0xB00 then { c with cycles := v.toNat }
  else if n = 0xB02 then { c with instret := v.toNat }
  else c

/-- A CSR written: MIRROR makes a consistency point of the pair's role, and EVDONE completes a handler (R113, R438). -/
def State.csrWrite (p : Fin 9) (n : Nat) (v : DWord) (s : State) : State :=
  if n = 0x7C0 then
    if h : p.val < 8 then match s.pairs.roleOf ⟨p.val, h⟩ with | some r => s.seal r | none => s else s
  else if n = 0x7C2 then s.evDone (s.issue p) (s.targetOfPair p) (v.toNat % 512)
  else s.modCore p (Core.csrWrite n v)

/-- A CSR instruction (Zicsr): an illegal instruction for a CSR that does not exist, lies above the mode, is read-only and
would be written, or is a counter that mcounteren hides. The write comes first in time, so that a handler sees it. -/
def State.csrInstr (p : Fin 9) (next : DWord) (op : CsrOp) (rd : Fin 32) (n : Nat) (x : DWord) (write : Bool) (s : State) : State :=
  let c := s.pairs.p[p].core
  let hidden := !c.machine && ((n == 0xC00 && !bitAt c.mcounteren.toNat 0) || (n == 0xC02 && !bitAt c.mcounteren.toNat 2))
  match s.csrRead p n with
  | none => s.except p 2 0
  | some old =>
    if (!c.machine && n / 256 % 4 != 0) || hidden || (write && n / 1024 == 3) then s.except p 2 0
    else
      let new := match op with | .rw => x | .rs => old ||| x | .rc => old &&& ~~~x
      let s1 := s.retire p next 3 (Core.put rd old)
      if write then s1.csrWrite p n new else s1

/-! ### CORE_INSTRUCTION -/

/-- A branch target without bit 0. -/
def evenPc (v : DWord) : DWord := v &&& ~~~(1 : DWord)

/-- A single-precision value in a floating-point register, NaN-boxed. -/
def nanBox (v : Nat) : DWord := BitVec.ofNat 64 (v % 2 ^ 32) ||| 0xFFFFFFFF00000000

/-- A floating-point result as the register holds it. -/
def fpBox (dbl : Bool) (v : Nat) : DWord := if dbl then BitVec.ofNat 64 v else nanBox v

/-- The flags of a floating-point operation accrue in fcsr. -/
def Core.raiseFp (fl : Nat) (c : Core) : Core := { c with fcsr := c.fcsr ||| BitVec.ofNat 64 fl }

/-- The addresses of a memory instruction: base register plus offset. -/
def Core.ea (c : Core) (r : Fin 32) (off : BitVec 12) : DWord := c.get r + off.signExtend 64

/-- An instruction whose latency no row of R92 gives: its cycles are free (PRESUMED, log entry 12). -/
def State.retireFree (p : Fin 9) (pc : DWord) (f : Core → Core) (s : State) : State :=
  { s with free := s.free + 1 }.retire p pc (Config.freeNat s.free) f

/-- FENCE: the next instruction waits until every earlier fabric store has been acknowledged (R93). -/
def State.fence (p : Fin 9) (pc : DWord) (s : State) : State :=
  let ack := match s.initiatorOf p with
    | some w => ((Tbl.get? w.code s.fab.answers).map (·.ready)).getD 0
    | none => 0
  let wait := ceilDiv (ack - s.issue p) 4
  (s.modCore p fun c => { c with at_ := c.issueAt s.now + 4 * wait, cycles := c.cycles + wait }).retireFree p pc id

/-- The effect of one instruction on a pair. -/
def State.coreInstr (p : Fin 9) (short : Bool) (i : CoreInstr) (e : Ecc) (s : State) : State :=
  let c := s.pairs.p[p].core
  let next := c.pc + (if short then 2 else 4)
  match i with
  | .lui rd imm => s.retire p next 1 (Core.put rd (((imm ++ (0 : BitVec 12)) : BitVec 32).signExtend 64))
  | .auipc rd imm => s.retire p next 1 (Core.put rd (c.pc + ((imm ++ (0 : BitVec 12)) : BitVec 32).signExtend 64))
  | .jal rd off => s.retire p (c.pc + off.signExtend 64) 2 (Core.put rd next)
  | .jalr rd rs1 off => s.retire p (evenPc (c.ea rs1 off)) 3 (Core.put rd next)
  | .branch op rs1 rs2 off =>
    if brTaken op (c.get rs1) (c.get rs2) then s.retire p (c.pc + off.signExtend 64) 2 id else s.retire p next 1 id
  | .load op rd rs1 off =>
    s.coreLoad p next (c.ea rs1 off).toNat (ldBytes op) (c.ea rs1 off) e fun v => Core.put rd (ldExt op v)
  | .store op rs1 rs2 off =>
    s.coreStore p next (c.ea rs1 off).toNat (c.ea rs1 off) (toLe (stBytes op) (c.get rs2).toNat) e
  | .aluImm op rd rs1 imm => s.retire p next 1 (Core.put rd (aluResult op (c.get rs1) (imm.signExtend 64)))
  | .alu op rd rs1 rs2 => s.retire p next 1 (Core.put rd (aluResult op (c.get rs1) (c.get rs2)))
  | .mul op rd rs1 rs2 => s.retire p next (mulCycles op) (Core.put rd (mulResult op (c.get rs1) (c.get rs2)))
  | .amo op dbl rd rs1 rs2 =>
    let n := if dbl then 8 else 4
    s.coreAmo p next (.amo op) (c.get rs1).toNat n (c.get rs1) ((c.get rs2).toNat % 2 ^ (8 * n)) e fun v =>
      Core.put rd (if dbl then BitVec.ofNat 64 v else (BitVec.ofNat 32 v).signExtend 64)
  | .lr dbl rd rs1 =>
    s.coreAmo p next .lr (c.get rs1).toNat (if dbl then 8 else 4) (c.get rs1) 0 e fun v =>
      Core.put rd (if dbl then BitVec.ofNat 64 v else (BitVec.ofNat 32 v).signExtend 64)
  | .sc dbl rd rs1 rs2 =>
    let n := if dbl then 8 else 4
    s.coreAmo p next .sc (c.get rs1).toNat n (c.get rs1) ((c.get rs2).toNat % 2 ^ (8 * n)) e fun v =>
      Core.put rd (BitVec.ofNat 64 v)
  | .fload dbl rd rs1 off =>
    s.coreLoad p next (c.ea rs1 off).toNat (if dbl then 8 else 4) (c.ea rs1 off) e fun v =>
      Core.putF rd (if dbl then BitVec.ofNat 64 v else nanBox v)
  | .fstore dbl rs1 rs2 off =>
    s.coreStore p next (c.ea rs1 off).toNat (c.ea rs1 off) (toLe (if dbl then 8 else 4) c.f[rs2].toNat) e
  | .fp op dbl rm rd rs1 rs2 rs3 =>
    match if fpRounds op then roundMode rm c.fcsr else some 0 with
    | some m =>
      let r := fpResult op dbl m c.f[rs1].toNat c.f[rs2].toNat c.f[rs3].toNat
      s.retire p next (fpCycles dbl op) fun c => (c.putF rd (fpBox dbl r.1)).raiseFp r.2
    | none => s.except p 2 0
  | .fpToInt op dbl rm rd rs1 rs2 =>
    match if fpIntRounds op then roundMode rm c.fcsr else some 0 with
    | some m =>
      let r := fpIntResult op dbl m c.f[rs1].toNat c.f[rs2].toNat
      if op = .classify then s.retireFree p next fun c => c.put rd r.1
      else s.retire p next 4 fun c => (c.put rd r.1).raiseFp r.2
    | none => s.except p 2 0
  | .intToFp op dbl rm rd rs1 =>
    match if intFpRounds op then roundMode rm c.fcsr else some 0 with
    | some m =>
      let r := intFpResult op dbl m (c.get rs1)
      s.retire p next 4 fun c => (c.putF rd (fpBox dbl r.1)).raiseFp r.2
    | none => s.except p 2 0
  | .csr op rd rs1 addr => s.csrInstr p next op rd addr.toNat (c.get rs1) (op == .rw || rs1 != 0)
  | .csrImm op rd imm addr => s.csrInstr p next op rd addr.toNat (imm.zeroExtend 64) (op == .rw || imm != 0)
  | .fence => s.fence p next
  | .fenceI => s.retireFree p next id
  | .ecall => s.except p (if c.machine then 11 else 8) 0
  | .ebreak => s.except p 3 c.pc
  | .mret =>
    if c.machine then
      s.retireFree p c.mepc fun c => { c with mie := c.mpie, mpie := true, machine := c.mpp, mpp := false, mprv := c.mprv && c.mpp }
    else s.except p 2 0
  | .wfi => if !c.machine && c.tw then s.except p 2 0 else s.retireFree p next fun c => { c with wfi := true }
  | .illegal => s.except p 2 0

/-- The instruction reads or writes the pair's own TCM. -/
def usesTcm (c : Core) : CoreInstr → Bool
  | .load _ _ rs1 off | .fload _ _ rs1 off | .store _ rs1 _ off | .fstore _ rs1 _ off => (targetOf (c.ea rs1 off).toNat) == .tcm
  | .amo _ _ _ rs1 _ | .lr _ _ rs1 | .sc _ _ rs1 _ => (targetOf (c.get rs1).toNat) == .tcm
  | .lui _ _ | .auipc _ _ | .jal _ _ | .jalr _ _ _ | .branch _ _ _ _ | .aluImm _ _ _ _ | .alu _ _ _ _ | .mul _ _ _ _
  | .fp _ _ _ _ _ _ _ | .fpToInt _ _ _ _ _ _ | .intToFp _ _ _ _ _ | .csr _ _ _ _ | .csrImm _ _ _ _
  | .fence | .fenceI | .ecall | .ebreak | .mret | .wfi | .illegal => false

/-- A pair issues instructions: it has not failed, no core of it is halted, it is not the spare that a migration reloads, and WFI
does not hold it (R111, R117, R443, R507). -/
def State.issues (s : State) (p : Fin 9) : Bool :=
  let x := s.pairs.p[p]
  s.alive && !x.isolated && !x.debugHalt && !(s.pairs.running && p.val == s.pairs.spare.val)
    && (!x.core.wfi || s.hub.tgt[s.targetOfPair p].port.isSome)

/-- CORE_INSTRUCTION: both cores of a pair issue one instruction, with the outcomes of ECC on its fetch from I-TCM and on the memory
it reads. An uncorrectable error in the pair's own TCM is a lockstep failure (R99, R111), and FAB_ECC.UNCORRECTED leaves it
out, since R99 names
the lockstep failure for it and no count (DESIGN CHOICE, log entry 58); the security core pair has no PAIR bit,
and its failure has no effect that the manual gives. -/
def execCoreInstruction (p : Fin 9) (short : Bool) (i : CoreInstr) (ecc : Ecc × Ecc) (s : State) :
    Host.Outcome State Fault Refusal :=
  let c := s.pairs.p[p].core
  let tcm := (itcmOfs c.pc.toNat).isSome
  if s.issues p then
    if (tcm && ecc.1 == .uncorrected) || (usesTcm c i && ecc.2 == .uncorrected) then
      .next (if h : p.val < 8 then s.lockstep [⟨p.val, h⟩] else s)
    else
      let s1 := if tcm && ecc.1 == .corrected then s.corrected 1 else s
      .next ((s1.modCore p fun c => { c with wfi := false }).coreInstr p short i ecc.2)
  else .next s

end Sys2Proof.Machine
end

