-- ==== Sys2Proof/Machine/Migration.lean ====
section
/-! DEFINITION. The end of a migration: the spare is released and the work of the role goes on (R117, R118, R122). -/

namespace Sys2Proof.Machine

/-- The work of a role after its migration: a partition's cut-short cycles are decided, and the district services role issues again
what has no result (R118, R277). -/
def State.resumeWork (r : Fin 7) (s : State) : State :=
  if h : 1 ≤ r.val ∧ r.val ≤ 4 then s.rerunTasks ⟨r.val - 1, by omega⟩
  else if r.val = 5 then s.reissue
  else s

/-- MIGRATION_RESUME: at instant 4 the spare is released. An uncorrectable error in the master copy counts, asserts source 49 and is a
lockstep failure of the spare; after it, or after the failure of a second pair, the migration never ends (R99, R117, R121, R122). -/
def execMigrationResume (ecc : Ecc) (s : State) : Host.Outcome State Fault Refusal :=
  if h : s.pairs.migRole < 7 then
    if s.alive && s.pairs.running && !s.pairs.broken then
      match ecc with
      | .uncorrected => .next (s.uncorrected.lockstep [s.pairs.spare])
      | .corrected => .next (((s.corrected 1).resume ⟨_, h⟩).resumeWork ⟨_, h⟩)
      | .ok => .next ((s.resume ⟨_, h⟩).resumeWork ⟨_, h⟩)
    else .next s
  else .next s

end Sys2Proof.Machine
end

