-- ==== Sys2Proof/Machine/Modbus.lean ====
section
/-! DEFINITION. The Modbus TCP server (R397 to R400) and the values that a map entry or a historian entry names (R398, R405). -/

namespace Sys2Proof.Machine

/-! ### Mapped values (R398) -/

/-- Registers of a value by TYPE: 1, 2 or 4 (R398). -/
def mbWords (type : Nat) : Nat := if type = 8 then 4 else if 5 ≤ type then 2 else 1

/-- Bits of a value in its registers. -/
def mbBits (type v : Nat) : Nat :=
  if type = 0 then (if v = 0 then 0 else 1)
  else if type = 1 then ofSigned 16 (toSigned 8 v)
  else if type = 2 then v % 256
  else v % 2 ^ (16 * mbWords type)

/-- An item of a partition's output images in effect. -/
def State.itemValue (s : State) (p : Fin 4) (item : Nat) : Option (Int × Quality) :=
  s.prog.p[p].tasks.toList.findSome? fun t => Tbl.get? item t.img

/-- An input item as its task holds it. -/
def State.inputValue (s : State) (p : Fin 4) (task pos : Nat) : Int × Quality :=
  match s.prog.p[p].tasks.toList[task]? with
  | some t => t.inImg.getD pos (0, .bad)
  | none => (0, .bad)

/-- A program variable by symbol: what Modbus wrote, an item of an image, or its committed value (R398, R399). -/
def State.symbolValue (s : State) (p : Fin 4) (sym : Nat) : Nat × Quality :=
  match s.net.mbImg.find? fun m => m.1 == p.val + 1 && m.2.1 == sym with
  | some m => (m.2.2, .good)
  | none =>
    match s.partCfg p with
    | none => (0, .bad)
    | some c =>
      match c.bind.outSym.find? fun x => x.1 == sym, c.bind.inSym.find? fun x => x.1 == sym with
      | some o, _ => let v := (s.itemValue p o.2).getD (0, .bad); (ofSigned 64 v.1, v.2)
      | none, some i => let v := s.inputValue p i.2.1 i.2.2; (ofSigned 64 v.1, v.2)
      | none, none =>
        match findSym s.prog.p[p].symmap sym with
        | some x => (leAt (s.masterData p) x.ofs (min x.size 8), .good)
        | none => (0, .bad)

/-- The value of a source that KIND, PART, TYPE and REF name, and its quality (R398, R405): DEDUCED, log entry 16 gives the readings of
REF. -/
def State.mapSource (s : State) (kind part type ref : Nat) : Nat × Quality :=
  if kind = 0 then
    if h : 1 ≤ part ∧ part ≤ 4 then s.symbolValue ⟨part - 1, by omega⟩ ref else (0, .bad)
  else if kind = 1 then
    ((if type = 8 then (s.mtr.reg64 ref).getD (s.mtrRead .metering ref) else s.mtrRead .metering ref), s.meterQuality (ref / 4))
  else if kind = 2 then
    let v := (Tbl.get? (outKey (fld ref 31 30) (fld ref 10 0)) s.loops.eff).getD (0, .bad)
    (ofSigned 64 v.1, v.2)
  else if kind = 3 then
    match s.disp with
    | some c => (Mem.le s.mem (c.statusAddr + ref) (2 * mbWords type), .good)
    | none => (0, .bad)
  else if kind = 4 then
    (Mem.le s.mem (s.run.mem.substBase + ref) (2 * mbWords type),
      if 8 ≤ ref % 64 ∧ ref % 64 < 24 then (s.substValue (ref / 64) ((ref % 64 - 8) / 4)).2 else Quality.ofCode (s.substState (ref / 64)))
  else (s.sysRead (.role 5) ref, .good)

/-- Value `k` of a map entry. SUB is the partition for KIND 0, whose values have consecutive symbol identities (DEDUCED, log entry 16),
and the stride otherwise (R398). -/
def State.mapVal (s : State) (e : MapEntry) (k : Nat) : Nat × Quality :=
  if e.kind = 0 then s.mapSource 0 e.sub e.type (e.ref + k) else s.mapSource e.kind 0 e.type (e.ref + k * e.sub)

/-! ### The map (R398) -/

/-- An entry carries a quality register after each value. -/
def MapEntry.withQ (e : MapEntry) : Bool := bitAt e.flags 1

/-- Addresses of one value with its quality register; coils and discrete inputs take one address each. -/
def MapEntry.width (e : MapEntry) : Nat := if e.table < 2 then 1 else mbWords e.type + (if e.withQ then 1 else 0)

/-- The entry that holds an address of a table. -/
def CommsCfg.mapAt (c : CommsCfg) (table a : Nat) : Option MapEntry :=
  c.mb.find? fun e => e.table == table && decide (e.start ≤ a) && decide (a < e.start + e.count * e.width)

/-- The registers of a value, the most significant first. -/
def mbRegs (type v : Nat) : List Nat :=
  (List.range (mbWords type)).map fun i => mbBits type v / 2 ^ (16 * (mbWords type - 1 - i)) % 65536

/-- The registers that a request for `n` from address `a` reads; none where an address has no entry or a multi-register value
is covered in part. Each turn takes one value or one quality register. -/
def State.mbRead (s : State) (table : Nat) : Nat → Nat → Nat → Option (List Nat)
  | _, _, 0 => some []
  | 0, _, _ => none
  | fuel + 1, a, n =>
    match s.run.comms.mapAt table a with
    | none => none
    | some e =>
      let k := (a - e.start) / e.width
      let o := (a - e.start) % e.width
      let v := s.mapVal e k
      if table < 2 then (s.mbRead table fuel (a + 1) (n - 1)).map fun r => (if mbBits e.type v.1 = 0 then 0 else 1) :: r
      else if o = 0 then
        if mbWords e.type ≤ n then
          (s.mbRead table fuel (a + mbWords e.type) (n - mbWords e.type)).map fun r => mbRegs e.type v.1 ++ r
        else none
      else if o = mbWords e.type then (s.mbRead table fuel (a + 1) (n - 1)).map fun r => v.2.code :: r
      else none

/-- Only a KIND 0 entry with FLAGS bit 0 whose variable is not I/O-bound can be written (R399). -/
def State.mbWritable (s : State) (e : MapEntry) (k : Nat) : Bool :=
  e.kind == 0 && bitAt e.flags 0 &&
    match s.prog.p.toList[e.sub - 1]? with
    | some x => decide (1 ≤ e.sub) && (match findSym x.symmap (e.ref + k) with
        | some y => !bitAt y.flags 1
        | none => false)
    | none => false

/-- The value of registers, the most significant first. -/
def regsVal (l : List Nat) : Nat := l.foldl (fun a x => a * 65536 + x % 65536) 0

/-- A written value as the input image holds it, 32 bits or 64, signed types extended. -/
def mbStored (type v : Nat) : Nat :=
  if type = 1 then ofSigned 32 (toSigned 8 v) else if type = 3 then ofSigned 32 (toSigned 16 v) else mbBits type v

/-- The writes that register values from address `a` make: partition, symbol, value; none where the request must be answered
with exception 02 (R398, R399). -/
def State.mbWrites (s : State) (table : Nat) : Nat → Nat → List Nat → Option (List (Nat × Nat × Nat))
  | _, _, [] => some []
  | 0, _, _ :: _ => none
  | fuel + 1, a, x :: xs =>
    match s.run.comms.mapAt table a with
    | none => none
    | some e =>
      let k := (a - e.start) / e.width
      let w := if table < 2 then 1 else mbWords e.type
      if (a - e.start) % e.width = 0 ∧ w ≤ (x :: xs).length ∧ s.mbWritable e k then
        (s.mbWrites table fuel (a + w) ((x :: xs).drop w)).map fun r =>
          (e.sub, e.ref + k, mbStored e.type (regsVal ((x :: xs).take w))) :: r
      else none

/-! ### Requests (R397 to R399) -/

/-- Master-VCO cycles of one second. -/
def secondV : Nat := 1000000 * usV

/-- A reply with an exception code. -/
def mbExc (fc code : Nat) : MbReply := { fc := fc + 128, data := toLe 1 code }

/-- A 16-bit field, big-endian on the wire. -/
def be16 (v : Nat) : List Byte := [BitVec.ofNat 8 (v / 256), BitVec.ofNat 8 v]

/-- Connections that have been idle for MB_IDLE seconds are closed (R397). -/
def State.mbSweep (s : State) : State :=
  s.modNet fun n => { n with mb := vmap n.mb fun c => match c with
    | some x => if x.used + s.run.comms.mbIdle * secondV ≤ s.now then none else some x
    | none => none }

/-- The server, which runs on the network services role, answers a request on an open connection with a state and a reply: the
connection is no longer idle and holds the reply (R397). -/
def State.mbAnswer (s : State) (c : Fin 8) (r : State × MbReply) : State :=
  match s.mbSweep.net.mb[c], s.acts (.role 6) with
  | some x, true => r.1.modNet fun n => { n with mb := n.mb.set c (some { x with used := s.now, reply := some r.2 }) }
  | _, _ => s.mbSweep

/-- Writes are refused in DRYDOWN, CONFIGURE or SAFE_HOLD (R399) and in twin standby (R542). -/
def State.mbRefused (s : State) : Bool :=
  s.sys.state == .drydown || s.sys.state == .configure || s.sys.state == .safeHold || s.twin.state == .standby

/-- The bytes of coils, eight to a byte. -/
def coilBytes (l : List Nat) : List Byte := toLe ((l.length + 7) / 8) (packBits (l.map (· != 0)))

/-- The reply to a read of coils or discrete inputs. -/
def State.mbBitsReply (s : State) (fc table start qty : Nat) : MbReply :=
  if qty = 0 ∨ 2000 < qty then mbExc fc 3
  else match s.mbRead table qty start qty with
    | some l => { fc := fc, data := toLe 1 ((qty + 7) / 8) ++ coilBytes l }
    | none => mbExc fc 2

/-- The reply to a read of registers. -/
def State.mbRegsReply (s : State) (fc table start qty : Nat) : MbReply :=
  if qty = 0 ∨ 125 < qty then mbExc fc 3
  else match s.mbRead table qty start qty with
    | some l => { fc := fc, data := toLe 1 (2 * qty) ++ l.flatMap be16 }
    | none => mbExc fc 2

/-- A write request: the state after it and the reply, `echo` where it is accepted (R399). -/
def State.modbusWrite (s : State) (fc table start : Nat) (vals : List Nat) (ok : Bool) (echo : List Byte) : State × MbReply :=
  if s.mbRefused then (s, mbExc fc 4)
  else if !ok then (s, mbExc fc 3)
  else match s.mbWrites table vals.length start vals with
    | some l => (s.modNet fun n => { n with mbWait := n.mbWait ++ l }, { fc := fc, data := echo })
    | none => (s, mbExc fc 2)

/-- READ_COILS: function 1 (R397, R398). -/
def execReadCoils (c : Fin 8) (start qty : BitVec 16) (s : State) : Host.Outcome State Fault Refusal :=
  .next (s.mbAnswer c (s, s.mbBitsReply 1 0 start.toNat qty.toNat))

/-- READ_DISCRETE_INPUTS: function 2. -/
def execReadDiscreteInputs (c : Fin 8) (start qty : BitVec 16) (s : State) : Host.Outcome State Fault Refusal :=
  .next (s.mbAnswer c (s, s.mbBitsReply 2 1 start.toNat qty.toNat))

/-- READ_HOLDING_REGISTERS: function 3. -/
def execReadHoldingRegisters (c : Fin 8) (start qty : BitVec 16) (s : State) : Host.Outcome State Fault Refusal :=
  .next (s.mbAnswer c (s, s.mbRegsReply 3 2 start.toNat qty.toNat))

/-- READ_INPUT_REGISTERS: function 4. -/
def execReadInputRegisters (c : Fin 8) (start qty : BitVec 16) (s : State) : Host.Outcome State Fault Refusal :=
  .next (s.mbAnswer c (s, s.mbRegsReply 4 3 start.toNat qty.toNat))

/-- WRITE_SINGLE_COIL: function 5; the value is 0xFF00 for on and 0x0000 for off. -/
def execWriteSingleCoil (c : Fin 8) (start value : BitVec 16) (s : State) : Host.Outcome State Fault Refusal :=
  let r := s.modbusWrite 5 0 start.toNat [if value = 0xFF00 then 1 else 0] (value = 0xFF00 ∨ value = 0)
    (be16 start.toNat ++ be16 value.toNat)
  .next (s.mbAnswer c r)

/-- WRITE_SINGLE_REGISTER: function 6. -/
def execWriteSingleRegister (c : Fin 8) (start value : BitVec 16) (s : State) : Host.Outcome State Fault Refusal :=
  let r := s.modbusWrite 6 2 start.toNat [value.toNat] true (be16 start.toNat ++ be16 value.toNat)
  .next (s.mbAnswer c r)

/-- WRITE_MULTIPLE_COILS: function 15, at most 1,968 coils. -/
def execWriteMultipleCoils (c : Fin 8) (start : BitVec 16) (values : List Bool) (s : State) :
    Host.Outcome State Fault Refusal :=
  let n := values.length
  let r := s.modbusWrite 15 0 start.toNat (values.map fun b => if b then 1 else 0) (1 ≤ n ∧ n ≤ 1968)
    (be16 start.toNat ++ be16 n)
  .next (s.mbAnswer c r)

/-- WRITE_MULTIPLE_REGISTERS: function 16, at most 123 registers. -/
def execWriteMultipleRegisters (c : Fin 8) (start : BitVec 16) (values : List (BitVec 16)) (s : State) :
    Host.Outcome State Fault Refusal :=
  let n := values.length
  let r := s.modbusWrite 16 2 start.toNat (values.map BitVec.toNat) (1 ≤ n ∧ n ≤ 123) (be16 start.toNat ++ be16 n)
  .next (s.mbAnswer c r)

/-- READ_WRITE_MULTIPLE_REGISTERS: function 23, at most 121 registers written and 125 read. -/
def execReadWriteMultipleRegisters (c : Fin 8) (rstart rqty wstart : BitVec 16) (values : List (BitVec 16)) (s : State) :
    Host.Outcome State Fault Refusal :=
  let n := values.length
  let rd := s.mbRegsReply 23 2 rstart.toNat rqty.toNat
  let r := s.modbusWrite 23 2 wstart.toNat (values.map BitVec.toNat)
    ((1 ≤ n ∧ n ≤ 121) && (1 ≤ rqty.toNat ∧ rqty.toNat ≤ 125)) rd.data
  .next (s.mbAnswer c (if r.2.fc = 23 ∧ rd.fc ≠ 23 then (s, rd) else r))

/-! ### Identity (R400) -/

/-- One hexadecimal digit. -/
def hexDigit (n : Nat) : Byte := BitVec.ofNat 8 (if n < 10 then 48 + n else 55 + n)

/-- Hexadecimal digits of a byte string. -/
def hexOf (b : List Byte) : List Byte := b.flatMap fun x => [hexDigit (x.toNat / 16), hexDigit (x.toNat % 16)]

/-- A byte string without its trailing zeros. -/
def trimZeros (b : List Byte) : List Byte := (b.reverse.dropWhile (· == 0)).reverse

/-- The identity objects in ascending order. -/
def State.mbObjects (s : State) : List (Nat × List Byte) :=
  let v := leAt s.firmwareImage 12 4
  [ (0x00, ascii "Goleano"), (0x01, ascii "XJ9640"),
    (0x02, ascii (toString (fld v 31 24) ++ "." ++ toString (fld v 23 16) ++ "." ++ toString (fld v 15 0))),
    (0x04, ascii "Xejor XJ9640"), (0x05, ascii (if s.run.hdr.estate then "ESTATE" else "COMPACT")),
    (0x06, trimZeros s.run.hdr.name), (0x80, hexOf Config.deviceUid), (0x81, ascii (toString s.run.hdr.seq)),
    (0x82, hexOf (s.run.hdr.digest.take 8)) ]

/-- The reply of function 43 with MEI 14: codes 1 to 3 stream the basic, regular and extended objects, code 4 one object. -/
def State.mbIdentity (s : State) (code obj : Nat) : MbReply :=
  let pack := fun l : List (Nat × List Byte) =>
    let rec_ := l.flatMap fun o => toLe 1 o.1 ++ toLe 1 o.2.length ++ o.2
    ({ fc := 43, data := toLe 1 14 ++ toLe 1 code ++ toLe 1 0x83 ++ toLe 1 0 ++ toLe 1 0 ++ toLe 1 l.length ++ rec_ } : MbReply)
  let all := s.mbObjects
  if code = 4 then
    match all.find? fun o => o.1 == obj with
    | some o => pack [o]
    | none => mbExc 43 2
  else if 1 ≤ code ∧ code ≤ 3 then
    let top := if code = 1 then 2 else if code = 2 then 0x7F else 0xFF
    let sel := all.filter fun o => o.1 ≤ top
    let known := sel.any fun o => o.1 == obj
    pack (if known then sel.filter fun o => obj ≤ o.1 else sel)
  else mbExc 43 3

/-- READ_DEVICE_IDENTIFICATION (R400). -/
def execReadDeviceIdentification (c : Fin 8) (code obj : Byte) (s : State) : Host.Outcome State Fault Refusal :=
  .next (s.mbAnswer c (s, s.mbIdentity code.toNat obj.toNat))

/-- Function codes that the server implements; 43 with MEI type 14 (R397). -/
def mbImplemented (fc : Nat) : Bool := [1, 2, 3, 4, 5, 6, 15, 16, 23].contains fc

/-- MODBUS_UNKNOWN_FUNCTION: any other function, or 43 with another MEI type, is answered with exception 01 (R397). -/
def execModbusUnknownFunction (c : Fin 8) (fc : Byte) (s : State) : Host.Outcome State Fault Refusal :=
  .next (if mbImplemented fc.toNat then s else s.mbAnswer c (s, mbExc (fc.toNat % 128) 1))

/-! ### Connections (R397) -/

/-- The leading bits of two addresses agree. -/
def sameBits (n : Nat) (a b : List Byte) : Bool :=
  (List.range n).all fun i =>
    bitAt ((a.getD (i / 8) 0).toNat) (7 - i % 8) == bitAt ((b.getD (i / 8) 0).toNat) (7 - i % 8)

/-- A client address falls within the allow list; an empty list admits no client. -/
def CommsCfg.admits (c : CommsCfg) (addr : List Byte) : Bool := c.allow.any fun x => sameBits x.2 x.1 addr

/-- The server runs: the pair of the network services role runs, an accord is in use and an interface has the SCADA role. -/
def State.scada (s : State) : Bool := s.acts (.role 6) && s.acc.active.isSome && s.run.comms.hasRole 1

/-- MODBUS_CONNECT: a connection attempt takes a free connection, or is refused with a reset when its address is not
admitted or eight connections are open (R397). -/
def execModbusConnect (addr : List Byte) (s : State) : Host.Outcome State Fault Refusal :=
  .next (if s.scada then
    let s := s.mbSweep
    match s.run.comms.admits addr, (List.finRange 8).find? fun c => s.net.mb[c].isNone with
    | true, some c => s.modNet fun n => { n with
        mb := n.mb.set c (some { addr := addr, used := s.now, reply := none }), mbLast := some (some c.val) }
    | _, _ => s.modNet fun n => { n with mbLast := some none }
  else s)

/-- MODBUS_IDLE_CLOSE: a connection idle for MB_IDLE seconds is closed (R397). -/
def execModbusIdleClose (c : Fin 8) (s : State) : Host.Outcome State Fault Refusal :=
  .next (match s.net.mb[c] with
    | some x => (s.to (x.used + s.run.comms.mbIdle * secondV)).modNet fun n => { n with mb := n.mb.set c none }
    | none => s)

end Sys2Proof.Machine
end

