-- ==== Sys2Proof/Machine/ServiceChannel.lean ====
section
/-! DEFINITION. The service channel (R401 to R404) and the signed export of the sillage (R531, R532). -/

namespace Sys2Proof.Machine

/-! ### Frames (R401) -/

/-- The 16-byte header of a frame. -/
def svcHeader (type flags seq len : Nat) : List Byte :=
  ascii "XJSV" ++ toLe 2 type ++ toLe 2 flags ++ toLe 4 seq ++ toLe 4 len

/-- The tag of a frame. -/
def svcTag (key header payload : List Byte) : List Byte :=
  Config.kmac256 key (header ++ payload) 16 (ascii "XJ9640 service")

/-- The channel is served as the Modbus server is (R401, R403). -/
def State.svcUp (s : State) : Bool := s.scada

/-- An event of a session: the frames sent in answer to an earlier one are gone, and so is a session idle for 300 s (R402). -/
def State.svcClear (x : Fin 2) (s : State) : State :=
  s.settleAcc.modNet fun n => { n with
    svcOut := n.svcOut.set x []
    svc := n.svc.set x (n.svc[x].bind fun q => if q.used + 300 * secondV ≤ s.now then none else some q) }

/-- A session changed. -/
def State.modSvc (x : Fin 2) (f : SvcSess → Option SvcSess) (s : State) : State :=
  s.modNet fun n => { n with svc := n.svc.set x (n.svc[x].bind f) }

/-- The module sends a frame: tagged with the session key and numbered from PROVE on, with a zero tag and SEQ 0 before. -/
def State.svcSend (x : Fin 2) (type : Nat) (payload : List Byte) (s : State) : State :=
  match s.net.svc[x] with
  | some q =>
    if q.ready then
      let tag := svcTag q.key (svcHeader type 0 q.seqOut payload.length) payload
      (s.modNet fun n => { n with
        svcOut := upd n.svcOut x (· ++ [{ type := type, seq := q.seqOut, payload := payload, tag := tag }]) }).modSvc x
          fun q => some { q with seqOut := wrapInc 32 q.seqOut }
    else s.modNet fun n => { n with
      svcOut := upd n.svcOut x (· ++ [{ type := type, seq := 0, payload := payload, tag := zeros 16 }]) }
  | none => s.modNet fun n => { n with
      svcOut := upd n.svcOut x (· ++ [{ type := type, seq := 0, payload := payload, tag := zeros 16 }]) }

/-- ERROR: the code and the SEQ of the offending frame (R403). -/
def State.svcError (x : Fin 2) (code seq : Nat) (s : State) : State := s.svcSend x 0xF0 (toLe 2 code ++ toLe 4 seq)

/-- An export whose session closes. -/
def SilExport.closed (x : Fin 2) (e : SilExport) : SilExport := if e.link = some x then { e with link := none } else e

/-- A session closes. -/
def State.svcClose (x : Fin 2) (s : State) : State :=
  (s.modSvc x fun _ => none).modSil fun l => { l with exporting := l.exporting.map (SilExport.closed x) }

/-- An answer goes out in frames of at most 65,536 payload bytes. -/
def State.svcSendAll (x : Fin 2) (type : Nat) : Nat → List Byte → State → State
  | 0, _, s => s
  | n + 1, b, s =>
    if b.length ≤ 65536 then s.svcSend x type b
    else State.svcSendAll x type n (b.drop 65536) (s.svcSend x type (b.take 65536))

/-- An export that has taken its time ends: its session gets the answer and source 298 asserts. A signature that 256 attempts did not
give is answered with ERROR code 5 (R468, R531, R544; DESIGN CHOICE, log entry 38). -/
def State.settleExport (s : State) : State :=
  match s.sil.exporting with
  | some e =>
    if e.endAt ≤ s.now then
      let s1 := s.modSil fun l => { l with exporting := none }
      match e.body, e.link with
      | some b, some x => (State.svcSendAll x 0x13 4 b s1).silRaise 2
      | some _, none => s1.silRaise 2
      | none, some x => (s1.keyRaise 5).svcError x 5 e.seq
      | none, none => s1.keyRaise 5
    else s
  | none => s

/-- The header of a frame is well formed. -/
def svcForm (f : SvcIn) : Bool :=
  f.magic && f.flags == 0 && f.len == f.payload.length && decide (f.len ≤ 65536)

/-- A frame of an open session: a malformed header, a wrong tag or a wrong SEQ makes the module send ERROR and close the
session (R401); otherwise the command acts. -/
def State.svcFrame (x : Fin 2) (type : Nat) (f : SvcIn) (act : State → State) (s0 : State) : State :=
  if s0.svcUp = false then s0
  else
    let s := (s0.svcClear x).settleExport
    match s.net.svc[x] with
    | none => s.svcError x 5 f.seq
    | some q =>
      if svcForm f = false then (s.svcError x 1 f.seq).svcClose x
      else if f.tag ≠ svcTag q.key (svcHeader type f.flags f.seq f.len) f.payload then (s.svcError x 2 f.seq).svcClose x
      else if f.seq ≠ q.seqIn then (s.svcError x 3 f.seq).svcClose x
      else
        let s1 := s.modSvc x fun q => some { q with seqIn := wrapInc 32 q.seqIn, used := s.now }
        if q.ready then act s1 else s1.svcError x 5 f.seq

/-- The module holds field access at SERVICE or above (R403). -/
def State.atService (s : State) : Bool := decide (2 ≤ s.key.level)

/-! ### Sessions (R402) -/

/-- K_svc: the key in slot SVC_KEY, a SECRET256 with policy SERVICE_ROOT (R402, R461). -/
def State.svcRoot (s : State) : Option (List Byte) :=
  let k := s.run.comms.svcKey
  let x := s.key.slot k
  if s.key.usable k && x.type == .secret && x.may 7 then some x.mat else none

/-- The session key (R402). -/
def sessionKey (root : List Byte) (client : Nat) (nc nm : List Byte) : List Byte :=
  kdf (kdf root (ascii "XSV client") (toLe 2 client)) (ascii "XSV session") (nc ++ nm ++ Config.deviceUid)

/-- HELLO: a session begins and the module answers with CHALLENGE. A HELLO on a session that exists, or whose tag is not zero,
is refused. -/
def execHello (x : Fin 2) (f : SvcIn) (s0 : State) : Host.Outcome State Fault Refusal :=
  .next (if s0.svcUp = false then s0
  else
    let s := s0.svcClear x
    match s.net.svc[x], s.svcRoot with
    | some _, _ => s.svcError x 5 f.seq
    | none, root =>
      if svcForm f = false ∨ f.len ≠ 36 ∨ slice f.payload 2 2 ≠ zeros 2 then s.svcError x 1 f.seq
      else if f.tag ≠ zeros 16 then s.svcError x 2 f.seq
      else match root with
        | none => s.svcError x 4 f.seq
        | some k =>
          let nm := (padTo 32 (Config.freeBytes s.free 32)).take 32
          let nc := slice f.payload 4 32
          let client := leAt f.payload 0 2
          let q : SvcSess := { ready := false, client := client, nc := nc, nm := nm, key := sessionKey k client nc nm,
                               seqIn := 0, seqOut := 0, used := s.now }
          ({ s with free := s.free + 1 }.modNet fun n => { n with svc := n.svc.set x (some q) }).svcSend x 2
            (nm ++ (padTo 16 Config.deviceUid).take 16))

/-- PROVE: the tag proves the client key, and READY with the level open proves the module's. -/
def execProve (x : Fin 2) (f : SvcIn) (s0 : State) : Host.Outcome State Fault Refusal :=
  .next (if s0.svcUp = false then s0
  else
    let s := s0.svcClear x
    match s.net.svc[x] with
    | none => s.svcError x 5 f.seq
    | some q =>
      if svcForm f = false ∨ (q.ready = false ∧ f.len ≠ 0) then (s.svcError x 1 f.seq).svcClose x
      else if f.tag ≠ svcTag q.key (svcHeader 3 f.flags f.seq f.len) f.payload then (s.svcError x 2 f.seq).svcClose x
      else if f.seq ≠ q.seqIn then (s.svcError x 3 f.seq).svcClose x
      else
        let s1 := s.modSvc x fun q => some { q with seqIn := wrapInc 32 q.seqIn, used := s.now, ready := true }
        if q.ready then s1.svcError x 5 f.seq else s1.svcSend x 4 (toLe 1 s.key.level ++ zeros 3))

/-- SERVICE_CLOSE: CLOSE, which is empty, ends the session. -/
def execServiceClose (x : Fin 2) (f : SvcIn) (s : State) : Host.Outcome State Fault Refusal :=
  .next (s.svcFrame x 0xFF f (fun s => if f.len ≠ 0 then s.svcError x 1 f.seq else s.svcClose x))

/-- SERVICE_SESSION_TIMEOUT: a session idle for 300 s is closed. -/
def execServiceSessionTimeout (x : Fin 2) (s : State) : Host.Outcome State Fault Refusal :=
  .next (match s.net.svc[x] with
    | some q => (s.to (q.used + 300 * secondV)).svcClose x
    | none => s)

/-! ### Reading commands (R403, R405, R531) -/

/-- SERVICE_STATUS: SYS_STATE, the accord sequence and the dispatch status record. -/
def execServiceStatus (x : Fin 2) (f : SvcIn) (s : State) : Host.Outcome State Fault Refusal :=
  .next (s.svcFrame x 0x10 f (fun s =>
    let rec_ := match s.disp with | some c => Mem.readN s.mem c.statusAddr 64 | none => zeros 64
    if f.len ≠ 0 then s.svcError x 1 f.seq
    else s.svcSend x 0x10 (toLe 4 (s.sysRead (.role 6) 0x10) ++ toLe 4 s.run.hdr.seq ++ rec_)))

/-- SCADA_READ: under ESTATE the points, alarms or events of firmware's list, whose content the manual leaves to it. -/
def execScadaRead (x : Fin 2) (f : SvcIn) (s : State) : Host.Outcome State Fault Refusal :=
  .next (s.svcFrame x 0x11 f (fun s =>
    if s.run.hdr.estate = false then s.svcError x 7 f.seq
    else if f.len ≠ 9 ∨ 2 < leAt f.payload 0 1 then s.svcError x 1 f.seq
    else ({ s with free := s.free + 1 }).svcSend x 0x11
      ((Config.scadaData (leAt f.payload 0 1) (leAt f.payload 1 4) (leAt f.payload 5 4) s.free).take 65536)))

/-- Whole records, as many as a payload holds. -/
def wholeRecords : Nat → List (List Byte) → List Byte
  | _, [] => []
  | room, r :: rs => if r.length ≤ room then r ++ wholeRecords (room - r.length) rs else []

/-- The historian's records between two RTC seconds, oldest first, whose cadence the mask names: bit 0 heart, bit 1 base. A GAP
record belongs to every cadence. -/
def Hist.between (h : Hist) (first last mask : Nat) : List (List Byte) :=
  ((h.ring.reverse.map (·.2)) ++ h.buf).filter fun r =>
    decide (first ≤ leAt r 0 4) && decide (leAt r 0 4 ≤ last)
      && (bitAt mask (leAt r 12 1) || (leAt r 12 1 == 0xFF && decide (mask % 4 ≠ 0)))

/-- HIST_READ: under ESTATE the records between two RTC seconds. -/
def execHistRead (x : Fin 2) (f : SvcIn) (s : State) : Host.Outcome State Fault Refusal :=
  .next (s.svcFrame x 0x12 f (fun s =>
    if s.run.hdr.estate = false then s.svcError x 7 f.seq
    else if f.len ≠ 9 then s.svcError x 1 f.seq
    else s.svcSend x 0x12
      (wholeRecords 65536 (s.net.hist.between (leAt f.payload 0 4) (leAt f.payload 4 4) (leAt f.payload 8 1)))))

/-- Header and entries of an export (R531, R532); none where the slot holds no valid capture. -/
def State.exportBody (s : State) (slot : Nat) : Option (List Byte) :=
  let head := fun kind (seq first count : Nat) =>
    ascii "XJSE" ++ toLe 2 1 ++ toLe 1 kind ++ toLe 1 slot ++ (padTo 16 Config.deviceUid).take 16 ++ toLe 8 seq
      ++ toLe 4 first ++ toLe 4 count ++ (padTo 64 s.run.hdr.digest).take 64 ++ zeros 24
  if slot = 0xFF then
    let h := s.sil.head
    let first := h - 4096
    let ring := s.sil.ringWait.foldl (fun r e => Tbl.set e.1 e.2 r) s.sil.ring
    some (head 1 h first (h - first)
      ++ (List.range (h - first)).flatMap fun i => (padTo 32 (Tbl.getD ring ((first + i) % 4096) [])).take 32)
  else match s.sil.caps.toList[slot]? with
    | some c => if c.valid then some (head 0 c.seq c.first c.count ++ c.entries.flatten) else none
    | none => none

/-- The key that signs exports: the MLDSA65_SK slot with the KEY_ID of the first EXPORT slot, or slot 3 (R482). -/
def State.exportKey (s : State) : List Byte :=
  match s.run.trust.exports with
  | [] => (s.key.slot 3).mat
  | e :: _ =>
    let id := (s.key.slot e).id
    match s.key.slots.find? fun x => x.2.id == id && x.2.type == .sk && x.2.live with
    | some x => x.2.mat
    | none => (s.key.slot 3).mat

/-- A SIGN TLV over a signature (R65). -/
def signTlv (sg : List Byte) : List Byte :=
  toLe 2 15 ++ zeros 2 ++ toLe 4 3317 ++ toLe 2 1 ++ zeros 2 ++ toLe 4 3309 ++ sg ++ zeros 3

/-- SILLAGE_EXPORT: a capture slot or the whole ring, signed with context "XJ9640 sillage". It runs for the cycles of its digest and
its signature; another while it runs is answered with ERROR code 6 (R467, R468, R531, R532; DESIGN CHOICE, log entry 38). -/
def execSillageExport (x : Fin 2) (f : SvcIn) (s : State) : Host.Outcome State Fault Refusal :=
  .next (s.svcFrame x 0x13 f (fun s =>
    if f.len ≠ 1 then s.svcError x 1 f.seq
    else
      let slot := leAt f.payload 0 1
      if 7 < slot ∧ slot ≠ 0xFF then s.svcError x 1 f.seq
      else if s.sil.exporting.isSome then s.svcError x 6 f.seq
      else match s.exportBody slot with
        | none => s.svcError x 5 f.seq
        | some b =>
          let sg := s.mldsa s.exportKey (digest64 b) (ascii "XJ9640 sillage")
          ({ s with free := s.free + 1 }).modSil fun l => { l with exporting := some {
            endAt := s.now + (digestCycles b.length + min sg.2 256 * 38000) * secV, link := some x, seq := f.seq,
            body := if 256 < sg.2 then none else some (b ++ signTlv sg.1) } }))

/-! ### Writing commands (R403, R404) -/

/-- The staging region of a target of PUT: address and length. -/
def State.staging (s : State) (target : Nat) : Option (Nat × Nat) := s.run.mem.staging[target]?

/-- PUT and COMMIT on a target: the target exists, the level is open and MEMORY declares its staging region (R403). -/
def State.withTarget (x : Fin 2) (f : SvcIn) (act : Nat → Nat × Nat → State → State) (s : State) : State :=
  let target := leAt f.payload 0 1
  if f.len < 8 ∨ 3 < target ∨ (f.payload.drop 1).take 3 ≠ zeros 3 then s.svcError x 1 f.seq
  else if target ≠ 3 ∧ s.atService = false then s.svcError x 4 f.seq
  else match s.staging target with
    | none => s.svcError x 5 f.seq
    | some r => act target r s

/-- PUT: data goes into the staging region of its target. -/
def execPutData (x : Fin 2) (f : SvcIn) (s : State) : Host.Outcome State Fault Refusal :=
  .next (s.svcFrame x 0x20 f (fun s => s.withTarget x f (fun _ r s =>
    let ofs := leAt f.payload 4 4
    let d := f.payload.drop 8
    if r.2 < ofs + d.length then s.svcError x 1 f.seq
    else (s.busWrite (Initiator.code (.bestEffort 2)) (r.1 + ofs) d).svcSend x 0x20 [])))

/-- The supervisor role starts an accord command for the channel: SYS_ACD_SRC, SYS_ACD_SRC_LEN and SYS_ACD_CTRL (R89, R403). -/
def State.svcAccord (v : Nat) (src : Option (Nat × Nat)) (bad : Option BadRead) (s : State) : State :=
  let s1 := match src with
    | some r => ((s.acdWrite (.role 0) 0x204 (r.1 % 2 ^ 32)).acdWrite (.role 0) 0x208 (r.1 / 2 ^ 32)).acdWrite (.role 0) 0x20C r.2
    | none => s
  let s2 := s1.acdCtrl (.role 0) v bad
  match s2.acc.work with
  | some w => (s2.to w.endAt).settleAcd
  | none => s2

/-- The network services role stages a package from an address (R292, R403). -/
def State.svcStage (a part : Nat) (s : State) : State :=
  ((s.progWrite (.role 6) 0x40 (a % 2 ^ 32)).progWrite (.role 6) 0x44 (a / 2 ^ 32)).progWrite (.role 6) 0 (0x300 + part)

/-- A package is being staged. -/
def State.stagingNow (s : State) : Bool := s.prog.p.toList.any fun p => p.olc == 1

/-- COMMIT: LOAD, AMEND or STAGE on the staged bytes, whose result the reply carries, or a plan submission. -/
def execCommit (x : Fin 2) (f : SvcIn) (bad : Option BadRead) (s : State) : Host.Outcome State Fault Refusal :=
  .next (s.svcFrame x 0x21 f (fun s => s.withTarget x f (fun target r s =>
    let len := leAt f.payload 4 4
    let reply := fun (e : Nat) (s : State) => s.svcSend x 0x21 (toLe 1 e)
    if f.len ≠ 8 ∨ r.2 < len then s.svcError x 1 f.seq
    else if target = 0 then
      if s.acc.busy = some .load then s.svcError x 6 f.seq
      else let s1 := s.svcAccord 1 (some (r.1, len)) bad; reply s1.acc.err s1
    else if target = 1 then
      if s.acc.busy = some .amend then s.svcError x 6 f.seq
      else let s1 := s.svcAccord 3 (some (r.1, len)) bad; reply s1.acc.err s1
    else if target = 2 then
      if s.granted (.role 6) 0x70 = false then s.svcError x 4 f.seq
      else if s.stagingNow then s.svcError x 6 f.seq
      else let s1 := s.svcStage r.1 ((Mem.le s.mem (r.1 + 6) 1 + 3) % 4); reply s1.prog.olcErr s1
    else reply 0 (s.modNet fun n => { n with plan := some (Mem.readN s.mem r.1 len) }))))

/-- FORCE: the PROG_FORCE registers written by the network services role (R287, R306, R403). -/
def execForce (x : Fin 2) (f : SvcIn) (s : State) : Host.Outcome State Fault Refusal :=
  .next (s.svcFrame x 0x22 f (fun s =>
    if f.len ≠ 16 then s.svcError x 1 f.seq
    else if s.atService = false ∨ s.granted (.role 6) 0x70 = false then s.svcError x 4 f.seq
    else
      let w := fun o v (s : State) => s.progWrite (.role 6) o v
      let s1 := w 0x6C (leAt f.payload 12 4) (w 0x68 (leAt f.payload 8 4) (w 0x64 (leAt f.payload 4 4)
        (w 0x60 (leAt f.payload 0 4) s)))
      s1.svcSend x 0x22 (toLe 1 s1.prog.forceErr)))

/-- ACCORD_CMD: the supervisor role writes CMD and SLOT to SYS_ACD_CTRL. -/
def execAccordCmd (x : Fin 2) (f : SvcIn) (bad : Option BadRead) (s : State) : Host.Outcome State Fault Refusal :=
  .next (s.svcFrame x 0x23 f (fun s =>
    if f.len ≠ 2 then s.svcError x 1 f.seq
    else if s.atService = false then s.svcError x 4 f.seq
    else
      let s1 := s.svcAccord (leAt f.payload 0 1 % 16 + leAt f.payload 1 1 % 2 * 256) none bad
      s1.svcSend x 0x23 (toLe 1 s1.acc.err)))

end Sys2Proof.Machine
end

