-- ==== Sys2Proof/Machine/Historian.lean ====
section
/-! DEFINITION. The historian of an ESTATE module: its records, its buffer and its flash ring (R405, R406). -/

namespace Sys2Proof.Machine

/-- Bytes of the flash ring. -/
def histRing : Nat := 12884901888

/-- Bytes of an erase block. -/
def histBlock : Nat := 1048576

/-- The historian records: under ESTATE with a list. -/
def State.histOn (s : State) : Bool := s.run.hdr.estate && s.run.comms.hist.length != 0

/-- The header of a record. -/
def State.histHeader (s : State) (cadence count : Nat) : List Byte :=
  toLe 4 (secReg s.rtc.t) ++ toLe 4 s.fs.tnc ++ toLe 4 s.fs.bnc ++ toLe 1 cadence ++ zeros 1 ++ toLe 2 count

/-- One record of a cadence: header, values in list order and qualities (R405). -/
def State.histRecord (s : State) (base : Bool) : List Byte :=
  let l := s.run.comms.hist.filter fun e => e.base == base
  let v := l.map fun e => (e.type, s.mapSource e.kind e.part e.type e.ref)
  s.histHeader (if base then 1 else 0) l.length
    ++ v.flatMap (fun x => if x.1 = 8 then toLe 8 x.2.1 else toLe 4 (mbStored x.1 x.2.1))
    ++ packCodes (v.map fun x => x.2.2.code)

/-- A record written to the ring: it never spans an erase block, and reaching a block erases it. -/
def Hist.write (h : Hist) (r : List Byte) : Hist :=
  let p := if h.pos % histBlock + r.length ≤ histBlock then h.pos
    else (h.pos / histBlock + 1) * histBlock % histRing
  let kept := if p % histBlock = 0 then h.ring.filter fun x => x.1 / histBlock != p / histBlock else h.ring
  { h with ring := (p, r) :: kept, pos := (p + r.length) % histRing }

/-- The buffer written to flash. -/
def Hist.flush (h : Hist) : Hist := { h.buf.foldl Hist.write h with buf := [] }

/-- A record enters the buffer, which is written whenever 64 KiB has gathered. -/
def Hist.put (h : Hist) (r : List Byte) : Hist :=
  let h1 := { h with buf := h.buf ++ [r] }
  if 65536 ≤ (h1.buf.map List.length).sum then h1.flush else h1

/-- The historian changed. -/
def State.modHist (f : Hist → Hist) (s : State) : State := s.modNet fun n => { n with hist := f n.hist }

/-- A heart tick's record, when an entry has heart cadence. -/
def State.histHeart (s : State) : State :=
  if s.histOn && s.run.comms.hist.any (fun e => !e.base) then s.modHist fun h => h.put (s.histRecord false) else s

/-- A base tick: at the first one after START a GAP record, then the tick's record, and the buffer is written. -/
def State.histBase (s : State) : State :=
  if s.histOn then
    s.modHist fun h =>
      let h1 := if h.gapDone then h else { h.put (s.histHeader 0xFF 0) with gapDone := true }
      let h2 := if s.run.comms.hist.any (·.base) then h1.put (s.histRecord true) else h1
      h2.flush
  else s

end Sys2Proof.Machine
end

