-- ==== Sys2Proof/Machine/Ticks.lean ====
section
/-! DEFINITION. The ticks and the output instant: TOP_TICK, HEART_TICK, BASE_TICK, OUTPUT_INSTANT, and PULSE_END, which falls on
an output instant (R34 to R37, R503 to R505). -/

namespace Sys2Proof.Machine

/-! ### The top tick (R34, R35, R36) -/

/-- A top tick can be taken: notes run, and everything of the present note that the next tick may not overtake has been taken. -/
def State.tickReady (s : State) : Bool :=
  s.notesRun && !s.fs.heartDue && !s.fs.baseDue && !s.migDue && !s.migEnds s.nextTick
    && (!s.fs.started || s.prog.outDue.all fun d => decide (s.nextTick ≤ d.at_))

/-- The output instants after a top tick at a cycle: one that falls on the tick keeps the outputs and the counters of its own
note (R37), and the new note's comes 25,000 PERI cycles later, or on the next tick (R36, R37). -/
def Programs.nextOut (t : Nat) (old new : FrameSeq) (g : Programs) : Programs :=
  let kept := (if old.started then g.outDue else []).map fun d =>
    { d with tnc := old.tnc, hpos := old.hpos, bpos := old.bpos, bnc := old.bnc, late := some (g.outs, g.queue) }
  { g with outDue := kept ++
      [{ at_ := t + periV * min 25000 new.noteLen, tnc := new.tnc, hpos := new.hpos, bpos := new.bpos, bnc := new.bnc,
         late := none }] }

/-- The counters at a top tick: the new note's length, TNC and HPOS, and the copy of TB (R34, R42, R46); at the first tick of
START the discipline starts (R57). -/
def State.tickCounters (s : State) : State :=
  let t := s.nextTick
  let old := s.fs
  let f := { old.newLength.advance with tickAt := t, tickTb := t / 400 }
  let new := if old.started then f else f.startDiscipline
  let s1 := (s.to t).settleAcc.settleLoops.settleXsx.modFs fun _ => new
  (s1.modProg (Programs.nextOut t old new)).fsEvents old

/-- TEST is entered: the test image holds every SAFE value. The requests of the images leave the stagger queue, for they drive no output
now, and each staggered station item goes on from the value that it had (R275, R304; DEDUCED, log entry 62). -/
def State.enterTest (s : State) : State :=
  s.fillTestImage.modProg fun g => { g with
    queue := [], test := s.run.stns.flatMap fun c => c.outs.mapIdx fun k it => (stnKey c k, (s.outItem c k it).1) }

/-- TEST is left: a staggered output that its image holds on and that TEST did not drive on changes from off to on (R274, R304; DEDUCED,
log entry 62). -/
def State.leaveTest (s : State) : State :=
  let drove := fun k => if h : k < 48 then s.dio.ch[k].cmd
    else s.run.isOn k (Tbl.getD s.prog.test k 0) && !s.prog.waiting k
  s.modProg fun g => (s.run.prog.stagger.filter fun k => !drove k).foldl (fun (g : Programs) k =>
    g.stagger s.run s.fs.tnc k 0 (Tbl.getD g.outs k (0, .good)).1) { g with queue := [], test := [] }

/-- The staggered station items whose test values are due at an output instant of TEST pass through the stagger queue (R275,
R304). -/
def State.testStagger (s : State) : State :=
  if s.sys.state = .test then
    let due := (s.run.ordered.filter fun c => s.fs.tnc % c.outDiv == 0).flatMap fun c =>
      (c.outs.zipIdx.filter fun o => o.1.stag).map fun o => (stnKey c o.2, s.testValue c o.2 o.1)
    s.modProg fun g => due.foldl (fun (g : Programs) x =>
      { g.stagger s.run s.fs.tnc x.1 (Tbl.getD g.test x.1 0) x.2 with test := Tbl.set x.1 x.2 g.test }) g
  else s

/-- An operating mode takes effect. -/
def State.setMode (m : OpMode) (s : State) : State :=
  let s1 := if s.sys.mode = .commissioning then s.leaveCommissioning else if s.sys.mode = .test ∧ m ≠ .test then s.leaveTest else s
  let s2 := if m = .test ∧ s.sys.mode ≠ .test then s1.enterTest else s1
  s2.modSys fun y => { y with mode := m, reqMode := none }

/-- State and operating mode at a top tick: START ends at TNC = 1; access fallen below SERVICE ends COMMISSIONING and TEST, and
otherwise an accepted request takes effect (R502 to R505). -/
def State.modeTick (s : State) : State :=
  let s0 := s.modKey fun q => { q with fell := false }
  if s.sys.state = .start then (if s.fs.tnc = 1 then s0.enterState s0.serviceState else s0)
  else if !s.running then s0
  else if s.key.fell && s.sys.mode != .service then
    let s1 := if s.sys.mode = .test then s0.leaveTest else s0.leaveCommissioning
    (s1.modSys fun y => { y with mode := .service, reqMode := none }).reportMode
  else match s.sys.reqMode with
    | some m => (s0.setMode m).reportMode
    | none => s0.reportMode

/-- Output images whose tick this is take effect, partitions resume or are taken over, and armed protection targets are committed
(R234, R271, R280, R543). -/
def State.tickImages (s : State) : State :=
  let s1 := (List.finRange 4).foldl (fun s p => (List.finRange 8).foldl (State.imageDue p) s) s.commitProtection
  (List.finRange 4).foldl State.takePart ((List.finRange 4).foldl State.resumeDue s1)

/-- The input latch of instant 1: DIO and CAN, Modbus writes, the input tables and images, the metering snapshot (R36, R329,
R340, R373, R399, R423). -/
def State.tickLatch (s : State) : State :=
  let s1 := s.modLoops fun x => x.mapLoops (Loop.testHold (s.sys.state == .test))
  let s2 := ((List.finRange 8).foldl State.canLatch s1.dioLatch).latchModbus.latchInputs
  if s2.meterOn then s2.pulseSnapshot.mtrSnapshot else s2

/-- Checkpoints and the metering mirror start at the tick, and the supply and hold voltages are measured: their values are free
(R298, R336; DESIGN CHOICE, log entry 2). -/
def State.tickSaves (s : State) : State :=
  let s0 := (List.finRange 7).foldl (fun s r => s.applyWait r) s
  let s1 := (List.finRange 4).foldl State.startCkpt s0
  let s2 := if s1.meterOn then s1.writeMirror (s1.mtrRecord false) else s1
  { s2 with free := s2.free + 3 }.modPwr fun p => { p with
    vinA := if p.aOk then Config.freeNat s2.free % 65536 else p.vinA
    vinB := if p.bOk then Config.freeNat (s2.free + 1) % 65536 else p.vinB
    hold := Config.freeNat (s2.free + 2) % 65536 }

/-- The metering engine at the first top tick of START, before its input latch: the edges of START are counted from here, and every channel
settles (R320, R340). -/
def Meter.start (m : Meter) : Meter :=
  { m with startEdges := m.edges, dec := m.dec.map fun x => (x.1, { x.2 with settle := 3 }) }

/-- What the first top tick of START adds: entry 0x143, the events of the clock, the key store and a drydown record found open,
the run identifier, and the loops marked to start (R267, R340, R390, R453, R475, R477, R518, R527). -/
def State.firstTick (s : State) : State :=
  let s1 := s.log silSYS 0 1 0x143
    (toLe 1 s.sys.kind.code ++ toLe 1 s.rtc.grade ++ toLe 4 (secReg s.rtc.t) ++ toLe 4 s.fs.bnc)
  let s2 := if s.rtc.grade = 0 then s1 else s1.rtcRaise 5
  let s3 := if s.key.bootMark then s2.keyRaise 4 else s2
  let s4 := if s.key.fwFallback then s3.keyRaise 11 else s3
  let s5 := if s.pwr.ddMark then (s4.modPwr fun p => { p with ddMark := false }).pwrRaise 7 else s4
  let s6 := s5.modKey fun q => { q with bootMark := false }
  s6.drawRun.enableAtStart

/-- TOP_TICK. -/
def execTopTick (s : State) : Host.Outcome State Fault Refusal :=
  if s.tickReady then
    let first := !s.fs.started
    let s0 := s.tickCounters.closeAmds.lateCycles.modeTick.tickImages
    let s1 := (if first then (s0.modMtr Meter.start).declareStns else s0).tickLatch.tickSaves.takeLoops
    .next ((if first then s1.firstTick else s1).raise 0)
  else .next s

/-! ### RECOVERY at a tick (R278, R279) -/

/-- PARTITION_RECOVERY_ENTRY: the partition enters RECOVERY, releases no task, takes its recovery image at its
entry tick, before the input latch, and entry 0x14C and a capture with reason 7 follow (R278, R279, R523, R528). -/
def execPartitionRecoveryEntry (p : Fin 4) (s : State) : Host.Outcome State Fault Refusal :=
  match s.notesRun && s.recDue p, s.prog.p[p].recNext with
  | true, some (t, n, _) =>
    let s1 := (s.modPart p fun x => { x with
      recovery := true, recNext := none, resumeNext := false,
      tasks := vmap x.tasks fun y => { y with running := false, own := [], reads := [], pend := none } }).recoveryImage p
    let s2 := if s.now = s.fs.tickAt then s1.latchInputs else s1
    .next (((s2.log silPROG (p.val + 1) 3 0x14C (toLe 1 t ++ toLe 1 n)).reportMode).capture 7)
  | _, _ => .next s

/-! ### The heart tick and the base tick (R34) -/

/-- A station word that a thermal record names: port [15:13], station [12:7], word [6:0] (R339, DESIGN CHOICE, log entry 8). -/
def State.thermWord (s : State) (v : Nat) : Int × Quality := s.stnWord (fld v 15 13) (fld v 12 7) (fld v 6 0)

/-- Thermal inputs latched at a heart tick, with the length of the heart note that has ended; at the first heart tick of START
only the pulse counts are taken (R332). -/
def State.thermLatch (s : State) : State :=
  let c := s.run.meter.therm
  let flow := fun (t : ThermCfg) => if t.rate then s.thermWord t.flow else s.dioCount t.flow
  if s.fs.tnc = 0 then
    s.modMtr fun m => { m with
      heartAt := s.fs.tickAt,
      therm := c.foldl (fun l t => if t.rate then l
        else Tbl.upd l t.pt default fun x => { x with count := (flow t).1.toNat }) m.therm }
  else
    s.modMtr fun m => { m with
      heartAt := s.fs.tickAt,
      thermIn := some ((s.fs.tickAt - m.heartAt) / periV,
        c.map fun t => { pt := t.pt, flow := flow t, tf := s.thermWord t.tf, tr := s.thermWord t.tr }) }

/-- A PROGRAM variable that a METER group reads: the REAL at an offset of a partition's output image (R316, R339). -/
def State.groupTemp (s : State) (part ofs : Nat) : Int × Quality :=
  if h : 1 ≤ part ∧ part ≤ 4 then
    let p : Fin 4 := ⟨part - 1, by omega⟩
    match (s.partCfg p).bind fun c => c.bind.outs.flatten.find? fun o => o.ofs == ofs with
    | some o => (s.itemValue p o.item).getD (0, .bad)
    | none => (0, .bad)
  else (0, .bad)

/-- HEART_TICK: `temp` is the module's temperature sensor in 0.01 °C (R314). At a base tick the district services role acts in
BASE_TICK, after
what that tick changes, and the historian takes its records there (R29, R31, R405). -/
def execHeartTick (temp : BitVec 16) (s : State) : Host.Outcome State Fault Refusal :=
  if s.notesRun && s.fs.heartDue then
    let s1 := s.modFs FrameSeq.heart
    let s2 := if s1.meterOn then (s1.thermPublish.mtrTemperature temp.toNat s1.groupTemp).thermLatch else s1
    let s3 := s2.xsxHeart.twinHeart
    .next ((if s3.fs.baseDue then s3.latchInputs else s3.planHeart.latchInputs.histHeart).raise 1)
  else .next s

/-- BASE_TICK: BNC advances, an imported plan is judged on the parameters it was built for, due amendments apply, the substation table ages,
and the role's snapshot and the commit of the dispatch come before the input latch of the same tick (R29, R31, R34, R84, R230, R232, R393,
R541). -/
def execBaseTick (s : State) : Host.Outcome State Fault Refusal :=
  if s.notesRun && s.fs.baseDue && !s.fs.heartDue then
    let s1 := (s.modFs FrameSeq.base).planVerdict.applyDue.xsxUpdate.takePlan.planHeart.planBase
    .next ((s1.twinBaseOut.latchInputs.histHeart.histBase).raise 2)
  else .next s

/-! ### The output instant (R36, R37) -/

/-- Loop outputs take effect at instant 4: time-proportioned outputs whose time is up switch off, and those of the latest sample
note start (R251). -/
def Loops.instant4 (tnc : Nat) (x : Loops) : Loops :=
  let on := x.tpoOn.filter fun c => decide (tnc < c.2)
  { x with eff := x.out, tpoNew := []
           tpoOn := x.tpoNew.foldl (fun l c => if c.2 = 0 then l else l.filter (fun y => y.1 != c.1) ++ [(c.1, tnc + c.2)]) on }

/-- Everything that takes effect at instant 4 of the note whose counters the sequencer shows. -/
def State.applyOutputs (s : State) : State :=
  let s1 := (s.testStagger.modLoops (Loops.instant4 s.fs.tnc)).modProg (Programs.releaseOne s.run.str.stagger s.fs.tnc)
  let s2 := (List.finRange 8).foldl State.canOutputs s1.takeCan
  let s3 := (if s2.meterOn then s2.pulseStarts else s2).dioOutputs
  s3.xsxRound.twinBeat

/-- An output instant on the next top tick: the outputs, the stagger queue and the counters are those of its own note, and what
the new note latched stays (R37). -/
def State.lateOutputs (d : OutDue) (o : List (Nat × (Int × Quality))) (q : List (Nat × Nat)) (s : State) : State :=
  let f := s.fs
  let g := s.prog
  let s1 := (s.modFs fun f => { f with tnc := d.tnc, hpos := d.hpos, bpos := d.bpos, bnc := d.bnc }).modProg fun g =>
    { g with outs := o, queue := q }
  let s2 := s1.applyOutputs
  let gone := q.filter fun x => !s2.prog.queue.contains x
  (s2.modFs fun x => { x with tnc := f.tnc, hpos := f.hpos, bpos := f.bpos, bnc := f.bnc }).modProg fun x =>
    { x with outs := g.outs, queue := g.queue.filter fun y => !gone.contains y }

/-- OUTPUT_INSTANT: one that falls on the next top tick waits for it, for the inputs of the new note are latched first (R37). -/
def execOutputInstant (s : State) : Host.Outcome State Fault Refusal :=
  match s.notesRun, s.prog.outDue with
  | true, d :: rest =>
    let s1 := (s.to d.at_).settleLoops.modProg fun g => { g with outDue := rest }
    if (if d.late.isNone then decide (s.nextTick ≤ d.at_) else s.fs.heartDue || s.fs.baseDue) then .next s else
    .next ((match d.late with
      | some (o, q) => s1.lateOutputs d o q
      | none => s1.applyOutputs).raise 4)
  | _, _ => .next s

/-- PULSE_END: at instant 4 of the top note W_tn after it began, the pulse and its channel switch off (R329). -/
def execPulseEnd (j : Fin 16) (s : State) : Host.Outcome State Fault Refusal :=
  match s.run.meter.pulses[j.val]?, s.mtr.pulses[j.val]? with
  | some c, some x =>
    match x.onAt with
    | some t =>
      if s.notesRun && s.fs.tnc == t + c.notes s.fs.period then
        let s1 := (s.to (s.fs.tickAt + periV * min 25000 s.fs.noteLen)).modMtr fun m => { m with
          pulses := m.pulses.set j.val { x with onAt := none, fell := some s.fs.tnc } }
        .next (if h : c.ch < 48 then (s1.modCh ⟨c.ch, h⟩ fun y => { y with cmd := false }).drive ⟨c.ch, h⟩ else s1)
      else .next s
    | none => .next s
  | _, _ => .next s

/-! ### The collector (R107) -/

/-- COLLECTOR_SWEEP: every ready producer posts its head record in ascending index, one per FAB cycle (R107); the frame
records of passes that have ended are among them (R264). -/
def execCollectorSweep (s : State) : Host.Outcome State Fault Refusal :=
  if s.alive && s.acc.locked then
    .next (((List.range 48).filter s.settleLoops.ready).foldl (fun s k => (s.wait fabV).postHead k) s.settleLoops)
  else .next s

/-! ### A cycle without a command -/

/-- One PERI cycle passes while no command waits and the module is powered and not halted; the work of the accord unit that has
taken its time ends, best-effort requests take the positions that have passed, loop passes go on and rounds of telegrams, exports
and openings of field access end (R71, R104, R253, R395, R485; DESIGN
CHOICE, log entry 1). -/
def State.idle (s : State) : State :=
  if s.pwr.powered && !s.pwr.halted then (s.wait periV).settleAcc.settleAcd.settleFab.settleLoops.settleXsx.settleExport else s

end Sys2Proof.Machine
end

