-- ==== Sys2Proof/Machine/Dispatch.lean ====
section
/-! DEFINITION. The effect of each command: one arm for each constructor of `Instr`. -/

namespace Sys2Proof.Machine

def exec (i : Instr) (s : State) : Host.Outcome State Fault Refusal :=
  match i with
  | .registerWrite who addr v => Sys2Proof.Machine.execRegisterWrite who addr v s
  | .coreInstruction p short i_ ecc => Sys2Proof.Machine.execCoreInstruction p short i_ ecc s
  | .fabricRequest who q => Sys2Proof.Machine.execFabricRequest who q s
  | .mirrorConsistencyPoint r => Sys2Proof.Machine.execMirrorConsistencyPoint r s
  | .mirrorApply r => Sys2Proof.Machine.execMirrorApply r s
  | .lockstepFailure pairs => Sys2Proof.Machine.execLockstepFailure pairs s
  | .migrationCommand who v => Sys2Proof.Machine.execMigrationCommand who v s
  | .migration => Sys2Proof.Machine.execMigration s
  | .migrationResume ecc => Sys2Proof.Machine.execMigrationResume ecc s
  | .collectorSweep => Sys2Proof.Machine.execCollectorSweep s
  | .fabColRelease who v => Sys2Proof.Machine.execFabColRelease who v s
  | .topTick => Sys2Proof.Machine.execTopTick s
  | .heartTick temp => Sys2Proof.Machine.execHeartTick temp s
  | .baseTick => Sys2Proof.Machine.execBaseTick s
  | .loopPass mism ecc => Sys2Proof.Machine.execLoopPass mism ecc s
  | .loopHardDeadline => Sys2Proof.Machine.execLoopHardDeadline s
  | .outputInstant => Sys2Proof.Machine.execOutputInstant s
  | .secondPulseEdge dt => Sys2Proof.Machine.execSecondPulseEdge dt s
  | .disciplineHoldover => Sys2Proof.Machine.execDisciplineHoldover s
  | .clockFault => Sys2Proof.Machine.execClockFault s
  | .fsShadowOpenRead who g => Sys2Proof.Machine.execFsShadowOpenRead who g s
  | .fsShadowCloseRead who g => Sys2Proof.Machine.execFsShadowCloseRead who g s
  | .fsSteerWrite who v => Sys2Proof.Machine.execFsSteerWrite who v s
  | .load who bad => Sys2Proof.Machine.execLoad who bad s
  | .configure who slotB bad => Sys2Proof.Machine.execConfigure who slotB bad s
  | .configureSwitch => Sys2Proof.Machine.execConfigureSwitch s
  | .amend who => Sys2Proof.Machine.execAmend who s
  | .commitRollback who => Sys2Proof.Machine.execCommitRollback who s
  | .erase who slotB => Sys2Proof.Machine.execErase who slotB s
  | .amendmentApply => Sys2Proof.Machine.execAmendmentApply s
  | .amendmentFlashCopy => Sys2Proof.Machine.execAmendmentFlashCopy s
  | .firmwareVerify bist => Sys2Proof.Machine.execFirmwareVerify bist s
  | .bootAccordSelect badA badB => Sys2Proof.Machine.execBootAccordSelect badA badB s
  | .configureComplete => Sys2Proof.Machine.execConfigureComplete s
  | .solverSubmit who n v => Sys2Proof.Machine.execSolverSubmit who n v s
  | .descriptorFetch n => Sys2Proof.Machine.execDescriptorFetch n s
  | .solverJobStart n => Sys2Proof.Machine.execSolverJobStart n s
  | .solverOperation n cor => Sys2Proof.Machine.execSolverOperation n cor s
  | .iterationBoundary n => Sys2Proof.Machine.execIterationBoundary n s
  | .solverStopInstant n cor => Sys2Proof.Machine.execSolverStopInstant n cor s
  | .resultRecordHandover n => Sys2Proof.Machine.execResultRecordHandover n s
  | .solverWithdraw who n v => Sys2Proof.Machine.execSolverWithdraw who n v s
  | .solverCancel who n => Sys2Proof.Machine.execSolverCancel who n s
  | .solverDisable who n => Sys2Proof.Machine.execSolverDisable who n s
  | .headroomClear who n => Sys2Proof.Machine.execHeadroomClear who n s
  | .solverMemoryFault f => Sys2Proof.Machine.execSolverMemoryFault f s
  | .coopJobStart n => Sys2Proof.Machine.execCoopJobStart n s
  | .coopTimeout n => Sys2Proof.Machine.execCoopTimeout n s
  | .solveAmendmentWrite n => Sys2Proof.Machine.execSolveAmendmentWrite n s
  | .hydraulicAcceptance => Sys2Proof.Machine.execHydraulicAcceptance s
  | .networkStatePublish => Sys2Proof.Machine.execNetworkStatePublish s
  | .protectionTrigger objs => Sys2Proof.Machine.execProtectionTrigger objs s
  | .protectionAcceptance => Sys2Proof.Machine.execProtectionAcceptance s
  | .loopEnable who n i_ => Sys2Proof.Machine.execLoopEnable who n i_ s
  | .loopDisable who n i_ => Sys2Proof.Machine.execLoopDisable who n i_ s
  | .loopHold who n i_ => Sys2Proof.Machine.execLoopHold who n i_ s
  | .loopRelease who n i_ => Sys2Proof.Machine.execLoopRelease who n i_ s
  | .loopRecordWrite who n v => Sys2Proof.Machine.execLoopRecordWrite who n v s
  | .loopTakeover => Sys2Proof.Machine.execLoopTakeover s
  | .loopEngineDisable who n => Sys2Proof.Machine.execLoopEngineDisable who n s
  | .taskRelease p t => Sys2Proof.Machine.execTaskRelease p t s
  | .taskCommit p t vars outs => Sys2Proof.Machine.execTaskCommit p t vars outs s
  | .taskOverrun p t => Sys2Proof.Machine.execTaskOverrun p t s
  | .partitionRecoveryEntry p => Sys2Proof.Machine.execPartitionRecoveryEntry p s
  | .resume who p => Sys2Proof.Machine.execResume who p s
  | .recover who p => Sys2Proof.Machine.execRecover who p s
  | .stage who p => Sys2Proof.Machine.execStage who p s
  | .olcStaged p => Sys2Proof.Machine.execOlcStaged p s
  | .unstage who p => Sys2Proof.Machine.execUnstage who p s
  | .olcSwitch p => Sys2Proof.Machine.execOlcSwitch p s
  | .checkpointWrite p => Sys2Proof.Machine.execCheckpointWrite p s
  | .forceSet who p => Sys2Proof.Machine.execForceSet who p s
  | .forceRelease who p => Sys2Proof.Machine.execForceRelease who p s
  | .forceReleaseAll who p => Sys2Proof.Machine.execForceReleaseAll who p s
  | .meterDecimation bits => Sys2Proof.Machine.execMeterDecimation bits s
  | .meterWindowEnd pt => Sys2Proof.Machine.execMeterWindowEnd pt s
  | .mclkClockLost g => Sys2Proof.Machine.execMclkClockLost g s
  | .mclkClockResume g => Sys2Proof.Machine.execMclkClockResume g s
  | .thermalPublish => Sys2Proof.Machine.execThermalPublish s
  | .pulseEnd j => Sys2Proof.Machine.execPulseEnd j s
  | .mtrCaptureRequest who => Sys2Proof.Machine.execMtrCaptureRequest who s
  | .meterCaptureDone => Sys2Proof.Machine.execMeterCaptureDone s
  | .mtrShadowOpenRead who ofs => Sys2Proof.Machine.execMtrShadowOpenRead who ofs s
  | .mtrShadowCloseRead who ofs => Sys2Proof.Machine.execMtrShadowCloseRead who ofs s
  | .canMbRxFrame n f => Sys2Proof.Machine.execCanMbRxFrame n f s
  | .stationInputFrame n f => Sys2Proof.Machine.execStationInputFrame n f s
  | .stationHeartbeat n f => Sys2Proof.Machine.execStationHeartbeat n f s
  | .frameSetExpiry n st => Sys2Proof.Machine.execFrameSetExpiry n st s
  | .canMbTxreq who n k => Sys2Proof.Machine.execCanMbTxreq who n k s
  | .canMbAbort who n k => Sys2Proof.Machine.execCanMbAbort who n k s
  | .canTxComplete n ok at_ => Sys2Proof.Machine.execCanTxComplete n ok at_ s
  | .canTxTimeout n k => Sys2Proof.Machine.execCanTxTimeout n k s
  | .canMbRelease who n k => Sys2Proof.Machine.execCanMbRelease who n k s
  | .canMbConfigWrite who n k r v => Sys2Proof.Machine.execCanMbConfigWrite who n k r v s
  | .canError n e => Sys2Proof.Machine.execCanError n e s
  | .busOffRecovery n => Sys2Proof.Machine.execBusOffRecovery n s
  | .canRecover who n => Sys2Proof.Machine.execCanRecover who n s
  | .canBusDominant n => Sys2Proof.Machine.execCanBusDominant n s
  | .listen who n => Sys2Proof.Machine.execListen who n s
  | .normal who n => Sys2Proof.Machine.execNormal who n s
  | .heartbeatCheck n st => Sys2Proof.Machine.execHeartbeatCheck n st s
  | .ethRxFrame n f => Sys2Proof.Machine.execEthRxFrame n f s
  | .ethLinkChange n up => Sys2Proof.Machine.execEthLinkChange n up s
  | .ethCounterClear who n => Sys2Proof.Machine.execEthCounterClear who n s
  | .xsxReport t => Sys2Proof.Machine.execXsxReport t s
  | .ptpTimestamp n m => Sys2Proof.Machine.execPtpTimestamp n m s
  | .ptpSecondRollover => Sys2Proof.Machine.execPtpSecondRollover s
  | .ptpStep who v => Sys2Proof.Machine.execPtpStep who v s
  | .ptpAdjWrite who v => Sys2Proof.Machine.execPtpAdjWrite who v s
  | .ptpShadowOpenRead who g => Sys2Proof.Machine.execPtpShadowOpenRead who g s
  | .ptpShadowCloseRead who g => Sys2Proof.Machine.execPtpShadowCloseRead who g s
  | .modbusConnect addr => Sys2Proof.Machine.execModbusConnect addr s
  | .modbusIdleClose c => Sys2Proof.Machine.execModbusIdleClose c s
  | .readCoils c start qty => Sys2Proof.Machine.execReadCoils c start qty s
  | .readDiscreteInputs c start qty => Sys2Proof.Machine.execReadDiscreteInputs c start qty s
  | .readHoldingRegisters c start qty => Sys2Proof.Machine.execReadHoldingRegisters c start qty s
  | .readInputRegisters c start qty => Sys2Proof.Machine.execReadInputRegisters c start qty s
  | .writeSingleCoil c start value => Sys2Proof.Machine.execWriteSingleCoil c start value s
  | .writeSingleRegister c start value => Sys2Proof.Machine.execWriteSingleRegister c start value s
  | .writeMultipleCoils c start values => Sys2Proof.Machine.execWriteMultipleCoils c start values s
  | .writeMultipleRegisters c start values => Sys2Proof.Machine.execWriteMultipleRegisters c start values s
  | .readWriteMultipleRegisters c rstart rqty wstart values => Sys2Proof.Machine.execReadWriteMultipleRegisters c rstart rqty wstart values s
  | .readDeviceIdentification c code obj => Sys2Proof.Machine.execReadDeviceIdentification c code obj s
  | .modbusUnknownFunction c fc => Sys2Proof.Machine.execModbusUnknownFunction c fc s
  | .hello x f => Sys2Proof.Machine.execHello x f s
  | .prove x f => Sys2Proof.Machine.execProve x f s
  | .serviceStatus x f => Sys2Proof.Machine.execServiceStatus x f s
  | .scadaRead x f => Sys2Proof.Machine.execScadaRead x f s
  | .histRead x f => Sys2Proof.Machine.execHistRead x f s
  | .sillageExport x f => Sys2Proof.Machine.execSillageExport x f s
  | .putData x f => Sys2Proof.Machine.execPutData x f s
  | .commit x f bad => Sys2Proof.Machine.execCommit x f bad s
  | .force x f => Sys2Proof.Machine.execForce x f s
  | .accordCmd x f bad => Sys2Proof.Machine.execAccordCmd x f bad s
  | .serviceClose x f => Sys2Proof.Machine.execServiceClose x f s
  | .serviceSessionTimeout x => Sys2Proof.Machine.execServiceSessionTimeout x s
  | .dioFilterConfirm ch wire level => Sys2Proof.Machine.execDioFilterConfirm ch wire level s
  | .dioChannelFault ch f => Sys2Proof.Machine.execDioChannelFault ch f s
  | .dioLinkLoss b => Sys2Proof.Machine.execDioLinkLoss b s
  | .dioLinkReturn b => Sys2Proof.Machine.execDioLinkReturn b s
  | .eventAssertion srcs => Sys2Proof.Machine.execEventAssertion srcs s
  | .coalesceTimeout src => Sys2Proof.Machine.execCoalesceTimeout src s
  | .eventEntry t => Sys2Proof.Machine.execEventEntry t s
  | .evdone t src => Sys2Proof.Machine.execEvdone t src s
  | .evhSwgen who v => Sys2Proof.Machine.execEvhSwgen who v s
  | .evhCtrlWrite who v => Sys2Proof.Machine.execEvhCtrlWrite who v s
  | .evhPendClear who k v => Sys2Proof.Machine.execEvhPendClear who k v s
  | .evhSourceConfigWrite who src coal v => Sys2Proof.Machine.execEvhSourceConfigWrite who src coal v s
  | .pairRest t => Sys2Proof.Machine.execPairRest t s
  | .rtcSecondsAdvance => Sys2Proof.Machine.execRtcSecondsAdvance s
  | .rtcSet who => Sys2Proof.Machine.execRtcSet who s
  | .rtcSetApply => Sys2Proof.Machine.execRtcSetApply s
  | .rtcTrimCorrection k => Sys2Proof.Machine.execRtcTrimCorrection k s
  | .rtcOscFail => Sys2Proof.Machine.execRtcOscFail s
  | .rtcBackupPowerOn => Sys2Proof.Machine.execRtcBackupPowerOn s
  | .rtcSupplyDip => Sys2Proof.Machine.execRtcSupplyDip s
  | .rtcShadowOpenRead who => Sys2Proof.Machine.execRtcShadowOpenRead who s
  | .rtcShadowCloseRead who => Sys2Proof.Machine.execRtcShadowCloseRead who s
  | .keyCommandQueue who v => Sys2Proof.Machine.execKeyCommandQueue who v s
  | .derive => Sys2Proof.Machine.execDerive s
  | .generate => Sys2Proof.Machine.execGenerate s
  | .importKey => Sys2Proof.Machine.execImportKey s
  | .replace => Sys2Proof.Machine.execReplace s
  | .invalidate who k => Sys2Proof.Machine.execInvalidate who k s
  | .invalidationEffect => Sys2Proof.Machine.execInvalidationEffect s
  | .keyErase => Sys2Proof.Machine.execKeyErase s
  | .sign => Sys2Proof.Machine.execSign s
  | .verify => Sys2Proof.Machine.execVerify s
  | .mac => Sys2Proof.Machine.execMac s
  | .quote => Sys2Proof.Machine.execQuote s
  | .advance => Sys2Proof.Machine.execAdvance s
  | .accNonce who => Sys2Proof.Machine.execAccNonce who s
  | .openCr who level => Sys2Proof.Machine.execOpenCr who level s
  | .openPw who level => Sys2Proof.Machine.execOpenPw who level s
  | .accClose who => Sys2Proof.Machine.execAccClose who s
  | .accessExpiry => Sys2Proof.Machine.execAccessExpiry s
  | .lockExpiry => Sys2Proof.Machine.execLockExpiry s
  | .nonceExpiry => Sys2Proof.Machine.execNonceExpiry s
  | .uartNonce => Sys2Proof.Machine.execUartNonce s
  | .uartOpenCr level expiry resp => Sys2Proof.Machine.execUartOpenCr level expiry resp s
  | .uartOpenPw level pw => Sys2Proof.Machine.execUartOpenPw level pw s
  | .uartClose => Sys2Proof.Machine.execUartClose s
  | .uartStatus => Sys2Proof.Machine.execUartStatus s
  | .uartKeyCmd cmd slot aux arg => Sys2Proof.Machine.execUartKeyCmd cmd slot aux arg s
  | .provision value => Sys2Proof.Machine.execProvision value s
  | .powerOn b => Sys2Proof.Machine.execPowerOn b s
  | .vinLoss b => Sys2Proof.Machine.execVinLoss b s
  | .vinReturn b => Sys2Proof.Machine.execVinReturn b s
  | .drydownTrigger d => Sys2Proof.Machine.execDrydownTrigger d s
  | .drydown who d => Sys2Proof.Machine.execDrydown who d s
  | .drydownHalt who d => Sys2Proof.Machine.execDrydownHalt who d s
  | .powerOff => Sys2Proof.Machine.execPowerOff s
  | .holdReady => Sys2Proof.Machine.execHoldReady s
  | .holdFault => Sys2Proof.Machine.execHoldFault s
  | .vbatMeasure mv => Sys2Proof.Machine.execVbatMeasure mv s
  | .resetN low => Sys2Proof.Machine.execResetN low s
  | .swReset who => Sys2Proof.Machine.execSwReset who s
  | .watchdogExpiry => Sys2Proof.Machine.execWatchdogExpiry s
  | .watchdogKick who v => Sys2Proof.Machine.execWatchdogKick who v s
  | .modeRequest who v => Sys2Proof.Machine.execModeRequest who v s
  | .sillageEntry => Sys2Proof.Machine.execSillageEntry s
  | .silPut who v => Sys2Proof.Machine.execSilPut who v s
  | .sillageCaptureRequest who => Sys2Proof.Machine.execSillageCaptureRequest who s
  | .sillageCapture => Sys2Proof.Machine.execSillageCapture s
  | .sillageHoldWrite who v => Sys2Proof.Machine.execSillageHoldWrite who v s
  | .claimRequest => Sys2Proof.Machine.execClaimRequest s
  | .twinGateOpen => Sys2Proof.Machine.execTwinGateOpen s
  | .claimInChange level => Sys2Proof.Machine.execClaimInChange level s
  | .twinBackoffExpiry => Sys2Proof.Machine.execTwinBackoffExpiry s
  | .twinHeartbeat f => Sys2Proof.Machine.execTwinHeartbeat f s
  | .delta f => Sys2Proof.Machine.execDelta f s
  | .twinLoops f => Sys2Proof.Machine.execTwinLoops f s
  | .twinBase f => Sys2Proof.Machine.execTwinBase f s
  | .resync f => Sys2Proof.Machine.execResync f s
  | .switchover who v => Sys2Proof.Machine.execSwitchover who v s
  | .dominantClear n => Sys2Proof.Machine.execDominantClear n s
  | .dioFaultClear ch f => Sys2Proof.Machine.execDioFaultClear ch f s
  | .holdReadyLoss => Sys2Proof.Machine.execHoldReadyLoss s
  | .rtcOscReturn => Sys2Proof.Machine.execRtcOscReturn s
  | .debugHalt p halt => Sys2Proof.Machine.execDebugHalt p halt s

end Sys2Proof.Machine
end

