-- ==== Sys2Proof/Safety.lean ====
section
/-! DEFINITION. What a safe run is: every step answers a next state, and the invariant of the state holds throughout. -/

namespace Sys2Proof.Machine

/-- The invariant of the state that every step keeps: shared memory and both tightly coupled memories of every pair are in the
canonical form, so that equal memories are equal data and a byte read after a write is the byte written. -/
def Inv (s : State) : Prop :=
  Mem.wf s.mem = true ∧ ∀ p : Fin 9, Mem.wf s.pairs.p[p].itcm = true ∧ Mem.wf s.pairs.p[p].dtcm = true

/-- The bounds of the buffers that every step keeps: the sillage writer's queue of 64 (R524) and its capture window of 512 entries
(R529), and the key store's queue of 8 (R463). -/
def Bounded (s : State) : Prop :=
  s.sil.queue.length ≤ 64 ∧ s.sil.window.length ≤ 512 ∧ s.key.queue.length ≤ 8

/-- A step is safe when it answers a next state; no command faults or is refused. -/
def safeStep (s : State) : Prop := ∃ t, step s = .next t

/-- A run of `n` steps is safe. -/
def safeRun (s : State) : Nat → Prop
  | 0 => True
  | n + 1 => ∃ t, step s = .next t ∧ safeRun t n

end Sys2Proof.Machine
end

