-- ==== Sys2Proof/Certificates/Slice0/Obligations.lean ====
section
/-! DEFINITION. The statements for the provers: what each family of commands does, what it leaves unchanged, and what every step keeps. -/

open Sys2Proof Sys2Proof.Machine

/-- The rule that carries every statement about a command to a run: with a command at the front of the queue, a step is exec
of that command on the state with the rest of the queue; on an empty queue the block idles for one PERI cycle while it is
powered and not halted, in which whatever has come to its time takes place, and otherwise stays as it is (both are the model's
form, DESIGN CHOICE, log entry 1). -/
def Obligations.StepRunsTheFront : Prop :=
  (∀ (s : State) (c : Instr) (rest : List Instr), step { s with pending := c :: rest } = exec c { s with pending := rest }) ∧
  (∀ (s : State), s.pending = [] → s.pwr.powered = true → s.pwr.halted = false →
    ∃ t, step s = .next t ∧ t.pending = [] ∧ s.now + 40 ≤ t.now ∧
      (∀ u, u = { s with now := s.now + 40 } → u.settleAcc = u → u.settleAcd = u → u.settleFab = u → u.settleLoops = u →
        u.settleXsx = u → u.settleExport = u → t = u)) ∧
  (∀ (s : State), s.pending = [] → (s.pwr.powered = false ∨ s.pwr.halted = true) → step s = .next s)

/-- The state right after reset: BOOT after a power-on (R8), the sequencer's registers (R56, R57), no accord applied (R90), TB
from 0 (R57), access sealed (R481), the watchdog at 2,000 ms (R519), engines and loop engines disabled (R166, R264), no role
migrating (R125), no waiting command; its memory has the canonical form and its buffers are empty. -/
def Obligations.ResetState : Prop :=
  State.reset.sys = Sys.reset .powerOn ∧ State.reset.sys.state = .boot ∧ State.reset.fs.period = 100000 ∧
  State.reset.fs.h = 100 ∧ State.reset.fs.b = 50 ∧ State.reset.fs.tnc = 0 ∧ State.reset.fs.rate = 0 ∧
  State.reset.fs.dstate = .free ∧ State.reset.now = 0 ∧ State.reset.acc.locked = false ∧ State.reset.acc.active = none ∧
  State.reset.key.level = 0 ∧ State.reset.pwr.wdtTimeout = 2000 ∧ State.reset.pwr.wdtLock = false ∧
  (∀ n : Fin 4, State.reset.se[n].enable = false) ∧ (∀ n : Fin 2, State.reset.loops.le[n].enable = false) ∧
  State.reset.pairs.armed = false ∧ State.reset.twin.claimOut = false ∧ State.reset.pending = [] ∧
  Inv State.reset ∧ Bounded State.reset

/-- R525: an entry that finds the queue full is dropped and LOST advances; when the queue next has room, one entry 0x142 that
records the losses since the previous one follows. -/
def Obligations.LostEntriesAreReported : Prop :=
  (∀ (s : State) (e : SilEntry), 64 ≤ s.sil.queue.length →
    (s.enter e).sil.queue = s.sil.queue ∧ (s.enter e).sil.lost = min (2 ^ 32 - 1) (s.sil.lost + 1) ∧
    (s.enter e).sil.lostFlag = true ∧ (s.enter e).sil.losses.1 = s.sil.losses.1 + 1 ∧ (s.enter e).sil.head = s.sil.head) ∧
  (∀ (s : State) (e : SilEntry) (rest : List SilEntry), s.alive = true → s.sil.queue = e :: rest →
    ∃ t, exec .sillageEntry s = .next t ∧ t = { s with now := max s.now s.sil.nextAt, sil := t.sil } ∧ t.sil.losses.1 = 0 ∧
      t.sil.lost = s.sil.lost ∧
      (s.sil.losses.1 = 0 → t.sil.queue = rest) ∧
      (s.sil.losses.1 ≠ 0 → ∃ n, t.sil.queue = rest ++ [n] ∧ n.num = 0x142 ∧ n.block = 0x0F ∧
        n.payload = toLe 4 s.sil.losses.1 ++ toLe 4 s.sil.losses.2))

/-- R97: every access to the master-copy area and every write to the result bank is an access error, which changes no memory;
a read of the result bank answers its bytes in a region that MEMORY grants, and is an access error elsewhere. -/
def Obligations.MasterCopiesAreClosed : Prop :=
  (∀ (s : State) (who : Initiator) (q : FabReq) (g : Nat), s.acts who = true → isBe who = false ∨ s.acc.locked = false →
    s.grantAt who q s.now = some g → exec (.fabricRequest who q) s = .next (s.serve who q g).1) ∧
  (∀ (s t : State) (who : Initiator) (q : FabReq) (r : Answer) (g : Nat), s.serve who q g = (t, r) →
    ((0x10000000 ≤ q.addr.toNat ∧ q.addr.toNat < 0x105B0000 ∨
        0x107C0000 ≤ q.addr.toNat ∧ q.addr.toNat < 0x10800000 ∧ kindWrites q.kind = true) →
      t = { s with fab := t.fab, hub := t.hub, sil := t.sil, setBits := t.setBits } ∧
        Tbl.get? who.code t.fab.answers = some r ∧ r.err = true ∧ t.fab.errValid = true ∧ t.fab.resv = s.fab.resv ∧
        (s.fab.errValid = false → t.fab.errCause = 1 ∧ t.fab.errOwner = who.code ∧ t.fab.errAddr = q.addr.toNat)) ∧
    (0x107C0000 ≤ q.addr.toNat → q.addr.toNat + q.size ≤ 0x10800000 → 1 ≤ q.size → q.size ≤ 8 → q.kind = .read → q.ecc = .ok →
      t = { s with fab := t.fab, hub := t.hub, sil := t.sil, setBits := t.setBits } ∧
        Tbl.get? who.code t.fab.answers = some r ∧ r.err = !s.regionOk who q.addr.toNat q.size false ∧
        (r.err = false → r.data = Mem.le s.mem q.addr.toNat q.size ∧ t = { s with fab := t.fab })))

/-- R35: every reset and every entry to CONFIGURE clears TNC, HPOS, BPOS and BNC; the first top tick of START leaves them 0
and is a heart tick, and the heart tick taken with TNC 0 is a base tick. -/
def Obligations.CountersStartAtZero : Prop :=
  (∀ (s : State) (k : ResetKind), (s.doReset k).fs.tnc = 0 ∧ (s.doReset k).fs.hpos = 0 ∧ (s.doReset k).fs.bpos = 0 ∧
    (s.doReset k).fs.bnc = 0 ∧ (s.doReset k).fs.started = false) ∧
  (∀ (s s1 : State) (x : Slot) (bnc : Nat), s.alive = true → s.running = true → s.acc.target = some (x, bnc) →
    (s.acc.stopped = true ∨ s.acc.halted.any (fun a => decide (a ≤ s.now)) = true) →
    s1 = (if s.acc.stopped then s else s.configureStop) → s1.solversQuiet = true → s1.mtr.capReq = false →
    ∃ t, exec .configureSwitch s = .next t ∧ t.fs.tnc = 0 ∧ t.fs.hpos = 0 ∧ t.fs.bpos = 0 ∧ t.fs.bnc = 0 ∧
      t.fs.started = false) ∧
  (∀ (s : State), s.tickReady = true → s.fs.started = false → s.fs.tnc = 0 → s.fs.hpos = 0 → s.fs.bpos = 0 → s.fs.bnc = 0 →
    ∃ t, exec .topTick s = .next t ∧ t.fs.tnc = 0 ∧ t.fs.hpos = 0 ∧ t.fs.bpos = 0 ∧ t.fs.bnc = 0 ∧ t.fs.started = true ∧
      t.fs.heartDue = true) ∧
  (∀ (s : State) (temp : BitVec 16), s.notesRun = true → s.fs.heartDue = true → s.fs.tnc = 0 →
    ∃ t, exec (.heartTick temp) s = .next t ∧ t.fs = { s.fs with heartDue := false, baseDue := true }) ∧
  (∀ (s : State), s.notesRun = true → s.fs.baseDue = true → s.fs.heartDue = false → s.fs.tnc = 0 →
    ∃ t, exec .baseTick s = .next t ∧ t.fs = { s.fs with baseDue := false })

/-- Every command answers a next state in every state, and leaves the queue of waiting commands as it is: no command of the
manual stops the module. -/
def Obligations.EveryCommandCompletes : Prop :=
  (∀ (s : State) (c : Instr), ∃ t, exec c s = .next t ∧ t.pending = s.pending) ∧ (∀ s : State, safeStep s)

/-- Every step keeps shared memory and the memories of every pair in the canonical form: addresses strictly rising and no
entry equal to what an unlisted address reads as. -/
def Obligations.MemoryStaysCanonical : Prop :=
  ∀ (s t : State), Inv s → step s = .next t → Inv t

/-- Every step keeps the buffers within their bounds: 64 entries in the sillage writer's queue (R524), 512 in its capture
window (R529), 8 commands in the key store's queue (R463). -/
def Obligations.BuffersStayBounded : Prop :=
  ∀ (s t : State), Bounded s → step s = .next t → Bounded t

/-- No command ever lowers a one-time-programmable rollback counter: a step is one fuse, and neither a reset nor CONFIGURE
clears it (R74, R75, R478, R479). -/
def Obligations.RollbackCountersNeverFall : Prop :=
  ∀ (s t : State) (i : Fin 32), step s = .next t → s.key.otp[i] ≤ t.key.otp[i]

/-- TOP_TICK of a running note (R34, R42, R46): it comes at the end of the present note; TNC advances, HPOS counts the top
notes of a heart note and wraps into a heart tick, the copy of TB is taken, and the new note is PERIOD + n PERI cycles long
where n is the whole part of the accumulated RATE. The clock and the waiting commands are untouched, and so is memory outside
the two metering mirror buffers where no image lane, checkpoint, resumption, takeover or entry into TEST writes it. The state
of the module at a top tick (R502 to R505): START ends at TNC 1; an accepted mode request takes effect; access that has fallen
below SERVICE takes COMMISSIONING and TEST back to SERVICE. -/
def Obligations.TopTick : Prop :=
  (
  ∀ (s : State) (n : Int), s.tickReady = true → s.fs.started = true → s.fs.tnc + 1 < 2 ^ 64 →
    n = ((s.fs.acc : Int) + s.fs.rate) / 65536 →
    ∃ t, exec .topTick s = .next t ∧ t.now = max s.now (s.fs.tickAt + 40 * s.fs.noteLen) ∧
      t.fs.tickAt = s.fs.tickAt + 40 * s.fs.noteLen ∧ t.fs.tickTb = (s.fs.tickAt + 40 * s.fs.noteLen) / 400 ∧
      t.fs.tnc = s.fs.tnc + 1 ∧ t.fs.hpos = (if s.fs.hpos + 1 < s.fs.h then s.fs.hpos + 1 else 0) ∧
      t.fs.heartDue = !decide (s.fs.hpos + 1 < s.fs.h) ∧ t.fs.bpos = s.fs.bpos ∧ t.fs.bnc = s.fs.bnc ∧
      t.fs.noteLen = ((s.fs.period : Int) + n).toNat ∧ (t.fs.acc : Int) = s.fs.acc + s.fs.rate - n * 65536 ∧
      t.rtc = s.rtc ∧ t.pending = s.pending ∧
      (s.sys.reqMode ≠ some .test → s.twin.takeover = [] → (∀ r : Fin 7, s.pairs.log[r] = none) →
        (∀ p : Fin 4, s.prog.p[p].resumeNext = false ∧ s.prog.p[p].ckpt = none ∧ s.prog.p[p].sealedNote = false) →
        ∀ a, (∀ b ∈ [s.run.mem.mtrMirror.1, s.run.mem.mtrMirror.2], a < b ∨ b + 24576 ≤ a) →
          Mem.read a t.mem = Mem.read a s.mem)) ∧
  (
  ∀ (s : State), s.tickReady = true → s.fs.started = true → s.serviceState = .service →
    (∀ p : Fin 4, s.prog.p[p].recovery = false ∧ s.prog.p[p].recNext = none ∧ s.prog.p[p].resumeNext = false ∧
      ∀ k : Fin 8, s.prog.p[p].tasks[k].running = false) →
    (s.sys.state = .start → s.fs.tnc = 0 → ∃ t, exec .topTick s = .next t ∧ t.sys.state = .service ∧ t.sys.prev = .start) ∧
    (s.running = true → (s.to s.nextTick).settleAcc.key.fell = false → s.sys.reqMode = some .commissioning →
      ∃ t, exec .topTick s = .next t ∧ t.sys.state = .commissioning ∧ t.sys.mode = .commissioning ∧ t.sys.reqMode = none) ∧
    (s.running = true → s.key.fell = true → s.sys.mode = .test →
      ∃ t, exec .topTick s = .next t ∧ t.sys.state = .service ∧ t.sys.mode = .service ∧ t.sys.reqMode = none))

/-- HEART_TICK counts BPOS and wraps it into a base tick; BASE_TICK counts BNC (R34). Neither moves TNC, HPOS or time.
OUTPUT_INSTANT of the present note takes the oldest waiting instant, puts the loops' output entries into effect and leaves the
counters as they are (R36, R253); one that falls on the next top tick waits for it (R37). -/
def Obligations.HeartTicksAndOutputs : Prop :=
  (
  (∀ (s : State) (temp : BitVec 16), s.notesRun = true → s.fs.heartDue = true → s.fs.tnc ≠ 0 →
    ∃ t, exec (.heartTick temp) s = .next t ∧ t.now = s.now ∧ t.rtc = s.rtc ∧ t.pending = s.pending ∧
      t.fs = { s.fs with heartDue := false, bpos := if s.fs.bpos + 1 < s.fs.b then s.fs.bpos + 1 else 0,
                         baseDue := s.fs.baseDue || !decide (s.fs.bpos + 1 < s.fs.b) }) ∧
  (∀ (s : State), s.notesRun = true → s.fs.baseDue = true → s.fs.heartDue = false → s.fs.tnc ≠ 0 →
    ∃ t, exec .baseTick s = .next t ∧ t.now = s.now ∧ t.rtc = s.rtc ∧ t.pending = s.pending ∧
      t.fs = { s.fs with baseDue := false, bnc := (s.fs.bnc + 1) % 2 ^ 32 })) ∧
  (
  ∀ (s s1 : State) (d : OutDue) (rest : List OutDue), s.notesRun = true → s.prog.outDue = d :: rest → d.late = none →
    s1 = (s.to d.at_).settleLoops →
    (d.at_ < s.nextTick →
      ∃ t, exec .outputInstant s = .next t ∧ t.now = max s.now d.at_ ∧ t.prog.outDue = rest ∧ t.loops.eff = s1.loops.out ∧
        t.fs = s.fs ∧ t.mem = s.mem ∧ t.rtc = s.rtc ∧ t.pending = s.pending ∧ t.prog.outs = s.prog.outs) ∧
    (s.nextTick ≤ d.at_ → exec .outputInstant s = .next s))

/-- SECOND_PULSE_EDGE in ACQUIRE: an edge that passes the glitch test updates the loop from its phase error (R40, R41), and
one that does not is only counted (R44). DISCIPLINE_HOLDOVER, when no edge has come for 2 × N1 top notes, holds RATE at the
integral term and counts the missing edge (R43). The read shadows of the note counters (R56): the read of TNC_LO answers the
low word and freezes the rest, which the closing read answers and releases. FS_STEER_WRITE sets RATE in FREE, clamped to 10 ×
65,536 (R41, R43), and in every other discipline state changes nothing. -/
def Obligations.FrameSequencer : Prop :=
  (
  (∀ (s : State) (dt : Nat) (c e step : Int), s.notesRun = true → s.fs.started = true → s.fs.dstate = .acquire →
    s.fs.src = 1 → dt < s.fs.noteLen → c = (dt : Int) - 2 → s.fs.isGlitch c = false → e = s.fs.phase c →
    step = Int.tdiv (e * 65536) ((100000000 / s.fs.period : Nat) : Int) →
    ∃ t, exec (.secondPulseEdge dt) s = .next t ∧
      t = { s with now := t.now, fs := t.fs, hub := t.hub, sil := t.sil, setBits := t.setBits } ∧
      t.now = max s.now (s.fs.tickAt + 40 * dt) ∧ t.fs.e = e ∧
      t.fs.integ = clampI (s.fs.integ + ashr step s.fs.kiShift) (-655360) 655360 ∧
      t.fs.rate = clampI (t.fs.integ + ashr step s.fs.kpShift) (-655360) 655360 ∧ t.fs.tnc = s.fs.tnc ∧
      t.fs.lastEdge = some (s.fs.tnc, c, s.fs.noteLen)) ∧
  (∀ (s : State) (dt : Nat) (c : Int), s.notesRun = true → s.fs.started = true → s.fs.dstate ≠ .free →
    s.fs.src = 1 → dt < s.fs.noteLen → c = (dt : Int) - 2 → s.fs.isGlitch c = true → s.fs.discarded < 65535 →
    exec (.secondPulseEdge dt) s = .next { s with
      now := max s.now (s.fs.tickAt + 40 * dt), fs := { s.fs with discarded := s.fs.discarded + 1 } }) ∧
  (∀ (s : State), s.notesRun = true → (s.fs.dstate = .acquire ∨ s.fs.dstate = .locked) → s.fs.missing < 65535 →
    s.fs.edgeMissing (((s.now - s.fs.tickAt) / 40 : Nat) : Int) = true →
    ∃ t, exec .disciplineHoldover s = .next t ∧ t = { s with fs := t.fs, hub := t.hub, sil := t.sil, setBits := t.setBits } ∧
      t.fs.dstate = .holdover ∧
      t.fs.rate = s.fs.integ ∧ t.fs.missing = s.fs.missing + 1 ∧ t.fs.tnc = s.fs.tnc)) ∧
  (
  (∀ (s : State) (who : Initiator), s.acts who = true →
    ∃ t, exec (.fsShadowOpenRead who .tnc) s = .next t ∧ t = { s with fs := t.fs, fab := t.fab, setBits := t.setBits } ∧
      Tbl.get? who.code t.fab.answers = some (Answer.ofData (s.fs.tnc % 2 ^ 32)) ∧ t.fsRead who 0x124 = s.fs.tnc / 2 ^ 32 ∧
      t.fsRead who 0x13C = s.fs.bnc) ∧
  (∀ (s : State) (who : Initiator) (a b c : Nat), s.acts who = true →
    (Tbl.getD s.fs.shadows who.code FsShadow.none).tnc = some (a, b, c) →
    ∃ t, exec (.fsShadowCloseRead who .tnc) s = .next t ∧ t = { s with fs := t.fs, fab := t.fab, setBits := t.setBits } ∧
      Tbl.get? who.code t.fab.answers = some (Answer.ofData c) ∧ t.fsRead who 0x13C = s.fs.bnc) ∧
  (∀ (s : State) (who : Initiator) (v : Word), s.acts who = true → s.granted who 0 = true → s.fs.dstate = .free →
    exec (.fsSteerWrite who v) s = .next { s with fs := { s.fs with rate := clampI v.toInt (-655360) 655360 } }) ∧
  (∀ (s : State) (who : Initiator) (v : Word), s.acts who = true → s.granted who 0 = true → s.fs.dstate ≠ .free →
    exec (.fsSteerWrite who v) s = .next s))

/-- EVENT_ASSERTION of one source that its EVH_SRCs_COAL and its state leave to count and that has not asserted on the same
PERI edge (R440): the counter increments, and an INACTIVE source becomes PENDING when the counter reaches COUNT and stays
INACTIVE below it. EVH_SWGEN of a granted initiator is the assertion of source 304 + INDEX (R431). Nothing but the hub
changes. COALESCE_TIMEOUT: with TIME not 0 and an assertion counted, an INACTIVE source becomes PENDING at the first 1 µs
strobe that comes more than TIME µs after the first assertion counted (R440); strobes are 4,000 master-VCO cycles apart. -/
def Obligations.SourcesAreCounted : Prop :=
  (
  (∀ (s : State) (k : Fin 320), s.alive = true → (s.hub.route k.val).counter < 65535 → (s.hub.route k.val).st = .inactive →
    (s.hub.route k.val).lastEdge ≠ some (periEdge s.now) →
    ∃ t, exec (.eventAssertion [k]) s = .next t ∧ t = { s with hub := t.hub, setBits := t.setBits } ∧
      (t.hub.route k.val).counter = (s.hub.route k.val).counter + 1 ∧
      (t.hub.route k.val).st =
        (if (s.hub.route k.val).count ≤ (s.hub.route k.val).counter + 1 then RouteState.pending else .inactive)) ∧
  (∀ (s : State) (who : Initiator) (v : Word) (h : 304 + v.toNat % 16 < 320), s.acts who = true → s.granted who 1 = true →
    ∃ t, exec (.evhSwgen who v) s = .next t ∧ exec (.eventAssertion [⟨304 + v.toNat % 16, h⟩]) s = .next t)) ∧
  (
  ∀ (s : State) (k : Fin 320) (t0 : Nat), s.alive = true → (s.hub.route k.val).time ≠ 0 → 1 ≤ (s.hub.route k.val).counter →
    (s.hub.route k.val).first = some t0 → (s.hub.route k.val).st = .inactive →
    ∃ t, exec (.coalesceTimeout k) s = .next t ∧ t = { s with now := t.now, hub := t.hub, setBits := t.setBits } ∧
      t.now = max s.now (((t0 + (s.hub.route k.val).time * 4000) / 4000 + 1) * 4000) ∧
      (t.hub.route k.val).st = .pending ∧ (t.hub.route k.val).counter = (s.hub.route k.val).counter)

/-- EVENT_ENTRY: a signalled source is claimed. It becomes ACTIVE and its counter passes to the stack; MIE clears, mepc holds
the interrupted pc and mcause the machine external interrupt (R437), 8 CORE cycles after the pair has seen the signal and
ended its instruction (R54). EVDONE of the source at the top pops the stack and makes the source INACTIVE where no write of
EVH_SRCs_COAL waits for it; EVDONE of any other source leaves the stack and sets DONE_ERR (R438). -/
def Obligations.EntryAndCompletion : Prop :=
  (∀ (s : State) (t : Fin 9) (src : Nat) (at_ : Nat) (p : Fin 9), s.alive = true →
    s.hub.tgt[t].port = some (src, false, at_) → s.pairOfTarget t = some p → s.pairs.p[p].core.mie = true →
    s.pairs.p[p].isolated = false → s.pairs.p[p].debugHalt = false →
    ∃ u, exec (.eventEntry t) s = .next u ∧ u = { s with now := u.now, hub := u.hub, pairs := u.pairs, setBits := u.setBits } ∧
      u.now = max s.now at_ ∧
      u.hub.tgt[t].stack = { src := src, second := false, count := (s.hub.route src).counter } :: s.hub.tgt[t].stack ∧
      (u.hub.route src).st = .active ∧ (u.hub.route src).counter = 0 ∧
      u.pairs.p[p].core.at_ = max ((at_ + 3) / 4 * 4 + 4) s.pairs.p[p].core.at_ + 32 ∧ u.pairs.p[p].core.mie = false ∧ u.pairs.p[p].core.mepc = s.pairs.p[p].core.pc ∧
      u.pairs.p[p].core.mcause = 0x800000000000000B#64) ∧
  (∀ (s : State) (t : Fin 9) (src : Fin 512) (n : Nat) (rest : List Active), s.alive = true →
    s.hub.tgt[t].stack = { src := src.val, second := false, count := n } :: rest → (s.hub.route src.val).st = .active →
    (s.hub.route src.val).laterCoal = none →
    ∃ u, exec (.evdone t src) s = .next u ∧ u = { s with hub := u.hub, setBits := u.setBits } ∧ u.hub.tgt[t].stack = rest ∧
      (u.hub.route src.val).st = .inactive) ∧
  (∀ (s : State) (t : Fin 9) (src : Fin 512), s.alive = true → (∀ a, s.hub.tgt[t].stack.head? = some a → a.src ≠ src.val) →
    s.sil.queue.length < 64 →
    ∃ u, exec (.evdone t src) s = .next u ∧ u = { s with hub := u.hub, sil := u.sil, setBits := u.setBits } ∧
      u.hub.tgt[t].stack = s.hub.tgt[t].stack ∧ u.hub.tgt[t].doneErr = true ∧ u.hub.routes = s.hub.routes ∧
      ∃ e, u.sil.queue = s.sil.queue ++ [e] ∧ e.num = 0x14A)

/-- The hub's registers (R441, R445): EVH_CTRL takes DISABLE; EVH_PENDk clears the pending bit and the counter of a source
routed to the writer's own target that has not asserted, and whose bit has not been set, on the PERI edge of the write (R12);
EVH_SRCs_CFG of a source at rest takes ENABLE, PRIORITY and a TARGET of 0 to 8 or 15, and EVH_SRCs_COAL takes TIME and a COUNT
other than 0. PAIR_REST: a pair whose cores wait, with REST_EN set and nothing deliverable pending, rests; the save takes 12
FAB cycles of 10 master-VCO cycles (R443). -/
def Obligations.HubRegistersAndRest : Prop :=
  (
  (∀ (s : State) (who : Initiator) (v : Word), s.acts who = true → isSuperSec who = true →
    ∃ t, exec (.evhCtrlWrite who v) s = .next t ∧ t = { s with hub := t.hub, setBits := t.setBits } ∧
      t.hub.disable = v.getLsbD 0 ∧
      t.hub.routes = s.hub.routes) ∧
  (∀ (s : State) (r : Fin 7) (k : Fin 10) (b : Fin 32) (v : Word), s.acts (.role r) = true → s.granted (.role r) 1 = true →
    s.sil.queue.length < 64 → v.getLsbD b = true → (s.hub.route (32 * k.val + b.val)).target = r.val →
    (s.hub.route (32 * k.val + b.val)).lastEdge ≠ some (periEdge s.now) →
    s.setNow (0x40010100 + 4 * k.val) b.val = false →
    ∃ t, exec (.evhPendClear (.role r) k v) s = .next t ∧ t = { s with hub := t.hub, sil := t.sil, setBits := t.setBits } ∧
      (t.hub.route (32 * k.val + b.val)).counter = 0 ∧ (t.hub.route (32 * k.val + b.val)).isPending = false) ∧
  (∀ (s : State) (who : Initiator) (k : Fin 320) (v : Word), s.acts who = true → isSuperSec who = true →
    (s.hub.route k.val).st = .inactive → (v.extractLsb' 16 4 ≤ 8#4 ∨ v.extractLsb' 16 4 = 15#4) →
    ∃ t, exec (.evhSourceConfigWrite who k false v) s = .next t ∧ t = { s with hub := t.hub, setBits := t.setBits } ∧
      (t.hub.route k.val).enable = v.getLsbD 31 ∧ (t.hub.route k.val).target = (v.extractLsb' 16 4).toNat ∧
      (t.hub.route k.val).prio = (v.extractLsb' 0 8).toNat) ∧
  (∀ (s : State) (who : Initiator) (k : Fin 320) (v : Word), s.acts who = true → isSuperSec who = true →
    (s.hub.route k.val).st = .inactive → v.extractLsb' 0 8 ≠ 0#8 →
    ∃ t, exec (.evhSourceConfigWrite who k true v) s = .next t ∧ t = { s with hub := t.hub, setBits := t.setBits } ∧
      (t.hub.route k.val).time = (v.extractLsb' 16 16).toNat ∧ (t.hub.route k.val).count = (v.extractLsb' 0 8).toNat)) ∧
  (
  ∀ (s : State) (t p : Fin 9), s.alive = true → s.pairOfTarget t = some p → s.pairs.p[p].core.wfi = true →
    s.hub.tgt[t].restEn = true → s.hub.tgt[t].port = none → s.anyPending t = false → s.hub.tgt[t].held = false →
    ∃ u, exec (.pairRest t) s = .next u ∧ u = { s with hub := u.hub, setBits := u.setBits } ∧ u.hub.tgt[t].resting = true ∧
      u.hub.tgt[t].saveEnd = s.now + 120 ∧ u.hub.routes = s.hub.routes)

/-- RTC_SECONDS_ADVANCE that is not the increment of the edge of a set counts one second in a calendar of 73,049 days, and
goes back to 2000-01-01 with WRAP after its end (R447, R449); RTC_TRIM_CORRECTION of ADD advances the prescaler by 2, from
where its crystal has brought it (a free value, the model's choice of log entry 60), and a wrap advances the seconds; SKIP
holds it, and both count the correction (R452). RTC_SET: a staged time that is in range waits for its RTC edge, any other sets
SET_ERR (R449); RTC_SET_APPLY loads it, clears LOST and SUSPECT and the prescaler more than 2 RTC cycles after the write, and
sets STEP_BACK when the new time is not later (R449, R451). -/
def Obligations.ClockKeepsTime : Prop :=
  (
  (∀ (s : State), s.rtc.stopped = false → s.rtc.t < 6311433600 → (∀ a, s.rtc.setAt = some a → a + rtcV ≤ s.now) →
    ∃ t, exec .rtcSecondsAdvance s = .next t ∧
      t = { s with now := t.now, free := t.free, rtc := t.rtc, hub := t.hub, setBits := t.setBits } ∧ t.rtc.sub = 0 ∧
      t.rtc.t = (if s.rtc.t = 6311433599 then 0 else s.rtc.t + 1) ∧
      t.rtc.wrap = (s.rtc.wrap || decide (s.rtc.t = 6311433599)) ∧ t.rtc.almA = s.rtc.almA ∧ t.rtc.almB = s.rtc.almB) ∧
  (∀ (s : State) (k : Fin 512) (sub : Nat), s.rtc.stopped = false → k.val ≠ 0 → s.rtc.corr ≤ k.val → k.val < s.rtc.curVal →
    s.rtc.t < 6311433600 → sub = s.rtcCount.rtc.sub →
    ∃ t, exec (.rtcTrimCorrection k) s = .next t ∧
      t = { s with now := t.now, free := t.free, rtc := t.rtc, hub := t.hub, setBits := t.setBits } ∧ t.rtc.corr = k.val + 1 ∧
      t.rtc.sub = (if s.rtc.curSkip then sub else (sub + 2) % 32768) ∧
      t.rtc.t = (if s.rtc.curSkip = false ∧
        32768 ≤ sub + 2 then (if s.rtc.t = 6311433599 then 0 else s.rtc.t + 1) else s.rtc.t))) ∧
  (
  (∀ (s : State) (who : Initiator), s.acts who = true → isSuperSec who = true → s.rtc.pend = none →
    s.rtc.stage.ok = true →
    exec (.rtcSet who) s = .next { s with rtc := { s.rtc with
      pend := some (calOf s.rtc.stage.year s.rtc.stage.month s.rtc.stage.day s.rtc.stage.hour s.rtc.stage.min s.rtc.stage.sec,
        s.now) } }) ∧
  (∀ (s : State) (who : Initiator), s.acts who = true → isSuperSec who = true → s.rtc.pend = none →
    s.rtc.stage.ok = false →
    ∃ t, exec (.rtcSet who) s = .next t ∧ t = { s with rtc := t.rtc, setBits := t.setBits } ∧
      t.rtc = { s.rtc with setErr := true }) ∧
  (∀ (s : State) (c : Cal) (w : Nat), s.alive = true → s.rtc.stopped = false → s.rtc.pend = some (c, w) →
    (0x40020000, 0) ∉ s.setBits.2 →
    ∃ t, exec .rtcSetApply s = .next t ∧
      t = { s with now := t.now, free := t.free, rtc := t.rtc, hub := t.hub, sil := t.sil, setBits := t.setBits } ∧
      w + 244140 < t.now ∧ t.rtc.t = c ∧ t.rtc.sub = 0 ∧
      t.rtc.pend = none ∧ t.rtc.lost = false ∧ t.rtc.suspect = false ∧
      t.rtc.stepBack = (s.rtc.stepBack || decide (c ≤ s.rtc.t))))

/-- The clock's supply and crystal (R453): a crystal failure stops the clock with OSC_FAIL and SUSPECT, its return lets it
count, a dip sets SUSPECT and keeps the time, and a backup power-on sets LOST and loads 2000-01-01 00:00:00 with the trim
cleared and both alarms disabled. The clock's shadows (R448): a read of RTC_SUBSEC answers the prescaler and freezes the time
for its initiator; a read of RTC_SECONDS answers the frozen seconds and releases the group. -/
def Obligations.ClockSupplyAndShadows : Prop :=
  (
  ∀ (s : State),
    (∃ t, exec .rtcOscFail s = .next t ∧
      t = { s with now := t.now, free := t.free, rtc := t.rtc, hub := t.hub, setBits := t.setBits } ∧
      t.rtc = { s.rtc with oscFail := true, suspect := true, stopped := true }) ∧
    exec .rtcOscReturn s = .next { s with rtc := { s.rtc with stopped := false } } ∧
    exec .rtcSupplyDip s = .next { s with rtc := { s.rtc with suspect := true } } ∧
    (∃ t, exec .rtcBackupPowerOn s = .next t ∧ t = { s with rtc := t.rtc, setBits := t.setBits } ∧ t.rtc.lost = true ∧
      t.rtc.t = 0 ∧
      t.rtc.trimVal = 0 ∧ t.rtc.almA.enable = false ∧ t.rtc.almB.enable = false)) ∧
  (
  (∀ (s : State) (who : Initiator), s.acts who = true →
    ∃ t, exec (.rtcShadowOpenRead who) s = .next t ∧ t = { s with free := t.free, rtc := t.rtc, fab := t.fab } ∧
      Tbl.get? who.code t.fab.answers = some (Answer.ofData s.rtcCount.rtc.sub) ∧ t.rtcSeconds who = secReg s.rtc.t) ∧
  (∀ (s : State) (who : Initiator) (a b c : Nat), s.acts who = true → Tbl.get? who.code s.rtc.shadows = some (a, b, c) →
    ∃ t, exec (.rtcShadowCloseRead who) s = .next t ∧ t = { s with rtc := t.rtc, fab := t.fab, setBits := t.setBits } ∧
      Tbl.get? who.code t.fab.answers = some (Answer.ofData c) ∧ Tbl.get? who.code t.rtc.shadows = none))

/-- SILLAGE_ENTRY: the writer, which accepts one entry in a FAB cycle, takes the entry at the front of its queue, gives it the
index HEAD, writes it to the ring and advances HEAD modulo 2^32; lost entries are reported by entry 0x142 as soon as there is
room (R524, R525). SIL_PUT of a role with a grant submits an entry of its firmware block with the class of CODE [15:12]; a
number below 0x160 is replaced by 0x147 (R522, R526). SILLAGE_CAPTURE_REQUEST starts a capture with reason 6 in the slot that
R529 chooses, numbered CAP_SEQ; SILLAGE_HOLD_WRITE protects slots; SILLAGE_CAPTURE makes the slot of the running capture valid
and ends it, and a request written in its PERI cycle stands (R12, R528, R529, R530). -/
def Obligations.Sillage : Prop :=
  (
  (∀ (s : State) (e : SilEntry) (rest : List SilEntry), s.alive = true → s.sil.queue = e :: rest → s.sil.losses.1 = 0 →
    s.sil.running = none →
    ∃ t, exec .sillageEntry s = .next t ∧ t = { s with now := t.now, sil := t.sil } ∧ t.now = max s.now s.sil.nextAt ∧
      t.now < t.sil.nextAt ∧ t.sil.nextAt ≤ t.now + 10 ∧ t.sil.queue = rest ∧
      t.sil.head = (s.sil.head + 1) % 2 ^ 32 ∧ Tbl.get? (s.sil.head % 4096) t.sil.ring = some e.bytes ∧
      t.sil.window.head? = some (s.sil.head, e.bytes)) ∧
  (∀ (s : State) (e : SilEntry) (rest : List SilEntry), s.alive = true → s.sil.queue = e :: rest → s.sil.losses.1 ≠ 0 →
    ∃ t n, exec .sillageEntry s = .next t ∧ t = { s with now := t.now, sil := t.sil } ∧ t.sil.queue = rest ++ [n] ∧
      n.num = 0x142 ∧
      n.payload = toLe 4 s.sil.losses.1 ++ toLe 4 s.sil.losses.2 ∧ t.sil.losses = (0, 0))) ∧
  (
  ∀ (s : State) (r : Fin 7) (v : Word), s.acts (.role r) = true → s.granted (.role r) 0x60 = true → s.sil.queue.length < 64 →
    ∃ t e, exec (.silPut (.role r) v) s = .next t ∧ t = { s with sil := t.sil } ∧ t.sil.queue = s.sil.queue ++ [e] ∧
      e.block = 0x20 + r.val ∧ e.cls = (v.extractLsb' 12 4).toNat ∧
      e.num = (if (v.extractLsb' 0 12).toNat < 0x160 then 0x147 else (v.extractLsb' 0 12).toNat) ∧
      e.payload = (Tbl.getD s.sil.put r.val [0, 0, 0, 0]).flatMap (toLe 4) ∧ t.sil.head = s.sil.head) ∧
  (
  (∀ (s : State) (who : Initiator) (j : Fin 8), s.acts who = true → s.granted who 0x60 = true → s.sil.running = none →
    s.sil.choose = some j →
    ∃ t c, exec (.sillageCaptureRequest who) s = .next t ∧ t = { s with sil := t.sil, setBits := t.setBits } ∧
      t.sil.running = some (j.val, c) ∧
      c.reason = 6 ∧ c.seq = s.sil.capSeq ∧ t.sil.capSeq = s.sil.capSeq + 1 ∧ t.sil.capReq = true ∧
      c.entries = s.sil.window.reverse.map (·.2)) ∧
  (∀ (s : State) (who : Initiator) (v : Byte), s.acts who = true → s.granted who 0x60 = true →
    exec (.sillageHoldWrite who v) s = .next { s with sil := { s.sil with hold := v.toNat } }) ∧
  (∀ (s : State) (j : Fin 8) (c : Capture), s.alive = true → s.sil.running = some (j.val, c) → s.pwr.deferred = none →
    ∃ t, exec .sillageCapture s = .next t ∧ t = { s with sil := t.sil, hub := t.hub, setBits := t.setBits } ∧
      t.sil.running = none ∧
      t.sil.caps[j] = { c with valid := true } ∧ t.sil.lastSlot = j.val ∧ t.sil.lastReason = c.reason ∧
      t.sil.capReq = s.setNow 0x40600100 0))

/-- COLLECTOR_SWEEP, once the frame records of passes that have ended are handed over, with one ready producer whose head
record carries the current epoch of its role: its 64 bytes stand in the ring at the entry to be written and in no other place,
and the ring holds one entry more (R107, R110). FAB_COL_RELEASE of the owning role releases entries (R125).
MIRROR_CONSISTENCY_POINT seals the dirty lines of a role into its log and marks them clean, in a stall of d + 1 FAB cycles,
unless a migration is bringing the role to the spare; MIRROR_APPLY writes a sealed log to the role's master copy and to no
other byte of memory (R113). -/
def Obligations.CollectorAndMirror : Prop :=
  (
  (∀ (s s1 : State) (k base len own : Nat) (r : Rec) (rest : List Rec), s1 = s.settleLoops → Inv s1 → s.alive = true →
    s.acc.locked = true → k < 48 → (∀ j, j < 48 → (s1.ready j = true ↔ j = k)) → s1.run.mem.ringOf k = some (base, len, own) →
    (s1.fab.producer k).queue = r :: rest → r.data.length = 64 → r.role ≤ 6 → r.epoch = (s1.wait 10).epochNow r.role →
    ∃ t, exec .collectorSweep s = .next t ∧ t = { s1 with now := t.now, hub := t.hub, fab := t.fab, se := t.se, mem := t.mem } ∧
      t.now = s1.now + 10 ∧ Mem.readN t.mem (base + 64 * (s1.fab.producer k).wr) 64 = r.data ∧
      (∀ a, (a < base + 64 * (s1.fab.producer k).wr ∨ base + 64 * (s1.fab.producer k).wr + 64 ≤ a) →
        Mem.read a t.mem = Mem.read a s.mem) ∧
      (t.fab.producer k).fill = (s1.fab.producer k).fill + 1 ∧
      (t.fab.producer k).wr = ((s1.fab.producer k).wr + 1) % len) ∧
  (∀ (s : State) (r : Fin 7) (v : Word) (base len : Nat), s.acts (.role r) = true →
    s.run.mem.ringOf (v.extractLsb' 0 6).toNat = some (base, len, r.val) →
    ∃ t, exec (.fabColRelease (.role r) v) s = .next t ∧ t = { s with fab := t.fab } ∧
      (t.fab.producer (v.extractLsb' 0 6).toNat).fill =
        (s.fab.producer (v.extractLsb' 0 6).toNat).fill - (v.extractLsb' 16 11).toNat)) ∧
  (
  (∀ (s : State) (r : Fin 7) (p : Fin 9), s.alive = true → s.acc.locked = true → p = (s.pairs.place[r]).castSucc →
    s.pairs.p[p].isolated = false → (s.pairs.running = true → s.pairs.migRole ≠ r.val) → s.pairs.log[r] = none →
    ∃ t, exec (.mirrorConsistencyPoint r) s = .next t ∧ t = { s with pairs := t.pairs } ∧
      t.pairs.log[r] = some (s.pairs.p[p].dirty.map fun l => (l, Mem.readN s.pairs.p[p].dtcm (64 * l) 64)) ∧
      t.pairs.p[p].dirty = [] ∧ t.pairs.p[p].dtcm = s.pairs.p[p].dtcm ∧
      t.pairs.p[p].core = { s.pairs.p[p].core with
        cycles := s.pairs.p[p].core.cycles + ((s.pairs.p[p].dirty.length + 1) * 10 + 3) / 4,
        at_ := (max s.now s.pairs.p[p].core.at_ + 3) / 4 * 4 + 4 * (((s.pairs.p[p].dirty.length + 1) * 10 + 3) / 4) } ∧
      t.pairs.sealedCount[r] = s.pairs.sealedCount[r] + 1 ∧ t.pairs.epoch = s.pairs.epoch) ∧
  (∀ (s : State) (r : Fin 7) (lines : List (Nat × List Byte)), Inv s → s.alive = true → s.pairs.log[r] = some lines →
    s.ckptRuns r = false →
    (lines.map (·.1)).Nodup → (∀ l ∈ lines, l.1 < 4096 ∧ l.2.length = 64) →
    ∃ t, exec (.mirrorApply r) s = .next t ∧ t = { s with mem := t.mem,
                                                          pairs := { s.pairs with log := s.pairs.log.set r none } } ∧
      (∀ l ∈ lines, Mem.readN t.mem (0x10080000 + r.val * 0xD0000 + 64 * l.1) 64 = l.2) ∧
      (∀ a, (∀ l ∈ lines, a < 0x10080000 + r.val * 0xD0000 + 64 * l.1 ∨ 0x10080000 + r.val * 0xD0000 + 64 * l.1 + 64 ≤ a) →
        Mem.read a t.mem = Mem.read a s.mem)))

/-- CORE_INSTRUCTION on a pair that runs: integer instructions of registers alone. The destination register takes the result
of the RISC-V rules (PRESUMED, log entry 12; x0 discards it), the pc moves on, the pair spends the CORE cycles of R92 from the
CORE edge at which the instruction issues, and its next instruction issues after them; nothing else changes. CORE_INSTRUCTION:
a load from the pair's own D-TCM takes its bytes least significant first in 2 CORE cycles, and a store writes them in 1 and
changes no other byte of any memory (R92, R94). -/
def Obligations.CoreExecution : Prop :=
  (
  ∀ (s : State) (p : Fin 9) (rd rs1 rs2 : Fin 32) (a b : DWord), s.alive = true → s.pairs.p[p].isolated = false →
    s.pairs.p[p].debugHalt = false → (s.pairs.running = true → p.val ≠ s.pairs.spare.val) → s.pairs.p[p].core.wfi = false →
    a = s.pairs.p[p].core.get rs1 → b = s.pairs.p[p].core.get rs2 →
    exec (.coreInstruction p false (.alu .add rd rs1 rs2) (.ok, .ok)) s = .next (s.modCore p fun c =>
      { c.put rd (a + b) with pc := c.pc + 4, cycles := c.cycles + 1, instret := c.instret + 1, at_ := (max s.now c.at_ + 3) / 4 * 4 + 4 }) ∧
    exec (.coreInstruction p true (.alu .sub rd rs1 rs2) (.ok, .ok)) s = .next (s.modCore p fun c =>
      { c.put rd (a - b) with pc := c.pc + 2, cycles := c.cycles + 1, instret := c.instret + 1, at_ := (max s.now c.at_ + 3) / 4 * 4 + 4 }) ∧
    exec (.coreInstruction p false (.mul .mul rd rs1 rs2) (.ok, .ok)) s = .next (s.modCore p fun c =>
      { c.put rd (a * b) with pc := c.pc + 4, cycles := c.cycles + 4, instret := c.instret + 1, at_ := (max s.now c.at_ + 3) / 4 * 4 + 16 }) ∧
    exec (.coreInstruction p false (.mul .divu rd rs1 rs2) (.ok, .ok)) s = .next (s.modCore p fun c =>
      { c.put rd (if b = 0 then BitVec.allOnes 64 else a / b) with
        pc := c.pc + 4, cycles := c.cycles + 34, instret := c.instret + 1, at_ := (max s.now c.at_ + 3) / 4 * 4 + 136 }) ∧
    (∀ off : BitVec 13, exec (.coreInstruction p false (.branch .eq rs1 rs2 off) (.ok, .ok)) s = .next (s.modCore p fun c =>
      { c with pc := if a = b then c.pc + off.signExtend 64 else c.pc + 4, cycles := c.cycles + (if a = b then 2 else 1),
               instret := c.instret + 1, at_ := (max s.now c.at_ + 3) / 4 * 4 + 4 * (if a = b then 2 else 1) })) ∧
    (∀ off : BitVec 12, exec (.coreInstruction p false (.jalr rd rs1 off) (.ok, .ok)) s = .next (s.modCore p fun c =>
      { c.put rd (c.pc + 4) with pc := (a + off.signExtend 64) &&& ~~~1#64, cycles := c.cycles + 3, instret := c.instret + 1,
                                 at_ := (max s.now c.at_ + 3) / 4 * 4 + 12 }))) ∧
  (
  ∀ (s : State) (p : Fin 9) (rd rs1 rs2 : Fin 32) (off : BitVec 12) (o : Nat), Inv s → s.alive = true →
    s.pairs.p[p].isolated = false → s.pairs.p[p].debugHalt = false → (s.pairs.running = true → p.val ≠ s.pairs.spare.val) →
    s.pairs.p[p].core.wfi = false →
    (s.pairs.p[p].core.get rs1 + off.signExtend 64).toNat = 0x08100000 + o → o < 0x40000 → o % 8 = 0 →
    exec (.coreInstruction p false (.load .d rd rs1 off) (.ok, .ok)) s = .next (s.modCore p fun c =>
      { c.put rd (BitVec.ofNat 64 (Mem.le s.pairs.p[p].dtcm o 8)) with
        pc := c.pc + 4, cycles := c.cycles + 2, instret := c.instret + 1, at_ := (max s.now c.at_ + 3) / 4 * 4 + 8 }) ∧
    (∃ t, exec (.coreInstruction p false (.store .d rs1 rs2 off) (.ok, .ok)) s = .next t ∧ t = { s with pairs := t.pairs } ∧
      Mem.le t.pairs.p[p].dtcm o 8 = (s.pairs.p[p].core.get rs2).toNat ∧
      (∀ a, (a < o ∨ o + 8 ≤ a) → Mem.read a t.pairs.p[p].dtcm = Mem.read a s.pairs.p[p].dtcm) ∧
      t.pairs.p[p].core = { s.pairs.p[p].core with pc := s.pairs.p[p].core.pc + 4, cycles := s.pairs.p[p].core.cycles + 1,
                                                   instret := s.pairs.p[p].core.instret + 1,
                                                   at_ := (max s.now s.pairs.p[p].core.at_ + 3) / 4 * 4 + 4 } ∧
      t.pairs.p[p].itcm = s.pairs.p[p].itcm ∧ (∀ q : Fin 9, q ≠ p → t.pairs.p[q] = s.pairs.p[q])))

/-- Traps and the return from one on a pair (PRESUMED, log entry 12): ECALL, EBREAK, an illegal instruction and a misaligned
load save the pc and the cause, clear MIE and go to the vector in machine mode; MRET in machine mode restores MIE and the mode
and goes to mepc; an MRET in user mode, a WFI in user mode with TW and a reserved rounding mode are illegal instructions. A
CSR write of mscratch in machine mode exchanges it with a register (R91). -/
def Obligations.CoreTraps : Prop :=
  ∀ (s : State) (p : Fin 9) (c : Core), s.alive = true → s.pairs.p[p].isolated = false → s.pairs.p[p].debugHalt = false →
    (s.pairs.running = true → p.val ≠ s.pairs.spare.val) → s.pairs.p[p].core = c → c.wfi = false →
    (∀ i code tval, (i, code, tval) ∈ [(CoreInstr.ecall, (if c.machine then 11#64 else 8#64), 0#64), (.ebreak, 3#64, c.pc),
        (.illegal, 2#64, 0#64)] →
      exec (.coreInstruction p false i (.ok, .ok)) s = .next (s.modCore p fun c =>
        { c with mepc := c.pc, mcause := code, mtval := tval, mpie := c.mie, mie := false, mpp := c.machine, machine := true,
                 pc := c.mtvec &&& ~~~3#64, cycles := c.cycles + 8, at_ := (max s.now c.at_ + 3) / 4 * 4 + 32 })) ∧
    (∀ (rd rs1 : Fin 32) (off : BitVec 12), (c.get rs1 + off.signExtend 64).toNat % 8 ≠ 0 →
      exec (.coreInstruction p false (.load .d rd rs1 off) (.ok, .ok)) s = .next (s.modCore p fun c =>
        { c with mepc := c.pc, mcause := 4, mtval := c.get rs1 + off.signExtend 64, mpie := c.mie, mie := false,
                 mpp := c.machine, machine := true, pc := c.mtvec &&& ~~~3#64, cycles := c.cycles + 8,
                   at_ := (max s.now c.at_ + 3) / 4 * 4 + 32 })) ∧
    (c.machine = true →
      ∃ t, exec (.coreInstruction p false .mret (.ok, .ok)) s = .next t ∧ t = { s with free := s.free + 1, pairs := t.pairs } ∧
        t.pairs.p[p].core = { c with pc := c.mepc, mie := c.mpie, mpie := true, machine := c.mpp, mpp := false,
                                     mprv := c.mprv && c.mpp, cycles := t.pairs.p[p].core.cycles, instret := c.instret + 1,
                                     at_ := t.pairs.p[p].core.at_ }) ∧
    (c.machine = false →
      ∃ t, exec (.coreInstruction p false .mret (.ok, .ok)) s = .next t ∧ t = { s with pairs := t.pairs } ∧
        t.pairs.p[p].core.mcause = 2 ∧ t.pairs.p[p].core.mepc = c.pc ∧ t.pairs.p[p].core.machine = true) ∧
    (∀ i : CoreInstr, (i = .wfi ∧ c.machine = false ∧ c.tw = true ∨
        ∃ dbl rm rd rs1 rs2 rs3, i = .fp .add dbl rm rd rs1 rs2 rs3 ∧ (rm.val = 5 ∨ rm.val = 6)) →
      exec (.coreInstruction p false i (.ok, .ok)) s = .next (s.modCore p fun c =>
        { c with mepc := c.pc, mcause := 2, mtval := 0, mpie := c.mie, mie := false, mpp := c.machine, machine := true,
                 pc := c.mtvec &&& ~~~3#64, cycles := c.cycles + 8, at_ := (max s.now c.at_ + 3) / 4 * 4 + 32 })) ∧
    (∀ (rd rs1 : Fin 32), c.machine = true →
      exec (.coreInstruction p false (.csr .rw rd rs1 0x340#12) (.ok, .ok)) s = .next (s.modCore p fun c =>
        { c.put rd c.mscratch with mscratch := c.get rs1, pc := c.pc + 4, cycles := c.cycles + 3, instret := c.instret + 1,
                                   at_ := (max s.now c.at_ + 3) / 4 * 4 + 12 }))

/-- FABRIC_REQUEST on system SRAM that the checks of R98 pass: a read answers the bytes least significant first and changes no
memory, a write stores exactly its bytes and breaks the reservations of others on them, an AMO answers the old value and
stores the new one (R93, R98, R103). LR takes a reservation of its 64-byte granule; SC stores and answers 0 while the
reservation stands, and stores nothing and answers 1 without one; either way the reservation is gone (R103). -/
def Obligations.FabricAccess : Prop :=
  (
  ∀ (s : State) (who : Initiator) (a : Addr) (g : Nat), Inv s → s.acts who = true → 0x105B0000 ≤ a.toNat →
    a.toNat + 64 ≤ 0x107C0000 →
    isBe who = false → s.regionOk who a.toNat 8 false = true →
    s.regionOk who a.toNat 8 true = true →
    (∀ q : FabReq, q = { kind := .read, addr := a, size := 8, data := [], ecc := .ok, line := 0 } →
      s.grantAt who q s.now = some g →
      ∃ t, exec (.fabricRequest who q) s = .next t ∧ t = { s with fab := { s.fab with answers := t.fab.answers } } ∧
      Tbl.get? who.code t.fab.answers = some { data := Mem.le s.mem a.toNat 8, err := false, pos := g / 10 % 256, grant := g,
                                               ready := g + 140 }) ∧
    (∀ (bs : List Byte) (q : FabReq), bs.length = 8 →
      q = { kind := .write, addr := a, size := 8, data := bs, ecc := .ok, line := 0 } → s.grantAt who q s.now = some g →
      ∃ t, exec (.fabricRequest who q) s = .next t ∧
        t = { s with mem := t.mem, fab := { s.fab with answers := t.fab.answers, resv := t.fab.resv } } ∧
        Mem.readN t.mem a.toNat 8 = bs ∧
        (∀ b, (b < a.toNat ∨ a.toNat + 8 ≤ b) → Mem.read b t.mem = Mem.read b s.mem) ∧
        (∀ w x, w ≠ who.code → (w, x) ∈ t.fab.resv → (w, x) ∈ s.fab.resv ∧ x ≠ a.toNat / 64) ∧
        (∃ r, Tbl.get? who.code t.fab.answers = some r ∧ r.err = false ∧ r.ready = g + 20)) ∧
    (∀ (x : DWord) (q : FabReq), q = { kind := .amo .add, addr := a, size := 8, data := toLe 8 x.toNat, ecc := .ok,
                                       line := 0 } →
      s.grantAt who q s.now = some g →
      ∃ t r, exec (.fabricRequest who q) s = .next t ∧
        Tbl.get? who.code t.fab.answers = some r ∧ r.data = Mem.le s.mem a.toNat 8 ∧ r.err = false ∧
        Mem.le t.mem a.toNat 8 = (Mem.le s.mem a.toNat 8 + x.toNat) % 2 ^ 64 ∧
        (∀ b, (b < a.toNat ∨ a.toNat + 8 ≤ b) → Mem.read b t.mem = Mem.read b s.mem))) ∧
  (
  ∀ (s : State) (who : Initiator) (a : Addr) (g : Nat) (bs : List Byte), Inv s → s.acts who = true → 0x105B0000 ≤ a.toNat →
    a.toNat + 64 ≤ 0x107C0000 → isBe who = false → s.regionOk who a.toNat 8 false = true →
    s.regionOk who a.toNat 8 true = true → bs.length = 8 →
    (∀ q : FabReq, q = { kind := .lr, addr := a, size := 8, data := [], ecc := .ok, line := 0 } →
      s.grantAt who q s.now = some g →
      ∃ t, exec (.fabricRequest who q) s = .next t ∧
      t = { s with fab := { s.fab with answers := t.fab.answers, resv := t.fab.resv } } ∧
      (who.code, a.toNat / 64) ∈ t.fab.resv) ∧
    (∀ q : FabReq, q = { kind := .sc, addr := a, size := 8, data := bs, ecc := .ok, line := 0 } →
      s.grantAt who q s.now = some g →
      (who.code, a.toNat / 64) ∈ s.fab.resv →
      ∃ t r, exec (.fabricRequest who q) s = .next t ∧
        Tbl.get? who.code t.fab.answers = some r ∧ r.data = 0 ∧ Mem.readN t.mem a.toNat 8 = bs ∧
        (∀ x, (who.code, x) ∉ t.fab.resv)) ∧
    (∀ q : FabReq, q = { kind := .sc, addr := a, size := 8, data := bs, ecc := .ok, line := 0 } →
      s.grantAt who q s.now = some g →
      (who.code, a.toNat / 64) ∉ s.fab.resv →
      ∃ t r, exec (.fabricRequest who q) s = .next t ∧
        Tbl.get? who.code t.fab.answers = some r ∧ r.data = 1 ∧ t.mem = s.mem ∧ (∀ x, (who.code, x) ∉ t.fab.resv)))

/-- A fabric access error (R98): a request without a target, a request to the master copies and one that no region grants
change no memory, answer an error, fill the error record only when it is empty, assert source 48 and write an entry. A request
of a best-effort initiator waits until its table gives it a position, and one that no slot ever takes has no effect (R100,
R104). -/
def Obligations.FabricErrors : Prop :=
  (∀ (s : State) (who : Initiator) (q : FabReq) (g cause : Nat), s.acts who = true → s.grantAt who q s.now = some g →
    isBe who = false → s.sil.queue.length < 64 →
    ((targetOf q.addr.toNat = .unmapped ∧ cause = 3) ∨
      (0x10000000 ≤ q.addr.toNat ∧ q.addr.toNat < 0x105B0000 ∧ cause = 1) ∨
      (0x105B0000 ≤ q.addr.toNat ∧ q.addr.toNat < 0x107C0000 ∧ cause = 0 ∧
        s.regionOk who q.addr.toNat q.size (kindWrites q.kind) = false)) →
    ∃ t e r, exec (.fabricRequest who q) s = .next t ∧ t = { s with fab := t.fab, hub := t.hub, sil := t.sil,
                                                                    setBits := t.setBits } ∧
      Tbl.get? who.code t.fab.answers = some r ∧ r.err = true ∧ t.fab.errValid = true ∧
      (s.fab.errValid = false → t.fab.errCause = cause ∧ t.fab.errOwner = who.code ∧ t.fab.errAddr = q.addr.toNat) ∧
      (s.fab.errValid = true → t.fab.errCause = s.fab.errCause ∧ t.fab.errAddr = s.fab.errAddr) ∧
      t.sil.queue = s.sil.queue ++ [e] ∧ e.num = 48 ∧ e.cls = 3 ∧ t.fab.resv = s.fab.resv) ∧
  (∀ (s : State) (who : Initiator) (q : FabReq), s.acts who = true → isBe who = true → s.acc.locked = true →
    s.fab.waiting = [] →
    ∃ t, exec (.fabricRequest who q) s = .next t ∧ t.now = s.now ∧
      (t.fab.waiting = [(who, q)] ∨ t.fab.waiting = [] ∧ s.fab.beNames who = true ∧
        ∃ r, Tbl.get? who.code t.fab.answers = some r ∧ s.now ≤ r.grant)) ∧
  (∀ (s : State) (who : Initiator) (q : FabReq), s.acts who = true → isBe who = false → s.grantAt who q s.now = none →
    exec (.fabricRequest who q) s = .next s)

/-- LOCKSTEP_FAILURE of the one pair of a role while the spare is free: the pair is isolated, FAILED sets, the role's event
target is held and the module runs on (R111, R120, R444); when two pairs fail in one cycle it enters SAFE_HOLD (R121).
MIGRATION_COMMAND for a role whose pair has failed arms the migration; MIGRATION places the role on the spare at the first top
tick at least 16 FAB cycles later and increments its epoch; MIGRATION_RESUME releases the spare from the master copy with DONE
and source 51, and the held deliveries follow (R116, R117, R126, R444); what a program or the district services role then does
again stands in `resumeWork` (R118, R122). -/
def Obligations.LockstepAndMigration : Prop :=
  (
  (∀ (s : State) (p : Fin 8) (r : Fin 7), s.alive = true → s.pairs.failed[p] = false → s.pairs.spareRole = 15 →
    s.pairs.committed = false → p ≠ s.pairs.spare → s.pairs.roleOf p = some r →
    ∃ t, exec (.lockstepFailure [p]) s = .next t ∧ t = { s with pairs := t.pairs, hub := t.hub, sil := t.sil,
                                                                setBits := t.setBits } ∧
      t.pairs.failed = s.pairs.failed.set p true ∧ t.pairs.p[p.castSucc].isolated = true ∧
      (∀ q : Fin 9, q ≠ p.castSucc → t.pairs.p[q] = s.pairs.p[q]) ∧ t.pairs.place = s.pairs.place ∧
      t.hub.tgt[(⟨r.val, by omega⟩ : Fin 9)].held = true) ∧
  (∀ (s : State) (p q : Fin 8), s.alive = true → p ≠ q → s.pairs.failed[p] = false → s.pairs.failed[q] = false →
    s.mayHold = true →
    ∃ t, exec (.lockstepFailure [p, q]) s = .next t ∧ t.pairs.armed = false ∧ t.sys.state = .safeHold ∧ t.pwr.faultN = true ∧
      t.pairs.failed[p] = true ∧
      t.pairs.failed[q] = true ∧ t.mem = s.mem ∧ t.now = s.now ∧ t.pending = s.pending)) ∧
  (
  (∀ (s : State) (who : Initiator) (v : Word) (r : Fin 7), s.acts who = true → isSuperSec who = true →
    v.getLsbD 8 = true → (v.extractLsb' 0 3).toNat = r.val → s.pairs.failed[s.pairs.place[r]] = true → s.pairs.spareRole = 15 →
    s.pairs.armed = false → s.pairs.running = false → s.pairs.broken = false →
    exec (.migrationCommand who v) s = .next { s with pairs := { s.pairs with
      armed := true, done := false, migRole := r.val, armedAt := s.now } }) ∧
  (∀ (s : State) (r : Fin 7), s.notesRun = true → s.fs.started = true → s.pairs.broken = false → s.pairs.armed = true →
    s.pairs.migRole = r.val →
    s.pairs.armedAt + 160 ≤ s.fs.tickAt →
    ∃ t, exec .migration s = .next t ∧ t = { s with pairs := t.pairs, hub := t.hub, setBits := t.setBits } ∧
      t.pairs = { s.pairs with place := s.pairs.place.set r s.pairs.spare, spareRole := r.val, armed := false, running := true,
                               migAt := s.fs.tickAt, epoch := s.pairs.epoch.set r ((s.pairs.epoch[r] + 1) % 65536) } ∧
      t.hub.tgt[(⟨r.val, by omega⟩ : Fin 9)].stack = []) ∧
  (∀ (s : State) (r : Fin 7), s.alive = true → s.pairs.running = true → s.pairs.broken = false → s.pairs.migRole = r.val →
    s.pairs.log[r] = none →
    ∃ t u, exec (.migrationResume .ok) s = .next u ∧ u = t.resumeWork r ∧
      (r.val ∉ [1, 2, 3, 4, 5] → u = t) ∧
      t = { s with now := t.now, pairs := t.pairs, hub := t.hub, setBits := t.setBits } ∧
      t.now = max s.now (s.pairs.migAt + 122970) ∧ t.pairs.running = false ∧ t.pairs.done = true ∧
      t.hub.tgt[(⟨r.val, by omega⟩ : Fin 9)].held = false ∧
      (∀ o, o < 0x40000 →
        Mem.read o t.pairs.p[s.pairs.spare.castSucc].dtcm = Mem.read (0x10080000 + r.val * 0xD0000 + o) s.mem) ∧
      t.pairs.p[s.pairs.spare.castSucc].core.machine = true ∧ t.pairs.place = s.pairs.place ∧ t.pairs.epoch = s.pairs.epoch))

/-- SOLVER_SUBMIT queues a descriptor in the job area at the tail, or at the head when URGENT, up to 16; a submission to a
disabled engine, of an offset outside the area, or to a full queue is not queued and sets its error bit (R153).
DESCRIPTOR_FETCH reads the head's 64 bytes 14 FAB cycles and 1 SOLV cycle after the engine's own slot (R154). SOLVER_JOB_START
of a fetched descriptor, once the amended values that wait are written (R159): one that fails a check of R150 posts
BAD_DESCRIPTOR with its cause, one whose stop instant falls within its set-up time posts DEADLINE_PRIOR (R194), any other
starts with no iterate held, and without a FACT when it keeps its factor (R147, R150, R154, R168, R176, R182). The job leaves
the queue in every case. COOP_JOB_START takes the head of every member of the group in one cycle, and of no other engine
(R161); COOP_TIMEOUT posts CANCELLED with COOP_ERR (R161). -/
def Obligations.SolverJobs : Prop :=
  (
  (∀ (s : State) (who : Initiator) (n : Fin 4) (v : Word) (o : Nat), s.acts who = true → s.granted who (0x10 + n.val) = true →
    o = (v.extractLsb' 6 17).toNat * 64 →
    (s.se[n].enable = true → 0x5B0000 ≤ o → o + 64 ≤ 0x7C0000 → s.se[n].queue.length < 16 → v.getLsbD 0 = false →
      exec (.solverSubmit who n v) s = .next { s with se := s.se.set n ({ s.se[n] with
        queue := s.se[n].queue ++ [{ ofs := o, got := none, at_ := s.now }] }) }) ∧
    (s.se[n].enable = true → 0x5B0000 ≤ o → o + 64 ≤ 0x7C0000 → s.se[n].queue.length < 16 → v.getLsbD 0 = true →
      ∃ t, exec (.solverSubmit who n v) s = .next t ∧ t = { s with se := t.se } ∧
        t.se[n].queue.map (·.ofs) = o :: s.se[n].queue.map (·.ofs) ∧ t.se[n].queue.all (fun q => q.got.isNone) = true) ∧
    (s.se[n].enable = false →
      ∃ t, exec (.solverSubmit who n v) s = .next t ∧ t = { s with se := t.se, hub := t.hub, setBits := t.setBits } ∧
        t.se = s.se.set n ({ s.se[n] with refused := true })) ∧
    (s.se[n].enable = true → 0x5B0000 ≤ o → o + 64 ≤ 0x7C0000 → 16 ≤ s.se[n].queue.length →
      ∃ t, exec (.solverSubmit who n v) s = .next t ∧ t = { s with se := t.se, hub := t.hub, setBits := t.setBits } ∧
        t.se = s.se.set n ({ s.se[n] with qfull := true })) ∧
    (s.se[n].enable = true → (o < 0x5B0000 ∨ 0x7C0000 < o + 64) →
      ∃ t, exec (.solverSubmit who n v) s = .next t ∧ t = { s with se := t.se, hub := t.hub, setBits := t.setBits } ∧
        t.se = s.se.set n ({ s.se[n] with badDesc := true }))) ∧
  (∀ (s : State) (n : Fin 4) (o g k : Nat) (rest : List Queued), s.alive = true →
    s.se[n].queue = { ofs := o, got := none, at_ := k } :: rest →
    s.nextSlot (9 + n.val) (s.now + 10) (fun _ => true) = some g →
    exec (.descriptorFetch n) s = .next { s with se := s.se.set n ({ s.se[n] with
      queue := { ofs := o, got := some (s.descAt o, g + 145), at_ := k } :: rest }) })) ∧
  (
  (∀ (s b : State) (n : Fin 4) (o at_ k sh : Nat) (d : Desc) (rest : List Queued), s.solving = true →
    s.se[n].canStart = true → s.se[n].queue = { ofs := o, got := some (d, at_), at_ := k } :: rest →
    s.waitsForGroup n d = false → b = ({ s with now := max s.now s.se[n].startsAt }).solveAmends n →
    sh = (if d.shift = true ∧ b.warmValid n d = true ∧ noIter d.program = false then b.shiftCost n d.problem else 0) →
    (b.descCause n d ≠ 0 →
      ∃ t r, exec (.solverJobStart n) s = .next t ∧ t = { b with se := t.se, hub := t.hub } ∧
        t.se[n].queue = rest ∧ t.se[n].job = none ∧ t.se[n].descCause = b.descCause n d ∧
        t.se[n].out = insertOut r s.se[n].out ∧ r.status = 6 ∧ ∀ m : Fin 4, m ≠ n → t.se[m] = s.se[m]) ∧
    (b.descCause n d = 0 → b.stopAt d < s.se[n].startsAt + (32 + sh) * 5 →
      ∃ t r, exec (.solverJobStart n) s = .next t ∧ t = { b with se := t.se } ∧ t.se[n].queue = rest ∧
        t.se[n].job = none ∧ t.se[n].out = insertOut r s.se[n].out ∧ r.status = 3 ∧
        ∀ m : Fin 4, m ≠ n → t.se[m] = s.se[m]) ∧
    (b.descCause n d = 0 → s.se[n].startsAt + (32 + sh) * 5 ≤ b.stopAt d →
      ∃ t j, exec (.solverJobStart n) s = .next t ∧ t = { b with se := t.se, mem := t.mem } ∧
        t.se[n].queue = rest ∧ t.se[n].job = some j ∧ j.d = d ∧ j.ofs = o ∧ j.iters = 0 ∧ j.held = none ∧ j.sat = 0 ∧
        j.piv = 0 ∧ j.cancel = none ∧ j.startAt = s.se[n].startsAt ∧
        j.keep = (d.keep && d.cls == 1 && (b.se[n].cached d.problem).1) ∧ (j.keep = true → ∀ x ∈ j.ops, x.isFact = false) ∧
        (d.inPtr = 0 → d.auxPtr = 0 → sh = 0 → j.cycles = 32 ∧ (d.warmSlot = 0xFF → j.warm = false ∧
          j.start = b.startWords n d)) ∧
        ∀ m : Fin 4, m ≠ n → t.se[m] = s.se[m])) ∧
  (∀ (s : State) (n : Fin 4) (d : Desc) (x : Nat), s.solving = true → s.se[n].head = some d → s.waitsForGroup n d = true →
    s.groupReady d = true → x = ((members d.coop).map fun m => s.se[m].startsAt).foldl max 0 →
    ∃ t, exec (.coopJobStart n) s = .next t ∧ t = { s with now := max s.now x, se := t.se, hub := t.hub, mem := t.mem } ∧
      ∀ m : Fin 4, if bitAt d.coop m.val then
          t.se[m].queue = s.se[m].queue.tail ∧
            ((∃ j, t.se[m].job = some j ∧ j.startAt = x) ∨ t.se[m].out.length = s.se[m].out.length + 1)
        else t.se[m] = s.se[m]) ∧
  (∀ (s : State) (n : Fin 4) (o at_ k : Nat) (d : Desc) (rest : List Queued), s.solving = true →
    s.se[n].queue = { ofs := o, got := some (d, at_), at_ := k } :: rest → s.waitsForGroup n d = true →
    s.groupReady d = false → bitAt d.coop n.val = true → s.se[n].job = none → s.stopAt d ≤ s.noteEnd →
    ∃ t r, exec (.coopTimeout n) s = .next t ∧ t = { s with now := t.now, se := t.se, setBits := t.setBits } ∧
      t.now = max s.now (s.stopAt d) ∧ t.se[n].queue = rest ∧ t.se[n].coopErr = true ∧
      t.se[n].out = insertOut r s.se[n].out ∧ r.status = 4))

/-- SOLVER_OPERATION completes the next operation of the job's program in its own cycle: VADD of vectors of one scale writes
the exact sums where none saturates, in V(n) + 4 cycles beyond those of the iteration (R133, R144, R147); an operation that
finds the saturation limit exceeded outside FACT ends the job RANGE_FAULT, but not in the stop cycle, which the stop instant
takes (R188, R189, R208). SOLVER_MEMORY_FAULT sets DMA_ERR and ends the job RANGE_FAULT (R165, R191). -/
def Obligations.SolverOperations : Prop :=
  (∀ (s : State) (n : Fin 4) (j : Job) (d x y c : Nat) (rest : List SolverOp) (sums : List Int), Inv s → s.solving = true →
    s.se[n].job = some j → j.ops = .vadd d x y :: rest → j.old = [] →
    (∀ i, i = d ∨ i = x ∨ i = y → (s.blk n j.d.problem i).kind = 0 ∧ (s.blk n j.d.problem i).rows = sums.length ∧
      (s.blk n j.d.problem i).scale = (s.blk n j.d.problem d).scale) →
    sums = ((s.words (s.blk n j.d.problem x)).zip (s.words (s.blk n j.d.problem y))).map (fun p => p.1 + p.2) →
    (∀ v ∈ sums, saturates v = false) → (s.blk n j.d.problem d).base + 4 * sums.length ≤ seBase n + 0x77C000 →
    sums.length ≤ 16384 → j.sat < 2 ^ 32 → j.sat - j.satBase ≤ j.d.satLimit →
    c = j.cycles + s.leadCost n j + (ceilDiv sums.length 64 + 4) → s.reaches j c = true →
    ∃ t, exec (.solverOperation n 0) s = .next t ∧ t = { s with now := max s.now (j.cycleAt c), se := t.se, mem := t.mem,
                                                                fab := t.fab } ∧
      Mem.s32s t.mem (s.blk n j.d.problem d).base sums.length = sums ∧
      t.se[n].job = some { j with cycles := c, ops := rest } ∧ (∀ m : Fin 4, m ≠ n → t.se[m] = s.se[m]) ∧
      ∀ a, a < (s.blk n j.d.problem d).base ∨ (s.blk n j.d.problem d).base + 4 * sums.length ≤ a →
        a < seBase n + 0x77C000 ∨ seBase n + 0x800000 ≤ a → Mem.read a t.mem = Mem.read a s.mem) ∧
  (∀ (s : State) (n : Fin 4) (j : Job) (x c k : Nat) (rest : List SolverOp), s.solving = true → s.se[n].job = some j →
    j.d.coop = 0 → j.ops = .loadg x :: rest → j.old = [] → j.sat < 2 ^ 32 → j.d.satLimit < j.sat - j.satBase →
    s.se[n].draining = false → c = j.cycles + s.leadCost n j + (ceilDiv (s.blk n j.d.problem x).len 64 + 6) →
    s.reaches j c = true →
    (c < s.stopCycles j →
      ∃ t r, exec (.solverOperation n k) s = .next t ∧
        t = { s with now := t.now, se := t.se, mem := t.mem, fab := t.fab, hub := t.hub, sil := t.sil, setBits := t.setBits } ∧
        t.now = max s.now (j.cycleAt c) ∧ t.se[n].job = none ∧ t.se[n].out = insertOut r s.se[n].out ∧ r.status = 5 ∧
        ∀ m : Fin 4, m ≠ n → t.se[m].job.isSome = s.se[m].job.isSome ∧ t.se[m].out = s.se[m].out) ∧
    (c = s.stopCycles j →
      ∃ t, exec (.solverOperation n k) s = .next t ∧ t = { s with now := t.now, se := t.se, mem := t.mem, fab := t.fab } ∧
        t.se[n].job = some { j with cycles := c, ops := rest })) ∧
  (∀ (s : State) (n : Fin 4) (j : Job) (e : MemErr), s.solving = true → s.se[n].job = some j → j.d.coop = 0 →
    s.se[n].draining = false →
    ∃ t r, exec (.solverMemoryFault (n, e)) s = .next t ∧
      t = { s with se := t.se, mem := t.mem, fab := t.fab, hub := t.hub, sil := t.sil, setBits := t.setBits, free := t.free } ∧
      (j.old = [] → t.free = s.free) ∧ t.se[n].dmaErr = true ∧ t.se[n].job = none ∧ t.se[n].out = insertOut r s.se[n].out ∧ r.status = 5 ∧
      ∀ m : Fin 4, m ≠ n → t.se[m].job.isSome = s.se[m].job.isSome ∧ t.se[m].out = s.se[m].out)

/-- ITERATION_BOUNDARY of a job that runs alone, whatever its program, once the operations of its iteration are done: the job
ends with the status of R173, R174, R201 and R202 and one record more, or goes on with one iteration more and the better of
the two iterates (R168 to R171); RICCATI forms the residual of its iterate first (R169, R199; without cycles of its own, log
entry 55). A HYD_NEWTON job of the continuing class ends CONVERGED on a converged iterate. SOLVER_STOP_INSTANT in the present
top note, once all that ends by its cycle is taken, ends the job DEADLINE_BEST with its held best or DEADLINE_PRIOR without
one, and CANCELLED when a cancel is pending (R195 to R198, R203). RESULT_RECORD_HANDOVER posts the oldest record to the
engine's producer in its cycle and counts it (R151, R156). SOLVER_WITHDRAW of a queued job posts it CANCELLED, of the running
job makes a cancel pending, and of a job that is not there sets WITHDRAW_MISS (R155, R157); SOLVER_CANCEL marks the running
job (R201), and both show as CANCEL alone in its closing sequence (R155, R166); SOLVER_DISABLE of an idle engine posts every
queued job CANCELLED and refuses one submitted in the same PERI cycle (R156, R157); HEADROOM_CLEAR of an idle engine clears
the headroom table, of a busy one waits (R138); SOLVE_AMENDMENT_WRITE invalidates the cached factors of the amended problems
once no job of them runs and no job of the dispatch that was submitted with the old values waits (R31, R159, R183). -/
def Obligations.SolverEnds : Prop :=
  (
  (∀ (s v : State) (n : Fin 4) (j i : Job) (b : Bound) (c : Nat), s.solving = true → s.se[n].job = some j → j.d.coop = 0 →
    j.ops = [] → j.rangePend = none → s.se[n].draining = false → v = s.evalRes [n] → v.se[n].job = some i →
    b = v.bound n j [n] → c = v.boundCycle n b → v.reaches i c = true →
    (∀ k st, k = v.boundaryJob n j b (j.cycleAt c) → k.endsAt b.conv j.cancel.isSome = some st →
        (∀ x, j.cancel = some x → x < j.cycleAt c) →
      ∃ t r, exec (.iterationBoundary n) s = .next t ∧ t = { s with now := t.now, se := t.se, mem := t.mem, fab := t.fab } ∧
        t.now = max s.now (j.cycleAt c) ∧ t.se[n].job = none ∧ t.se[n].out = insertOut r s.se[n].out ∧ r.status = st ∧
        ∀ m : Fin 4, m ≠ n → t.se[m].job.isSome = s.se[m].job.isSome ∧ t.se[m].out = s.se[m].out) ∧
    (∀ k, k = v.boundaryJob n i b (j.cycleAt c) → (v.boundaryJob n j b (j.cycleAt c)).endsAt b.conv j.cancel.isSome = none →
        (∀ x, j.cancel = some x → x < j.cycleAt c) →
      ∃ t, exec (.iterationBoundary n) s = .next t ∧ t = { v with now := max s.now (j.cycleAt c), se := t.se } ∧
        t.se[n].job = some k ∧ k.iters = min (j.iters + 1) 65535 ∧ k.d = j.d ∧ k.sat = i.sat ∧
        (j.d.program ≠ 4 → v = s ∧ i = j) ∧
        (j.held = none → ∃ h, k.held = some h ∧ h.primal = b.primal ∧ h.words = v.iterate n j.d.problem) ∧
        (∀ h, j.held = some h → h.key ≤ b.key → k.held = some h) ∧ ∀ m : Fin 4, m ≠ n → t.se[m] = v.se[m]) ∧
    (j.d.program = 7 → j.d.cls = 1 → s.scalar n j.d.problem (s.problem n j.d.problem).primal ≤ j.d.tolP →
      ∃ t r, exec (.iterationBoundary n) s = .next t ∧ t = { s with now := t.now, se := t.se, mem := t.mem, fab := t.fab } ∧
        t.se[n].job = none ∧ t.se[n].out = insertOut r s.se[n].out ∧ r.status = 0)) ∧
  (∀ (s : State) (n : Fin 4) (j : Job), s.solving = true → s.se[n].job = some j → j.d.coop = 0 → j.rangePend = none →
    s.se[n].draining = false → s.stopAt j.d ≤ s.noteEnd → s.stopDue [n] ((s.evalRes [n]).bound n j [n]) = true →
    (∀ x, j.cancel = some x → x < s.stopAt j.d) →
    ∀ cor, ∃ t r, exec (.solverStopInstant n cor) s = .next t ∧
      t = { s with now := t.now, se := t.se, mem := t.mem, fab := t.fab, free := t.free } ∧
      t.now = max s.now (s.stopAt j.d) ∧ t.se[n].job = none ∧ t.se[n].out = insertOut r s.se[n].out ∧
      r.status = (if j.cancel.isSome then 4 else if j.held.isSome then 2 else 3) ∧
      ∀ m : Fin 4, m ≠ n → t.se[m].job.isSome = s.se[m].job.isSome ∧ t.se[m].out = s.se[m].out)) ∧
  (
  (∀ (s : State) (n : Fin 4) (r : OutRec) (rest : List OutRec), s.alive = true → s.se[n].out = r :: rest →
    (s.fs.started = true → r.at_ ≤ s.noteEnd) →
    ∃ t, exec (.resultRecordHandover n) s = .next t ∧
      t = { s with now := t.now, mem := t.mem, se := t.se, fab := t.fab, hub := t.hub, setBits := t.setBits } ∧
      t.now = max s.now (max r.at_ (s.se[n].lastHand + 5)) ∧
      t.se[n].out = rest ∧ t.se[n].jobs = (s.se[n].jobs + 1) % 2 ^ 32 ∧ t.se[n].lastStatus = r.status ∧
      t.se[n].lastFlags = r.flags ∧ (s.se[n].hrPend = false → t.mem = s.mem) ∧
      (s.run.producer n.val = true → (s.fab.producer n.val).queue.length < 4 → (s.fab.producer n.val).held = [] →
        (t.fab.producer n.val).queue = (s.fab.producer n.val).queue ++ [r.post]) ∧
      ∀ m : Fin 4, m ≠ n → t.se[m] = s.se[m]) ∧
  (∀ (s : State) (who : Initiator) (n : Fin 4) (v : Word) (o : Nat), s.acts who = true → s.granted who (0x10 + n.val) = true →
    o = (v.extractLsb' 6 17).toNat * 64 →
    (∀ q pre rest, s.se[n].queue = pre ++ q :: rest → q.ofs = o → (∀ p ∈ pre, p.ofs ≠ o) →
      ∃ t r, exec (.solverWithdraw who n v) s = .next t ∧ t = { s with se := t.se } ∧ t.se[n].queue = pre ++ rest ∧
        t.se[n].out = insertOut r s.se[n].out ∧ r.status = 4 ∧ t.se[n].job = s.se[n].job ∧
        ∀ m : Fin 4, m ≠ n → t.se[m] = s.se[m]) ∧
    (∀ j, (∀ q ∈ s.se[n].queue, q.ofs ≠ o) → s.se[n].job = some j → j.ofs = o → (j.iters = 0 ∨ j.boundAt + 5 ≤ s.now) →
      ∃ t, exec (.solverWithdraw who n v) s = .next t ∧ t = { s with se := t.se, setBits := t.setBits } ∧
        t.se = s.se.set n ({ s.se[n] with
          job := some { j with cancel := some (j.cancel.getD s.now) }, cancelReq := true, quietEvt := true })) ∧
    ((∀ q ∈ s.se[n].queue, q.ofs ≠ o) → (∀ j, s.se[n].job = some j → j.ofs ≠ o) →
        (∀ x, s.se[n].out.find? (·.ran) = some x → x.ofs ≠ o) →
        (∀ e, s.se[n].lastEnd = some e → e.1 ≠ o ∨ e.2 + 5 ≤ s.now) →
      ∃ t, exec (.solverWithdraw who n v) s = .next t ∧ t = { s with se := t.se, setBits := t.setBits } ∧
        t.se = s.se.set n ({ s.se[n] with missed := true })) ∧
    (∀ x, (∀ q ∈ s.se[n].queue, q.ofs ≠ o) → s.se[n].job = none → s.se[n].out.find? (·.ran) = some x → x.ofs = o →
      ∃ t, exec (.solverWithdraw who n v) s = .next t ∧ t = { s with se := t.se, setBits := t.setBits } ∧
        t.se = s.se.set n ({ s.se[n] with cancelReq := true, quietEvt := true }))) ∧
  (∀ (s : State) (who : Initiator) (n : Fin 4), s.acts who = true → s.granted who (0x10 + n.val) = true →
    (∀ j, s.se[n].job = some j → (j.iters = 0 ∨ j.boundAt + 5 ≤ s.now) →
      ∃ t, exec (.solverCancel who n) s = .next t ∧ t = { s with se := t.se, setBits := t.setBits } ∧
        t.se = s.se.set n ({ s.se[n] with
          job := some { j with cancel := some (j.cancel.getD s.now) }, cancelReq := true, quietEvt := true })) ∧
    (s.se[n].job = none →
      ∃ t, exec (.solverDisable who n) s = .next t ∧ t = { s with se := t.se, hub := t.hub, setBits := t.setBits } ∧
        t.se[n].enable = false ∧ t.se[n].queue = [] ∧ t.se[n].job = none ∧
        t.se[n].out.length = s.se[n].out.length + (s.se[n].queue.filter fun q => q.at_ / 40 != s.now / 40).length ∧
        ∀ m : Fin 4, m ≠ n → t.se[m] = s.se[m]) ∧
    (∀ j, s.se[n].job = some j → (j.iters = 0 ∨ j.boundAt + 5 ≤ s.now) → (∀ q ∈ s.se[n].queue, q.at_ / 40 ≠ s.now / 40) →
      ∃ t, exec (.solverDisable who n) s = .next t ∧ t = { s with se := t.se, setBits := t.setBits } ∧
        t.se[n].enable = false ∧ t.se[n].draining = true ∧ t.se[n].queue = s.se[n].queue ∧
        t.se[n].job = some { j with cancel := some (j.cancel.getD s.now) }) ∧
    (s.se[n].running = false →
      ∃ t, exec (.headroomClear who n) s = .next t ∧ t = { s with se := t.se, mem := t.mem } ∧
        (∀ a, Mem.read a t.mem = if seBase n + 0x77C000 ≤ a ∧ a < seBase n + 0x780000 then 0 else Mem.read a s.mem) ∧
        ∀ m : Fin 4, t.se[m] = { s.se[m] with hrPend := t.se[m].hrPend }) ∧
    (s.se[n].running = true →
      ∃ t, exec (.headroomClear who n) s = .next t ∧ t = { s with se := t.se, setBits := t.setBits } ∧
        t.se = s.se.set n ({ s.se[n] with hrPend := true })) ∧
    (s.se[n].job = none → (s.se[n].out.any (·.ran)) = true →
      ∃ t, exec (.solverCancel who n) s = .next t ∧ t = { s with se := t.se, setBits := t.setBits } ∧
        t.se = s.se.set n ({ s.se[n] with cancelReq := true, quietEvt := true }))) ∧
  (∀ (s : State) (n : Fin 4) (r : AmdRecord) (due : Nat), s.alive = true → s.se[n].amends = [(r, due)] →
    (s.amendWaits n (r, due) = false →
      ∃ t, exec (.solveAmendmentWrite n) s = .next t ∧ t = { s with se := t.se, mem := t.mem } ∧ t.se[n].amends = [] ∧
        (∀ p, r.index ≤ p → p < r.index + r.count → (t.se[n].cached p).1 = false) ∧ t.se[n].job = s.se[n].job ∧
        t.se[n].queue = s.se[n].queue ∧ ∀ m : Fin 4, m ≠ n → t.se[m] = s.se[m]) ∧
    (s.amendWaits n (r, due) = true → exec (.solveAmendmentWrite n) s = .next s)))

/-- HYDRAULIC_ACCEPTANCE at the HYD_DL tick takes the words of an accepted record, or holds the network and counts the
rejection, BAD from HYD_HOLD rejections on (R216, R221); NETWORK_STATE_PUBLISH at the TRACK_TN tick publishes the networks; a
CONVERGED transport record makes the arrival temperatures GOOD and switches the selector, any other holds them (R217, R219,
R222). PROTECTION_TRIGGER submits one protection job due PROT_DL top notes later, and is latched while one is in flight
(R233); PROTECTION_ACCEPTANCE arms the clamped targets of a record that passes the checks of R229, arms nothing of one that is
missing at its deadline, and waits before it (R233, R234). -/
def Obligations.Dispatch : Prop :=
  (
  (∀ (s : State) (c : NetCfg) (x : NetState), s.planActs = true → s.plan.judged = false → s.fs.hpos = s.run.solve.hydDl →
    s.run.dist.nets = [c] → s.plan.nets = [x] →
    ∃ t y, exec .hydraulicAcceptance s = .next t ∧
      t = { s with plan := t.plan, se := t.se, mem := t.mem, fab := t.fab, hub := t.hub, sil := t.sil, setBits := t.setBits } ∧
      t.plan.judged = true ∧
      t.plan.nets = [y] ∧
      (∀ b, s.findRec c.hyd s.plan.hydTag = some b → leAt b 0 1 = 0 →
        y = { x with sol := s.jobWords c.hyd, fac := s.words (s.blk c.hyd.engine c.hyd.problem c.facBlk), quality := .good,
                     rejects := 0 }) ∧
      (s.findRec c.hyd s.plan.hydTag = none →
        y.sol = x.sol ∧ y.rejects = x.rejects + 1 ∧ y.quality ≠ .good ∧
        (s.run.solve.hydHold ≤ x.rejects + 1 → y.quality = .bad))) ∧
  (∀ (s : State) (c : NetCfg) (x : NetState), s.planActs = true → s.plan.published = false →
    s.fs.hpos = s.run.solve.trackTn → s.run.dist.nets = [c] → s.plan.nets = [x] →
    ∃ t y, exec .networkStatePublish s = .next t ∧ t.plan.published = true ∧ t.plan.nets = [y] ∧ t.plan.pub = [y] ∧
      t = { s with plan := t.plan, loops := t.loops, prog := t.prog, se := t.se, mem := t.mem, fab := t.fab, hub := t.hub,
                   sil := t.sil, setBits := t.setBits } ∧
      (s.disp = none → t = { s with plan := t.plan, loops := t.loops, prog := t.prog }) ∧ y.sol = x.sol ∧
        y.quality = x.quality ∧
      (∀ b, s.findRec c.tr s.plan.trTag = some b → leAt b 0 1 = 0 → y.arr = s.jobWords c.tr ∧ y.arrQ = .good ∧ y.sel = !x.sel) ∧
      (s.findRec c.tr s.plan.trTag = none → y.arr = x.arr ∧ y.sel = x.sel ∧ y.arrQ ≠ .good))) ∧
  (
  (∀ (s : State) (c : DispatchCfg) (j : JobCfg) (objs : List Nat), s.planActs = true → s.disp = some c → c.prot = some j →
    ((∃ o ∈ objs, (c.trip.any fun r => r.obj == o) = true) → s.plan.prot = none →
      ∃ t, exec (.protectionTrigger objs) s = .next t ∧
        t = { s with plan := t.plan, se := t.se, mem := t.mem, fab := t.fab, hub := t.hub, sil := t.sil,
                     setBits := t.setBits } ∧
        t.plan.prot = some (s.fs.tnc + s.run.solve.protDl, s.fs.tnc) ∧ t.plan.trigTnc = s.fs.tnc ∧
        t.plan.protIn = s.dispIn c 1 ∧
        (∀ o ∈ objs, (c.trip.any fun r => r.obj == o) = true → o ∈ t.plan.tripped) ∧
        (∀ o ∈ s.plan.tripped, o ∈ t.plan.tripped) ∧ t.plan.image = s.plan.image) ∧
    (∀ f, (∃ o ∈ objs, (c.trip.any fun r => r.obj == o) = true) → s.plan.prot = some f →
      ∃ t, exec (.protectionTrigger objs) s = .next t ∧ t = { s with plan := t.plan } ∧ t.plan.prot = some f ∧
        t.plan.trigTnc = s.fs.tnc ∧ t.plan.latchIn = (s.fs.tnc, s.dispIn c 1) ∧ t.plan.protIn = s.plan.protIn ∧
        t.plan.latched = s.plan.latched ++ objs.filter (fun o => c.trip.any fun r => r.obj == o) ∧ t.plan.image = s.plan.image) ∧
    ((∀ o ∈ objs, (c.trip.any fun r => r.obj == o) = false) → exec (.protectionTrigger objs) s = .next s)) ∧
  (∀ (s : State) (c : DispatchCfg) (j : JobCfg) (tag trig : Nat), s.planActs = true → s.disp = some c → c.prot = some j →
    s.plan.prot = some (tag, trig) → s.plan.latched = [] →
    (∀ b, s.findRec j tag = some b → s.checkRec c s.plan.protIn b (s.clampPlan c (s.jobWords j)) = 0 →
      exec .protectionAcceptance s = .next { s with plan := { s.plan with
        prot := none, protArmed := some ((s.clampPlan c (s.jobWords j)).mapIdx (fun i x => (i, x)), trig) } }) ∧
    (s.findRec j tag = none → tag ≤ s.fs.tnc →
      exec .protectionAcceptance s = .next { s with plan := { s.plan with prot := none } }) ∧
    (s.findRec j tag = none → s.fs.tnc < tag → exec .protectionAcceptance s = .next s)))

/-- The arithmetic of a sample: one section computes R244 exactly where nothing saturates, the rate limit and the clamp are
those of R245 so that the output lies within [UMIN, UMAX], and a sample that runs costs 12 + 6 × S FAB cycles (R243).
LOOP_PASS of an engine with one due loop: at instant 2 the pass begins, and the loop's record and its output entry take the
sample's values while no other output entry changes (R242, R253). LOOP_HARD_DEADLINE on a pass whose one recomputation
differs: the section states, w, T_ref and U_LAST of before the sample are restored, the output is written from U_LAST with
quality HELD, the loop is held with cause SHADOW and the mismatch counts; the pass ends (R258, R264). -/
def Obligations.LoopSamples : Prop :=
  (
  (∀ (c : LoopSection) (x y : Int), y = rndDiv (c.b0 * x + c.s1) (2 ^ 29) → -(2 ^ 31 - 1) < y → y < 2 ^ 31 - 1 →
    -((2 ^ 31 - 1) * 2 ^ 29) ≤ c.b1 * x - c.a1 * y + c.s2 → c.b1 * x - c.a1 * y + c.s2 ≤ (2 ^ 31 - 1) * 2 ^ 29 →
    -((2 ^ 31 - 1) * 2 ^ 29) ≤ c.b2 * x - c.a2 * y → c.b2 * x - c.a2 * y ≤ (2 ^ 31 - 1) * 2 ^ 29 →
    c.run x = (y, c.b1 * x - c.a1 * y + c.s2, c.b2 * x - c.a2 * y, 0)) ∧
  (∀ (l : Loop) (i : Nat) (pv tg : Int × Quality), l.causes = [] → pv.2 ≠ .bad → l.umin ≤ l.umax →
    ∃ u, (l.sample i pv tg).loop.uLast = u ∧ l.umin ≤ u ∧ u ≤ l.umax ∧ (l.rlim ≠ 0 → l.umin ≤ l.uLast → l.uLast ≤ l.umax →
      absI (u - l.uLast) ≤ l.rlim) ∧ (l.sample i pv tg).out = gain29 u l.outGain ∧ (l.sample i pv tg).quality = pv.2 ∧
      (l.sample i pv tg).cost = 12 + 6 * ((List.range 8).countP fun j => l.secs.testBit j)) ∧
  (∀ (l : Loop) (i : Nat) (pv tg : Int × Quality), l.causes ≠ [] → pv.2 ≠ .bad → (l.causes.filter (· != 1)) ≠ [] →
    (l.sample i pv tg).out = gain29 l.uLast l.outGain ∧ (l.sample i pv tg).quality = .held ∧ (l.sample i pv tg).cost = 12 ∧
    (l.sample i pv tg).loop.uLast = l.uLast ∧ (l.sample i pv tg).loop.w = l.w ∧ (l.sample i pv tg).loop.sect = l.sect)) ∧
  (
  (∀ (s : State) (n : Fin 2) (i : Fin 1024) (mism : List (Fin 1024)) (l : Loop) (r : Sampled), s.passing = true →
    s.loops.passTnc ≠ some s.fs.tnc → (∀ m : Fin 2, s.loops.le[m].pass = none ∧ s.loops.le[m].amd = [] ∧
      s.loops.le[m].failing = none ∧ s.loops.le[m].hosting = false) → s.loops.le[n].enable = true →
    s.loops.le[n].failed = false → s.loops.le[n].takeover = false →
    s.loops.le[partner n].enable = false → s.loops.le[partner n].own = [] → s.loops.le[n].own = [(i.val, l)] →
      l.enabled = true →
    s.fs.tnc % divisor l.rate = l.phase → r = l.sample i.val (s.loops.le[n].entry l.input) (s.loops.le[n].entry l.spEntry) →
    ∃ t, exec (.loopPass mism []) s = .next t ∧ t = { s with now := t.now, loops := t.loops } ∧
      t.now = max s.now (s.fs.tickAt + 32000) ∧ t.loops.le[n].own = [(i.val, r.loop)] ∧ t.loops.le[n].pass.isSome = true ∧
      Tbl.get? (2048 * l.destKind + l.destEntry) t.loops.out = some (r.out, r.quality) ∧
      (∀ k, k ≠ 2048 * l.destKind + l.destEntry → Tbl.get? k t.loops.out = Tbl.get? k s.loops.out) ∧
      t.loops.le[partner n] = s.loops.le[partner n]) ∧
  (∀ (s : State) (n : Fin 2) (i : Nat) (p : LoopPass) (old cur : Loop), s.notesRun = true → s.fs.started = true →
    s.loops.le[n].pass = some p → s.loops.le[partner n].pass = none → p.at_ = s.fs.tickAt + 32000 → p.main = [] →
    p.check = [(i, old)] → p.mism = [i] → p.copy = none → p.wk.cycles + 62 ≤ 76800 → s.loops.le[n].loop? i = some cur →
    s.loops.le[n].takeover = false → s.loops.le[n].mismatches < 65535 →
    ∃ t l', exec .loopHardDeadline s = .next t ∧
      t = { s with now := t.now, loops := t.loops, fab := t.fab, hub := t.hub, sil := t.sil, setBits := t.setBits } ∧
      t.now = max s.now (s.fs.tickAt + 800000) ∧ t.loops.le[n].pass = none ∧ t.loops.le[n].loop? i = some l' ∧
      (∀ j : Fin 8, l'.sect[j].s1 = old.sect[j].s1 ∧ l'.sect[j].s2 = old.sect[j].s2) ∧ l'.w = old.w ∧ l'.tRef = old.tRef ∧
      l'.uLast = old.uLast ∧ 2 ∈ l'.causes ∧ t.loops.le[n].mismatches = s.loops.le[n].mismatches + 1 ∧
      Tbl.get? (2048 * old.destKind + old.destEntry) t.loops.out = some (gain29 old.uLast old.outGain, .held)))

/-- The commands of LEn_CMD in a running state on a loop that the engine runs, after the samples that have begun (R249, R250,
R253, R266): ENABLE clears the section states, loads the preset section with U_LAST × 2^29, sets T_ref to the target and
RAMPING when RAMP is not 0; DISABLE leaves the output value with quality BAD; HOLD adds cause COMMAND; RELEASE takes COMMAND
and SHADOW away. In any other state the command sets LEn_ERR.MODE alone and changes no loop. LOOP_RECORD_WRITE, after the
samples that have begun (R253, R256, R266): in COMMISSIONING and TEST a write of UMAX reaches the record; in SERVICE and
RECOVERY it is refused with LEn_ERR.MODE, a write of a structural word with LEn_ERR.ID, and a refused write changes no record. -/
def Obligations.LoopCommands : Prop :=
  (
  ∀ (s s1 : State) (who : Initiator) (n : Fin 2) (i : Fin 1024) (l : Loop), s.acts who = true →
    s.granted who (0x14 + n.val) = true → s1 = s.settleLoops → s1.loops.le[n].loop? i.val = some l →
    s1.loops.le[n].takeover = false →
    (s1.running = true → s1.amdBusy n = false → l.enabled = false →
      ∃ t l', exec (.loopEnable who n i) s = .next t ∧ t = { s1 with loops := t.loops } ∧ t.loops.le[n].loop? i.val = some l' ∧
        l'.enabled = true ∧ l'.first = true ∧ l'.ramping = (l.ramp != 0) ∧ (l.spKind = 0 → l'.tRef = l.spFixed) ∧
        (l.spKind ≠ 0 → (s1.loops.le[n].entry l.spEntry).2 ≠ .bad → l'.tRef = (s1.loops.le[n].entry l.spEntry).1) ∧
        (∀ x, l.spKind ≠ 0 → (s1.loops.le[n].entry l.spEntry).2 = .bad → l.tPrev = some x → l'.tRef = x) ∧
        (∀ j : Fin 8, l'.sect[j].s2 = 0 ∧
          l'.sect[j].s1 = (if l.presetEn = true ∧ l.presetSec = j.val then l.uLast * 2 ^ 29 else 0)) ∧
        (∀ k, k ≠ i.val → t.loops.le[n].loop? k = s1.loops.le[n].loop? k) ∧ t.loops.out = s1.loops.out) ∧
    (s1.running = true → s1.amdBusy n = false → l.enabled = true →
      ∃ t, exec (.loopDisable who n i) s = .next t ∧ t = { s1 with loops := t.loops } ∧
        t.loops.le[n].loop? i.val = some { l with enabled := false } ∧
        Tbl.get? (2048 * l.destKind + l.destEntry) t.loops.out =
          some ((Tbl.getD s1.loops.out (2048 * l.destKind + l.destEntry) (0, .good)).1, .bad)) ∧
    (s1.running = true → s1.amdBusy n = false → 0 ∉ l.causes →
      ∃ t, exec (.loopHold who n i) s = .next t ∧ t = { s1 with loops := t.loops } ∧
        t.loops.le[n].loop? i.val = some { l with causes := l.causes ++ [0] } ∧ t.loops.out = s1.loops.out) ∧
    (s1.running = true → s1.amdBusy n = false → (s1.loops.le[n].entry l.input).2 ≠ .bad →
      ∃ t l', exec (.loopRelease who n i) s = .next t ∧ t = { s1 with loops := t.loops } ∧
        t.loops.le[n].loop? i.val = some l' ∧ l' = { l with causes := l'.causes } ∧ 0 ∉ l'.causes ∧ 2 ∉ l'.causes ∧
        (∀ c, c ≠ 0 → c ≠ 2 → c ≠ 3 → (c ∈ l'.causes ↔ c ∈ l.causes)) ∧ t.loops.out = s1.loops.out) ∧
    (s1.running = false → bitAt s1.loops.le[n].err 2 = false →
      ∃ t, exec (.loopHold who n i) s = .next t ∧
        t = { s1 with loops := t.loops, hub := t.hub, sil := t.sil, setBits := t.setBits } ∧
        t.loops.le[n] = { s1.loops.le[n] with err := s1.loops.le[n].err + 4 } ∧ t.loops.out = s1.loops.out)) ∧
  (
  ∀ (s s1 : State) (who : Initiator) (n : Fin 2) (v : Word) (l : Loop), s.acts who = true →
    s.granted who (0x14 + n.val) = true → s1 = s.settleLoops → s1.loops.le[n].takeover = false →
    s1.loops.le[n].loop? s1.loops.le[n].waddrLoop = some l → s1.loops.le[n].err = 0 →
    ((s1.sys.state = .commissioning ∨ s1.sys.state = .test) → s1.amdBusy n = false → s1.loops.le[n].waddrWord = 8 →
      ∃ t, exec (.loopRecordWrite who n v) s = .next t ∧ t = { s1 with loops := t.loops } ∧
        t.loops.le[n].loop? s1.loops.le[n].waddrLoop = some { l with umax := v.toInt, rewritten := true } ∧
        t.loops.le[n].err = 0) ∧
    ((s1.sys.state = .service ∨ s1.sys.state = .recovery) → s1.loops.le[n].waddrWord = 8 →
      ∃ t, exec (.loopRecordWrite who n v) s = .next t ∧
        t = { s1 with loops := t.loops, hub := t.hub, sil := t.sil, setBits := t.setBits } ∧
        t.loops.le[n] = { s1.loops.le[n] with err := 4 }) ∧
    (s1.running = true → s1.loops.le[n].waddrWord ∈ [0, 3, 10, 12, 14, 15, 16, 17, 18, 19] →
      ∃ t, exec (.loopRecordWrite who n v) s = .next t ∧
        t = { s1 with loops := t.loops, hub := t.hub, sil := t.sil, setBits := t.setBits } ∧
        t.loops.le[n] = { s1.loops.le[n] with err := 1 }))

/-- LOOP_ENGINE_DISABLE clears ENABLE and leaves every output entry's value, the entries of the engine's loops with quality
HELD (R266). LOOP_HARD_DEADLINE ends a pass whose next sample does not fit before instant 3: LATE sets and no output entry
changes (R255). LOOP_TAKEOVER, at a top tick after the note in which an engine was marked as failing, stops it and lets its
partner host its loops (R261). -/
def Obligations.LoopEngineStops : Prop :=
  (∀ (s s1 : State) (who : Initiator) (n : Fin 2), s.acts who = true → s.granted who (0x14 + n.val) = true →
    s1 = s.settleLoops →
    ∃ t, exec (.loopEngineDisable who n) s = .next t ∧
      t = { s1 with loops := t.loops, hub := t.hub, sil := t.sil, setBits := t.setBits } ∧ t.loops.le[n].enable = false ∧
      (∀ k, (Tbl.getD t.loops.out k (0, .good)).1 = (Tbl.getD s1.loops.out k (0, .good)).1) ∧
      (∀ i l, s1.loops.le[n].enable = true → i ∈ s1.loops.le[n].ids → s1.loops.le[n].loop? i = some l →
        (Tbl.getD t.loops.out (2048 * l.destKind + l.destEntry) (0, .good)).2 = .held)) ∧
  (∀ (s : State) (n : Fin 2) (i : Nat) (rest : List Nat) (p : LoopPass) (l : Loop), s.notesRun = true → s.fs.started = true →
    s.loops.le[n].pass = some p → s.loops.le[partner n].pass = none → p.at_ = s.fs.tickAt + 32000 → p.main = i :: rest →
    s.loops.le[n].loop? i = some l → l.enabled = true →
    76800 < p.wk.cycles + (l.sample i (s.loops.le[n].entry l.input) (s.loops.le[n].entry l.spEntry)).cost →
    ∃ t, exec .loopHardDeadline s = .next t ∧
      t = { s with now := t.now, loops := t.loops, fab := t.fab, hub := t.hub, sil := t.sil, setBits := t.setBits } ∧
      t.now = max s.now (s.fs.tickAt + 800000) ∧ t.loops.out = s.loops.out ∧ t.loops.le[n].pass = none ∧
      t.loops.le[n].own = s.loops.le[n].own ∧ bitAt t.loops.le[n].err 5 = true) ∧
  (∀ (s s1 : State) (n : Fin 2), s.acting = true → s1 = s.settleLoops → s1.failDue n = true → s1.failDue (partner n) = false →
    s1.loops.le[partner n].failed = false →
    ∃ t, exec .loopTakeover s = .next t ∧ t = { s1 with loops := t.loops, hub := t.hub, sil := t.sil, setBits := t.setBits } ∧
      t.loops.le[n] = { s1.loops.le[n] with failed := true, failing := none } ∧
      t.loops.le[partner n] = { s1.loops.le[partner n] with hosting := true } ∧ t.loops.out = s1.loops.out)

/-- A cycle: TASK_RELEASE of a due task takes the input image latched at the tick, its own variables and its read set, 800
PERI cycles after the tick, with the forces in force (R36, R271, R273); TASK_COMMIT writes its variables and its pending
image, seals a consistency point and clears the overrun count (R271, R272, R276, R278); TASK_OVERRUN abandons the cycle,
counts it, and after OVERRUN_N in a row has the partition enter RECOVERY at the next tick (R278). Other tasks and partitions
stay, and so does every byte that is neither in the images of the task nor, where its role's log was empty, one of its own
variables. -/
def Obligations.TaskCycle : Prop :=
  (∀ (s : State) (p : Fin 4) (t : Fin 8) (c : PartCfg) (k : TaskCfg), s.partCfg p = some c → s.taskCfg p t = some k →
    s.partRuns p = true → s.fs.tnc % k.period = 0 → s.prog.p[p].tasks[t].rel ≠ some s.fs.tnc →
    ∃ u, exec (.taskRelease p t) s = .next u ∧ u = { s with now := u.now, prog := u.prog, mem := u.mem } ∧
      u.now = max s.now (s.fs.tickAt + 32000) ∧
      u.prog = { s.prog with p := s.prog.p.set p ({ s.prog.p[p] with tasks := s.prog.p[p].tasks.set t u.prog.p[p].tasks[t] }) } ∧
      u.prog.p[p].tasks[t].running = true ∧ u.prog.p[p].tasks[t].rel = some s.fs.tnc ∧
      u.prog.p[p].tasks[t].forces = s.prog.p[p].forces ∧ u.prog.p[p].tasks[t].img = s.prog.p[p].tasks[t].img ∧
      (s.prog.p[p].forces = [] → u.prog.p[p].tasks[t].inImg = s.prog.p[p].tasks[t].latched ∧
        u.prog.p[p].tasks[t].own = s.copyIn p (Config.taskVars s.prog.p[p].digest t.val).1 ∧
        u.prog.p[p].tasks[t].reads = s.copyIn p (Config.taskVars s.prog.p[p].digest t.val).2) ∧
      (∀ r, s.run.mem.images = [(p.val + 1, t.val, r)] → (∀ a, (a < r.1 ∨ r.1 + k.inLen ≤ a) →
        Mem.read a u.mem = Mem.read a s.mem)) ∧
      (s.run.mem.images = [] → u.mem = s.mem)) ∧
  (∀ (s : State) (p : Fin 4) (t : Fin 8) (c : PartCfg) (k : TaskCfg) (vars : List (Nat × Byte))
      (outs : List (Nat × Int × Quality)), s.partCfg p = some c → s.taskCfg p t = some k → s.partRuns p = true →
    s.prog.p[p].tasks[t].running = true → s.now + k.cCommit * 10 ≤ s.commitBy k s.prog.p[p].tasks[t].rel →
    ∃ u, exec (.taskCommit p t vars outs) s = .next u ∧
      u = { s with pairs := u.pairs, prog := u.prog, twin := u.twin, mem := u.mem } ∧
      u.prog.p[p].tasks[t].running = false ∧ u.prog.p[p].tasks[t].own = [] ∧ u.prog.p[p].tasks[t].reads = [] ∧
      u.prog.p[p].tasks[t].consec = 0 ∧ u.prog.p[p].tasks[t].img = s.prog.p[p].tasks[t].img ∧
      u.prog.p[p].sealedNote = true ∧ u.prog.p[p].tasks[t].pend = some (s.pendImg p t c outs) ∧
      (s.prog.p[p].tasks[t].forces = [] →
        ∀ item, (∀ o ∈ outs, o.1 ≠ item) ∨ item ∉ ((c.bind.outs[t.val]?).getD []).map (·.item) →
          Tbl.get? item (s.pendImg p t c outs) = Tbl.get? item s.prog.p[p].tasks[t].img) ∧
      (∀ q : Fin 4, q ≠ p → u.prog.p[q] = s.prog.p[q]) ∧ u.prog.outs = s.prog.outs ∧
      u.pairs.sealedCount[partRole p] = s.pairs.sealedCount[partRole p] + 1 ∧
      (∀ a, (∀ b ∈ s.prog.p[p].tasks[t].own, s.dataOfs p + b.1 ≠ a) →
        Mem.read a u.pairs.p[s.pairs.place[partRole p].castSucc].dtcm
          = Mem.read a s.pairs.p[s.pairs.place[partRole p].castSucc].dtcm) ∧
      (s.pairs.log[partRole p] = none →
        (s.run.mem.images = [] → u.mem = s.mem) ∧
        (∀ r, s.run.mem.images = [(p.val + 1, t.val, r)] → (∀ a, (a < r.2 ∨ r.2 + k.outLen ≤ a) →
          Mem.read a u.mem = Mem.read a s.mem)))) ∧
  (∀ (s : State) (p : Fin 4) (t : Fin 8) (k : TaskCfg), s.taskCfg p t = some k → s.partLive p = true →
    s.prog.p[p].tasks[t].running = true →
    ∃ u, exec (.taskOverrun p t) s = .next u ∧ u = { s with now := u.now, prog := u.prog } ∧
      u.now = max s.now (s.commitBy k s.prog.p[p].tasks[t].rel - k.cCommit * 10) ∧
      u.prog.p[p].tasks[t] = { s.prog.p[p].tasks[t] with
        running := false, own := [], reads := [], consec := min (s.prog.p[p].tasks[t].consec + 1) 255 } ∧
      u.prog.p[p].total = satInc 65535 s.prog.p[p].total ∧ u.prog.p[p].lastTask = t.val ∧
      u.prog.p[p].recNext = (if min (s.prog.p[p].tasks[t].consec + 1) 255 = s.run.str.overrunN ∧
          s.prog.p[p].recNext.isNone = true
        then some (t.val, min (s.prog.p[p].tasks[t].consec + 1) 255, s.fs.tnc) else s.prog.p[p].recNext) ∧
      (∀ j : Fin 8, j ≠ t → u.prog.p[p].tasks[j] = s.prog.p[p].tasks[j]) ∧
      (∀ q : Fin 4, q ≠ p → u.prog.p[q] = s.prog.p[q]))

/-- RECOVERY: PARTITION_RECOVERY_ENTRY abandons the partition's cycles and pending images and the module reports RECOVERY in
operating mode SERVICE (R279, R505); RESUME is taken in RECOVERY alone (R280); RECOVER asks for RECOVERY in COMMISSIONING and
TEST alone (R306). CHECKPOINT_WRITE writes the header with VALID, SEQ and the committed variables into the buffer that does
not hold the newest valid checkpoint, and nothing else of memory (R297, R298), save that the first one since CONFIGURE clears
VALID of the other buffer (the model's choice, log entry 26). A cycle abandoned by TASK_OVERRUN at OVERRUN_N asks for RECOVERY
(R278). -/
def Obligations.RecoveryAndCheckpoints : Prop :=
  (∀ (s : State) (p : Fin 4) (t n tn : Nat), s.notesRun = true → s.prog.p[p].recNext = some (t, n, tn) → tn ≠ s.fs.tnc →
    ∃ u, exec (.partitionRecoveryEntry p) s = .next u ∧
      u = { s with loops := u.loops, prog := u.prog, sys := u.sys, hub := u.hub, sil := u.sil, setBits := u.setBits } ∧
      u.prog.p[p].recovery = true ∧
      u.prog.p[p].recNext = none ∧ (∀ k : Fin 8, u.prog.p[p].tasks[k].running = false ∧ u.prog.p[p].tasks[k].pend = none) ∧
      (s.now ≠ s.fs.tickAt → u.loops = s.loops ∧ ∀ q : Fin 4, q ≠ p → u.prog.p[q] = s.prog.p[q]) ∧
      (s.running = true → s.sys.mode = .service → u.sys.state = .recovery)) ∧
  (∀ (s : State) (who : Initiator) (p : Fin 4), s.acts who = true → s.progGranted who = true →
    (s.prog.p[p].recovery = true → exec (.resume who p) s
      = .next { s with prog := { s.prog with p := s.prog.p.set p ({ s.prog.p[p] with resumeNext := true }) } }) ∧
    (s.prog.p[p].recovery = false → exec (.resume who p) s = .next s) ∧
    ((s.sys.state = .commissioning ∨ s.sys.state = .test) → (s.partCfg p).isSome = true → s.prog.p[p].recovery = false →
        s.prog.p[p].recNext = none →
      ∃ u n, exec (.recover who p) s = .next u ∧ u = { s with prog := u.prog } ∧
        u.prog = { s.prog with p := s.prog.p.set p ({ s.prog.p[p] with recNext := some (s.prog.p[p].lastTask, n,
                                                                       s.fs.tnc) }) }) ∧
    (s.sys.state ≠ .commissioning → s.sys.state ≠ .test → exec (.recover who p) s = .next s)) ∧
  (∀ (s : State) (p : Fin 4) (tnc st a b dst : Nat) (full : Bool), Inv s → s.alive = true → s.prog.p[p].ckpt = some (tnc,
    full, st) →
    s.ckptBufs p = some (a, b) → s.prog.p[p].seq < 2 ^ 64 →
    dst = (if s.ckptNewest p = some a then b else a) →
    (a + 256 + s.prog.p[p].dataLen ≤ b ∨ b + 256 + s.prog.p[p].dataLen ≤ a) →
    ∃ u, exec (.checkpointWrite p) s = .next u ∧ u = { s with mem := u.mem, prog := u.prog } ∧ u.prog.p[p].ckpt = none ∧
      u.prog.p[p].seq = (s.prog.p[p].seq + 1) % 2 ^ 64 ∧ u.ckptValid dst = true ∧ Mem.le u.mem (dst + 8) 8 = s.prog.p[p].seq ∧
      Mem.readN u.mem (dst + 256) s.prog.p[p].dataLen = s.masterData p ∧
      (s.prog.p[p].seq = 1 → u.ckptValid (if dst = a then b else a) = false) ∧
      (∀ x, x < dst ∨ dst + 256 + s.prog.p[p].dataLen ≤ x →
        (s.prog.p[p].seq = 1 → x < (if dst = a then b else a) + 252 ∨ (if dst = a then b else a) + 256 ≤ x) →
        Mem.read x u.mem = Mem.read x s.mem)) ∧
  (∀ (s : State) (p : Fin 4) (t : Fin 8) (k : TaskCfg), s.taskCfg p t = some k → s.partLive p = true →
    s.prog.p[p].tasks[t].running = true → s.prog.p[p].recNext = none →
    s.run.str.overrunN = min (s.prog.p[p].tasks[t].consec + 1) 255 →
    ∃ u, exec (.taskOverrun p t) s = .next u ∧ u = { s with now := u.now, prog := u.prog } ∧
      u.prog.p[p].tasks[t].running = false ∧ u.prog.p[p].recNext = some (t.val, s.run.str.overrunN, s.fs.tnc))

/-- Forces: in COMMISSIONING a symbol that is forceable takes a force while FORCE_MAX allows, a RELEASE removes it and
RELEASE_ALL removes every one, each with entry 0x144; outside COMMISSIONING the command answers 1 and nothing is forced or
released (R287 to R289, R306). A cycle has the forces of its release: a forced input of its image holds the value in its type
with SUBST, and so does a forced output of the image that its commit makes (R287). -/
def Obligations.ForcesAreSet : Prop :=
  (∀ (s : State) (who : Initiator) (p : Fin 4) (c : PartCfg) (y : Symbol), s.acts who = true → s.progGranted who = true →
    s.sys.state = .commissioning → s.partCfg p = some c → findSym s.prog.p[p].symmap s.prog.forceSym = some y →
    s.sil.queue.length < 64 →
    (bitAt y.flags 2 = true → (∀ f ∈ s.prog.p[p].forces, f.symbol ≠ s.prog.forceSym) → s.prog.p[p].forces.length < c.forceMax →
      ∃ u e, exec (.forceSet who p) s = .next u ∧ u = { s with prog := u.prog, sil := u.sil, setBits := u.setBits } ∧
        u.prog.forceErr = 0 ∧
        u.prog.p[p].forces = s.prog.p[p].forces ++ [{ symbol := s.prog.forceSym, value := s.prog.forceVal }] ∧
        u.sil.queue = s.sil.queue ++ [e] ∧ e.num = 0x144) ∧
    ((∀ f ∈ s.prog.p[p].forces, f.symbol ≠ s.prog.forceSym) → c.forceMax ≤ s.prog.p[p].forces.length →
      exec (.forceSet who p) s = .next { s with prog := { s.prog with forceErr := 3, forcePart := p.val } }) ∧
    (bitAt y.flags 2 = false → s.prog.p[p].forces.length < c.forceMax →
      exec (.forceSet who p) s = .next { s with prog := { s.prog with forceErr := 4, forcePart := p.val } }) ∧
    (∀ f, f ∈ s.prog.p[p].forces → f.symbol = s.prog.forceSym →
      ∃ u e, exec (.forceRelease who p) s = .next u ∧ u = { s with prog := u.prog, sil := u.sil, setBits := u.setBits } ∧
        u.prog.forceErr = 0 ∧
        f ∉ u.prog.p[p].forces ∧ (∀ g, g.symbol ≠ s.prog.forceSym → (g ∈ u.prog.p[p].forces ↔ g ∈ s.prog.p[p].forces)) ∧
        u.sil.queue = s.sil.queue ++ [e] ∧ e.num = 0x144) ∧
    (∃ u, exec (.forceReleaseAll who p) s = .next u ∧ u = { s with prog := u.prog, sil := u.sil, hub := u.hub,
                                                                   setBits := u.setBits } ∧
      u.prog.forceErr = 0 ∧ u.prog.p[p].forces = [] ∧ ∀ q : Fin 4, q ≠ p → u.prog.p[q] = s.prog.p[q])) ∧
  (∀ (s : State) (who : Initiator) (p : Fin 4) (y : Symbol), s.acts who = true → s.progGranted who = true →
    s.sys.state ≠ .commissioning → findSym s.prog.p[p].symmap s.prog.forceSym = some y →
    exec (.forceSet who p) s = .next { s with prog := { s.prog with forceErr := 1, forcePart := p.val } } ∧
    exec (.forceRelease who p) s = .next { s with prog := { s.prog with forceErr := 1, forcePart := p.val } } ∧
    exec (.forceReleaseAll who p) s = .next { s with prog := { s.prog with forceErr := 1, forcePart := p.val } }) ∧
  (∀ (s : State) (p : Fin 4) (t : Fin 8) (c : PartCfg) (k : TaskCfg) (f : Force) (pos : Nat), s.partCfg p = some c →
    s.taskCfg p t = some k → s.partRuns p = true → s.fs.tnc % k.period = 0 → s.prog.p[p].tasks[t].rel ≠ some s.fs.tnc →
    s.prog.p[p].forces = [f] → c.bind.inSym = [(f.symbol, t.val, pos)] → pos < s.prog.p[p].tasks[t].latched.length →
    ∃ u, exec (.taskRelease p t) s = .next u ∧ u = { s with now := u.now, prog := u.prog, mem := u.mem } ∧
      u.prog.p[p].tasks[t].running = true ∧ u.prog.p[p].tasks[t].forces = [f] ∧
      u.prog.p[p].tasks[t].inImg = s.prog.p[p].tasks[t].latched.set pos (f.typed s.prog.p[p].symmap, .subst)) ∧
  (∀ (s : State) (p : Fin 4) (t : Fin 8) (c : PartCfg) (k : TaskCfg) (vars : List (Nat × Byte))
      (outs : List (Nat × Int × Quality)) (f : Force) (item : Nat), s.partCfg p = some c → s.taskCfg p t = some k →
    s.partRuns p = true → s.prog.p[p].tasks[t].running = true →
    s.now + k.cCommit * 10 ≤ s.commitBy k s.prog.p[p].tasks[t].rel → s.prog.p[p].tasks[t].forces = [f] →
    c.bind.outSym = [(f.symbol, item)] → item ∈ ((c.bind.outs[t.val]?).getD []).map (·.item) →
    ∃ u img, exec (.taskCommit p t vars outs) s = .next u ∧
      u = { s with pairs := u.pairs, prog := u.prog, twin := u.twin, mem := u.mem } ∧
      u.prog.p[p].tasks[t].running = false ∧ u.prog.p[p].tasks[t].pend = some img ∧
      Tbl.get? item img = some (f.typed s.prog.p[p].symmap, .subst))

/-- Online change: STAGE of a package that passes the checks of R292 starts staging, one whose OLD_DIGEST is not the running
image's is refused with 0x32 and one outside the states of check 1 with 0x30; OLC_STAGED puts the bank into the master copy
and the idle bank; UNSTAGE discards a package that is not authorised and reports 0x30 for one that is; OLC_SWITCH before the
boundary migrates the variables, takes the other bank and the new image and costs C_SWITCH, or defers to the next major
boundary while the partition is in RECOVERY, has a cycle running or last abandoned, or its role migrates (R291 to R296; the
lengths of the notes before the boundary are those of log entry 62). -/
def Obligations.OnlineChange : Prop :=
  (∀ (s : State) (who : Initiator) (p : Fin 4) (c : PartCfg) (g : Package), s.acts who = true → s.progGranted who = true →
    s.partCfg p = some c → s.package s.prog.olcSrc p = (g, true) →
    (s.stageErr p c g true = 0 →
      ∃ u, exec (.stage who p) s = .next u ∧ u = { s with prog := u.prog, setBits := u.setBits } ∧ u.prog.olcErr = 0 ∧
        u.prog.p[p].olc = 1 ∧
        u.prog.p[p].pkg = some g ∧ u.prog.p[p].bankB = s.prog.p[p].bankB ∧ u.prog.p[p].digest = s.prog.p[p].digest) ∧
    (s.sys.state = .recovery →
      ∃ u, exec (.stage who p) s = .next u ∧ u = { s with prog := u.prog, setBits := u.setBits } ∧ u.prog.olcErr = 0x30 ∧
        u.prog.p[p].pkg = s.prog.p[p].pkg) ∧
    (s.sys.state = .service → s.partRuns p = true → s.prog.p[p].olc = 0 → g.oldDig ≠ s.prog.p[p].digest →
      ∃ u, exec (.stage who p) s = .next u ∧ u = { s with prog := u.prog, setBits := u.setBits } ∧ u.prog.olcErr = 0x32 ∧
        u.prog.p[p].pkg = s.prog.p[p].pkg)) ∧
  (∀ (s : State) (p : Fin 4) (g : Package) (o : Nat), s.alive = true → s.prog.p[p].olc = 1 → s.prog.p[p].pkg = some g →
    o = (if s.prog.p[p].bankB then 0 else 0x40000) →
    exec (.olcStaged p) s = .next { s with
      now := max s.now (s.prog.p[p].stageAt + 40960),
      mem := Mem.writeN s.mem (0x10000000 + (p.val + 1) * 0xD0000 + o) g.bank,
      pairs := { s.pairs with p := s.pairs.p.set (s.pairs.place[partRole p].castSucc) ({ s.pairs.p[s.pairs.place[partRole p].castSucc] with
            itcm := Mem.writeN s.pairs.p[s.pairs.place[partRole p].castSucc].itcm o g.bank }) },
      prog := { s.prog with p := s.prog.p.set p ({ s.prog.p[p] with olc := 2 }) } }) ∧
  (∀ (s : State) (who : Initiator) (p : Fin 4), s.acts who = true → s.progGranted who = true →
    (s.prog.p[p].olc = 1 ∨ s.prog.p[p].olc = 2 → exec (.unstage who p) s
      = .next { s with prog := { s.prog with p := s.prog.p.set p ({ s.prog.p[p] with olc := 0, pkg := none }) } }) ∧
    (s.prog.p[p].olc = 3 → exec (.unstage who p) s
      = .next { s with prog := { s.prog with olcPart := p.val, olcErr := 0x30 } }) ∧
    (s.prog.p[p].olc = 0 → exec (.unstage who p) s = .next s)) ∧
  (∀ (s : State) (p : Fin 4) (c : PartCfg) (g : Package), s.notesRun = true → s.partCfg p = some c → s.prog.p[p].olc = 3 →
    s.prog.p[p].pkg = some g → s.fs.tnc < s.prog.p[p].switchAt →
    s.switchTime c s.prog.p[p].switchAt < s.fs.tickAt + 40 * s.fs.noteLen →
    (s.prog.p[p].recovery = true ∨ (∃ k : Fin 8, s.prog.p[p].tasks[k].running = true ∨ 0 < s.prog.p[p].tasks[k].consec) ∨
      (s.pairs.migRole = p.val + 1 ∧ (s.pairs.armed = true ∨ s.pairs.running = true)) →
      exec (.olcSwitch p) s = .next { s with prog := { s.prog with
        deferrals := satInc 65535 s.prog.deferrals,
        p := s.prog.p.set p ({ s.prog.p[p] with switchAt := s.prog.p[p].switchAt + c.major }) } }) ∧
    (s.prog.p[p].recovery = false → (∀ k : Fin 8, s.prog.p[p].tasks[k].consec = 0 ∧ s.prog.p[p].tasks[k].running = false) →
      s.pairs.migRole ≠ p.val + 1 ∨ (s.pairs.armed = false ∧ s.pairs.running = false) → s.pairs.log[partRole p] = none →
      ∃ u, exec (.olcSwitch p) s = .next u ∧
        u = { s with now := u.now, mem := u.mem, pairs := u.pairs, prog := u.prog, twin := u.twin, sil := u.sil, hub := u.hub,
                     setBits := u.setBits } ∧
        u.now = max s.now (s.switchTime c s.prog.p[p].switchAt) + g.cost * 10 ∧ u.prog.olcPart = p.val ∧ u.prog.olcErr = 0 ∧
        (s.fs.tnc + 1 = s.prog.p[p].switchAt →
          s.switchTime c s.prog.p[p].switchAt = s.fs.tickAt + 40 * s.fs.noteLen - (c.minMargin - 1024) * 10) ∧
        u.mem = Mem.writeN s.mem (0x10080000 + (p.val + 1) * 0xD0000 + s.dataOfs p) (g.migrate (s.masterData p)) ∧
        u.prog.p[p].bankB = !s.prog.p[p].bankB ∧ u.prog.p[p].digest = g.imgDig ∧ u.prog.p[p].symmap = g.sym ∧
        u.prog.p[p].dataLen = g.dataLen ∧ u.prog.p[p].olc = 4 ∧ u.prog.p[p].pkg = none ∧
        (∀ q : Fin 4, q ≠ p → u.prog.p[q] = s.prog.p[q])))

/-- METER_DECIMATION: the engine's edge comes every 12,500 PERI cycles (R310); a channel whose period shows 256 equal bits in
a row is STUCK (R312); a point whose channels gave no sample counts an excluded sample and keeps its sums (R320). In standby,
an edge after that of a capture takes no samples and is counted, and none comes while the reference group's clock is lost
(R311, R337). METER_WINDOW_END of an AC point (R321 to R324): the window restarts, WINDOWS counts it, its excluded samples are
added to EXCLUDED, its quality is BAD below 800 samples, and the forward and reverse active energy registers take the whole of
the window's active energy into register and residue, of which one grows at most; no register of the point ever falls. -/
def Obligations.Metering : Prop :=
  (
  (∀ (s : State) (bits : List (Fin 96 × List Bool)), s.metering = true → s.refLost = false →
    ∃ t, exec (.meterDecimation bits) s = .next t ∧ t = { s with now := t.now, mtr := t.mtr, hub := t.hub,
                                                                 setBits := t.setBits } ∧
      t.mtr.edges = s.mtr.edges + 1 ∧ t.now = (if s.mtrStandby then s.now else max s.now ((s.mtr.edges + 1) * 500000)) ∧
      t.mtr.pulses = s.mtr.pulses ∧ t.mtr.therm = s.mtr.therm ∧
      (∀ c (k : Fin 96) n b, (s.run.meter.chans.map (·.ch)).Nodup → c ∈ s.run.meter.chans → c.ch = k.val → 256 ≤ n →
        bits = [(k, List.replicate n b)] → (t.mtr.decim c.ch).stuck = true) ∧
      (∀ p, bits = [] → (s.run.meter.ac.map (·.pt)).Nodup → p ∈ s.run.meter.ac → p.pt < 32 → s.run.meter.dc = [] →
        (∀ k ∈ p.chans, ∃ x ∈ s.run.meter.chans, x.ch = k) → s.windowDue p.pt = false →
        (t.mtr.pt p.pt).win.ex = (s.mtr.pt p.pt).win.ex + 1 ∧ (t.mtr.pt p.pt).win.n = (s.mtr.pt p.pt).win.n ∧
        (t.mtr.pt p.pt).win.vi = (s.mtr.pt p.pt).win.vi)) ∧
  (∀ (s : State) (bits : List (Fin 96 × List Bool)), s.alive = true → s.acc.locked = true → s.mtrStandby = true →
    (s.refLost = true → exec (.meterDecimation bits) s = .next s) ∧
    (s.refLost = false → s.mtr.capEdge = true →
      exec (.meterDecimation bits) s = .next { s with mtr := { s.mtr with skipped := s.mtr.skipped + 1 } }))) ∧
  (
  ∀ (s : State) (pt : Fin 48) (p : PointCfg) (ep : Int), s.alive = true → s.acc.locked = true → s.windowDue pt.val = true →
    s.run.meter.point? pt.val = some p → p.kind ≠ 3 → ep = s.run.meter.scaled p (s.mtr.pt pt.val).win.vi →
    ∃ t e e', exec (.meterWindowEnd pt) s = .next t ∧ t = { s with mtr := t.mtr, hub := t.hub, setBits := t.setBits } ∧
      t.mtr = { s.mtr with pts := t.mtr.pts } ∧ (∀ k, k ≠ pt.val → t.mtr.pt k = s.mtr.pt k) ∧
      (t.mtr.pt pt.val).win = default ∧ (t.mtr.pt pt.val).windows = ((s.mtr.pt pt.val).windows + 1) % 2 ^ 32 ∧
      (t.mtr.pt pt.val).excluded = min (2 ^ 32 - 1) ((s.mtr.pt pt.val).excluded + (s.mtr.pt pt.val).win.ex) ∧
      ((s.mtr.pt pt.val).win.n < 800 → (t.mtr.pt pt.val).qual = .bad) ∧
      e = (fun r : Nat => ((s.mtr.pt pt.val).e[r]?).getD (0, 0)) ∧ e' = (fun r : Nat => ((t.mtr.pt pt.val).e[r]?).getD (0, 0)) ∧
      (e' 0).1 * energyDen + (e' 0).2 = (e 0).1 * energyDen + (e 0).2 + ep.toNat ∧ (e' 0).2 < energyDen ∧
      (e' 1).1 * energyDen + (e' 1).2 = (e 1).1 * energyDen + (e 1).2 + (-ep).toNat ∧ (e' 1).2 < energyDen ∧
      (∀ r, r < 7 → (e r).1 ≤ (e' r).1))

/-- A metering clock that stops marks its group and asserts source 115; when it runs again the group's channels settle for 3
decimation periods (R311, R320). A permitted write of MTR_CTRL.CAPTURE asks for a capture, which METER_CAPTURE_DONE, after the
next decimation edge, writes to the buffer that does not hold the newest record and to no other byte of memory; the windows
that end on that edge close first, and each edge that has passed since then counts an excluded sample (R320, R336, R337). -/
def Obligations.MeterClocksAndCaptures : Prop :=
  (∀ (s : State) (g : Fin 12), s.alive = true → s.acc.locked = true → s.mtrStandby = true → s.run.meter.usesGroup g.val = true →
    s.mtr.lost[g] = false →
    ∃ t, exec (.mclkClockLost g) s = .next t ∧ t = { s with mtr := t.mtr, hub := t.hub, setBits := t.setBits } ∧
      t.mtr = { s.mtr with lost := s.mtr.lost.set g true }) ∧
  (∀ (s : State) (g : Fin 12), s.alive = true → s.acc.locked = true → s.mtr.lost[g] = true →
    ∃ t, exec (.mclkClockResume g) s = .next t ∧ t = { s with mtr := t.mtr, setBits := t.setBits } ∧
      t.mtr.lost = s.mtr.lost.set g false ∧
      (∀ c x, Tbl.get? c s.mtr.dec = some x →
        Tbl.get? c t.mtr.dec = some (if c / 8 = g.val then { x with settle := 3 } else x))) ∧
  (∀ (s : State) (who : Initiator), s.acts who = true → isSuperSec who = true → s.acc.locked = true →
    ∃ t, exec (.mtrCaptureRequest who) s = .next t ∧ t = { s with mtr := { s.mtr with capReq := true }, setBits := t.setBits } ∧
      (s.mtr.capReq = false → t.setBits = s.setBits)) ∧
  (∀ (s : State), s.alive = true → s.mtr.capReq = true → s.mtr.capEdge = true → s.pwr.deferred = none →
    (∀ x, (s.settleMirror true).mtr.latest = some x → x.seq + 1 < 2 ^ 64) →
    s.mirrorOk true = true → s.mirrorOk false = true →
    ∃ (u t : State) (r : MtrRecord), exec .meterCaptureDone s = .next u ∧ u = t.skipEdges s.edgesPassed ∧ u.mtr.edges = s.mtr.edges + s.edgesPassed ∧
      t = { s with mtr := t.mtr, mem := t.mem, fab := t.fab, se := t.se, hub := t.hub, setBits := t.setBits } ∧
      (∀ a, (∀ b ∈ [s.run.mem.mtrMirror.1, s.run.mem.mtrMirror.2], a < b ∨ b + 24576 ≤ a) →
        Mem.read a t.mem = Mem.read a s.mem) ∧
      t.mtr.capReq = s.setNow 0x40180000 0 ∧ t.mtr.capEdge = false ∧
      t.mtr.latest = some r ∧ r.capture = true ∧ r.tnc = s.fs.tnc ∧ t.mtr.pts = s.closeWindows.mtr.pts ∧
      (∀ x, s.mtr.bufs = (some x, none) → s.mtr.writing = none → t.mtr.bufs = (some x, some r)))

/-- THERMAL_PUBLISH of a point with an unusable input: its quality is BAD, the heart note's time goes into FAULT_MS and its
residue and no energy or volume register moves (R333); of a usable one, the volume goes into VOLUME and its residue (R332).
PULSE_END switches a pulse off at instant 4 of the top note W_tn after it began (R329). The read shadows of the 64-bit
registers: the read of a low word answers it and freezes the high word for its initiator, which the read of the high word
answers and releases (R327). -/
def Obligations.ThermalAndPulses : Prop :=
  (
  ∀ (s : State) (c : ThermCfg) (i : ThermIn) (th : Nat) (x : ThermSt), s.alive = true → s.acc.locked = true →
    s.run.meter.therm = [c] → s.mtr.thermIn = some (th, [i]) → i.pt = c.pt → x = Tbl.getD s.mtr.therm c.pt default →
    ∃ t y, exec .thermalPublish s = .next t ∧ t = { s with mtr := t.mtr, hub := t.hub, setBits := t.setBits } ∧
      t.mtr.thermIn = none ∧
      t.mtr.pts = s.mtr.pts ∧ Tbl.get? c.pt t.mtr.therm = some y ∧ y.tf = i.tf.1 ∧ y.tr = i.tr.1 ∧
      y.notes = (x.notes + 1) % 2 ^ 32 ∧
      (c.usable i.flow i.tf i.tr = false → y.qual = .bad ∧ y.heat = x.heat ∧ y.cool = x.cool ∧ y.vol = x.vol ∧
        y.fault.1 * 100000 + y.fault.2 = x.fault.1 * 100000 + x.fault.2 + th) ∧
      (c.usable i.flow i.tf i.tr = true → c.rate = true → y.fault = x.fault ∧
        y.vol.1 * 360000000000 + y.vol.2 = x.vol.1 * 360000000000 + x.vol.2 + (max i.flow.1 0).toNat * th)) ∧
  (
  (∀ (s : State) (j : Fin 16) (c : PulseCfg) (x : PulseSt) (on : Nat) (h : c.ch < 48), s.notesRun = true →
    s.run.meter.pulses[j.val]? = some c → s.mtr.pulses[j.val]? = some x → x.onAt = some on →
    s.fs.tnc = on + c.notes s.fs.period →
    ∃ t, exec (.pulseEnd j) s = .next t ∧ t = { s with now := t.now, mtr := t.mtr, dio := t.dio, setBits := t.setBits } ∧
      t.now = max s.now (s.fs.tickAt + 40 * min 25000 s.fs.noteLen) ∧
      t.mtr.pulses[j.val]? = some { x with onAt := none, fell := some s.fs.tnc } ∧
      t.dio.ch[(⟨c.ch, h⟩ : Fin 48)].cmd = false ∧
      (∀ k : Fin 48, k.val ≠ c.ch → t.dio.ch[k] = s.dio.ch[k])) ∧
  (∀ (s : State) (who : Initiator) (ofs : BitVec 16) (v : Nat), s.acts who = true → s.mtr.reg64 ofs.toNat = some v →
    (∃ t, exec (.mtrShadowOpenRead who ofs) s = .next t ∧ t = { s with mtr := t.mtr, fab := t.fab, setBits := t.setBits } ∧
      Tbl.get? who.code t.fab.answers = some (Answer.ofData (v % 2 ^ 32)) ∧
      (∀ w, t.mtrHigh who ofs.toNat w = v / 2 ^ 32)) ∧
    (∀ a, s.mtr.shadows = [((who.code, ofs.toNat), a)] →
      ∃ t, exec (.mtrShadowCloseRead who ofs) s = .next t ∧ t = { s with mtr := t.mtr, fab := t.fab, setBits := t.setBits } ∧
        Tbl.get? who.code t.fab.answers = some (Answer.ofData a) ∧ t.mtr.shadows = [])))

/-- CAN_MB_RX_FRAME: a frame outside the station link range enters the first receive buffer that takes it: its primary, else
its shadow, else it is discarded with OVERRUN (R354, R355). CAN_MB_RELEASE empties the primary and moves a full shadow into it
(R355). Transmit buffers (R357, R358): a request of a transmit buffer pends from the present top note; an abort and a timeout
end it as failed; a success sets TX_DONE with the stamp of its start of frame and lowers TEC; a lost attempt counts until the
retries are used, and then the request ends as failed; with TDC set a frame with BRS stores the loop delay it measured, and a
delay that with TDCO exceeds 127 is a bit error of the attempt (R350). An attempt that ends in an error raises TEC and leaves
its code in LEC (R351); the code of one that its command does not name is a free value from 1 to 6 (log entry 10). A write of
the CFG of a buffer keeps its reserved bits 0, a MODE of 3 and a transmit buffer without TX_TIMEOUT leave the buffer as it is,
a write of ID changes ID alone, and while the bus is held dominant a write waits for the next bus idle (R358). -/
def Obligations.MessageBuffers : Prop :=
  (
  (∀ (s : State) (n : Fin 8) (k : Fin 64) (f : CanFrame), s.canUp n = true → (f.fdf = false ∨ bitAt s.can[n].ctrl 2 = true) →
    s.stnOf n f = none → (f.rtr = false ∨ f.fdf = true) → s.can[n].tec < 256 → (s.can[n].buf k.val).accepts f = true →
    (∀ j, j < k.val → (s.can[n].buf j).accepts f = false) →
    ∃ t, exec (.canMbRxFrame n f) s = .next t ∧ t = { s with can := t.can, hub := t.hub, setBits := t.setBits } ∧
      (∀ m : Fin 8, m ≠ n → t.can[m] = s.can[m]) ∧ (∀ j, j ≠ k.val → t.can[n].buf j = s.can[n].buf j) ∧
      t.can[n].stns = s.can[n].stns ∧
      t.can[n].buf k.val =
        (match (s.can[n].buf k.val).prim, (s.can[n].buf k.val).shadow with
        | none, _ => { s.can[n].buf k.val with frames := ((s.can[n].buf k.val).frames + 1) % 65536, prim := some f }
        | some _, none => { s.can[n].buf k.val with frames := ((s.can[n].buf k.val).frames + 1) % 65536, shadow := some f }
        | some _, some _ => { s.can[n].buf k.val with frames := ((s.can[n].buf k.val).frames + 1) % 65536, overrun := true })) ∧
  (∀ (s : State) (who : Initiator) (n : Fin 8) (k : Fin 64), s.acts who = true → s.granted who (0x20 + n.val) = true →
    ∃ t, exec (.canMbRelease who n k) s = .next t ∧ t = { s with can := t.can } ∧ (∀ m : Fin 8, m ≠ n → t.can[m] = s.can[m]) ∧
      t.can[n].buf k.val = { s.can[n].buf k.val with prim := (s.can[n].buf k.val).shadow, shadow := none } ∧
      (∀ j, j ≠ k.val → t.can[n].buf j = s.can[n].buf j))) ∧
  (
  (∀ (s : State) (who : Initiator) (n : Fin 8) (k : Fin 64), s.acts who = true → s.granted who (0x20 + n.val) = true →
    ((s.can[n].buf k.val).cfg / 2 ^ 30 % 4 = 2 → (s.can[n].buf k.val).pend = none →
      ∃ t, exec (.canMbTxreq who n k) s = .next t ∧ t = { s with can := t.can } ∧ (∀ m : Fin 8, m ≠ n → t.can[m] = s.can[m]) ∧
        t.can[n].buf k.val = { s.can[n].buf k.val with pend := some (s.noteStamp, 0) }) ∧
    ((s.can[n].buf k.val).pend.isSome = true →
      ∃ t, exec (.canMbAbort who n k) s = .next t ∧ t = { s with can := t.can, hub := t.hub, setBits := t.setBits } ∧
        (∀ m : Fin 8, m ≠ n → t.can[m] = s.can[m]) ∧
        t.can[n].buf k.val = { s.can[n].buf k.val with pend := none, txFail := true, txDone := false } ∧
        bitAt t.can[n].err 2 = true)) ∧
  (∀ (s : State) (n : Fin 8) (k : Fin 64) (at_ : Int) (tries : Nat), s.alive = true →
    (s.can[n].buf k.val).pend = some (at_, tries) →
    at_ + ((s.can[n].buf k.val).cfg / 2 ^ 15 % 256 : Nat) ≤ (if s.fs.started then (s.fs.tnc : Int) else -1) →
    ∃ t, exec (.canTxTimeout n k) s = .next t ∧ t = { s with can := t.can, hub := t.hub, setBits := t.setBits } ∧
      (∀ m : Fin 8, m ≠ n → t.can[m] = s.can[m]) ∧
      t.can[n].buf k.val = { s.can[n].buf k.val with pend := none, txFail := true, txDone := false }) ∧
  (∀ (s s1 : State) (n : Fin 8) (k tries : Nat) (at_ : Int) (sof : BitVec 32) (tdcv : BitVec 8) (tdc : Bool), s.canUp n = true →
    s.restricted n = false → s.can[n].dominant = false → s.can[n].stop ≠ 2 → s1 = s.mbExpire n →
    s1.can[n].offered = some (.inl k) → (s1.can[n].buf k).pend = some (at_, tries) → s1.can[n].tec < 248 →
    tdc = (bitAt s1.can[n].ctrl 4 && bitAt s1.can[n].ctrl 3 && bitAt (s1.can[n].buf k).cfg 28 && bitAt (s1.can[n].buf k).cfg 27) →
    ((tdc = true → tdcv.toNat + s1.can[n].btd % 128 ≤ 127) →
      (∃ t, exec (.canTxComplete n true (sof, tdcv)) s = .next t ∧
        t = { s1 with can := t.can, hub := t.hub, setBits := t.setBits } ∧
        (∀ m : Fin 8, m ≠ n → t.can[m] = s.can[m]) ∧ t.can[n].tec = s1.can[n].tec - 1 ∧
        t.can[n].tdcv = (if tdc then tdcv.toNat else s1.can[n].tdcv) ∧
        t.can[n].buf k = { s1.can[n].buf k with pend := none, txDone := true, txFail := false, stamp := sof.toNat }) ∧
      (∃ t, exec (.canTxComplete n false (sof, tdcv)) s = .next t ∧
        t = { s1 with can := t.can, hub := t.hub, setBits := t.setBits, free := s1.free + 1 } ∧
        (∀ m : Fin 8, m ≠ n → t.can[m] = s.can[m]) ∧ 1 ≤ t.can[n].lec ∧ t.can[n].lec ≤ 6 ∧
        t.can[n].tec = (if t.can[n].lec = 3 ∧ s1.can[n].state = .passive then s1.can[n].tec else s1.can[n].tec + 8) ∧
        t.can[n].buf k = (if (s1.can[n].buf k).cfg / 2 ^ 23 % 16 ≤ tries then
            { s1.can[n].buf k with pend := none, txFail := true, txDone := false }
          else { s1.can[n].buf k with pend := some (at_, tries + 1) })) ∧
      (∀ l, ∃ t, exec (.canError n (.tx l)) s = .next t ∧ t = { s1 with can := t.can, hub := t.hub, setBits := t.setBits } ∧
        (∀ m : Fin 8, m ≠ n → t.can[m] = s.can[m]) ∧ t.can[n].lec = l.val ∧
        t.can[n].buf k = (if (s1.can[n].buf k).cfg / 2 ^ 23 % 16 ≤ tries then
            { s1.can[n].buf k with pend := none, txFail := true, txDone := false }
          else { s1.can[n].buf k with pend := some (at_, tries + 1) }))) ∧
    (tdc = true → 127 < tdcv.toNat + s1.can[n].btd % 128 → ∀ ok,
      ∃ t, exec (.canTxComplete n ok (sof, tdcv)) s = .next t ∧ t = { s1 with can := t.can, hub := t.hub, setBits := t.setBits } ∧
        (∀ m : Fin 8, m ≠ n → t.can[m] = s.can[m]) ∧ t.can[n].tdcv = tdcv.toNat ∧ t.can[n].tec = s1.can[n].tec + 8 ∧
        t.can[n].lec = 4 ∧ (t.can[n].buf k).txDone = ((s1.can[n].buf k).txDone && (t.can[n].buf k).pend.isSome))) ∧
  (∀ (s : State) (who : Initiator) (n : Fin 8) (k : Fin 64) (v : Word), s.acts who = true →
    s.granted who (0x20 + n.val) = true →
    (s.can[n].dominant = false → v.extractLsb' 30 2 ≠ 3#2 → (v.extractLsb' 30 2 = 2#2 → v.extractLsb' 15 8 ≠ 0#8) →
      ∃ t, exec (.canMbConfigWrite who n k 0 v) s = .next t ∧ t = { s with can := t.can } ∧
        (∀ m : Fin 8, m ≠ n → t.can[m] = s.can[m]) ∧
        t.can[n].buf k.val = { s.can[n].buf k.val with cfg := v.toNat / 2 ^ 15 * 2 ^ 15 + v.toNat % 16 }) ∧
    (s.can[n].dominant = false → (v.extractLsb' 30 2 = 3#2 ∨ (v.extractLsb' 30 2 = 2#2 ∧ v.extractLsb' 15 8 = 0#8)) →
      exec (.canMbConfigWrite who n k 0 v) s = .next s) ∧
    (s.can[n].dominant = false →
      ∃ t, exec (.canMbConfigWrite who n k 1 v) s = .next t ∧ t = { s with can := t.can } ∧
        (∀ m : Fin 8, m ≠ n → t.can[m] = s.can[m]) ∧
        t.can[n].buf k.val = { s.can[n].buf k.val with id := v.toNat % 2 ^ 29 }) ∧
    (∀ r : Fin 3, s.can[n].dominant = true →
      exec (.canMbConfigWrite who n k r v) s = .next { s with can := s.can.set n ({ s.can[n] with
        cfgWait := s.can[n].cfgWait ++ [(k.val, r.val, v.toNat)] }) })))

/-- The error counters of a port (R351, R352): an error as transmitter adds 8 to TEC and one as receiver 1 to REC; from 128 on
either counter the port is error passive, and from 256 on TEC it is bus-off, where every pending buffer ends with TX_FAIL; the
recovery of a port with BOFF_AUTO or RECOVER starts both counters at zero in ACTIVE, and RECOVER clears then, unless it is set
anew in that PERI cycle (R12). A bus held dominant sets DOMINANT and writes entry 0x14B, and the first recessive bit clears it
(R353); the writes that waited for a bus idle then take effect in their order (R358). LISTEN and NORMAL are taken in
COMMISSIONING alone (R359): the port listens, or leaves restricted operation with a full refresh due (R360); being writes of
CANn_CTRL, whose other fields the applied accord locks, they leave entry 0x140 (R11). -/
def Obligations.CanErrorsAndModes : Prop :=
  (
  (∀ (s : State) (n : Fin 8) (l : Fin 7), s.canUp n = true → s.restricted n = false → s.can[n].state = .active →
    s.can[n].tec < 128 → s.can[n].rec_ < 128 →
    (∃ t, exec (.canError n (.tx l)) s = .next t ∧ t = { s with can := t.can, hub := t.hub, setBits := t.setBits } ∧
      (∀ m : Fin 8, m ≠ n → t.can[m] = s.can[m]) ∧ t.can[n].tec = s.can[n].tec + 8 ∧ t.can[n].lec = l.val ∧
      t.can[n].rec_ = s.can[n].rec_ ∧ t.can[n].state = (if 128 ≤ s.can[n].tec + 8 then .passive else .active)) ∧
    (∃ t, exec (.canError n (.rx l)) s = .next t ∧ t = { s with can := t.can, hub := t.hub, setBits := t.setBits } ∧
      (∀ m : Fin 8, m ≠ n → t.can[m] = s.can[m]) ∧ t.can[n].rec_ = s.can[n].rec_ + 1 ∧ t.can[n].tec = s.can[n].tec ∧
      t.can[n].state = (if 128 ≤ s.can[n].rec_ + 1 then .passive else .active))) ∧
  (∀ (s : State) (n : Fin 8) (l : Fin 7), s.canUp n = true → s.restricted n = false → l.val ≠ 3 → 248 ≤ s.can[n].tec →
    ∃ t, exec (.canError n (.tx l)) s = .next t ∧ t = { s with can := t.can, hub := t.hub, setBits := t.setBits } ∧
      (∀ m : Fin 8, m ≠ n → t.can[m] = s.can[m]) ∧ t.can[n].state = .busOff ∧
      (∀ k, (s.can[n].buf k).pend.isSome = true → (t.can[n].buf k).pend = none ∧ (t.can[n].buf k).txFail = true)) ∧
  (∀ (s : State) (n : Fin 8), s.alive = true → s.can[n].state = .busOff → (bitAt s.can[n].ctrl 6 = true ∨
    s.can[n].recover = true) →
    ∃ t, exec (.busOffRecovery n) s = .next t ∧ t = { s with can := t.can, setBits := t.setBits } ∧
      t.can = s.can.set n ({ s.can[n] with state := .active, tec := 0, rec_ := 0, recover := s.setNow (canAddr n 0) 8 })) ∧
  (∀ (s : State) (who : Initiator) (n : Fin 8), s.acts who = true → s.granted who (0x20 + n.val) = true →
    s.can[n].state = .busOff →
    s.can[n].ctrl < 256 →
    (s.acc.locked = false → s.can[n].ctrl % 4 = 1 →
      ∃ t, exec (.canRecover who n) s = .next t ∧ t = { s with can := t.can, setBits := t.setBits } ∧
        t.can = s.can.set n ({ s.can[n] with recover := true })) ∧
    (s.acc.locked = true →
      ∃ t, exec (.canRecover who n) s = .next t ∧ t = { s with can := t.can, hub := t.hub, sil := t.sil,
                                                               setBits := t.setBits } ∧
        t.can = s.can.set n ({ s.can[n] with recover := true })))) ∧
  (
  (∀ (s : State) (n : Fin 8), s.alive = true → s.can[n].state ≠ .disabled → s.can[n].dominant = false →
    s.sil.queue.length < 64 →
    ∃ t e, exec (.canBusDominant n) s = .next t ∧ t = { s with can := t.can, sil := t.sil, setBits := t.setBits } ∧
      (∀ m : Fin 8, m ≠ n → t.can[m] = s.can[m]) ∧ t.can[n].dominant = true ∧ t.can[n].bufs = s.can[n].bufs ∧
      t.sil.queue = s.sil.queue ++ [e] ∧ e.num = 0x14B ∧ e.cls = 3 ∧ e.block = 0x09 ∧ e.inst = n.val) ∧
  (∀ (s : State) (n : Fin 8), s.alive = true →
    ∃ t, exec (.dominantClear n) s = .next t ∧ t = { s with can := t.can } ∧ (∀ m : Fin 8, m ≠ n → t.can[m] = s.can[m]) ∧
      t.can[n] = { s.can[n] with dominant := false, cfgWait := [], bufs := t.can[n].bufs } ∧
      (s.can[n].cfgWait = [] → t.can[n].bufs = s.can[n].bufs) ∧
      (∀ k v, s.can[n].cfgWait = [(k, 1, v)] → t.can[n].buf k = { s.can[n].buf k with id := v % 2 ^ 29 })) ∧
  (∀ (s : State) (who : Initiator) (n : Fin 8), s.acts who = true → s.granted who (0x20 + n.val) = true →
    s.can[n].ctrl < 256 → s.acc.locked = true →
    (s.sys.state = .commissioning →
      (∃ t, exec (.listen who n) s = .next t ∧ t = { s with can := t.can, hub := t.hub, sil := t.sil, setBits := t.setBits } ∧
        t.can = s.can.set n ({ s.can[n] with listen := true })) ∧
      (s.can[n].listen = true →
        ∃ t, exec (.normal who n) s = .next t ∧ t = { s with can := t.can, hub := t.hub, sil := t.sil, setBits := t.setBits } ∧
          t.can = s.can.set n ({ s.can[n] with listen := false, refreshGood := true }))) ∧
    (s.sys.state ≠ .commissioning → ∀ c ∈ [Instr.listen who n, Instr.normal who n],
      ∃ t, exec c s = .next t ∧ t = { s with can := t.can, hub := t.hub, sil := t.sil, setBits := t.setBits } ∧
        t.can[n] = { s.can[n] with err := t.can[n].err } ∧ bitAt t.can[n].err 9 = true) ∧
    (s.sil.queue.length < 64 → s.sys.state = .commissioning → ∀ c ∈ [Instr.listen who n, Instr.normal who n],
      ∃ t e, exec c s = .next t ∧ t.sil.queue = s.sil.queue ++ [e] ∧ e.num = 0x140 ∧ e.cls = 2)))

/-- STATION_INPUT_FRAME: the complete single-frame block of a GOOD station becomes its input block with the age of the present
top note, written to its idle input buffer, which becomes the current one (R363, R364; the places of the two buffers are those
that MEMORY declares, log entry 23); the second frame of a set completes the block held from the first; a frame of a wrong
length is discarded and counted. FRAME_SET_EXPIRY, once SET_WIN microseconds of the time base are past, discards and counts a
held first frame (R364). An FD frame on a port without FD is an error and changes no station and no buffer (R347).
STATION_HEARTBEAT of a lost station makes it RETURNING with its refresh due (R368, R370). HEARTBEAT_CHECK, once in a note,
clears the mark of a beat, and after MISS_N misses it declares the station LOST, drops its queued frames and counts the loss
(R369). -/
def Obligations.Stations : Prop :=
  (
  (∀ (s : State) (n : Fin 8) (f : CanFrame) (i : Nat) (c : StnCfg) (x : Station), s.canUp n = true → s.can[n].tec < 256 →
    s.stnOf n f = some (i, 0) → s.stnCfg n i = some c → s.can[n].stn? i = some x → c.inLen ≤ 64 →
    (f.fdf = false ∨ bitAt s.can[n].ctrl 2 = true) →
    (f.data.length = fdLen c.inLen → x.state = .good →
      ∃ t, exec (.stationInputFrame n f) s = .next t ∧
        t = { s with can := t.can, hub := t.hub, setBits := t.setBits, mem := t.mem, fab := t.fab, se := t.se } ∧
        (∀ m : Fin 8, m ≠ n → t.can[m] = s.can[m]) ∧
        ((∀ r ∈ s.run.mem.stnBufs, ¬(r.1 = n.val ∧ r.2.1 = i)) → t.mem = s.mem) ∧
        (∀ a b, s.run.mem.stnBufs = [(n.val, i, a, b)] →
          t.mem = Mem.writeN s.mem (if x.side then a else b) (f.data.take c.inLen)) ∧
        t.can[n].stn? i = some { x with
          block := f.data.take c.inLen, side := !x.side, age := s.fs.tnc % 2 ^ 32, lastSeq := none,
          fresh := some (s.now / periV, x.block, x.age, x.goodNext) } ∧ t.can[n].marks.1.contains i = true) ∧
    (f.data.length ≠ fdLen c.inLen → s.can[n].incomplete < 65535 →
      ∃ t, exec (.stationInputFrame n f) s = .next t ∧ t = { s with can := t.can, hub := t.hub, setBits := t.setBits } ∧
        (∀ m : Fin 8, m ≠ n → t.can[m] = s.can[m]) ∧ t.can[n].stn? i = some x ∧
        t.can[n].incomplete = s.can[n].incomplete + 1)) ∧
  (∀ (s : State) (n : Fin 8) (f h : CanFrame) (i : Nat) (c : StnCfg) (x : Station), s.canUp n = true → s.can[n].tec < 256 →
    s.stnOf n f = some (i, 1) → s.stnCfg n i = some c → s.can[n].stn? i = some x → 64 < c.inLen → x.state = .good →
    x.held = some h → f.data.length = fdLen (c.inLen - 62) → leAt f.data 0 1 = leAt h.data 0 1 + 128 → leAt h.data 0 1 < 128 →
    x.lastSeq ≠ some (leAt h.data 0 1) → (f.sof.toNat + 2 ^ 32 - h.sof.toNat) % 2 ^ 32 ≤ 10 * c.setWin →
    (f.fdf = false ∨ bitAt s.can[n].ctrl 2 = true) →
    ∃ t, exec (.stationInputFrame n f) s = .next t ∧
      t = { s with can := t.can, hub := t.hub, setBits := t.setBits, mem := t.mem, fab := t.fab, se := t.se } ∧
      (∀ m : Fin 8, m ≠ n → t.can[m] = s.can[m]) ∧
      t.can[n].stn? i = some { x with held := none, block := (h.data.drop 1 ++ f.data.drop 1).take c.inLen,
                                      side := !x.side, age := s.fs.tnc % 2 ^ 32, lastSeq := some (leAt h.data 0 1),
                                      fresh := some (s.now / periV, x.block, x.age, x.goodNext) }) ∧
  (∀ (s : State) (n : Fin 8) (i : Fin 64) (c : StnCfg) (x : Station) (h : CanFrame) (gone : Nat), s.alive = true →
    s.stnCfg n i.val = some c → s.can[n].stn? i.val = some x → x.held = some h → s.can[n].incomplete < 65535 →
    gone = (s.now / 400 % 2 ^ 32 + 2 ^ 32 - h.sof.toNat) % 2 ^ 32 →
    ∃ t, exec (.frameSetExpiry n i) s = .next t ∧ t = { s with now := t.now, can := t.can, hub := t.hub,
                                                               setBits := t.setBits } ∧
      t.now = s.now + (10 * c.setWin + 1 - gone) * 400 ∧
      (∀ m : Fin 8, m ≠ n → t.can[m] = s.can[m]) ∧ t.can[n].stn? i.val = some { x with held := none } ∧
      t.can[n].incomplete = s.can[n].incomplete + 1) ∧
  (∀ (s : State) (n : Fin 8) (f : CanFrame), s.canUp n = true → s.can[n].tec < 256 → f.fdf = true → bitAt s.can[n].ctrl 2 = false →
    ∀ c ∈ [Instr.stationInputFrame n f, Instr.stationHeartbeat n f, Instr.canMbRxFrame n f],
      ∃ t, exec c s = .next t ∧ t = { s with can := t.can, hub := t.hub, setBits := t.setBits } ∧
        (∀ m : Fin 8, m ≠ n → t.can[m] = s.can[m]) ∧ t.can[n].lec = 2 ∧ t.can[n].bufs = s.can[n].bufs ∧
        t.can[n].stns = s.can[n].stns)) ∧
  (
  (∀ (s : State) (n : Fin 8) (f : CanFrame) (i : Nat) (x : Station), s.canUp n = true → s.stnOf n f = some (i, 3) →
    s.can[n].stn? i = some x → f.data.length = 8 → leAt f.data 0 1 = 1 → x.state = .lost → s.can[n].tec < 256 →
    (f.fdf = false ∨ bitAt s.can[n].ctrl 2 = true) →
    ∃ t y, exec (.stationHeartbeat n f) s = .next t ∧ t = { s with can := t.can, hub := t.hub, setBits := t.setBits } ∧
      (∀ m : Fin 8, m ≠ n → t.can[m] = s.can[m]) ∧
      t.can[n].stn? i = some y ∧ y.state = .returning ∧ y.refresh = .due ∧ y.beat = true ∧ y.misses = 0 ∧
      y.uptime = leAt f.data 4 4 ∧ y.block = x.block) ∧
  (∀ (s : State) (n : Fin 8) (i : Fin 64) (c : StnCfg) (x : Station), s.notesRun = true → s.stnCfg n i.val = some c →
    s.can[n].stn? i.val = some x → s.fs.tnc % c.hbDiv = 0 → x.checked ≠ some s.fs.tnc →
    (x.beat = true →
      ∃ t, exec (.heartbeatCheck n i) s = .next t ∧ t = { s with now := t.now, can := t.can } ∧
        t.now = max s.now (s.fs.tickAt + c.hbDue * 4000) ∧ (∀ m : Fin 8, m ≠ n → t.can[m] = s.can[m]) ∧
        t.can[n].stn? i.val = some { x with beat := false, misses := 0, checked := some s.fs.tnc }) ∧
    (x.beat = false → c.missN ≤ x.misses + 1 → x.misses + 1 ≤ 16 → x.state ≠ .lost → s.can[n].losses < 65535 →
      ∃ t y, exec (.heartbeatCheck n i) s = .next t ∧ t = { s with now := t.now, can := t.can, hub := t.hub,
                                                                   setBits := t.setBits } ∧
        (∀ m : Fin 8, m ≠ n → t.can[m] = s.can[m]) ∧ t.can[n].stn? i.val = some y ∧ y.state = .lost ∧
        (∀ o ∈ t.can[n].outQ, o.st ≠ i.val) ∧ t.can[n].losses = s.can[n].losses + 1)))

/-- ETH_RX_FRAME (R377, R380, R381): a good frame with a declared VID is counted and goes to the exchange engine, the PTP
unit, the twin or the destination role by its interface and port; a frame with a wrong FCS, without room, with an undeclared
VID or with an unsupported IP feature is dropped and counted. ETH_LINK_CHANGE of an enabled port sets LINK, and a write of
CNT_CLEAR restarts the counters and the FIFO peak of one port and, writing a register of RWL fields, leaves entry 0x140 once
an accord is applied (R11, R407, R408). XSX_REPORT (R391, R392): an accepted telegram is written to the entry of its
substation, after the cycles of R394 with a wait of at most 255 FAB cycles for a slot, with SEQ and the top note, its state
bits say reported and addressed, XSX_ACCEPTED counts and no byte outside the entry changes; a rejected one counts under its
cause, which XSX_LAST_REJ names, and leaves XSX_ACCEPTED; a datagram whose LENGTH does not match is rejected with cause 1. An
entry that would be written with or after the coming base-tick update waits for it, and later telegrams behind it (R393,
R394). -/
def Obligations.EthernetAndExchange : Prop :=
  (
  ∀ (s : State) (n : Fin 4) (f : EthIn), s.alive = true → s.net.eth[n].enable = true →
    (∀ i p, f.fcsOk = true → f.len ≤ 1522 → f.waiting + f.len ≤ 65536 → s.ifaceOf n f.vid = some i → f.kind = .udp p →
      bitAt i.roles 3 = false →
      ∃ t, exec (.ethRxFrame n f) s = .next t ∧ t = { s with net := t.net } ∧ t.net = { s.net with eth := t.net.eth } ∧
        (∀ m : Fin 4, m ≠ n → t.net.eth[m] = s.net.eth[m]) ∧ t.net.eth[n].rx = (s.net.eth[n].rx + 1) % 2 ^ 32 ∧
        t.net.eth[n].peak = max s.net.eth[n].peak ((f.waiting + f.len + 63) / 64) ∧
        t.net.eth[n].dest = some (if bitAt i.roles 0 = true ∧ p = s.run.comms.xsxPort then .xsx
          else if bitAt i.roles 2 = true ∧ (p = 319 ∨ p = 320) then .ptp else .role)) ∧
    ((f.fcsOk = false ∨ 1522 < f.len) → s.net.eth[n].dFcs < 255 →
      ∃ t, exec (.ethRxFrame n f) s = .next t ∧ t = { s with net := t.net, hub := t.hub, setBits := t.setBits } ∧
        t.net.eth[n] = { s.net.eth[n] with dFcs := s.net.eth[n].dFcs + 1, dest := some .dropped }) ∧
    (f.fcsOk = true → f.len ≤ 1522 → 65536 < f.waiting + f.len → s.net.eth[n].dFifo < 255 →
      ∃ t, exec (.ethRxFrame n f) s = .next t ∧ t = { s with net := t.net, hub := t.hub, setBits := t.setBits } ∧
        t.net.eth[n] = { s.net.eth[n] with dFifo := s.net.eth[n].dFifo + 1, dest := some .dropped }) ∧
    (f.fcsOk = true → f.len ≤ 1522 → f.waiting + f.len ≤ 65536 → s.ifaceOf n f.vid = none →
      ∃ t, exec (.ethRxFrame n f) s = .next t ∧ t = { s with net := t.net, hub := t.hub, setBits := t.setBits } ∧
        t.net.eth[n].dest = some .dropped ∧
          t.net.eth[n].dVid = (if s.net.eth[n].dVid < 255 then s.net.eth[n].dVid + 1 else s.net.eth[n].dVid))) ∧
  (
  (∀ (s : State) (n : Fin 4) (up : Bool), s.alive = true → s.net.eth[n].enable = true → s.net.eth[n].link ≠ up →
    ∃ t, exec (.ethLinkChange n up) s = .next t ∧ t = { s with net := t.net, hub := t.hub, setBits := t.setBits } ∧
      t.net = { s.net with eth := s.net.eth.set n ({ s.net.eth[n] with link := up }) }) ∧
  (∀ (s : State) (who : Initiator) (n : Fin 4), s.acts who = true → s.granted who (0x30 + n.val) = true →
    (s.acc.locked = false →
      exec (.ethCounterClear who n) s = .next { s with net := { s.net with eth := s.net.eth.set n ({ s.net.eth[n] with
        rx := 0, tx := 0, dFifo := 0, dVid := 0, dFcs := 0, dProto := 0, peak := 0 }) } }) ∧
    (s.acc.locked = true → s.sil.queue.length < 64 →
      ∃ e, exec (.ethCounterClear who n) s = .next { s with
        net := { s.net with eth := s.net.eth.set n ({ s.net.eth[n] with
          rx := 0, tx := 0, dFifo := 0, dVid := 0, dFcs := 0, dProto := 0, peak := 0 }) },
        sil := { s.sil with queue := s.sil.queue ++ [e] } } ∧ e.num = 0x140 ∧ e.cls = 2))) ∧
  (
  ∀ (s : State) (x : XsxIn) (e c : Nat) (waits : Bool), Inv s → s.alive = true → s.net.xsx.enable = true →
    e = s.xsxEnd (leAt x.bytes 12 2) →
    c = (s.now + 9) / 10 + 14 + 24 * (6 + (18 + leAt x.bytes 12 2 + 135) / 136) →
    waits = (!s.net.xsx.held.isEmpty || (s.xsxCause x.bytes == 0 && s.notesRun && s.fs.baseBy (decide (s.nextTick ≤ e)))) →
    (waits = true → exec (.xsxReport x) s = .next { s with net := { s.net with xsx := { s.net.xsx with
      held := s.net.xsx.held ++ [x] } } }) ∧
    (waits = false → ∃ t, exec (.xsxReport x) s = .next t ∧
      t = { s with now := t.now, free := t.free, net := t.net, hub := t.hub, mem := t.mem, fab := t.fab, se := t.se,
                   sil := t.sil,
                   setBits := t.setBits } ∧
      t.net = { s.net with xsx := t.net.xsx } ∧
      (s.xsxCause x.bytes = 0 → s.regionOk .xsx (s.substAt (leAt x.bytes 2 2)) 64 true = true →
        t.now = e ∧ 10 * c ≤ e ∧ e ≤ 10 * (c + 255) ∧ t.net.xsx.accepted = (s.net.xsx.accepted + 1) % 2 ^ 32 ∧ t.net.xsx.rej = s.net.xsx.rej ∧
        Mem.readN t.mem (s.substAt (leAt x.bytes 2 2)) 4 = slice x.bytes 4 4 ∧
        Mem.le t.mem (s.substAt (leAt x.bytes 2 2) + 4) 4 = s.fs.tnc % 2 ^ 32 ∧
        t.substState (leAt x.bytes 2 2) = 12 ∧
        (∀ a, (a < s.substAt (leAt x.bytes 2 2) ∨ s.substAt (leAt x.bytes 2 2) + 64 ≤ a) →
          Mem.read a t.mem = Mem.read a s.mem)) ∧
      (s.xsxCause x.bytes ≠ 0 → t.net.xsx.accepted = s.net.xsx.accepted ∧
        t.net.xsx.last = (s.xsxCause x.bytes, leAt x.bytes 2 2 % 4096) ∧ t.now = s.now) ∧
      (x.bytes.length ≠ 32 + leAt x.bytes 12 2 → t.net.xsx.last.1 = 1 ∧ t.mem = s.mem)))

/-- The PTP clock (R383 to R386): a write of PTP_ADJ is clamped to ±17,179,869, sets ADJ_LIMIT when it was and never moves the
time; a step moves the clock at the next NET edge by whole nanoseconds without a second pulse; a rollover of the seconds
counts the pulse and captures TB and the seconds; a timestamp is posted to producer 16 + n. The read shadows of the PTP block
(R408): the opening read of a group answers its low word and freezes the rest for its initiator; the closing read answers the
frozen word and releases the group. -/
def Obligations.PrecisionTime : Prop :=
  (
  (∀ (s : State) (who : Initiator) (v : Word), s.acts who = true → s.granted who 0x34 = true →
    s.now / 32 < s.net.ptp.rollEdge →
    ∃ t, exec (.ptpAdjWrite who v) s = .next t ∧ t = { s with net := t.net, hub := t.hub, setBits := t.setBits } ∧
      t.net = { s.net with ptp := t.net.ptp } ∧
      t.net.ptp.adj = (if v.toInt < -17179869 then -17179869 else if 17179869 < v.toInt then 17179869 else v.toInt) ∧
      t.net.ptp.adjLimit = (s.net.ptp.adjLimit || decide (v.toInt < -17179869) || decide (17179869 < v.toInt)) ∧
      t.net.ptp.at (s.now / 32) = s.net.ptp.at (s.now / 32)) ∧
  (∀ (s : State) (who : Initiator) (v : Word), s.acts who = true → s.granted who 0x34 = true →
    s.now / 32 + 1 < s.net.ptp.rollEdge →
    ∃ t, exec (.ptpStep who v) s = .next t ∧ t = { s with now := t.now, net := t.net, hub := t.hub, setBits := t.setBits } ∧
      t.now = max s.now ((s.now / 32 + 1) * 32) ∧ t.net = { s.net with ptp := t.net.ptp } ∧
      t.net.ptp.edge = s.now / 32 + 1 ∧ t.net.ptp.pulses = s.net.ptp.pulses ∧
      (t.net.ptp.time : Int) = ((s.net.ptp.at (s.now / 32 + 1) : Nat) + v.toInt * 2 ^ 32) % (2 ^ 48 * (1000000000 * 2 ^ 32))) ∧
  (∀ (s : State), s.alive = true →
    ∃ t, exec .ptpSecondRollover s = .next t ∧
      t = { s with now := t.now, fs := t.fs, net := t.net, hub := t.hub, sil := t.sil, setBits := t.setBits } ∧
      (s.fs.src ≠ 2 → t.fs = s.fs) ∧
      t.now = max s.now ((s.net.ptp.rollEdge * 32 + 39) / 40 * 40) ∧ t.net = { s.net with ptp := t.net.ptp } ∧
      t.net.ptp = { s.net.ptp with pulses := (s.net.ptp.pulses + 1) % 65536, pulseSec := s.net.ptp.pulseSec + 1,
                                   refTb := (s.net.ptp.rollEdge * 32 + 39) / 40 * 40 / 400, refSec := (s.net.ptp.pulseSec + 1) % 2 ^ 32 }) ∧
  (∀ (s : State) (n : Fin 4) (m : PtpMsg), s.alive = true → s.net.ptp.enable = true → s.net.eth[n].enable = true →
    s.run.comms.ptpOn n m.iface = true → s.run.producer (16 + n.val) = true → (s.fab.producer (16 + n.val)).queue.length < 4 →
      (s.fab.producer (16 + n.val)).held = [] → m.source.length = 10 →
    ∃ t r, exec (.ptpTimestamp n m) s = .next t ∧ t = { s with net := t.net, fab := t.fab, hub := t.hub,
                                                               setBits := t.setBits } ∧
      (t.fab.producer (16 + n.val)).queue = (s.fab.producer (16 + n.val)).queue ++ [r] ∧ r.role = 6 ∧
      r.data.take 8 = toLe 8 (s.now / 32 * 32 / 400) ∧ (r.data.drop 20).take 16 = toLe 1 m.type ++ toLe 1 (if m.sent then 1 else 0) ++
        toLe 2 m.seq ++ toLe 1 m.domain ++ toLe 1 m.iface ++ m.source)) ∧
  (
  (∀ (s : State) (who : Initiator) (g : PtpGroup), s.acts who = true →
    ∃ t, exec (.ptpShadowOpenRead who g) s = .next t ∧ t = { s with net := t.net, fab := t.fab } ∧
      Tbl.get? who.code t.fab.answers = some (Answer.ofData (s.ptpRead who (match g with | .time => 0x08 | .ref => 0x1C))) ∧
      t.ptpCloseVal who g = (match g with | .time => s.ptpNow.2 | .ref => s.net.ptp.refTb / 2 ^ 32)) ∧
  (∀ (s : State) (who : Initiator) (a b : Nat), s.acts who = true → Tbl.get? who.code s.net.ptp.shTime = some (a, b) →
    ∃ t, exec (.ptpShadowCloseRead who .time) s = .next t ∧ t = { s with net := t.net, fab := t.fab } ∧
      Tbl.get? who.code t.fab.answers = some (Answer.ofData b) ∧ Tbl.get? who.code t.net.ptp.shTime = none) ∧
  (∀ (s : State) (who : Initiator) (a : Nat), s.acts who = true → Tbl.get? who.code s.net.ptp.shRef = some a →
    ∃ t, exec (.ptpShadowCloseRead who .ref) s = .next t ∧ t = { s with net := t.net, fab := t.fab } ∧
      Tbl.get? who.code t.fab.answers = some (Answer.ofData a) ∧ Tbl.get? who.code t.net.ptp.shRef = none))

/-- Reads: one coil, discrete input, holding register or input register of a mapped value answers that value, the most
significant byte first; an address without an entry answers exception 02 and a quantity of 0 exception 03 (R397, R398; the
quantity limits are the model's reading of the Modbus standard, DEDUCED, log entry 16). Only the connection that asked
changes. Writes: in DRYDOWN, CONFIGURE and SAFE_HOLD, and in twin standby, a write answers exception 04 and nothing is written
(R399, R542); otherwise the values of writable entries wait for the next input latch and the request is echoed, and a request
that touches anything else answers exception 02 with nothing written (R398, R399). Identity objects and the rest of the
server: function 43 answers the vendor name for object 0 and exception 02 for an object that is not there (R400); any function
that the server does not implement answers exception 01 (R397); a client in the allow list takes the first of the eight
connections that is free and any other client is refused; an idle connection closes after MB_IDLE seconds (R397). -/
def Obligations.Modbus : Prop :=
  (
  ∀ (s : State) (c : Fin 8) (x : MbConn) (a : BitVec 16), s.acts (.role 6) = true →
    s.net.mb[c] = some x → s.now < x.used + s.run.comms.mbIdle * 4000000000 →
    (∀ e, s.run.comms.mapAt 0 a.toNat = some e → exec (.readCoils c a 1) s = .next { s with net := { s.net with
      mb := s.net.mb.set c (some { x with used := s.now, reply := some { fc := 1, data := [1,
                                                                         if mbBits e.type (s.mapVal e ((a.toNat - e.start) / e.width)).1 = 0 then 0 else 1] } }) } }) ∧
    (∀ e, s.run.comms.mapAt 1 a.toNat = some e → exec (.readDiscreteInputs c a 1) s = .next { s with net := { s.net with
      mb := s.net.mb.set c (some { x with used := s.now, reply := some { fc := 2, data := [1,
                                                                         if mbBits e.type (s.mapVal e ((a.toNat - e.start) / e.width)).1 = 0 then 0 else 1] } }) } }) ∧
    (∀ e v, s.run.comms.mapAt 2 a.toNat = some e → mbWords e.type = 1 → (a.toNat - e.start) % e.width = 0 →
      v = mbBits e.type (s.mapVal e ((a.toNat - e.start) / e.width)).1 →
      exec (.readHoldingRegisters c a 1) s = .next { s with net := { s.net with
        mb := s.net.mb.set c (some { x with used := s.now, reply := some { fc := 3, data := [2, BitVec.ofNat 8 (v / 256),
                                                                           BitVec.ofNat 8 v] } }) } }) ∧
    (∀ e v, s.run.comms.mapAt 3 a.toNat = some e → mbWords e.type = 1 → (a.toNat - e.start) % e.width = 0 →
      v = mbBits e.type (s.mapVal e ((a.toNat - e.start) / e.width)).1 →
      exec (.readInputRegisters c a 1) s = .next { s with net := { s.net with
        mb := s.net.mb.set c (some { x with used := s.now, reply := some { fc := 4, data := [2, BitVec.ofNat 8 (v / 256),
                                                                           BitVec.ofNat 8 v] } }) } }) ∧
    (s.run.comms.mapAt 0 a.toNat = none → exec (.readCoils c a 1) s = .next { s with net := { s.net with
      mb := s.net.mb.set c (some { x with used := s.now, reply := some { fc := 129, data := [2] } }) } }) ∧
    (s.run.comms.mapAt 2 a.toNat = none → exec (.readHoldingRegisters c a 1) s = .next { s with net := { s.net with
      mb := s.net.mb.set c (some { x with used := s.now, reply := some { fc := 131, data := [2] } }) } }) ∧
    exec (.readCoils c a 0) s = .next { s with net := { s.net with
      mb := s.net.mb.set c (some { x with used := s.now, reply := some { fc := 129, data := [3] } }) } }) ∧
  (
  (∀ (s : State) (c : Fin 8) (x : MbConn) (a v : BitVec 16), s.acts (.role 6) = true →
    s.net.mb[c] = some x → s.now < x.used + s.run.comms.mbIdle * 4000000000 → s.mbRefused = true →
    exec (.writeSingleCoil c a v) s = .next { s with net := { s.net with
      mb := s.net.mb.set c (some { x with used := s.now, reply := some { fc := 133, data := [4] } }) } } ∧
    exec (.writeSingleRegister c a v) s = .next { s with net := { s.net with
      mb := s.net.mb.set c (some { x with used := s.now, reply := some { fc := 134, data := [4] } }) } }) ∧
  (∀ (s : State) (c : Fin 8) (x : MbConn) (a v : BitVec 16) (e : MapEntry), s.acts (.role 6) = true →
    s.net.mb[c] = some x → s.now < x.used + s.run.comms.mbIdle * 4000000000 →
    s.mbRefused = false → s.run.comms.mapAt 2 a.toNat = some e → e.type = 4 → (a.toNat - e.start) % e.width = 0 →
    s.mbWritable e ((a.toNat - e.start) / e.width) = true →
    exec (.writeSingleRegister c a v) s = .next { s with net := { s.net with
      mbWait := s.net.mbWait ++ [(e.sub, e.ref + (a.toNat - e.start) / e.width, v.toNat)],
      mb := s.net.mb.set c (some { x with used := s.now, reply := some { fc := 6,
                                                                         data := be16 a.toNat ++ be16 v.toNat } }) } } ∧
    exec (.writeMultipleRegisters c a [v]) s = .next { s with net := { s.net with
      mbWait := s.net.mbWait ++ [(e.sub, e.ref + (a.toNat - e.start) / e.width, v.toNat)],
      mb := s.net.mb.set c (some { x with used := s.now, reply := some { fc := 16, data := be16 a.toNat ++ [0, 1] } }) } } ∧
    (∃ d, exec (.readWriteMultipleRegisters c a 1 a [v]) s = .next { s with net := { s.net with
      mbWait := s.net.mbWait ++ [(e.sub, e.ref + (a.toNat - e.start) / e.width, v.toNat)],
      mb := s.net.mb.set c (some { x with used := s.now, reply := some { fc := 23, data := 2 :: d } }) } })) ∧
  (∀ (s : State) (c : Fin 8) (x : MbConn) (a : BitVec 16) (e : MapEntry) (on : Bool), s.acts (.role 6) = true →
    s.net.mb[c] = some x → s.now < x.used + s.run.comms.mbIdle * 4000000000 →
    s.mbRefused = false → s.run.comms.mapAt 0 a.toNat = some e → e.type = 0 →
    s.mbWritable e ((a.toNat - e.start) / e.width) = true →
    exec (.writeSingleCoil c a (if on then 0xFF00 else 0)) s = .next { s with net := { s.net with
      mbWait := s.net.mbWait ++ [(e.sub, e.ref + (a.toNat - e.start) / e.width, if on then 1 else 0)],
      mb := s.net.mb.set c (some { x with used := s.now, reply := some { fc := 5,
                                                                         data := be16 a.toNat ++ [if on then 0xFF else 0,
        0] } }) } } ∧
    exec (.writeMultipleCoils c a [on]) s = .next { s with net := { s.net with
      mbWait := s.net.mbWait ++ [(e.sub, e.ref + (a.toNat - e.start) / e.width, if on then 1 else 0)],
      mb := s.net.mb.set c (some { x with used := s.now, reply := some { fc := 15, data := be16 a.toNat ++ [0, 1] } }) } }) ∧
  (∀ (s : State) (c : Fin 8) (x : MbConn) (a v : BitVec 16), s.acts (.role 6) = true →
    s.net.mb[c] = some x → s.now < x.used + s.run.comms.mbIdle * 4000000000 →
    s.mbRefused = false → s.run.comms.mapAt 2 a.toNat = none →
    exec (.writeSingleRegister c a v) s = .next { s with net := { s.net with
      mb := s.net.mb.set c (some { x with used := s.now, reply := some { fc := 134, data := [2] } }) } } ∧
    exec (.writeMultipleRegisters c a [v]) s = .next { s with net := { s.net with
      mb := s.net.mb.set c (some { x with used := s.now, reply := some { fc := 144, data := [2] } }) } })) ∧
  (
  (∀ (s : State) (c : Fin 8) (x : MbConn) (fc : Byte), s.acts (.role 6) = true →
    s.net.mb[c] = some x → s.now < x.used + s.run.comms.mbIdle * 4000000000 →
    exec (.readDeviceIdentification c 4 0) s = .next { s with net := { s.net with
      mb := s.net.mb.set c (some { x with used := s.now, reply := some { fc := 43, data := [14, 4, 0x83, 0, 0, 1, 0,
                                                                         7] ++ ascii "Goleano" } }) } } ∧
    exec (.readDeviceIdentification c 4 3) s = .next { s with net := { s.net with
      mb := s.net.mb.set c (some { x with used := s.now, reply := some { fc := 171, data := [2] } }) } } ∧
    (fc < 128#8 → mbImplemented fc.toNat = false → exec (.modbusUnknownFunction c fc) s = .next { s with net := { s.net with
      mb := s.net.mb.set c (some { x with used := s.now, reply := some { fc := fc.toNat + 128, data := [1] } }) } })) ∧
  (∀ (s : State) (addr : List Byte), s.scada = true →
    (∀ c : Fin 8, s.run.comms.admits addr = true → s.mbSweep.net.mb[c] = none → (∀ k : Fin 8, k < c →
      s.mbSweep.net.mb[k] ≠ none) →
      exec (.modbusConnect addr) s = .next { s with net := { s.net with
        mb := s.mbSweep.net.mb.set c (some { addr := addr, used := s.now, reply := none }), mbLast := some (some c.val) } }) ∧
    ((s.run.comms.admits addr = false ∨ ∀ k : Fin 8, s.mbSweep.net.mb[k] ≠ none) →
      exec (.modbusConnect addr) s = .next { s with net := { s.net with mb := s.mbSweep.net.mb, mbLast := some none } })) ∧
  (∀ (s : State) (c : Fin 8) (x : MbConn), s.net.mb[c] = some x →
    (x.used + s.run.comms.mbIdle * 4000000000 ≤ s.now → s.mbSweep.net.mb[c] = none) ∧
    (s.now < x.used + s.run.comms.mbIdle * 4000000000 → s.mbSweep.net.mb[c] = some x) ∧
    ∃ t, exec (.modbusIdleClose c) s = .next t ∧ t = { s with now := t.now, net := t.net } ∧
      t.now = max s.now (x.used + s.run.comms.mbIdle * 4000000000) ∧ t.net = { s.net with mb := s.net.mb.set c none }))

/-- HELLO with a usable root key begins a session that is not yet ready and answers CHALLENGE; PROVE with the right tag and
SEQ makes it ready and answers READY with the level open; a wrong tag answers ERROR 2 and closes the session (R401, R402).
CLOSE and 300 s without a frame end it (R402). -/
def Obligations.ServiceSessions : Prop :=
  (∀ (s b : State) (x : Fin 2) (f : SvcIn) (k : List Byte), s.svcUp = true → b = s.svcClear x → b.net.svc[x] = none →
    svcForm f = true → f.len = 36 → slice f.payload 2 2 = zeros 2 → f.tag = zeros 16 → b.svcRoot = some k →
    ∃ t q g, exec (.hello x f) s = .next t ∧
      t = { b with free := t.free, net := { b.net with svc := t.net.svc, svcOut := t.net.svcOut } } ∧ t.net.svc[x] = some q ∧
      q.ready = false ∧ q.client = leAt f.payload 0 2 ∧ q.nc = slice f.payload 4 32 ∧ q.nm.length = 32 ∧
      q.key = sessionKey k q.client q.nc q.nm ∧ t.net.svcOut[x] = [g] ∧ g.type = 2 ∧ g.seq = 0 ∧ g.tag = zeros 16 ∧
      g.payload.length = 48 ∧ g.payload.take 32 = q.nm) ∧
  (∀ (s b : State) (x : Fin 2) (f : SvcIn) (q : SvcSess), s.svcUp = true → b = s.svcClear x → b.net.svc[x] = some q →
    svcForm f = true →
    (q.ready = false → f.len = 0 → f.seq = q.seqIn → f.tag = svcTag q.key (svcHeader 3 f.flags f.seq f.len) f.payload →
      ∃ t g, exec (.prove x f) s = .next t ∧ t = { b with net := { b.net with svc := t.net.svc, svcOut := t.net.svcOut } } ∧
        t.net.svc[x] = some { q with ready := true, used := b.now, seqIn := (q.seqIn + 1) % 2 ^ 32,
                                     seqOut := (q.seqOut + 1) % 2 ^ 32 } ∧
        t.net.svcOut[x] = [g] ∧ g.type = 4 ∧ g.seq = q.seqOut ∧ g.payload = toLe 1 b.key.level ++ [0, 0, 0] ∧
        g.tag = svcTag q.key (svcHeader 4 0 q.seqOut 4) g.payload) ∧
    (q.ready = false → f.len = 0 → f.tag ≠ svcTag q.key (svcHeader 3 f.flags f.seq f.len) f.payload →
      ∃ t g, exec (.prove x f) s = .next t ∧
        t = { b with net := { b.net with svc := t.net.svc, svcOut := t.net.svcOut }, sil := t.sil } ∧ t.net.svc[x] = none ∧
        t.net.svcOut[x] = [g] ∧ g.type = 0xF0 ∧ g.payload = [2, 0] ++ toLe 4 f.seq)) ∧
  (∀ (s b : State) (x : Fin 2) (f : SvcIn) (q : SvcSess), s.svcUp = true → b = (s.svcClear x).settleExport →
    b.net.svc[x] = some q → svcForm f = true → q.ready = true → f.seq = q.seqIn →
    f.len = 0 → f.tag = svcTag q.key (svcHeader 0xFF f.flags f.seq f.len) f.payload →
    ∃ t, exec (.serviceClose x f) s = .next t ∧
      t = { b with net := { b.net with svc := t.net.svc, svcOut := t.net.svcOut }, sil := t.sil } ∧ t.net.svc[x] = none ∧
      t.net.svcOut = b.net.svcOut ∧ ∀ y : Fin 2, y ≠ x → t.net.svc[y] = b.net.svc[y]) ∧
  (∀ (s : State) (x : Fin 2) (q : SvcSess), s.net.svc[x] = some q →
    (q.used + 1200000000000 ≤ s.now → (s.svcClear x).net.svc[x] = none) ∧
    (∃ t, exec (.serviceSessionTimeout x) s = .next t ∧
      t = { s with now := t.now, net := { s.net with svc := t.net.svc }, sil := t.sil } ∧ t.net.svc[x] = none ∧
      t.now = max s.now (q.used + 1200000000000) ∧ ∀ y : Fin 2, y ≠ x → t.net.svc[y] = s.net.svc[y]))

/-- The reading commands of an open session (R403, R405, R531): SERVICE_STATUS answers SYS_STATE, the accord's SEQUENCE and
the dispatch status record; SCADA_READ and HIST_READ answer under ESTATE and are refused with ERROR 7 under COMPACT;
SILLAGE_EXPORT of a capture slot without VALID answers ERROR 5; of a valid one it starts the export, whose end sends the
signed bytes. The session stays open and counts both frames. The writing commands of an open session (R403, R404): PUT stores
its data in the staging region of its target and nowhere else; COMMIT of a plan leaves it for the dispatch, COMMIT of an
accord runs LOAD on the staged bytes and answers its result; below SERVICE level PUT, FORCE and ACCORD_CMD answer ERROR 4 and
change nothing but the session; at SERVICE they act and answer the result code. -/
def Obligations.ServiceCommands : Prop :=
  (
  (∀ (s b : State) (x : Fin 2) (f : SvcIn) (q : SvcSess), s.svcUp = true → b = (s.svcClear x).settleExport →
    b.net.svc[x] = some q → q.ready = true → svcForm f = true → f.seq = q.seqIn →
    (f.len = 0 → f.tag = svcTag q.key (svcHeader 0x10 f.flags f.seq f.len) f.payload →
      ∃ t g, exec (.serviceStatus x f) s = .next t ∧ t = { b with net := { b.net with svc := t.net.svc,
                                                                                      svcOut := t.net.svcOut } } ∧
        t.net.svc[x] = some { q with used := b.now, seqIn := (q.seqIn + 1) % 2 ^ 32, seqOut := (q.seqOut + 1) % 2 ^ 32 } ∧
        t.net.svcOut[x] = b.net.svcOut[x] ++ [g] ∧ g.type = 0x10 ∧ g.seq = q.seqOut ∧ g.payload.length = 72 ∧
        slice g.payload 4 4 = toLe 4 b.run.hdr.seq ∧
        (∀ c, b.disp = some c → g.payload.drop 8 = Mem.readN b.mem c.statusAddr 64)) ∧
    (f.tag = svcTag q.key (svcHeader 0x11 f.flags f.seq f.len) f.payload →
      ∃ t g, exec (.scadaRead x f) s = .next t ∧
        t = { b with free := t.free, net := { b.net with svc := t.net.svc, svcOut := t.net.svcOut } } ∧
        t.net.svcOut[x] = b.net.svcOut[x] ++ [g] ∧ g.seq = q.seqOut ∧
        (b.run.hdr.estate = false → g.type = 0xF0 ∧ g.payload = [7, 0] ++ toLe 4 f.seq) ∧
        (b.run.hdr.estate = true → f.len = 9 → leAt f.payload 0 1 ≤ 2 → g.type = 0x11)) ∧
    (f.tag = svcTag q.key (svcHeader 0x12 f.flags f.seq f.len) f.payload →
      ∃ t g, exec (.histRead x f) s = .next t ∧ t = { b with net := { b.net with svc := t.net.svc, svcOut := t.net.svcOut } } ∧
        t.net.svcOut[x] = b.net.svcOut[x] ++ [g] ∧
        g.seq = q.seqOut ∧ (b.run.hdr.estate = false → g.type = 0xF0 ∧ g.payload = [7, 0] ++ toLe 4 f.seq) ∧
        (b.run.hdr.estate = true → f.len = 9 → g.type = 0x12 ∧ g.payload.length ≤ 65536)) ∧
    (∀ j : Fin 8, f.tag = svcTag q.key (svcHeader 0x13 f.flags f.seq f.len) f.payload → f.len = 1 → f.payload = toLe 1 j.val →
      b.sil.exporting = none →
      (b.sil.caps[j].valid = false →
        ∃ t g, exec (.sillageExport x f) s = .next t ∧ t = { b with net := { b.net with svc := t.net.svc,
                                                                                        svcOut := t.net.svcOut } } ∧
          t.net.svcOut[x] = b.net.svcOut[x] ++ [g] ∧ g.seq = q.seqOut ∧ g.type = 0xF0 ∧ g.payload = [5, 0] ++ toLe 4 f.seq) ∧
      (b.sil.caps[j].valid = true →
        ∃ t e, exec (.sillageExport x f) s = .next t ∧
          t = { b with free := t.free, net := { b.net with svc := t.net.svc }, sil := { b.sil with exporting := some e } } ∧
          e.link = some x ∧ e.seq = f.seq ∧ b.now < e.endAt ∧ ∀ y, e.body = some y → y.take 4 = ascii "XJSE"))) ∧
  (∀ (s : State) (x : Fin 2) (q : SvcSess) (e : SilExport) (y : List Byte), s.sil.exporting = some e → e.endAt ≤ s.now →
    e.link = some x → e.body = some y → y.length ≤ 65536 → s.net.svc[x] = some q → q.ready = true →
    ∃ g, s.settleExport.net.svcOut[x] = s.net.svcOut[x] ++ [g] ∧ g.type = 0x13 ∧ g.seq = q.seqOut ∧ g.payload = y ∧
      s.settleExport.sil.exporting = none)) ∧
  (
  ∀ (s b : State) (x : Fin 2) (f : SvcIn) (q : SvcSess), s.svcUp = true → b = (s.svcClear x).settleExport →
    b.net.svc[x] = some q → q.ready = true → svcForm f = true → f.seq = q.seqIn →
    (∀ r, f.tag = svcTag q.key (svcHeader 0x20 f.flags f.seq f.len) f.payload → 8 ≤ f.len → leAt f.payload 0 1 ≤ 3 →
      (f.payload.drop 1).take 3 = zeros 3 → b.staging (leAt f.payload 0 1) = some r →
      leAt f.payload 4 4 + (f.payload.drop 8).length ≤ r.2 → (leAt f.payload 0 1 = 3 ∨ 2 ≤ b.key.level) →
      ∃ t g, exec (.putData x f) s = .next t ∧
        t = { b with net := { b.net with svc := t.net.svc, svcOut := t.net.svcOut }, mem := t.mem, fab := t.fab, se := t.se } ∧
        t.mem = Mem.writeN b.mem (r.1 + leAt f.payload 4 4) (f.payload.drop 8) ∧
        t.net.svcOut[x] = b.net.svcOut[x] ++ [g] ∧ g.type = 0x20 ∧ g.seq = q.seqOut ∧ g.payload = []) ∧
    (f.tag = svcTag q.key (svcHeader 0x20 f.flags f.seq f.len) f.payload → 8 ≤ f.len → leAt f.payload 0 1 < 3 →
      (f.payload.drop 1).take 3 = zeros 3 → b.key.level < 2 →
      ∃ t g, exec (.putData x f) s = .next t ∧ t = { b with net := { b.net with svc := t.net.svc, svcOut := t.net.svcOut } } ∧
        t.net.svcOut[x] = b.net.svcOut[x] ++ [g] ∧ g.type = 0xF0 ∧ g.payload = [4, 0] ++ toLe 4 f.seq) ∧
    (∀ r bad, f.tag = svcTag q.key (svcHeader 0x21 f.flags f.seq f.len) f.payload → f.len = 8 →
      (f.payload.drop 1).take 3 = zeros 3 → b.staging (leAt f.payload 0 1) = some r → leAt f.payload 4 4 ≤ r.2 →
      (leAt f.payload 0 1 = 3 →
        ∃ t g, exec (.commit x f bad) s = .next t ∧
          t = { b with net := { b.net with svc := t.net.svc, svcOut := t.net.svcOut, plan := t.net.plan } } ∧
          t.net.plan = some (Mem.readN b.mem r.1 (leAt f.payload 4 4)) ∧
          t.net.svcOut[x] = b.net.svcOut[x] ++ [g] ∧ g.type = 0x21 ∧ g.payload = [0]) ∧
      (leAt f.payload 0 1 = 0 → 2 ≤ b.key.level → b.acc.busy = none → b.acc.work = none →
        ∃ t g, exec (.commit x f bad) s = .next t ∧ t.net.svcOut[x] = b.net.svcOut[x] ++ [g] ∧ g.type = 0x21 ∧
          g.payload = toLe 1 t.acc.err ∧ t.acc.busy = none ∧ t.pending = s.pending ∧ t.mem = b.mem)) ∧
    (f.tag = svcTag q.key (svcHeader 0x22 f.flags f.seq f.len) f.payload → f.len = 16 →
      (b.key.level < 2 →
        ∃ t g, exec (.force x f) s = .next t ∧ t = { b with net := { b.net with svc := t.net.svc, svcOut := t.net.svcOut } } ∧
          t.net.svcOut[x] = b.net.svcOut[x] ++ [g] ∧ g.type = 0xF0 ∧ g.payload = [4, 0] ++ toLe 4 f.seq) ∧
      (2 ≤ b.key.level → b.granted (.role 6) 0x70 = true →
        ∃ t g, exec (.force x f) s = .next t ∧ t = { b with net := t.net, prog := t.prog, sil := t.sil, hub := t.hub,
                                                            setBits := t.setBits } ∧
          t.prog.forceSym = leAt f.payload 0 4 ∧ t.net.svcOut[x] = b.net.svcOut[x] ++ [g] ∧ g.type = 0x22 ∧
          g.payload = toLe 1 t.prog.forceErr)) ∧
    (∀ bad, f.tag = svcTag q.key (svcHeader 0x23 f.flags f.seq f.len) f.payload → f.len = 2 →
      (b.key.level < 2 →
        ∃ t g, exec (.accordCmd x f bad) s = .next t ∧ t = { b with net := { b.net with svc := t.net.svc,
                                                                                        svcOut := t.net.svcOut } } ∧
          t.net.svcOut[x] = b.net.svcOut[x] ++ [g] ∧ g.type = 0xF0 ∧ g.payload = [4, 0] ++ toLe 4 f.seq) ∧
      (2 ≤ b.key.level → f.payload = [5, 0] → b.acc.busy = none → b.acc.work = none →
        ∃ t g, exec (.accordCmd x f bad) s = .next t ∧ t.net.svcOut[x] = b.net.svcOut[x] ++ [g] ∧ g.type = 0x23 ∧
          g.payload = toLe 1 t.acc.err ∧ t.pending = s.pending ∧ t.run = b.run)))

/-- DIO_FILTER_CONFIRM sets the filtered state of a channel in use and counts a rising edge in a COUNTER mode alone (R412,
R413); an edge confirmed in the cycle of the tick is counted by the latch that follows. A channel fault marks its channel and
its end clears the mark (R416, R421); an undervoltage of a bank, and the loss of its link, turn every output of the bank OFF
at once (R419, R578); when the link returns the bank's inputs start from the cleared state and stay BAD for 10 ms (R578). -/
def Obligations.FieldIo : Prop :=
  (
  ∀ (s : State) (c : Fin 48) (level : Bool), s.alive = true → (s.dioCfg c.val).mode ≠ 0 → s.linkUp (bankOf c) = true →
    ((s.notesRun = true → s.now < s.nextTick) →
      exec (.dioFilterConfirm c false level) s = .next { s with dio := { s.dio with ch := s.dio.ch.set c ({ s.dio.ch[c] with
        filt := level,
        cnt := if ((s.dioCfg c.val).mode = 3 ∨ (s.dioCfg c.val).mode = 4) ∧ level = true ∧ s.dio.ch[c].filt = false then
            (s.dio.ch[c].cnt + 1) % 2 ^ 32
          else s.dio.ch[c].cnt }) } }) ∧
    (s.notesRun = true → s.nextTick ≤ s.now → (s.dioCfg c.val).mode = 3 → level = true → s.dio.ch[c].filt = false →
      exec (.dioFilterConfirm c false level) s = .next { s with dio := { s.dio with ch := s.dio.ch.set c ({ s.dio.ch[c] with
        filt := true, edge := true }) } })) ∧
  (
  (∀ (s : State) (c : Fin 48), s.alive = true → (s.dioCfg c.val).mode = 5 →
    exec (.dioChannelFault c .overload) s = .next (s.modCh c fun x => { x with exceeded := true }) ∧
    exec (.dioFaultClear c .overload) s = .next (s.modCh c fun x => { x with exceeded := false }) ∧
    exec (.dioChannelFault c .thermal) s = .next (s.modCh c fun x => { x with therm := true }) ∧
    exec (.dioFaultClear c .thermal) s = .next (s.modCh c fun x => { x with therm := false })) ∧
  (∀ (s : State) (c : Fin 48), s.alive = true →
    ∃ t, exec (.dioChannelFault c .undervoltage) s = .next t ∧ t = { s with dio := t.dio, setBits := t.setBits } ∧
      t.dio.bank[bankOf c].uv = true ∧
      (∀ k : Fin 48, bankOf k = bankOf c → t.dio.ch[k].driven = false)) ∧
  (∀ (s : State) (b : Fin 6), s.alive = true → s.linkUp b = true →
    ∃ t, exec (.dioLinkLoss b) s = .next t ∧ t = { s with dio := t.dio, hub := t.hub, setBits := t.setBits } ∧
      t.dio.bank[b].link = .down ∧
      (∀ k : Fin 48, bankOf k = b → t.dio.ch[k].driven = false ∧ t.dio.ch[k].cmd = false) ∧
      (∀ k : Fin 48, bankOf k ≠ b → t.dio.ch[k].cmd = s.dio.ch[k].cmd)) ∧
  (∀ (s : State) (b : Fin 6), s.alive = true → s.dio.bank[b].link = .down →
    ∃ t, exec (.dioLinkReturn b) s = .next t ∧ t = { s with dio := t.dio, prog := t.prog, setBits := t.setBits } ∧
      t.dio.bank[b].link = .back s.now ∧
      (∀ k : Fin 48, bankOf k = b → t.dio.ch[k].filt = false ∧ t.dio.ch[k].wire = false) ∧
      (∀ k : Fin 48, bankOf k ≠ b → t.dio.ch[k] = s.dio.ch[k])))

/-- KEY_COMMAND_QUEUE starts an accepted command at once when the store is idle and queues it while another runs; a ninth
waiting command is refused with 0x0C and changes no slot (R463). DERIVE, GENERATE, IMPORT and ERASE of a running command on a
slot that they may fill or clear (R462, R464, R465): the key made, its record ACTIVE in the slot, KEY_STATUS without error and
the store idle. -/
def Obligations.KeysAreMade : Prop :=
  (
  ∀ (s s1 : State) (who : Initiator) (v : Word) (r : KeyReq), s.acts who = true → s.keyGranted who = true → s1 = s.settleAcc →
    r = { cmd := (v.extractLsb' 24 8).toNat, aux := (v.extractLsb' 12 9).toNat, slot := (v.extractLsb' 0 9).toNat,
          arg := s.key.arg, who := who, uart := none } →
    r.cmd ∈ [1, 2, 3, 6, 7, 8, 9] →
    (s1.keyGate r = 0 → s1.key.run = none → s1.key.queue = [] → s1.key.revoked = [] →
      ∃ t u, exec (.keyCommandQueue who v) s = .next t ∧ t = { s1 with key := t.key } ∧ t.key.run = some u ∧ u.req = r ∧
        u.slot = s.key.slot r.slot ∧ u.aux = s.key.slot r.aux ∧ u.at_ = s.now ∧ t.key.queue = [] ∧ t.key.slots = s.key.slots) ∧
    (s1.keyGate r = 0 → s1.key.run.isSome = true →
      exec (.keyCommandQueue who v) s = .next { s1 with key := { s1.key with queue := s1.key.queue ++ [r] } }) ∧
    (8 ≤ s1.key.queue.length → s1.keyLevel ≤ s1.key.level → s1.key.journal = [] →
      ∃ t, exec (.keyCommandQueue who v) s = .next t ∧ t = { s1 with key := t.key, hub := t.hub, setBits := t.setBits } ∧
        t.key = { s1.key with lastCmd := r.cmd, err := 0x0C })) ∧
  (
  ∀ (s : State) (u : KeyRun) (id policy : Nat), s.alive = true → s.key.run = some u → s.key.queue = [] →
    fixedSlot u.req.slot = none → u.req.slot ≠ 4 →
    (u.req.cmd = 1 → u.slot.state = .empty → s.keyFields u.req 0 = some (id, .secret, policy) →
      leNat (s.keyArg u.req 8 1) ≤ 64 → leNat (s.keyArg u.req 9 1) ≤ 64 → allZero (s.keyArg u.req 10 6) = true →
      s.argOk u.req (16 + leNat (s.keyArg u.req 8 1) + leNat (s.keyArg u.req 9 1)) false = true →
      (u.aux.state = .active ∨ u.aux.state = .pending) → u.aux.type = .secret → u.aux.may 0 = true → u.aux.depth < 7 →
      ∃ t x, exec .derive s = .next t ∧ t = { s with now := t.now, free := t.free, key := t.key, hub := t.hub,
                                                     setBits := t.setBits } ∧
        t.key.slot u.req.slot = x ∧ x.state = .active ∧ x.type = .secret ∧ x.id = id ∧ x.policy = policy ∧
        x.parent = some u.req.aux ∧ x.depth = u.aux.depth + 1 ∧
        x.mat = Config.kmac256 u.aux.mat (s.keyArg u.req 16 (leNat (s.keyArg u.req 8 1)) ++
          s.keyArg u.req (16 + leNat (s.keyArg u.req 8 1)) (leNat (s.keyArg u.req 9 1))) 32 (ascii "XJ9640 derive") ∧
        t.key.run = none ∧ t.key.err = 0 ∧ t.key.lastCmd = 1 ∧ t.now = max s.now (u.at_ + 12000)) ∧
    (u.req.cmd = 2 → u.slot.state = .empty → s.keyFields u.req 0 = some (id, .secret, policy) → s.argOk u.req 8 false = true →
      ∃ t x, exec .generate s = .next t ∧ t = { s with now := t.now, free := t.free, key := t.key, hub := t.hub,
                                                       setBits := t.setBits } ∧
        t.key.slot u.req.slot = x ∧ x.state = .active ∧ x.type = .secret ∧ x.id = id ∧ x.policy = policy ∧ x.parent = none ∧
        x.depth = 0 ∧ t.key.run = none ∧ t.key.err = 0 ∧ t.key.lastCmd = 2 ∧ t.now = max s.now (u.at_ + 16000)) ∧
    (u.req.cmd = 3 → u.slot.state = .empty → s.keyFields u.req 0 = some (id, .pk, policy) → s.argOk u.req 1968 false = true →
      allZero (s.keyArg u.req 8 8) = true →
      ∃ t x, exec .importKey s = .next t ∧ t = { s with now := t.now, free := t.free, key := t.key, hub := t.hub,
                                                        setBits := t.setBits } ∧
        t.key.slot u.req.slot = x ∧ x.state = .active ∧ x.type = .pk ∧ x.id = id ∧ x.policy = policy ∧ x.parent = none ∧
        x.mat = Config.shake256 (s.keyArg u.req 16 1952) 64 ∧ Tbl.get? u.req.slot t.key.files = some (s.keyArg u.req 16 1952) ∧
        t.key.run = none ∧ t.key.err = 0 ∧ t.key.lastCmd = 3) ∧
    (u.req.cmd = 6 → (u.slot.state = .empty ∨ u.slot.state = .orphaned) → s.key.hasChildren u.req.slot = false →
      ∃ t, exec .keyErase s = .next t ∧ t = { s with now := t.now, key := t.key, hub := t.hub, setBits := t.setBits } ∧
        t.key.slot u.req.slot = KeySlot.blank ∧ t.key.run = none ∧ t.key.err = 0 ∧ t.key.lastCmd = 6))

/-- REPLACE of a SECRET256 by a random one keeps the slot, counts its GENERATION and commits the new key (R473, R474).
INVALIDATE of a key that no lock protects is journaled at once, so that its subtree's gate closes; INVALIDATION_EFFECT makes
the slots named EMPTY and their descendants ORPHANED without material, sets REVOKED_DONE and opens the store again (R469,
R470). -/
def Obligations.KeysAreReplaced : Prop :=
  (
  ∀ (s : State) (u : KeyRun) (id policy : Nat), s.alive = true → s.key.run = some u → s.key.queue = [] → u.req.cmd = 4 →
    leNat (s.keyArg u.req 0 1) = 1 → s.keyFields u.req 8 = some (id, .secret, policy) → s.argOk u.req 16 false = true →
    u.slot.type = .secret → s.key.replaceErr u.req.slot false = 0 →
    ∃ t x, exec .replace s = .next t ∧ t = { s with now := t.now, free := t.free, key := t.key, hub := t.hub,
                                                    setBits := t.setBits } ∧
      t.key.slot u.req.slot = x ∧ x.state = .active ∧ x.type = .secret ∧ x.id = id ∧ x.policy = policy ∧
      x.gen = (u.slot.gen + 1) % 2 ^ 32 ∧ t.key.run = none ∧ t.key.err = 0 ∧ t.key.lastCmd = 4 ∧
      t.now = max s.now (u.at_ + 17200)) ∧
  (
  (∀ (s s1 : State) (who : Initiator) (k : Fin 512), s.acts who = true → s.keyGranted who = true → s1 = s.settleAcc →
    s1.key.run = none →
    (s1.keyLevel ≤ s1.key.level ∨ 496 ≤ k.val) → (s.key.slot k.val).live = true → (s.key.slot k.val).locked = false →
    (s.key.slots.any fun x => x.2.locked && s.key.under k.val x.1) = false →
    ∃ t, exec (.invalidate who k) s = .next t ∧
      t = { s1 with key := { s1.key with journal := s1.key.journal ++ [.revoke [k.val]], lastCmd := 5, err := 0 } } ∧
      t.key.closing k.val = true) ∧
  (∀ (s : State), s.alive = true → s.key.run = none → s.key.revoked ≠ [] → s.key.queue = [] →
    ∃ t, exec .invalidationEffect s = .next t ∧ t = { s with now := t.now, key := t.key, hub := t.hub, sil := t.sil,
                                                             setBits := t.setBits } ∧
      t.key.revDone = true ∧ t.key.revoked = [] ∧ t.key.err = 0 ∧
      (∀ k, k ∈ s.key.revoked → fixedSlot k = none → t.key.slot k = KeySlot.blank) ∧
      (∀ k r, r ∈ s.key.revoked → k ∉ s.key.revoked → s.key.under r k = true → fixedSlot k = none →
        s.key.slot k ≠ KeySlot.blank → (t.key.slot k).state = .orphaned ∧ (t.key.slot k).mat = []) ∧
      (∀ k, (∀ r, r ∈ s.key.revoked → s.key.under r k = false) → t.key.slot k = s.key.slot k)))

/-- SIGN, VERIFY, MAC and QUOTE of a running command (R464, R466 to R468, R480): the result stands in the argument block and
no other byte of memory changes; SIGN and QUOTE end with SIGN_LIMIT after 256 rejected attempts, VERIFY with 0x0B on a wrong
signature and with 0x01 on a key file that does not match the slot's digest. ADVANCE raises a rollback counter to a level that
is not below it, 2,000 SEC cycles a step, and lowers no counter (R478, R479). -/
def Obligations.KeysAreUsed : Prop :=
  (
  ∀ (s : State) (u : KeyRun), Inv s → s.alive = true → s.key.run = some u → s.key.queue = [] → u.req.uart = none →
    (∀ cl sg, u.req.cmd = 7 → cl = leNat (s.keyArg u.req 64 1) → s.argOk u.req (72 + cl) false = true →
      s.argOk u.req (72 + cl + 3309) true = true → allZero (s.keyArg u.req 65 7) = true → u.slot.useErr .sk 2 = 0 →
      sg = s.mldsa u.slot.mat (s.keyArg u.req 0 64) (s.keyArg u.req 72 cl) →
      ∃ t, exec .sign s = .next t ∧
        t = { s with now := t.now, free := t.free, key := t.key, hub := t.hub, mem := t.mem, fab := t.fab, se := t.se,
                     setBits := t.setBits } ∧
        t.key.err = (if 256 < sg.2 then 0x0A else 0) ∧ t.key.attempts = min sg.2 256 ∧ t.key.run = none ∧
        (sg.2 ≤ 256 → Mem.readN t.mem (u.req.arg + (72 + cl)) 3309 = sg.1) ∧
        (∀ a, (a < u.req.arg + (72 + cl) ∨ u.req.arg + (72 + cl) + 3309 ≤ a) → Mem.read a t.mem = Mem.read a s.mem)) ∧
    (∀ cl, u.req.cmd = 8 → cl = leNat (s.keyArg u.req 64 1) → s.argOk u.req (72 + cl + 3309) false = true →
      allZero (s.keyArg u.req 65 7) = true → u.slot.useErr .pk 3 = 0 →
      ∃ t, exec .verify s = .next t ∧
        t = { s with now := t.now, free := s.free + 1, key := t.key, hub := t.hub, sil := t.sil, setBits := t.setBits } ∧
        t.key.run = none ∧ t.key.lastCmd = 8 ∧
        t.key.err = (if Config.shake256 (s.key.file u.req.slot) 64 ≠ u.slot.mat then 0x01
          else if Config.mldsaVerify (s.key.file u.req.slot) (s.keyArg u.req 0 64) (s.keyArg u.req 72 cl)
            (s.keyArg u.req (72 + cl) 3309) then 0 else 0x0B)) ∧
    (∀ addr len ol sl, u.req.cmd = 9 → addr = leNat (s.keyArg u.req 0 8) → len = leNat (s.keyArg u.req 8 4) →
      ol = leNat (s.keyArg u.req 12 1) → sl = leNat (s.keyArg u.req 13 1) → (ol = 16 ∨ ol = 32) → sl ≤ 32 →
      leNat (s.keyArg u.req 14 2) = 0 → s.argOk u.req (16 + sl) false = true → s.argOk u.req (16 + sl + ol) true = true →
      s.argOk { u.req with arg := addr, uart := none } len false = true → u.slot.useErr .secret 1 = 0 →
      ∃ t, exec .mac s = .next t ∧
        t = { s with now := t.now, key := t.key, hub := t.hub, mem := t.mem, fab := t.fab, se := t.se,
                     setBits := t.setBits } ∧ t.key.err = 0 ∧
        t.key.run = none ∧
        t.mem = Mem.writeN s.mem (u.req.arg + (16 + sl))
          (Config.kmac256 u.slot.mat (Mem.readN s.mem addr len) ol (s.keyArg u.req 16 sl))) ∧
    (∀ body sg, u.req.cmd = 0x0A → s.argOk u.req 32 false = true → s.argOk u.req (32 + 3949) true = true →
      body = s.quoteBody (s.keyArg u.req 0 32) →
      sg = s.mldsa (s.key.slot 3).mat (Config.shake256 body 64) (ascii "XJ9640 quote") →
      ∃ t, exec .quote s = .next t ∧
        t = { s with now := t.now, free := t.free, key := t.key, hub := t.hub, mem := t.mem, fab := t.fab, se := t.se,
                     setBits := t.setBits } ∧
        t.key.err = (if 256 < sg.2 then 0x0A else 0) ∧ t.key.run = none ∧
        (sg.2 ≤ 256 → t.mem = Mem.writeN s.mem (u.req.arg + 32) (body ++ sg.1)))) ∧
  (
  ∀ (s : State) (u : KeyRun) (k : Fin 32), s.alive = true → s.key.run = some u → s.key.queue = [] → u.req.cmd = 0x0B →
    u.req.aux = k.val → 8 ≤ k.val → s.key.otp[k] ≤ u.req.slot → u.req.slot ≤ 64 →
    ∃ t, exec .advance s = .next t ∧ t = { s with now := t.now, key := t.key, hub := t.hub, setBits := t.setBits } ∧
      t.key.otp = s.key.otp.set k u.req.slot ∧ t.now = max s.now (u.at_ + 40000 * (u.req.slot - s.key.otp[k])) ∧ t.key.err = 0)

/-- ACC_NONCE: the block holds 32 fresh random bytes in place of any earlier nonce (R484), whose value nothing constrains (log
entry 2); NONCE_EXPIRY takes the nonce away 300 s after its issue. A nonce that went either way stays known as one that was
replaced or stale. OPEN_CR opens field access at the requested level until EXPIRY on the right response and counts a failure
on any other; the nonce serves once (R484 to R486). OPEN_PW does the same with the stored password digest for PW_HOLD minutes
(R483, R486). Field access closes on ACC_CLOSE, UART_CLOSE and at the end of its time (R485); LOCK_EXPIRY ends a lock (R486). -/
def Obligations.SealedAccess : Prop :=
  (
  (∀ (s s1 : State) (who : Initiator), s.acts who = true → s.accGranted who = true → s1 = s.settleAcc →
    ∃ t n, exec (.accNonce who) s = .next t ∧ t = { s1 with free := s.free + 1, key := t.key } ∧ t.key.nonce = some (n, s.now) ∧
      n.length = 32 ∧ t.key.nonceReg = n ∧ t.key.level = s1.key.level ∧
      t.key.gone = s1.key.gone ++ (s1.key.nonce.map (·.1)).toList) ∧
  (∀ (s : State) (n : List Byte) (at_ : Nat), s.alive = true → s.key.nonce = some (n, at_) →
    exec .nonceExpiry s = .next { s with
      now := max s.now (at_ + 1200000000000), key := { s.key with nonce := none, gone := s.key.gone ++ [n] } })) ∧
  (
  (∀ (s s1 : State) (who : Initiator) (level : Fin 4) (k m at_ : Nat) (n : List Byte), s.acts who = true →
    s.accGranted who = true → s1 = s.settleAcc →
    s1.key.lockEnd = none → s.crPolicy = some (k, m) → s1.key.nonce = some (n, at_) → 1 ≤ level.val → level.val ≤ m →
    60 ≤ s.key.expiry → s.key.expiry ≤ 28800 →
    (∀ g ∈ s1.key.gone, wordBytes s.key.resp ≠ crResponse (s.key.slot k).mat g level.val s.key.expiry) →
    ∃ t, exec (.openCr who level) s = .next t ∧ t = { s with key := t.key, hub := t.hub, sil := t.sil,
                                                             setBits := t.setBits } ∧ t.key.nonce = none ∧
      (wordBytes s.key.resp = crResponse (s.key.slot k).mat n level.val s.key.expiry →
        t.key.level = level.val ∧ t.key.fails = 0 ∧ t.key.openEnd = s.now + s.key.expiry * 4000000000) ∧
      (wordBytes s.key.resp ≠ crResponse (s.key.slot k).mat n level.val s.key.expiry →
        t.key.level = s1.key.level ∧ t.key.fails = (if s.key.fails < 63 then s.key.fails + 1 else s.key.fails))) ∧
  (∀ (s s1 : State) (who : Initiator) (level : Fin 4) (k : Nat), s.acts who = true → s.accGranted who = true →
    s1 = s.settleAcc → s1.key.lockEnd = none → s.acc.locked = true → s.run.trust.methods.testBit 0 = true → 1 ≤ level.val →
    level.val ≤ s.run.trust.pwMax → s.run.trust.pwSlot[level.val - 1]? = some k → s.key.usable k = true →
    (s.key.slot k).type = .password → 8 ≤ s.key.pwLen → s.key.pwLen ≤ 64 → s.key.pw.length = 16 → s.key.fails < 63 →
    ∃ t, exec (.openPw who level) s = .next t ∧ t = { s with key := t.key, hub := t.hub, sil := t.sil, setBits := t.setBits } ∧
      (pwDigest ((s.key.slot k).mat.take 16) level.val ((wordBytes s.key.pw).take s.key.pwLen) = (s.key.slot k).mat.drop 16 →
        t.key.level = level.val ∧ t.key.fails = 0 ∧ t.key.openEnd = s.now + s.run.trust.pwHold * 60 * 4000000000) ∧
      (pwDigest ((s.key.slot k).mat.take 16) level.val ((wordBytes s.key.pw).take s.key.pwLen) ≠ (s.key.slot k).mat.drop 16 →
        t.key.level = s1.key.level ∧ t.key.fails = s.key.fails + 1))) ∧
  (
  (∀ (s : State) (who : Initiator), s.acts who = true → s.accGranted who = true →
    ∃ t, exec (.accClose who) s = .next t ∧ t = { s with key := t.key, hub := t.hub, sil := t.sil, setBits := t.setBits } ∧
      t.key.level = 0 ∧
      t.key.slots = s.key.slots) ∧
  (∀ (s : State), s.alive = true → s.bootOnly = false →
    ∃ t, exec .uartClose s = .next t ∧ t = { s with key := t.key, hub := t.hub, sil := t.sil, setBits := t.setBits } ∧
      t.key.level = 0 ∧
      t.key.uart = some { type := 0x84, result := 0, payload := [] }) ∧
  (∀ (s : State), s.alive = true → s.key.level ≠ 0 →
    ∃ t, exec .accessExpiry s = .next t ∧ t = { s with now := t.now, key := t.key, hub := t.hub, sil := t.sil,
                                                       setBits := t.setBits } ∧
      t.now = max s.now s.key.openEnd ∧ t.key.level = 0) ∧
  (∀ (s : State) (at_ : Nat), s.alive = true → s.key.lockEnd = some at_ →
    exec .lockExpiry s = .next { s with now := max s.now at_, key := { s.key with lockEnd := none } }))

/-- The service UART (R487, R488): NONCE answers the nonce and the device identity, OPEN_CR and OPEN_PW the result and the
level reached (a response to a stale or replaced nonce is refused and counts no failure, R484), STATUS the level and the
module state, a key command is submitted and answers only when it ends, and PROVISION writes the owner root to slot 4. -/
def Obligations.ServiceUart : Prop :=
  (∀ (s s1 : State), s.alive = true → s1 = s.settleAcc →
    ∃ t n, exec .uartNonce s = .next t ∧ t = { s1 with free := s.free + 1, key := t.key } ∧ n.length = 32 ∧
      t.key.nonce = some (n, s.now) ∧
      t.key.uart = some { type := 0x81, result := 0, payload := n ++ (padTo 16 Config.deviceUid).take 16 }) ∧
  (∀ (s s1 : State) (level : Byte) (expiry : Word) (k m at_ : Nat) (n : List Byte), s.alive = true → s1 = s.settleAcc →
    s1.key.lockEnd = none →
    s.crPolicy = some (k, m) → s1.key.nonce = some (n, at_) → 1 ≤ level.toNat → level.toNat ≤ 3 → level.toNat ≤ m →
    60 ≤ expiry.toNat → expiry.toNat ≤ 28800 →
    (∀ g ∈ s1.key.gone, crResponse (s.key.slot k).mat n level.toNat expiry.toNat ≠
      crResponse (s.key.slot k).mat g level.toNat expiry.toNat) →
    ∃ t, exec (.uartOpenCr level expiry (crResponse (s.key.slot k).mat n level.toNat expiry.toNat)) s = .next t ∧
      t = { s with key := t.key, hub := t.hub, sil := t.sil, setBits := t.setBits } ∧ t.key.level = level.toNat ∧
        t.key.nonce = none ∧
      t.key.uart = some { type := 0x82, result := 0, payload := [level] }) ∧
  (∀ (s s1 : State) (level : Byte) (expiry : Word) (k m at_ : Nat) (n g : List Byte), s.alive = true → s1 = s.settleAcc →
    s1.key.lockEnd = none →
    s.crPolicy = some (k, m) → s1.key.nonce = some (n, at_) → g ∈ s1.key.gone → 1 ≤ level.toNat → level.toNat ≤ 3 →
    level.toNat ≤ m → 60 ≤ expiry.toNat → expiry.toNat ≤ 28800 →
    exec (.uartOpenCr level expiry (crResponse (s.key.slot k).mat g level.toNat expiry.toNat)) s = .next { s1 with
      key := { s1.key with uart := some { type := 0x82, result := 0x12, payload := toLe 1 s1.key.level } } }) ∧
  (∀ (s s1 : State) (level : Byte) (pw : List Byte) (k : Nat), s.alive = true → s.bootOnly = false → s1 = s.settleAcc →
    s1.key.lockEnd = none →
    s.acc.locked = true → s.run.trust.methods.testBit 0 = true → 1 ≤ level.toNat → level.toNat ≤ 3 →
    level.toNat ≤ s.run.trust.pwMax → s.run.trust.pwSlot[level.toNat - 1]? = some k → s.key.usable k = true →
    (s.key.slot k).type = .password → 8 ≤ pw.length → pw.length ≤ 64 →
    ∃ t r, exec (.uartOpenPw level pw) s = .next t ∧ t = { s with key := t.key, hub := t.hub, sil := t.sil,
                                                                  setBits := t.setBits } ∧
      t.key.uart = some r ∧ r.type = 0x83 ∧
      (pwDigest ((s.key.slot k).mat.take 16) level.toNat pw = (s.key.slot k).mat.drop 16 →
        t.key.level = level.toNat ∧ r.result = 0) ∧
      (pwDigest ((s.key.slot k).mat.take 16) level.toNat pw ≠ (s.key.slot k).mat.drop 16 →
        t.key.level = s1.key.level ∧ r.result = 0x12)) ∧
  (∀ (s s1 : State), s.alive = true → s1 = s.settleAcc →
    ∃ t p, exec .uartStatus s = .next t ∧ t = { s1 with key := { s1.key with uart := t.key.uart } } ∧
      t.key.uart = some { type := 0x85, result := 0, payload := p } ∧ p.length = 11 ∧
      p.head? = some (BitVec.ofNat 8 s1.key.level) ∧ p.getLast? = some (BitVec.ofNat 8 s.sys.state.code)) ∧
  (∀ (s s1 : State) (cmd : Byte) (slot aux : BitVec 16) (arg : List Byte) (r : KeyReq), s.alive = true → s.bootOnly = false →
    s1 = s.settleAcc → s.uartOpen = true → 2 ≤ s1.key.level → cmd.toNat ∈ [1, 2, 3, 6, 7, 8, 9] → s.key.run = none →
      s.key.queue = [] →
    s.key.revoked = [] →
    r = { cmd := cmd.toNat, aux := aux.toNat, slot := slot.toNat, arg := 0, who := .security, uart := some arg } →
    s1.keyGate r = 0 →
    ∃ t u, exec (.uartKeyCmd cmd slot aux arg) s = .next t ∧ t = { s1 with key := t.key } ∧ t.key.run = some u ∧ u.req = r ∧
      t.key.uart = s.key.uart) ∧
  (∀ (s s1 : State) (value : List Byte), s.alive = true → s.bootOnly = false → s1 = s.settleAcc → s.uartOpen = true →
    2 ≤ s1.key.level →
    (s.key.slot 4).state = .empty → value.length = 32 →
    ∃ t x, exec (.provision value) s = .next t ∧ t = { s1 with key := t.key } ∧ t.key.slot 4 = x ∧ x.state = .active ∧
      x.type = .secret ∧ x.mat = value ∧ x.policy = 1 ∧ x.parent = none ∧
      t.key.uart = some { type := 0x87, result := 0, payload := x.kcv })

/-- POWER_ON of an unpowered module starts it from BOOT with a reset of kind power-on: the input is PRESENT, time starts, the
pairs and sequencer take their reset state, retention MRAM keeps its bytes and every other byte reads 0 (R8, R57, R127, R499;
that DRAM reads 0 is the model's own, DESIGN CHOICE, log entry 30). VIN_LOSS of the last input closes the hold switch and
starts the qualification; VIN_RETURN opens it and ends the qualification (R493, R496, R510), or restarts a halted module
(R513). POWER_OFF with no input leaves the module unpowered with every output off and the claim negated (R496). The hold-up
monitor and the backup battery: HOLD_READY sets the flag and clears HOLD_FAULT, its loss clears it, HOLD_FAULT sets while an
input is PRESENT (R495); VBAT_LOW sets below 2.20 V, clears above 2.30 V and stays between them (R517). -/
def Obligations.PowerSupply : Prop :=
  (
  (∀ (s : State) (b : Bool), s.pwr.powered = false →
    ∃ t, exec (.powerOn b) s = .next t ∧ t.sys = Sys.reset .powerOn ∧ t.sys.state = .boot ∧ t.now = 0 ∧
      t.pwr.powered = true ∧ t.pwr.aOk = !b ∧ t.pwr.bOk = b ∧
      t.pwr.faultN = true ∧ t.fs = FrameSeq.reset ∧ t.pairs = Pairs.reset ∧ t.acc.locked = false ∧ t.rtc.t = s.rtc.t ∧
      t.pending = s.pending ∧
      (∀ a, Mem.read a t.mem = if 0x30000000 ≤ a ∧ a < 0x30800000 then Mem.read a s.mem else 0)) ∧
  (∀ (s : State) (b : Bool), s.alive = true → s.pwr.isIn b = true → s.pwr.isIn (!b) = true →
    ∃ t, exec (.vinLoss b) s = .next t ∧ t = { s with pwr := t.pwr, hub := t.hub, sil := t.sil, setBits := t.setBits } ∧
      t.pwr = if b then { s.pwr with bOk := false } else { s.pwr with aOk := false }) ∧
  (∀ (s : State) (b : Bool), s.alive = true → s.pwr.isIn b = true → s.pwr.isIn (!b) = false →
    ∃ t, exec (.vinLoss b) s = .next t ∧ t = { s with pwr := t.pwr, hub := t.hub, sil := t.sil, setBits := t.setBits } ∧
      t.pwr = { s.pwr with aOk := false, bOk := false, holdSw := true, qual := true, qualAt := s.now }) ∧
  (∀ (s : State) (b : Bool), s.alive = true → s.pwr.isIn b = false → s.pwr.qual = true →
    ∃ t, exec (.vinReturn b) s = .next t ∧ t = { s with pwr := t.pwr, hub := t.hub, sil := t.sil, setBits := t.setBits } ∧
      t.pwr = if b then { s.pwr with bOk := true, holdSw := false, qual := false }
        else { s.pwr with aOk := true, holdSw := false, qual := false }) ∧
  (∀ (s : State) (b : Bool), s.pwr.powered = true → s.pwr.halted = true → s.pwr.aOk = false → s.pwr.bOk = false →
    ∃ t, exec (.vinReturn b) s = .next t ∧ t.sys.state = .boot ∧ t.sys.kind = .drydownEnd ∧ t.now = 0 ∧
      t.pwr.halted = false ∧ t.pwr.isIn b = true ∧ t.pairs = Pairs.reset ∧ t.pending = s.pending) ∧
  (∀ (s : State), s.pwr.powered = true → s.pwr.aOk = false → s.pwr.bOk = false →
    ∃ t, exec .powerOff s = .next t ∧
      t = { s with free := t.free, key := t.key, acc := t.acc, pwr := t.pwr, dio := t.dio, twin := t.twin } ∧
      (s.acc.work = none → t.free = s.free ∧ t.key = s.key ∧ t.acc = s.acc) ∧ t.pwr.powered = false ∧
      t.twin.claimOut = false ∧ ∀ c : Fin 48, t.dio.ch[c].driven = false)) ∧
  (
  (∀ (s : State), s.pwr.powered = true →
    (∃ t, exec .holdReady s = .next t ∧ t = { s with pwr := t.pwr, hub := t.hub, setBits := t.setBits } ∧
      t.pwr = { s.pwr with holdReady := true, holdFault := false }) ∧
    exec .holdReadyLoss s = .next { s with pwr := { s.pwr with holdReady := false } }) ∧
  (∀ (s : State) (mv : BitVec 16), s.pwr.powered = true → (s.pwr.aOk = true ∨ s.pwr.bOk = true) →
    (∃ t, exec .holdFault s = .next t ∧ t = { s with pwr := t.pwr, hub := t.hub, setBits := t.setBits } ∧
      t.pwr = { s.pwr with holdFault := true }) ∧
    (∃ t, exec (.vbatMeasure mv) s = .next t ∧ t = { s with pwr := t.pwr, hub := t.hub, setBits := t.setBits } ∧
      t.pwr = { s.pwr with vbat := mv.toNat, vbatLow := t.pwr.vbatLow } ∧
      (mv < 2200#16 → t.pwr.vbatLow = true) ∧ (2300#16 < mv → t.pwr.vbatLow = false) ∧
      (2200#16 ≤ mv → mv ≤ 2300#16 → t.pwr.vbatLow = s.pwr.vbatLow))))

/-- Drydown: at the end of the qualification every state but BOOT saves; six completed steps with no input back end in the
halt, with the record of cause, count and time, the marker closed and every output off; a run cut short leaves the module
unpowered with the marker open, or resets it when the clock failed; in BOOT the module halts without a save (R7, R498, R510 to
R513). The command forms restart the module when an input is PRESENT, or halt it for DRYDOWN_HALT, and do nothing in BOOT
(R510, R512). -/
def Obligations.Drydown : Prop :=
  (∀ (s : State) (d : DrydownRun), s.pwr.powered = true → s.pwr.halted = false → s.pwr.qual = true → s.sys.state ≠ .boot →
    s.pwr.aOk = false → s.pwr.bOk = false → d.aBack = false → d.bBack = false → d.times.length = 6 →
    ∃ t, exec (.drydownTrigger d) s = .next t ∧ t.sys.state = .drydown ∧ t.pwr.halted = true ∧ t.pwr.haltCmd = false ∧
      t.pwr.faultN = true ∧ t.pwr.dd.cause = .supplyLoss ∧ t.pwr.dd.isOpen = false ∧
      t.pwr.dd.total = satInc 65535 s.pwr.dd.total ∧ t.pwr.dd.time = d.times.getD 5 0 % 2 ^ 24 ∧ t.twin.claimOut = false ∧
      t.pending = s.pending ∧ ∀ c : Fin 48, t.dio.ch[c].driven = false) ∧
  (∀ (s : State) (d : DrydownRun), s.pwr.powered = true → s.pwr.halted = false → s.pwr.qual = true → s.sys.state ≠ .boot →
    d.times.length < 6 →
    ∃ t, exec (.drydownTrigger d) s = .next t ∧ t.pending = s.pending ∧
      (d.clock = false → t.pwr.powered = false ∧ t.pwr.dd.isOpen = true ∧ ∀ c : Fin 48, t.dio.ch[c].driven = false) ∧
      (d.clock = true → t.sys.state = .boot ∧ t.sys.kind = .watchdog ∧ t.fs.clkFault = true ∧ t.pwr.dd.foundOpen = true)) ∧
  (∀ (s : State) (d : DrydownRun), s.pwr.powered = true → s.pwr.halted = false → s.pwr.qual = true → s.sys.state = .boot →
    ∃ t, exec (.drydownTrigger d) s = .next t ∧ t = { s with now := t.now, pwr := t.pwr, dio := t.dio } ∧
      t.now = max s.now (s.pwr.qualAt + 400000) ∧ t.pwr.halted = true ∧
      t.pwr.dd = s.pwr.dd) ∧
  (∀ (s : State) (who : Initiator) (d : DrydownRun), s.acts who = true → isSuperSec who = true → s.sys.state ≠ .boot →
    6 ≤ d.times.length →
    (s.pwr.aOk = true → ∃ t, exec (.drydown who d) s = .next t ∧ t.sys.state = .boot ∧ t.sys.kind = .drydownEnd ∧
      t.pwr.dd.cause = .command ∧ t.pwr.dd.restart = true ∧ t.pending = s.pending) ∧
    (∃ t, exec (.drydownHalt who d) s = .next t ∧ t.sys.state = .drydown ∧ t.pwr.halted = true ∧ t.pwr.haltCmd = true ∧
      t.pwr.dd.cause = .commandHalt ∧ t.pending = s.pending)) ∧
  (∀ (s : State) (who : Initiator) (d : DrydownRun), s.acts who = true → isSuperSec who = true → s.sys.state = .boot →
    exec (.drydown who d) s = .next s ∧ exec (.drydownHalt who d) s = .next s)

/-- RESET_N, SW_RESET and the watchdog: the reset waits for the sillage capture that it starts (R337, R506, R508, R528), and
takes effect when SILLAGE_CAPTURE has written it: the module is in BOOT with the reset's kind, outputs and pairs at reset,
memory kept but for the result bank and the substation table (R8, R127, R501). A rising RESET_N lets the module start.
CLOCK_FAULT resets at once with CLK_FAULT and FAULT_N (R51). WATCHDOG_KICK: 0x5A and then 0xA5 restart the count, another
value writes entry 0x148 and the pair must start again (R507). MODE_REQUEST: COMMISSIONING from SERVICE needs access at
SERVICE; the result is in SYS_MODE_REQ.ERR and an accepted request waits for the next top tick (R503); a request outside the
running states is refused with 3 and one the present mode does not allow with 1. DEBUG_HALT at DEBUG level in COMMISSIONING or
TEST halts or releases the cores of a pair and nothing else of it, and pauses the watchdog for the pair of role 0 (R481, R507;
that the security core pair stays out of reach is read from R481). -/
def Obligations.ResetsAndModes : Prop :=
  (
  (∀ (s : State) (j : Fin 8), s.alive = true → s.pwr.deferred = none → s.sil.running = none → bitAt s.sil.hold j.val = false →
    (∃ t, exec (.resetN true) s = .next t ∧ t = { s with pwr := t.pwr, sil := t.sil, mtr := t.mtr, setBits := t.setBits } ∧
      t.pwr = { s.pwr with inReset := true, deferred := some .resetN } ∧ t.sil.running.isSome = true) ∧
    (∀ who, s.acts who = true → isSuperSec who = true →
      ∃ t, exec (.swReset who) s = .next t ∧ t = { s with pwr := t.pwr, sil := t.sil, mtr := t.mtr, setBits := t.setBits } ∧
        t.pwr = { s.pwr with deferred := some .software } ∧ t.sil.running.isSome = true) ∧
    (s.pwr.wdtPaused = false →
      ∃ t, exec .watchdogExpiry s = .next t ∧ t = { s with now := t.now, pwr := t.pwr, sil := t.sil, mtr := t.mtr,
                                                           setBits := t.setBits } ∧
        t.now = max s.now (s.pwr.wdtFrom + s.pwr.wdtTimeout * 3600000) ∧
        t.pwr = { s.pwr with deferred := some .watchdog } ∧ t.sil.running.isSome = true)) ∧
  (∀ (s : State), s.pwr.powered = true →
    exec (.resetN false) s = .next { s with pwr := { s.pwr with inReset := false } }) ∧
  (∀ (s : State) (k : ResetKind) (r : Nat × Capture), s.alive = true → s.pwr.deferred = some k → s.sil.running = some r →
    s.mtr.capReq = false → (k = .resetN ∨ k = .watchdog ∨ k = .software) →
    ∃ t, exec .sillageCapture s = .next t ∧ t.sys.state = .boot ∧ t.sys.kind = k ∧ t.sys.mode = .service ∧ t.now = s.now ∧
      t.pwr.deferred = none ∧ t.pairs = Pairs.reset ∧ t.fs = { FrameSeq.reset with integ := s.fs.integ,
                                                                                   clkFault := s.fs.clkFault } ∧
      t.acc.locked = false ∧ t.pending = s.pending ∧
      (∀ a, Mem.read a t.mem = if (0x107C0000 ≤ a ∧ a < 0x10800000) ∨ (s.run.mem.substBase ≤ a ∧
        a < s.run.mem.substBase + 0x40000)
        then 0 else Mem.read a s.mem)) ∧
  (∀ (s : State), s.pwr.powered = true → s.pwr.halted = false →
    ∃ t, exec .clockFault s = .next t ∧ t.sys.state = .boot ∧ t.sys.kind = .watchdog ∧ t.fs.clkFault = true ∧
      t.pwr.faultN = true ∧ t.pairs = Pairs.reset ∧ t.pending = s.pending)) ∧
  (
  ∀ (s : State) (who : Initiator) (v : Word), s.acts who = true → isSuper who = true →
    (v.extractLsb' 0 8 = 0x5A#8 →
      exec (.watchdogKick who v) s = .next { s with pwr := { s.pwr with kicked := true } }) ∧
    (v.extractLsb' 0 8 = 0xA5#8 → s.pwr.kicked = true → s.pwr.wdtPaused = false →
      exec (.watchdogKick who v) s = .next { s with pwr := { s.pwr with kicked := false, wdtFrom := s.now } }) ∧
    (v.extractLsb' 0 8 ≠ 0x5A#8 → (v.extractLsb' 0 8 = 0xA5#8 → s.pwr.kicked = false) → s.sil.queue.length < 64 →
      ∃ t e, exec (.watchdogKick who v) s = .next t ∧ t = { s with pwr := t.pwr, sil := t.sil, setBits := t.setBits } ∧
        t.pwr = { s.pwr with kicked := false } ∧ t.sil.queue = s.sil.queue ++ [e] ∧ e.num = 0x148 ∧ e.cls = 2)) ∧
  (
  (∀ (s s1 : State) (who : Initiator) (v : Word), s.acts who = true → isSuperSec who = true → v.extractLsb' 0 4 = 4#4 →
    s1 = s.settleAcc →
    (s.running = true → s.sys.mode = .service → 2 ≤ s1.key.level →
      exec (.modeRequest who v) s = .next { s1 with sys := { s.sys with reqErr := 0, reqMode := some .commissioning } }) ∧
    (s.running = true → s.sys.mode = .service → s1.key.level < 2 →
      exec (.modeRequest who v) s = .next { s1 with sys := { s.sys with reqErr := 2 } }) ∧
    (s.running = true → s.sys.mode = .commissioning →
      exec (.modeRequest who v) s = .next { s1 with sys := { s.sys with reqErr := 1 } }) ∧
    (s.running = false → exec (.modeRequest who v) s = .next { s1 with sys := { s.sys with reqErr := 3 } })) ∧
  (∀ (s : State) (p : Fin 9) (halt : Bool), s.alive = true → s.debugOpen = true →
    (s.sys.state = .commissioning ∨ s.sys.state = .test) → p ≠ 8 →
    ∃ t, exec (.debugHalt p halt) s = .next t ∧ t = { s with pairs := t.pairs, pwr := t.pwr } ∧
      t.pairs = { s.pairs with p := s.pairs.p.set p { s.pairs.p[p] with debugHalt := halt } } ∧
      (s.pairs.place[(0 : Fin 7)].castSucc = p → t.pwr.wdtPaused = halt) ∧ t.pwr.wdtTimeout = s.pwr.wdtTimeout))

/-- LOAD with the pointer on slot A: an image that passes every check of R68 is written to the inactive slot, which has no
valid header while BUSY is set and becomes valid with its SEQUENCE when the header is written last; any other image leaves
both slots as they are and reports its error. ERASE of an inactive slot empties it and ERASE of the active one is refused with
0x12 (R72, R73). The time of the write is open, and its value here the model's free value (log entry 57). An accord command of
an initiator that is neither the supervisor role nor the security core pair changes no register of the accord unit and is
recorded as entry 0x140 with class 4 (R11, R89); while a command runs, another is refused with 0x13 BUSY (R72). CONFIGURE of a
slot in a running state is accepted when the slot passes the checks, and then waits for the next base tick; a failing slot and
any other state end it with an error and change nothing else (R76). COMMIT_ROLLBACK in SERVICE raises the OTP accord counter
to the level of the active accord, 2,000 SEC cycles a step with BUSY set, and never lowers it (R74, R75). -/
def Obligations.AccordSlots : Prop :=
  (
  (∀ (s s1 : State) (who : Initiator) (b : List Byte), s.acts who = true → (who = .role 0 ∨ who = .security) →
    s1 = s.settleAcd →
    s1.acc.busy = none → s1.acc.fallback = false → s1.acc.active = some .a → b = Mem.readN s.mem s.acc.src s.acc.len →
    (∀ c, s1.validateAcd b s.acc.len .load none = .ok c →
      ∃ t w, exec (.load who none) s = .next t ∧ t = { s1 with free := t.free, acc := t.acc } ∧ t.acc.lastCmd = 1 ∧
        t.acc.busy = some .load ∧ t.acc.active = some .a ∧ t.acc.slotA = s1.acc.slotA ∧ t.acc.seqA = s1.acc.seqA ∧
        t.acc.slotB = headless b ∧ t.acc.bValid = false ∧ t.acc.logB = [] ∧ t.acc.work = some w ∧ w.slot = some .b ∧
        w.bytes = b ∧ w.seq = c.hdr.seq ∧ w.bad = none ∧ s.now ≤ w.endAt) ∧
    (∀ e, s1.validateAcd b s.acc.len .load none = .error e →
      ∃ t, exec (.load who none) s = .next t ∧ t = { s1 with acc := t.acc, hub := t.hub, setBits := t.setBits } ∧
        t.acc.lastCmd = 1 ∧ t.acc.busy = none ∧ t.acc.active = some .a ∧ t.acc.slotA = s1.acc.slotA ∧ t.acc.seqA = s1.acc.seqA ∧
        t.acc.slotB = s1.acc.slotB ∧ t.acc.bValid = s1.acc.bValid ∧ t.acc.err = e.code ∧ t.acc.errOfs = e.ofs)) ∧
  (∀ (s t : State) (w : AcdWork), s.acc.work = some w → w.slot = some .b → w.bad = none → w.endAt ≤ s.now → t = s.settleAcd →
    t = { s with acc := t.acc, hub := t.hub, setBits := t.setBits } ∧ t.acc.slotB = w.bytes ∧ t.acc.bValid = true ∧
    t.acc.seqB = w.seq ∧ t.acc.err = 0 ∧ t.acc.busy = none ∧ t.acc.slotA = s.acc.slotA ∧ t.acc.lastCmd = 1) ∧
  (∀ (s s1 : State) (who : Initiator), s.acts who = true → (who = .role 0 ∨ who = .security) → s1 = s.settleAcd →
    s1.acc.busy = none → s1.acc.active = some .a →
    (∃ t, exec (.erase who true) s = .next t ∧ t = { s1 with acc := t.acc, hub := t.hub, setBits := t.setBits } ∧
      t.acc.slotB = [] ∧
      t.acc.bValid = false ∧ t.acc.slotA = s1.acc.slotA ∧ t.acc.err = 0 ∧ t.acc.lastCmd = 5) ∧
    (∃ t, exec (.erase who false) s = .next t ∧ t = { s1 with acc := t.acc, hub := t.hub, setBits := t.setBits } ∧
      t.acc.slotA = s1.acc.slotA ∧
      t.acc.slotB = s1.acc.slotB ∧ t.acc.aValid = s1.acc.aValid ∧ t.acc.err = 0x12 ∧ t.acc.lastCmd = 5))) ∧
  (
  (∀ (s s1 : State) (who : Initiator) (b : Bool), s.acts who = true → who ≠ .role 0 → who ≠ .security →
    s.sil.queue.length < 64 → s1 = s.settleAcd →
    ∃ t e, exec (.erase who b) s = .next t ∧ t = { s1 with sil := t.sil } ∧ t.sil.queue = s.sil.queue ++ [e] ∧ e.num = 0x140 ∧
      e.cls = 4 ∧ e.payload.take 9 = toLe 8 0x40000200 ++ toLe 1 who.code) ∧
  (∀ (s s1 : State) (who : Initiator) (b : Bool) (x : AcdCmd), s.acts who = true → (who = .role 0 ∨ who = .security) →
    s1 = s.settleAcd → s1.acc.busy = some x →
    exec (.erase who b) s = .next { s1 with acc := { s1.acc with lastCmd := 5, err := 0x13, errSection := 0, errOfs := 0 } })) ∧
  (
  (∀ (s s1 : State) (who : Initiator) (b : Bool) (x : Slot), s.acts who = true → (who = .role 0 ∨ who = .security) →
    s1 = s.settleAcd → s1.acc.busy = none → s.running = true → x = (if b then .b else .a) →
    ∃ t, exec (.configure who b none) s = .next t ∧ t = { s1 with acc := t.acc, hub := t.hub, setBits := t.setBits } ∧
      t.acc.lastCmd = 2 ∧
      t.acc.slotA = s1.acc.slotA ∧ t.acc.slotB = s1.acc.slotB ∧ t.acc.active = s1.acc.active ∧
      (∀ c, s1.validateAcd (s1.acc.slot x) (s1.acc.slot x).length .configure none = .ok c →
        t.acc.busy = some .configure ∧ t.acc.target = some (x, s.fs.bnc)) ∧
      (∀ e, s1.validateAcd (s1.acc.slot x) (s1.acc.slot x).length .configure none = .error e →
        t.acc.busy = none ∧ t.acc.target = s1.acc.target ∧ t.acc.err = e.code)) ∧
  (∀ (s s1 : State) (who : Initiator) (b : Bool), s.acts who = true → (who = .role 0 ∨ who = .security) → s1 = s.settleAcd →
    s1.acc.busy = none → s.running = false →
    ∃ t, exec (.configure who b none) s = .next t ∧ t = { s1 with acc := t.acc, hub := t.hub, setBits := t.setBits } ∧
      t.acc.err = 0x14 ∧
      t.acc.target = s1.acc.target) ∧
  (∀ (s s1 : State) (who : Initiator), s.acts who = true → (who = .role 0 ∨ who = .security) → s1 = s.settleAcd →
    s1.acc.busy = none → s.sys.state = .service →
    (s.run.hdr.rollback ≤ s1.key.otp[1] →
      ∃ t, exec (.commitRollback who) s = .next t ∧ t = { s1 with acc := t.acc, hub := t.hub, setBits := t.setBits } ∧
        t.acc.err = 0 ∧ t.acc.busy = none ∧ t.acc.lastCmd = 4) ∧
    (s1.key.otp[1] < s.run.hdr.rollback →
      ∃ t w, exec (.commitRollback who) s = .next t ∧ t = { s1 with acc := t.acc } ∧ t.acc.busy = some .commitRollback ∧
        t.acc.work = some w ∧ w.slot = none ∧ w.level = s.run.hdr.rollback ∧
        w.endAt = s.now + (s.run.hdr.rollback - s1.key.otp[1]) * 40000)) ∧
  (∀ (s t : State) (w : AcdWork), s.acc.work = some w → w.slot = none → w.endAt ≤ s.now → t = s.settleAcd →
    t = { s with key := t.key, acc := t.acc, hub := t.hub, setBits := t.setBits } ∧
    t.key = { s.key with otp := s.key.otp.set 1 (max s.key.otp[1] w.level) } ∧ t.acc.err = 0 ∧ t.acc.busy = none ∧
    t.acc.otpLevel = max s.key.otp[1] w.level))

/-- CONFIGURE_SWITCH at a base tick after the command abandons running program cycles and cancels solver jobs; from instant 4
of that note on it stops the module's work; once the metering capture is written and the cancelled solver jobs have handed
over their records, at once or at a later one, the pointer names the slot, waiting amendments and a mode request are gone, the
state is CONFIGURE, or SAFE_HOLD where a role is left without a pair (R76, R119). CONFIGURE_COMPLETE of an applied accord
enters START in operating mode SERVICE, with the twin seeking when TWIN_USE is set, or in STANDBY where CLAIM_IN is asserted
(R499, R502, R503, R539). FIRMWARE_VERIFY lets FAULT_N go high when a firmware slot passes, and the module otherwise stays in
BOOT (R477). BOOT_ACCORD_SELECT takes the pointer's slot into CONFIGURE when it passes, else the other slot with FALLBACK,
else SAFE_HOLD (R71), and the level registers are reloaded (R90). -/
def Obligations.AccordIsApplied : Prop :=
  (
  (∀ (s : State) (x : Slot) (bnc : Nat), s.alive = true → s.running = true → s.acc.stopped = false →
    s.acc.target = some (x, bnc) → s.acc.halted = none → s.fs.hpos = 0 → s.fs.bpos = 0 → s.tickBnc ≠ bnc →
    s.now < s.fs.tickAt + 1000000 →
    ∃ t, exec .configureSwitch s = .next t ∧ t = { s with prog := t.prog, se := t.se, acc := t.acc, mem := t.mem,
                                                             fab := t.fab, hub := t.hub, sil := t.sil, setBits := t.setBits } ∧
      t.acc = { s.acc with halted := some (s.fs.tickAt + 1000000) } ∧
      (∀ (p : Fin 4) (k : Fin 8), t.prog.p[p].tasks[k].running = false)) ∧
  (∀ (s : State) (x : Slot) (bnc at_ : Nat), s.alive = true → s.running = true → s.acc.stopped = false →
    s.acc.target = some (x, bnc) → s.acc.halted = some at_ →
    (s.now < at_ → exec .configureSwitch s = .next s) ∧
    (at_ ≤ s.now → (s.configureStop.solversQuiet = false ∨ s.configureStop.mtr.capReq = true) →
      ∃ t, exec .configureSwitch s = .next t ∧ t = s.configureStop ∧ t.acc.stopped = true ∧ t.sys.state = s.sys.state ∧
        t.run = s.run ∧ t.acc.target = some (x, bnc))) ∧
  (∀ (s s1 : State) (x : Slot) (bnc : Nat), s.alive = true → s.running = true → s.acc.target = some (x, bnc) →
    (s.acc.stopped = true ∨ s.acc.halted.any (fun a => decide (a ≤ s.now)) = true) →
    s1 = (if s.acc.stopped then s else s.configureStop) → s1.solversQuiet = true → s1.mtr.capReq = false →
    ∃ t, exec .configureSwitch s = .next t ∧ (t.sys.state = .configure ∨ t.sys.state = .safeHold) ∧ t.acc.ptr = x ∧
      t.acc.active = some x ∧ t.acc.fallback = false ∧ t.acc.pending = [] ∧ t.sys.reqMode = none ∧ t.rtc = s.rtc ∧
      t.acc.slotA = s.acc.slotA ∧ t.acc.slotB = s.acc.slotB ∧ t.pending = s.pending ∧
      (∀ l, accordSects (s.acc.slot x) none = .ok l →
        roleUnplaced (RunCfg.ofBytes (s.acc.slot x) l).str s.pairs.down = false →
        t.sys.state = .configure ∧ t.acc.locked = true)) ∧
  (∀ (s : State) (x : Slot) (bnc : Nat), s.alive = true → s.sys.state = .configure → s.acc.target = some (x, bnc) →
    s.acc.locked = true →
    ∃ t, exec .configureComplete s = .next t ∧
      t = { s with sys := t.sys, pwr := t.pwr, twin := t.twin, acc := t.acc, hub := t.hub, sil := t.sil,
                   setBits := t.setBits } ∧
      t.sys.state = .start ∧ t.sys.prev = .configure ∧ t.sys.mode = .service ∧ t.acc.target = none ∧
        t.acc.active = s.acc.active ∧
      t.pwr.startAt = s.now ∧ t.pwr.lead = (if s.acc.busy = some .configure then 0 else 32000000) ∧
      (s.run.str.twin = true → t.twin.state = if s.twin.claimIn then .standby else .seeking) ∧ (s.run.str.twin = false → t.twin.state = .none))) ∧
  (
  (∀ (s : State), s.alive = true → s.sys.state = .boot → s.pwr.fwOk = false →
    ∃ t, exec (.firmwareVerify []) s = .next t ∧ t = { s with pwr := t.pwr, pairs := t.pairs, key := t.key } ∧
      t.pwr.fwOk = (fwOk (Config.firmware Config.firmwarePtr) s.key.otp[0] ||
        fwOk (Config.firmware (!Config.firmwarePtr)) s.key.otp[0]) ∧
      (t.pwr.fwOk = true → t.pwr.faultN = false) ∧ (t.pwr.fwOk = false → t.pwr = s.pwr) ∧
      t.key = { s.key with fwFallback := s.key.fwFallback ||
        (!fwOk (Config.firmware Config.firmwarePtr) s.key.otp[0] &&
          fwOk (Config.firmware (!Config.firmwarePtr)) s.key.otp[0]) }) ∧
  (∀ (s : State) (x : Slot), s.alive = true → s.sys.state = .boot → s.pwr.fwOk = true → s.acc.ptr = x →
    ∃ t, exec (.bootAccordSelect none none) s = .next t ∧ t.pending = s.pending ∧ t.acc.slotA = s.acc.slotA ∧
      t.acc.slotB = s.acc.slotB ∧
      (∀ c, s.validateAcd (s.acc.slot x) (s.acc.slot x).length .boot none = .ok c →
        t.sys.state = .configure ∧ t.acc.active = some x ∧ t.acc.fallback = false ∧ t.acc.target = some (x, 0) ∧
        t.acc.accordLevel = c.hdr.rollback ∧ t.acc.otpLevel = s.key.otp[1]) ∧
      (∀ e c, s.validateAcd (s.acc.slot x) (s.acc.slot x).length .boot none = .error e →
        s.validateAcd (s.acc.slot x.other) (s.acc.slot x.other).length .boot none = .ok c →
        t.sys.state = .configure ∧ t.acc.active = some x.other ∧ t.acc.fallback = true) ∧
      (∀ e d, s.validateAcd (s.acc.slot x) (s.acc.slot x).length .boot none = .error e →
        s.validateAcd (s.acc.slot x.other) (s.acc.slot x.other).length .boot none = .error d →
        t.sys.state = .safeHold ∧ t.pwr.faultN = true ∧ t.acc.otpLevel = s.key.otp[1])))

/-- AMEND in a running state with room: an amendment that passes every check of R82 waits for its base tick, the next one when
EFFECTIVE is 0, and any other is refused with its error. AMENDMENT_APPLY applies a due amendment: APPLIED is its number, the
journal holds it and source 8 asserts (R84 to R86); AMENDMENT_FLASH_COPY moves the oldest journal entry into the log of its
slot (R86). -/
def Obligations.Amendments : Prop :=
  (∀ (s s1 : State) (who : Initiator) (b : List Byte), s.acts who = true → (who = .role 0 ∨ who = .security) →
    s1 = s.settleAcd → s1.acc.busy = none →
    s.running = true → s1.acc.pending.length + s1.acc.journal.length < 8 → b = Mem.readN s.mem s.acc.src s.acc.len →
    ∃ t, exec (.amend who) s = .next t ∧ t = { s1 with acc := t.acc, hub := t.hub, setBits := t.setBits } ∧ t.acc.lastCmd = 3 ∧
      (∀ l, s1.amdCheck b s.acc.len true = .ok l → ∃ m, t.acc.pending = s1.acc.pending ++ [m] ∧ m.number = leAt b 16 4 ∧
        m.records = l ∧ m.bytes = b ∧ m.due = (if leAt b 0x14 4 = 0 then (s.fs.bnc + 1) % 2 ^ 32 else leAt b 0x14 4) ∧
        t.acc.err = 0) ∧
      (∀ e, s1.amdCheck b s.acc.len true = .error e → t.acc.pending = s1.acc.pending ∧ t.acc.err = e.code)) ∧
  (∀ (s : State) (m : Amendment) (r : AmdRecord) (x : Slot), s.notesRun = true → s.fs.hpos = 0 → s.fs.bpos = 0 →
    s.acc.pending = [m] → m.due = s.tickBnc → m.records = [r] → r.sect = 10 → s.acc.active = some x →
    ∃ t, exec .amendmentApply s = .next t ∧
      t = { s with run := t.run, acc := t.acc, hub := t.hub, sil := t.sil, setBits := t.setBits, se := t.se } ∧
        (t.run.dist.weights = s.run.dist.weights → t.se = s.se) ∧ t.acc.appliedNum = max s.acc.appliedNum m.number ∧
      t.acc.pending = [] ∧ t.acc.journal = s.acc.journal ++ [(x, m.bytes)] ∧
      t.run = { s.run with dist := s.run.dist.withParams (Config.amendDistrict r s.run.dist) }) ∧
  (∀ (s : State) (b : List Byte) (rest : List (Slot × List Byte)), s.alive = true → s.acc.journal = (.a, b) :: rest →
    exec .amendmentFlashCopy s = .next { s with acc := { s.acc with logA := s.acc.logA ++ [b], journal := rest } })

/-- REGISTER_WRITE (R10, R11, R95): an RW field takes its bits and reserved bits stay 0; an RWL register takes a value until
an accord has been applied, and after that the write, even of an equal value, changes nothing and is recorded as entry 0x140
with class 2; a write of an initiator without a grant is recorded with class 4; an address outside the PERI space reaches no
register. -/
def Obligations.RegisterWrites : Prop :=
  (∀ (s : State) (who : Initiator) (n : Fin 4) (v : Word), s.acts who = true → s.granted who (0x30 + n.val) = true →
    exec (.registerWrite who (BitVec.ofNat 40 (0x4030001C + n.val * 0x10000)) v) s =
      .next { s with net := { s.net with eth := s.net.eth.set n ({ s.net.eth[n] with evtEn := v.toNat % 16 }) } }) ∧
  (∀ (s : State) (who : Initiator) (n : Fin 4) (v : Word), s.acts who = true → s.granted who (0x30 + n.val) = true →
    v.getLsbD 8 = false → s.acc.locked = false →
    exec (.registerWrite who (BitVec.ofNat 40 (0x40300000 + n.val * 0x10000)) v) s =
      .next { s with net := { s.net with eth := s.net.eth.set n ({ s.net.eth[n] with
        enable := v.getLsbD 0, mode := v.getLsbD 1 }) } }) ∧
  (∀ (s : State) (who : Initiator) (n : Fin 4) (v : Word), s.acts who = true → s.granted who (0x30 + n.val) = true →
    v.getLsbD 8 = false → s.acc.locked = true → s.sil.queue.length < 64 →
    ∃ t e, exec (.registerWrite who (BitVec.ofNat 40 (0x40300000 + n.val * 0x10000)) v) s = .next t ∧
      t = { s with sil := { s.sil with queue := s.sil.queue ++ [e] } } ∧ e.num = 0x140 ∧ e.cls = 2 ∧
      e.payload = toLe 8 (0x40300000 + n.val * 0x10000) ++ toLe 1 who.code ++ toLe 4 v.toNat) ∧
  (∀ (s : State) (who : Initiator) (n : Fin 4) (v : Word), s.acts who = true → s.granted who (0x30 + n.val) = false →
    s.sil.queue.length < 64 →
    ∃ t e, exec (.registerWrite who (BitVec.ofNat 40 (0x40300000 + n.val * 0x10000)) v) s = .next t ∧
      t = { s with sil := { s.sil with queue := s.sil.queue ++ [e] } } ∧ e.num = 0x140 ∧ e.cls = 4 ∧
      e.payload = toLe 8 (0x40300000 + n.val * 0x10000) ++ toLe 1 who.code ++ toLe 4 v.toNat) ∧
  (∀ (s : State) (who : Initiator) (a : Addr) (v : Word), (a.toNat < 0x40000000 ∨ 0x40800000 ≤ a.toNat) →
    exec (.registerWrite who a v) s = .next s)

/-- The claim interlock: a wanted claim asserts CLAIM_OUT only while CLAIM_IN is negated and the module is in START or runs
(R535, R538, R539); after 10,000 PERI cycles alone the gate opens and the module is ACTIVE, counted as a takeover from STANDBY
(R535, R543); CLAIM_IN asserted at an open gate closes it, with every output off and CLAIM_WIRE (R419, R537); two claims
without a gate conflict, and the module with TWIN_SEL low gives way (R536); CLAIM_IN negated starts the settle time of an own
claim (R535); a back-off that ends requests the claim again (R536). Frames of the partner: one with a wrong tag only sets TAG
(R533, R541); a heartbeat shows the partner's state and takes a SEEKING module whose partner is ACTIVE to STANDBY (R539,
R540); on a STANDBY module a DELTA of the next commit is applied whole with its last frame and not before, LOOPS and BASE
frames are kept (R541); RESYNC has an ACTIVE module send the partition's area (R541); SWITCHOVER is taken by an ACTIVE module
with a partner in STANDBY and in SYNC, and by no other (R541, R545). -/
def Obligations.Twin : Prop :=
  (
  (∀ (s : State), s.twinUsed = true → s.claimWanted = true →
    (s.twin.claimIn = false → s.twin.claimOut = false → s.acting = true →
      exec .claimRequest s = .next { s with twin := { s.twin with claimOut := true, settleFrom := some s.now } }) ∧
    (s.twin.claimIn = true ∨ s.acting = false → exec .claimRequest s = .next s)) ∧
  (∀ (s : State) (t0 : Nat), s.twinUsed = true → s.twin.claimOut = true → s.twin.claimIn = false → s.twin.gate = false →
    s.twin.settleFrom = some t0 →
    ∃ t, exec .twinGateOpen s = .next t ∧
      t = { s with now := t.now, twin := t.twin, hub := t.hub, sil := t.sil, prog := t.prog, dio := t.dio,
                   setBits := t.setBits } ∧
      t.now = max s.now (t0 + 400000) ∧ t.twin.gate = true ∧ t.twin.state = .active ∧ t.twin.claimOut = true ∧
      t.twin.takeovers = (if s.twin.state = .standby then satInc 65535 s.twin.takeovers else s.twin.takeovers)) ∧
  (∀ (s : State), s.twinUsed = true → s.twin.claimIn = false → s.twin.gate = true →
    ∃ t, exec (.claimInChange true) s = .next t ∧ t = { s with twin := t.twin, dio := t.dio, hub := t.hub,
                                                               setBits := t.setBits } ∧
      t.twin.gate = false ∧ t.twin.claimOut = s.twin.claimOut ∧ t.twin.claimIn = true ∧ t.twin.claimWire = true ∧
      ∀ c : Fin 48, t.dio.ch[c].driven = false ∧ t.dio.ch[c].cmd = false) ∧
  (∀ (s : State), s.twinUsed = true → s.twin.claimIn = false → s.twin.gate = false → s.twin.claimOut = true →
    s.twin.state = .standby →
    ∃ t, exec (.claimInChange true) s = .next t ∧ t = { s with twin := t.twin, hub := t.hub, setBits := t.setBits } ∧
      t.twin.conflicts = satInc 65535 s.twin.conflicts ∧ t.twin.settleFrom = none ∧ t.twin.claimIn = true ∧
      t.twin.claimOut = s.twin.sel) ∧
  (∀ (s : State), s.twinUsed = true → s.twin.claimIn = false → s.twin.gate = false → s.twin.claimOut = false →
    s.twin.state = .seeking →
    ∃ t, exec (.claimInChange true) s = .next t ∧ t = { s with twin := t.twin, hub := t.hub, setBits := t.setBits } ∧
      t.twin.state = .standby ∧
      t.twin.stale = s.run.str.parts ∧ t.twin.sync = false) ∧
  (∀ (s : State), s.twinUsed = true → s.twin.claimIn = true → s.twin.claimOut = true →
    exec (.claimInChange false) s = .next { s with twin := { s.twin with claimIn := false, settleFrom := some s.now } }) ∧
  (∀ (s : State) (k : Nat), s.twinUsed = true → s.twin.backoff = some k →
    (k ≤ s.fs.tnc → s.twin.claimIn = false → s.twin.claimOut = false → s.acting = true →
      exec .twinBackoffExpiry s = .next { s with twin := { s.twin with
        backoff := none, claimOut := true, settleFrom := some s.now } }) ∧
    (k ≤ s.fs.tnc → s.twin.claimIn = true ∨ s.twin.claimOut = true ∨ s.acting = false →
      exec .twinBackoffExpiry s = .next { s with twin := { s.twin with backoff := none } }) ∧
    (s.fs.tnc < k → exec .twinBackoffExpiry s = .next s))) ∧
  (
  (∀ (s : State) (f : TwinIn), s.twinUsed = true →
    (s.twinTagOk 1 f = false →
      ∃ t, exec (.twinHeartbeat f) s = .next t ∧ t = { s with twin := { s.twin with tag := true }, setBits := t.setBits }) ∧
    (s.twinTagOk 2 f = false →
      ∃ t, exec (.delta f) s = .next t ∧ t = { s with twin := { s.twin with tag := true }, setBits := t.setBits }) ∧
    (s.twinTagOk 3 f = false →
      ∃ t, exec (.twinLoops f) s = .next t ∧ t = { s with twin := { s.twin with tag := true }, setBits := t.setBits }) ∧
    (s.twinTagOk 4 f = false →
      ∃ t, exec (.twinBase f) s = .next t ∧ t = { s with twin := { s.twin with tag := true }, setBits := t.setBits }) ∧
    (s.twinTagOk 5 f = false →
      ∃ t, exec (.resync f) s = .next t ∧ t = { s with twin := { s.twin with tag := true }, setBits := t.setBits })) ∧
  (∀ (s : State) (f : TwinIn), s.twinUsed = true → (∀ q, s.twin.seqIn = some q → f.seq = (q + 1) % 2 ^ 32) →
    (s.twinTagOk 1 f = true → s.twin.state = .seeking → leAt f.payload 0 1 = 2 →
      ∃ t, exec (.twinHeartbeat f) s = .next t ∧ t = { s with twin := t.twin, hub := t.hub, setBits := t.setBits } ∧
        t.twin.state = .standby ∧
        t.twin.partnerState = .active ∧ t.twin.beat = true ∧ t.twin.seqIn = some f.seq ∧ t.twin.claimOut = s.twin.claimOut) ∧
    (∀ p : Fin 4, s.twinTagOk 2 f = true → s.twin.state = .standby → s.twin.digestDiff = false → f.part = p.val + 1 →
      s.twin.stale[p] = false → f.commit = s.twin.applied[p] + 1 →
      ∃ t, exec (.delta f) s = .next t ∧ t = { s with twin := t.twin, mem := t.mem, fab := t.fab, se := t.se,
                                                      pairs := t.pairs, prog := t.prog } ∧
        (Config.deltaLast f.payload = true → t.twin.applied[p] = f.commit ∧ t.twin.mirrored = true ∧ t.twin.gather[p] = none) ∧
        (Config.deltaLast f.payload = false → t.twin.applied = s.twin.applied ∧ t.mem = s.mem ∧ t.pairs = s.pairs ∧
          t.prog = s.prog)) ∧
    (s.twinTagOk 3 f = true → s.twin.state = .standby → s.twin.digestDiff = false →
      exec (.twinLoops f) s = .next { s with twin := { s.twin with
        seqIn := some f.seq, uLast := Config.loopsULast f.payload, mirrored := true } }) ∧
    (s.twinTagOk 4 f = true → s.twin.state = .standby → s.twin.digestDiff = false →
      ∃ t, exec (.twinBase f) s = .next t ∧ t = { s with twin := t.twin, mem := t.mem, fab := t.fab, se := t.se } ∧
        t.twin = { s.twin with seqIn := some f.seq, base := some (s.fs.bnc, f.payload), mirrored := true }) ∧
    (∀ p : Fin 4, s.twinTagOk 5 f = true → s.twin.state = .active → f.part = p.val + 1 →
      exec (.resync f) s = .next { s with twin := { s.twin with
        seqIn := some f.seq, resync := s.twin.resync.set p true } })) ∧
  (∀ (s : State) (who : Initiator) (v : Word), s.acts who = true → s.granted who 0x71 = true →
    v.extractLsb' 16 16 = 0x9640#16 → v.extractLsb' 0 4 = 1#4 →
    (s.twin.state = .active → s.twin.partnerState = .standby → s.twin.partnerSync = true →
      exec (.switchover who v) s = .next { s with twin := { s.twin with releasePend := true } }) ∧
    (s.twin.state ≠ .active → exec (.switchover who v) s = .next s)))
end

