-- ==== Sys2Proof/Laws/State.lean ====
section
/-! SUPPORT. What each change of one part of the state leaves and what it writes: one lemma per field, true by definition. -/

namespace Sys2Proof.Machine

variable (s : State)

/-! `modSys` -/

@[simp] theorem State.modSys_now (f : Sys → Sys) : (s.modSys f).now = s.now := rfl
@[simp] theorem State.modSys_free (f : Sys → Sys) : (s.modSys f).free = s.free := rfl
@[simp] theorem State.modSys_sys (f : Sys → Sys) : (s.modSys f).sys = f s.sys := rfl
@[simp] theorem State.modSys_fs (f : Sys → Sys) : (s.modSys f).fs = s.fs := rfl
@[simp] theorem State.modSys_hub (f : Sys → Sys) : (s.modSys f).hub = s.hub := rfl
@[simp] theorem State.modSys_rtc (f : Sys → Sys) : (s.modSys f).rtc = s.rtc := rfl
@[simp] theorem State.modSys_pwr (f : Sys → Sys) : (s.modSys f).pwr = s.pwr := rfl
@[simp] theorem State.modSys_sil (f : Sys → Sys) : (s.modSys f).sil = s.sil := rfl
@[simp] theorem State.modSys_twin (f : Sys → Sys) : (s.modSys f).twin = s.twin := rfl
@[simp] theorem State.modSys_pairs (f : Sys → Sys) : (s.modSys f).pairs = s.pairs := rfl
@[simp] theorem State.modSys_fab (f : Sys → Sys) : (s.modSys f).fab = s.fab := rfl
@[simp] theorem State.modSys_acc (f : Sys → Sys) : (s.modSys f).acc = s.acc := rfl
@[simp] theorem State.modSys_se (f : Sys → Sys) : (s.modSys f).se = s.se := rfl
@[simp] theorem State.modSys_loops (f : Sys → Sys) : (s.modSys f).loops = s.loops := rfl
@[simp] theorem State.modSys_plan (f : Sys → Sys) : (s.modSys f).plan = s.plan := rfl
@[simp] theorem State.modSys_prog (f : Sys → Sys) : (s.modSys f).prog = s.prog := rfl
@[simp] theorem State.modSys_mtr (f : Sys → Sys) : (s.modSys f).mtr = s.mtr := rfl
@[simp] theorem State.modSys_can (f : Sys → Sys) : (s.modSys f).can = s.can := rfl
@[simp] theorem State.modSys_dio (f : Sys → Sys) : (s.modSys f).dio = s.dio := rfl
@[simp] theorem State.modSys_key (f : Sys → Sys) : (s.modSys f).key = s.key := rfl
@[simp] theorem State.modSys_net (f : Sys → Sys) : (s.modSys f).net = s.net := rfl
@[simp] theorem State.modSys_run (f : Sys → Sys) : (s.modSys f).run = s.run := rfl
@[simp] theorem State.modSys_mem (f : Sys → Sys) : (s.modSys f).mem = s.mem := rfl
@[simp] theorem State.modSys_setBits (f : Sys → Sys) : (s.modSys f).setBits = s.setBits := rfl
@[simp] theorem State.modSys_pending (f : Sys → Sys) : (s.modSys f).pending = s.pending := rfl

/-! `modFs` -/

@[simp] theorem State.modFs_now (f : FrameSeq → FrameSeq) : (s.modFs f).now = s.now := rfl
@[simp] theorem State.modFs_free (f : FrameSeq → FrameSeq) : (s.modFs f).free = s.free := rfl
@[simp] theorem State.modFs_sys (f : FrameSeq → FrameSeq) : (s.modFs f).sys = s.sys := rfl
@[simp] theorem State.modFs_fs (f : FrameSeq → FrameSeq) : (s.modFs f).fs = f s.fs := rfl
@[simp] theorem State.modFs_hub (f : FrameSeq → FrameSeq) : (s.modFs f).hub = s.hub := rfl
@[simp] theorem State.modFs_rtc (f : FrameSeq → FrameSeq) : (s.modFs f).rtc = s.rtc := rfl
@[simp] theorem State.modFs_pwr (f : FrameSeq → FrameSeq) : (s.modFs f).pwr = s.pwr := rfl
@[simp] theorem State.modFs_sil (f : FrameSeq → FrameSeq) : (s.modFs f).sil = s.sil := rfl
@[simp] theorem State.modFs_twin (f : FrameSeq → FrameSeq) : (s.modFs f).twin = s.twin := rfl
@[simp] theorem State.modFs_pairs (f : FrameSeq → FrameSeq) : (s.modFs f).pairs = s.pairs := rfl
@[simp] theorem State.modFs_fab (f : FrameSeq → FrameSeq) : (s.modFs f).fab = s.fab := rfl
@[simp] theorem State.modFs_acc (f : FrameSeq → FrameSeq) : (s.modFs f).acc = s.acc := rfl
@[simp] theorem State.modFs_se (f : FrameSeq → FrameSeq) : (s.modFs f).se = s.se := rfl
@[simp] theorem State.modFs_loops (f : FrameSeq → FrameSeq) : (s.modFs f).loops = s.loops := rfl
@[simp] theorem State.modFs_plan (f : FrameSeq → FrameSeq) : (s.modFs f).plan = s.plan := rfl
@[simp] theorem State.modFs_prog (f : FrameSeq → FrameSeq) : (s.modFs f).prog = s.prog := rfl
@[simp] theorem State.modFs_mtr (f : FrameSeq → FrameSeq) : (s.modFs f).mtr = s.mtr := rfl
@[simp] theorem State.modFs_can (f : FrameSeq → FrameSeq) : (s.modFs f).can = s.can := rfl
@[simp] theorem State.modFs_dio (f : FrameSeq → FrameSeq) : (s.modFs f).dio = s.dio := rfl
@[simp] theorem State.modFs_key (f : FrameSeq → FrameSeq) : (s.modFs f).key = s.key := rfl
@[simp] theorem State.modFs_net (f : FrameSeq → FrameSeq) : (s.modFs f).net = s.net := rfl
@[simp] theorem State.modFs_run (f : FrameSeq → FrameSeq) : (s.modFs f).run = s.run := rfl
@[simp] theorem State.modFs_mem (f : FrameSeq → FrameSeq) : (s.modFs f).mem = s.mem := rfl
@[simp] theorem State.modFs_setBits (f : FrameSeq → FrameSeq) : (s.modFs f).setBits = s.setBits := rfl
@[simp] theorem State.modFs_pending (f : FrameSeq → FrameSeq) : (s.modFs f).pending = s.pending := rfl

/-! `modHub` -/

@[simp] theorem State.modHub_now (f : Hub → Hub) : (s.modHub f).now = s.now := rfl
@[simp] theorem State.modHub_free (f : Hub → Hub) : (s.modHub f).free = s.free := rfl
@[simp] theorem State.modHub_sys (f : Hub → Hub) : (s.modHub f).sys = s.sys := rfl
@[simp] theorem State.modHub_fs (f : Hub → Hub) : (s.modHub f).fs = s.fs := rfl
@[simp] theorem State.modHub_hub (f : Hub → Hub) : (s.modHub f).hub = f s.hub := rfl
@[simp] theorem State.modHub_rtc (f : Hub → Hub) : (s.modHub f).rtc = s.rtc := rfl
@[simp] theorem State.modHub_pwr (f : Hub → Hub) : (s.modHub f).pwr = s.pwr := rfl
@[simp] theorem State.modHub_sil (f : Hub → Hub) : (s.modHub f).sil = s.sil := rfl
@[simp] theorem State.modHub_twin (f : Hub → Hub) : (s.modHub f).twin = s.twin := rfl
@[simp] theorem State.modHub_pairs (f : Hub → Hub) : (s.modHub f).pairs = s.pairs := rfl
@[simp] theorem State.modHub_fab (f : Hub → Hub) : (s.modHub f).fab = s.fab := rfl
@[simp] theorem State.modHub_acc (f : Hub → Hub) : (s.modHub f).acc = s.acc := rfl
@[simp] theorem State.modHub_se (f : Hub → Hub) : (s.modHub f).se = s.se := rfl
@[simp] theorem State.modHub_loops (f : Hub → Hub) : (s.modHub f).loops = s.loops := rfl
@[simp] theorem State.modHub_plan (f : Hub → Hub) : (s.modHub f).plan = s.plan := rfl
@[simp] theorem State.modHub_prog (f : Hub → Hub) : (s.modHub f).prog = s.prog := rfl
@[simp] theorem State.modHub_mtr (f : Hub → Hub) : (s.modHub f).mtr = s.mtr := rfl
@[simp] theorem State.modHub_can (f : Hub → Hub) : (s.modHub f).can = s.can := rfl
@[simp] theorem State.modHub_dio (f : Hub → Hub) : (s.modHub f).dio = s.dio := rfl
@[simp] theorem State.modHub_key (f : Hub → Hub) : (s.modHub f).key = s.key := rfl
@[simp] theorem State.modHub_net (f : Hub → Hub) : (s.modHub f).net = s.net := rfl
@[simp] theorem State.modHub_run (f : Hub → Hub) : (s.modHub f).run = s.run := rfl
@[simp] theorem State.modHub_mem (f : Hub → Hub) : (s.modHub f).mem = s.mem := rfl
@[simp] theorem State.modHub_setBits (f : Hub → Hub) : (s.modHub f).setBits = s.setBits := rfl
@[simp] theorem State.modHub_pending (f : Hub → Hub) : (s.modHub f).pending = s.pending := rfl

/-! `modRtc` -/

@[simp] theorem State.modRtc_now (f : Rtc → Rtc) : (s.modRtc f).now = s.now := rfl
@[simp] theorem State.modRtc_free (f : Rtc → Rtc) : (s.modRtc f).free = s.free := rfl
@[simp] theorem State.modRtc_sys (f : Rtc → Rtc) : (s.modRtc f).sys = s.sys := rfl
@[simp] theorem State.modRtc_fs (f : Rtc → Rtc) : (s.modRtc f).fs = s.fs := rfl
@[simp] theorem State.modRtc_hub (f : Rtc → Rtc) : (s.modRtc f).hub = s.hub := rfl
@[simp] theorem State.modRtc_rtc (f : Rtc → Rtc) : (s.modRtc f).rtc = f s.rtc := rfl
@[simp] theorem State.modRtc_pwr (f : Rtc → Rtc) : (s.modRtc f).pwr = s.pwr := rfl
@[simp] theorem State.modRtc_sil (f : Rtc → Rtc) : (s.modRtc f).sil = s.sil := rfl
@[simp] theorem State.modRtc_twin (f : Rtc → Rtc) : (s.modRtc f).twin = s.twin := rfl
@[simp] theorem State.modRtc_pairs (f : Rtc → Rtc) : (s.modRtc f).pairs = s.pairs := rfl
@[simp] theorem State.modRtc_fab (f : Rtc → Rtc) : (s.modRtc f).fab = s.fab := rfl
@[simp] theorem State.modRtc_acc (f : Rtc → Rtc) : (s.modRtc f).acc = s.acc := rfl
@[simp] theorem State.modRtc_se (f : Rtc → Rtc) : (s.modRtc f).se = s.se := rfl
@[simp] theorem State.modRtc_loops (f : Rtc → Rtc) : (s.modRtc f).loops = s.loops := rfl
@[simp] theorem State.modRtc_plan (f : Rtc → Rtc) : (s.modRtc f).plan = s.plan := rfl
@[simp] theorem State.modRtc_prog (f : Rtc → Rtc) : (s.modRtc f).prog = s.prog := rfl
@[simp] theorem State.modRtc_mtr (f : Rtc → Rtc) : (s.modRtc f).mtr = s.mtr := rfl
@[simp] theorem State.modRtc_can (f : Rtc → Rtc) : (s.modRtc f).can = s.can := rfl
@[simp] theorem State.modRtc_dio (f : Rtc → Rtc) : (s.modRtc f).dio = s.dio := rfl
@[simp] theorem State.modRtc_key (f : Rtc → Rtc) : (s.modRtc f).key = s.key := rfl
@[simp] theorem State.modRtc_net (f : Rtc → Rtc) : (s.modRtc f).net = s.net := rfl
@[simp] theorem State.modRtc_run (f : Rtc → Rtc) : (s.modRtc f).run = s.run := rfl
@[simp] theorem State.modRtc_mem (f : Rtc → Rtc) : (s.modRtc f).mem = s.mem := rfl
@[simp] theorem State.modRtc_setBits (f : Rtc → Rtc) : (s.modRtc f).setBits = s.setBits := rfl
@[simp] theorem State.modRtc_pending (f : Rtc → Rtc) : (s.modRtc f).pending = s.pending := rfl

/-! `modPwr` -/

@[simp] theorem State.modPwr_now (f : Power → Power) : (s.modPwr f).now = s.now := rfl
@[simp] theorem State.modPwr_free (f : Power → Power) : (s.modPwr f).free = s.free := rfl
@[simp] theorem State.modPwr_sys (f : Power → Power) : (s.modPwr f).sys = s.sys := rfl
@[simp] theorem State.modPwr_fs (f : Power → Power) : (s.modPwr f).fs = s.fs := rfl
@[simp] theorem State.modPwr_hub (f : Power → Power) : (s.modPwr f).hub = s.hub := rfl
@[simp] theorem State.modPwr_rtc (f : Power → Power) : (s.modPwr f).rtc = s.rtc := rfl
@[simp] theorem State.modPwr_pwr (f : Power → Power) : (s.modPwr f).pwr = f s.pwr := rfl
@[simp] theorem State.modPwr_sil (f : Power → Power) : (s.modPwr f).sil = s.sil := rfl
@[simp] theorem State.modPwr_twin (f : Power → Power) : (s.modPwr f).twin = s.twin := rfl
@[simp] theorem State.modPwr_pairs (f : Power → Power) : (s.modPwr f).pairs = s.pairs := rfl
@[simp] theorem State.modPwr_fab (f : Power → Power) : (s.modPwr f).fab = s.fab := rfl
@[simp] theorem State.modPwr_acc (f : Power → Power) : (s.modPwr f).acc = s.acc := rfl
@[simp] theorem State.modPwr_se (f : Power → Power) : (s.modPwr f).se = s.se := rfl
@[simp] theorem State.modPwr_loops (f : Power → Power) : (s.modPwr f).loops = s.loops := rfl
@[simp] theorem State.modPwr_plan (f : Power → Power) : (s.modPwr f).plan = s.plan := rfl
@[simp] theorem State.modPwr_prog (f : Power → Power) : (s.modPwr f).prog = s.prog := rfl
@[simp] theorem State.modPwr_mtr (f : Power → Power) : (s.modPwr f).mtr = s.mtr := rfl
@[simp] theorem State.modPwr_can (f : Power → Power) : (s.modPwr f).can = s.can := rfl
@[simp] theorem State.modPwr_dio (f : Power → Power) : (s.modPwr f).dio = s.dio := rfl
@[simp] theorem State.modPwr_key (f : Power → Power) : (s.modPwr f).key = s.key := rfl
@[simp] theorem State.modPwr_net (f : Power → Power) : (s.modPwr f).net = s.net := rfl
@[simp] theorem State.modPwr_run (f : Power → Power) : (s.modPwr f).run = s.run := rfl
@[simp] theorem State.modPwr_mem (f : Power → Power) : (s.modPwr f).mem = s.mem := rfl
@[simp] theorem State.modPwr_setBits (f : Power → Power) : (s.modPwr f).setBits = s.setBits := rfl
@[simp] theorem State.modPwr_pending (f : Power → Power) : (s.modPwr f).pending = s.pending := rfl

/-! `modSil` -/

@[simp] theorem State.modSil_now (f : Sillage → Sillage) : (s.modSil f).now = s.now := rfl
@[simp] theorem State.modSil_free (f : Sillage → Sillage) : (s.modSil f).free = s.free := rfl
@[simp] theorem State.modSil_sys (f : Sillage → Sillage) : (s.modSil f).sys = s.sys := rfl
@[simp] theorem State.modSil_fs (f : Sillage → Sillage) : (s.modSil f).fs = s.fs := rfl
@[simp] theorem State.modSil_hub (f : Sillage → Sillage) : (s.modSil f).hub = s.hub := rfl
@[simp] theorem State.modSil_rtc (f : Sillage → Sillage) : (s.modSil f).rtc = s.rtc := rfl
@[simp] theorem State.modSil_pwr (f : Sillage → Sillage) : (s.modSil f).pwr = s.pwr := rfl
@[simp] theorem State.modSil_sil (f : Sillage → Sillage) : (s.modSil f).sil = f s.sil := rfl
@[simp] theorem State.modSil_twin (f : Sillage → Sillage) : (s.modSil f).twin = s.twin := rfl
@[simp] theorem State.modSil_pairs (f : Sillage → Sillage) : (s.modSil f).pairs = s.pairs := rfl
@[simp] theorem State.modSil_fab (f : Sillage → Sillage) : (s.modSil f).fab = s.fab := rfl
@[simp] theorem State.modSil_acc (f : Sillage → Sillage) : (s.modSil f).acc = s.acc := rfl
@[simp] theorem State.modSil_se (f : Sillage → Sillage) : (s.modSil f).se = s.se := rfl
@[simp] theorem State.modSil_loops (f : Sillage → Sillage) : (s.modSil f).loops = s.loops := rfl
@[simp] theorem State.modSil_plan (f : Sillage → Sillage) : (s.modSil f).plan = s.plan := rfl
@[simp] theorem State.modSil_prog (f : Sillage → Sillage) : (s.modSil f).prog = s.prog := rfl
@[simp] theorem State.modSil_mtr (f : Sillage → Sillage) : (s.modSil f).mtr = s.mtr := rfl
@[simp] theorem State.modSil_can (f : Sillage → Sillage) : (s.modSil f).can = s.can := rfl
@[simp] theorem State.modSil_dio (f : Sillage → Sillage) : (s.modSil f).dio = s.dio := rfl
@[simp] theorem State.modSil_key (f : Sillage → Sillage) : (s.modSil f).key = s.key := rfl
@[simp] theorem State.modSil_net (f : Sillage → Sillage) : (s.modSil f).net = s.net := rfl
@[simp] theorem State.modSil_run (f : Sillage → Sillage) : (s.modSil f).run = s.run := rfl
@[simp] theorem State.modSil_mem (f : Sillage → Sillage) : (s.modSil f).mem = s.mem := rfl
@[simp] theorem State.modSil_setBits (f : Sillage → Sillage) : (s.modSil f).setBits = s.setBits := rfl
@[simp] theorem State.modSil_pending (f : Sillage → Sillage) : (s.modSil f).pending = s.pending := rfl

/-! `modTwin` -/

@[simp] theorem State.modTwin_now (f : Twin → Twin) : (s.modTwin f).now = s.now := rfl
@[simp] theorem State.modTwin_free (f : Twin → Twin) : (s.modTwin f).free = s.free := rfl
@[simp] theorem State.modTwin_sys (f : Twin → Twin) : (s.modTwin f).sys = s.sys := rfl
@[simp] theorem State.modTwin_fs (f : Twin → Twin) : (s.modTwin f).fs = s.fs := rfl
@[simp] theorem State.modTwin_hub (f : Twin → Twin) : (s.modTwin f).hub = s.hub := rfl
@[simp] theorem State.modTwin_rtc (f : Twin → Twin) : (s.modTwin f).rtc = s.rtc := rfl
@[simp] theorem State.modTwin_pwr (f : Twin → Twin) : (s.modTwin f).pwr = s.pwr := rfl
@[simp] theorem State.modTwin_sil (f : Twin → Twin) : (s.modTwin f).sil = s.sil := rfl
@[simp] theorem State.modTwin_twin (f : Twin → Twin) : (s.modTwin f).twin = f s.twin := rfl
@[simp] theorem State.modTwin_pairs (f : Twin → Twin) : (s.modTwin f).pairs = s.pairs := rfl
@[simp] theorem State.modTwin_fab (f : Twin → Twin) : (s.modTwin f).fab = s.fab := rfl
@[simp] theorem State.modTwin_acc (f : Twin → Twin) : (s.modTwin f).acc = s.acc := rfl
@[simp] theorem State.modTwin_se (f : Twin → Twin) : (s.modTwin f).se = s.se := rfl
@[simp] theorem State.modTwin_loops (f : Twin → Twin) : (s.modTwin f).loops = s.loops := rfl
@[simp] theorem State.modTwin_plan (f : Twin → Twin) : (s.modTwin f).plan = s.plan := rfl
@[simp] theorem State.modTwin_prog (f : Twin → Twin) : (s.modTwin f).prog = s.prog := rfl
@[simp] theorem State.modTwin_mtr (f : Twin → Twin) : (s.modTwin f).mtr = s.mtr := rfl
@[simp] theorem State.modTwin_can (f : Twin → Twin) : (s.modTwin f).can = s.can := rfl
@[simp] theorem State.modTwin_dio (f : Twin → Twin) : (s.modTwin f).dio = s.dio := rfl
@[simp] theorem State.modTwin_key (f : Twin → Twin) : (s.modTwin f).key = s.key := rfl
@[simp] theorem State.modTwin_net (f : Twin → Twin) : (s.modTwin f).net = s.net := rfl
@[simp] theorem State.modTwin_run (f : Twin → Twin) : (s.modTwin f).run = s.run := rfl
@[simp] theorem State.modTwin_mem (f : Twin → Twin) : (s.modTwin f).mem = s.mem := rfl
@[simp] theorem State.modTwin_setBits (f : Twin → Twin) : (s.modTwin f).setBits = s.setBits := rfl
@[simp] theorem State.modTwin_pending (f : Twin → Twin) : (s.modTwin f).pending = s.pending := rfl

/-! `modPairs` -/

@[simp] theorem State.modPairs_now (f : Pairs → Pairs) : (s.modPairs f).now = s.now := rfl
@[simp] theorem State.modPairs_free (f : Pairs → Pairs) : (s.modPairs f).free = s.free := rfl
@[simp] theorem State.modPairs_sys (f : Pairs → Pairs) : (s.modPairs f).sys = s.sys := rfl
@[simp] theorem State.modPairs_fs (f : Pairs → Pairs) : (s.modPairs f).fs = s.fs := rfl
@[simp] theorem State.modPairs_hub (f : Pairs → Pairs) : (s.modPairs f).hub = s.hub := rfl
@[simp] theorem State.modPairs_rtc (f : Pairs → Pairs) : (s.modPairs f).rtc = s.rtc := rfl
@[simp] theorem State.modPairs_pwr (f : Pairs → Pairs) : (s.modPairs f).pwr = s.pwr := rfl
@[simp] theorem State.modPairs_sil (f : Pairs → Pairs) : (s.modPairs f).sil = s.sil := rfl
@[simp] theorem State.modPairs_twin (f : Pairs → Pairs) : (s.modPairs f).twin = s.twin := rfl
@[simp] theorem State.modPairs_pairs (f : Pairs → Pairs) : (s.modPairs f).pairs = f s.pairs := rfl
@[simp] theorem State.modPairs_fab (f : Pairs → Pairs) : (s.modPairs f).fab = s.fab := rfl
@[simp] theorem State.modPairs_acc (f : Pairs → Pairs) : (s.modPairs f).acc = s.acc := rfl
@[simp] theorem State.modPairs_se (f : Pairs → Pairs) : (s.modPairs f).se = s.se := rfl
@[simp] theorem State.modPairs_loops (f : Pairs → Pairs) : (s.modPairs f).loops = s.loops := rfl
@[simp] theorem State.modPairs_plan (f : Pairs → Pairs) : (s.modPairs f).plan = s.plan := rfl
@[simp] theorem State.modPairs_prog (f : Pairs → Pairs) : (s.modPairs f).prog = s.prog := rfl
@[simp] theorem State.modPairs_mtr (f : Pairs → Pairs) : (s.modPairs f).mtr = s.mtr := rfl
@[simp] theorem State.modPairs_can (f : Pairs → Pairs) : (s.modPairs f).can = s.can := rfl
@[simp] theorem State.modPairs_dio (f : Pairs → Pairs) : (s.modPairs f).dio = s.dio := rfl
@[simp] theorem State.modPairs_key (f : Pairs → Pairs) : (s.modPairs f).key = s.key := rfl
@[simp] theorem State.modPairs_net (f : Pairs → Pairs) : (s.modPairs f).net = s.net := rfl
@[simp] theorem State.modPairs_run (f : Pairs → Pairs) : (s.modPairs f).run = s.run := rfl
@[simp] theorem State.modPairs_mem (f : Pairs → Pairs) : (s.modPairs f).mem = s.mem := rfl
@[simp] theorem State.modPairs_setBits (f : Pairs → Pairs) : (s.modPairs f).setBits = s.setBits := rfl
@[simp] theorem State.modPairs_pending (f : Pairs → Pairs) : (s.modPairs f).pending = s.pending := rfl

/-! `modFab` -/

@[simp] theorem State.modFab_now (f : Fabric → Fabric) : (s.modFab f).now = s.now := rfl
@[simp] theorem State.modFab_free (f : Fabric → Fabric) : (s.modFab f).free = s.free := rfl
@[simp] theorem State.modFab_sys (f : Fabric → Fabric) : (s.modFab f).sys = s.sys := rfl
@[simp] theorem State.modFab_fs (f : Fabric → Fabric) : (s.modFab f).fs = s.fs := rfl
@[simp] theorem State.modFab_hub (f : Fabric → Fabric) : (s.modFab f).hub = s.hub := rfl
@[simp] theorem State.modFab_rtc (f : Fabric → Fabric) : (s.modFab f).rtc = s.rtc := rfl
@[simp] theorem State.modFab_pwr (f : Fabric → Fabric) : (s.modFab f).pwr = s.pwr := rfl
@[simp] theorem State.modFab_sil (f : Fabric → Fabric) : (s.modFab f).sil = s.sil := rfl
@[simp] theorem State.modFab_twin (f : Fabric → Fabric) : (s.modFab f).twin = s.twin := rfl
@[simp] theorem State.modFab_pairs (f : Fabric → Fabric) : (s.modFab f).pairs = s.pairs := rfl
@[simp] theorem State.modFab_fab (f : Fabric → Fabric) : (s.modFab f).fab = f s.fab := rfl
@[simp] theorem State.modFab_acc (f : Fabric → Fabric) : (s.modFab f).acc = s.acc := rfl
@[simp] theorem State.modFab_se (f : Fabric → Fabric) : (s.modFab f).se = s.se := rfl
@[simp] theorem State.modFab_loops (f : Fabric → Fabric) : (s.modFab f).loops = s.loops := rfl
@[simp] theorem State.modFab_plan (f : Fabric → Fabric) : (s.modFab f).plan = s.plan := rfl
@[simp] theorem State.modFab_prog (f : Fabric → Fabric) : (s.modFab f).prog = s.prog := rfl
@[simp] theorem State.modFab_mtr (f : Fabric → Fabric) : (s.modFab f).mtr = s.mtr := rfl
@[simp] theorem State.modFab_can (f : Fabric → Fabric) : (s.modFab f).can = s.can := rfl
@[simp] theorem State.modFab_dio (f : Fabric → Fabric) : (s.modFab f).dio = s.dio := rfl
@[simp] theorem State.modFab_key (f : Fabric → Fabric) : (s.modFab f).key = s.key := rfl
@[simp] theorem State.modFab_net (f : Fabric → Fabric) : (s.modFab f).net = s.net := rfl
@[simp] theorem State.modFab_run (f : Fabric → Fabric) : (s.modFab f).run = s.run := rfl
@[simp] theorem State.modFab_mem (f : Fabric → Fabric) : (s.modFab f).mem = s.mem := rfl
@[simp] theorem State.modFab_setBits (f : Fabric → Fabric) : (s.modFab f).setBits = s.setBits := rfl
@[simp] theorem State.modFab_pending (f : Fabric → Fabric) : (s.modFab f).pending = s.pending := rfl

/-! `modAcc` -/

@[simp] theorem State.modAcc_now (f : AccordUnit → AccordUnit) : (s.modAcc f).now = s.now := rfl
@[simp] theorem State.modAcc_free (f : AccordUnit → AccordUnit) : (s.modAcc f).free = s.free := rfl
@[simp] theorem State.modAcc_sys (f : AccordUnit → AccordUnit) : (s.modAcc f).sys = s.sys := rfl
@[simp] theorem State.modAcc_fs (f : AccordUnit → AccordUnit) : (s.modAcc f).fs = s.fs := rfl
@[simp] theorem State.modAcc_hub (f : AccordUnit → AccordUnit) : (s.modAcc f).hub = s.hub := rfl
@[simp] theorem State.modAcc_rtc (f : AccordUnit → AccordUnit) : (s.modAcc f).rtc = s.rtc := rfl
@[simp] theorem State.modAcc_pwr (f : AccordUnit → AccordUnit) : (s.modAcc f).pwr = s.pwr := rfl
@[simp] theorem State.modAcc_sil (f : AccordUnit → AccordUnit) : (s.modAcc f).sil = s.sil := rfl
@[simp] theorem State.modAcc_twin (f : AccordUnit → AccordUnit) : (s.modAcc f).twin = s.twin := rfl
@[simp] theorem State.modAcc_pairs (f : AccordUnit → AccordUnit) : (s.modAcc f).pairs = s.pairs := rfl
@[simp] theorem State.modAcc_fab (f : AccordUnit → AccordUnit) : (s.modAcc f).fab = s.fab := rfl
@[simp] theorem State.modAcc_acc (f : AccordUnit → AccordUnit) : (s.modAcc f).acc = f s.acc := rfl
@[simp] theorem State.modAcc_se (f : AccordUnit → AccordUnit) : (s.modAcc f).se = s.se := rfl
@[simp] theorem State.modAcc_loops (f : AccordUnit → AccordUnit) : (s.modAcc f).loops = s.loops := rfl
@[simp] theorem State.modAcc_plan (f : AccordUnit → AccordUnit) : (s.modAcc f).plan = s.plan := rfl
@[simp] theorem State.modAcc_prog (f : AccordUnit → AccordUnit) : (s.modAcc f).prog = s.prog := rfl
@[simp] theorem State.modAcc_mtr (f : AccordUnit → AccordUnit) : (s.modAcc f).mtr = s.mtr := rfl
@[simp] theorem State.modAcc_can (f : AccordUnit → AccordUnit) : (s.modAcc f).can = s.can := rfl
@[simp] theorem State.modAcc_dio (f : AccordUnit → AccordUnit) : (s.modAcc f).dio = s.dio := rfl
@[simp] theorem State.modAcc_key (f : AccordUnit → AccordUnit) : (s.modAcc f).key = s.key := rfl
@[simp] theorem State.modAcc_net (f : AccordUnit → AccordUnit) : (s.modAcc f).net = s.net := rfl
@[simp] theorem State.modAcc_run (f : AccordUnit → AccordUnit) : (s.modAcc f).run = s.run := rfl
@[simp] theorem State.modAcc_mem (f : AccordUnit → AccordUnit) : (s.modAcc f).mem = s.mem := rfl
@[simp] theorem State.modAcc_setBits (f : AccordUnit → AccordUnit) : (s.modAcc f).setBits = s.setBits := rfl
@[simp] theorem State.modAcc_pending (f : AccordUnit → AccordUnit) : (s.modAcc f).pending = s.pending := rfl

/-! `modLoops` -/

@[simp] theorem State.modLoops_now (f : Loops → Loops) : (s.modLoops f).now = s.now := rfl
@[simp] theorem State.modLoops_free (f : Loops → Loops) : (s.modLoops f).free = s.free := rfl
@[simp] theorem State.modLoops_sys (f : Loops → Loops) : (s.modLoops f).sys = s.sys := rfl
@[simp] theorem State.modLoops_fs (f : Loops → Loops) : (s.modLoops f).fs = s.fs := rfl
@[simp] theorem State.modLoops_hub (f : Loops → Loops) : (s.modLoops f).hub = s.hub := rfl
@[simp] theorem State.modLoops_rtc (f : Loops → Loops) : (s.modLoops f).rtc = s.rtc := rfl
@[simp] theorem State.modLoops_pwr (f : Loops → Loops) : (s.modLoops f).pwr = s.pwr := rfl
@[simp] theorem State.modLoops_sil (f : Loops → Loops) : (s.modLoops f).sil = s.sil := rfl
@[simp] theorem State.modLoops_twin (f : Loops → Loops) : (s.modLoops f).twin = s.twin := rfl
@[simp] theorem State.modLoops_pairs (f : Loops → Loops) : (s.modLoops f).pairs = s.pairs := rfl
@[simp] theorem State.modLoops_fab (f : Loops → Loops) : (s.modLoops f).fab = s.fab := rfl
@[simp] theorem State.modLoops_acc (f : Loops → Loops) : (s.modLoops f).acc = s.acc := rfl
@[simp] theorem State.modLoops_se (f : Loops → Loops) : (s.modLoops f).se = s.se := rfl
@[simp] theorem State.modLoops_loops (f : Loops → Loops) : (s.modLoops f).loops = f s.loops := rfl
@[simp] theorem State.modLoops_plan (f : Loops → Loops) : (s.modLoops f).plan = s.plan := rfl
@[simp] theorem State.modLoops_prog (f : Loops → Loops) : (s.modLoops f).prog = s.prog := rfl
@[simp] theorem State.modLoops_mtr (f : Loops → Loops) : (s.modLoops f).mtr = s.mtr := rfl
@[simp] theorem State.modLoops_can (f : Loops → Loops) : (s.modLoops f).can = s.can := rfl
@[simp] theorem State.modLoops_dio (f : Loops → Loops) : (s.modLoops f).dio = s.dio := rfl
@[simp] theorem State.modLoops_key (f : Loops → Loops) : (s.modLoops f).key = s.key := rfl
@[simp] theorem State.modLoops_net (f : Loops → Loops) : (s.modLoops f).net = s.net := rfl
@[simp] theorem State.modLoops_run (f : Loops → Loops) : (s.modLoops f).run = s.run := rfl
@[simp] theorem State.modLoops_mem (f : Loops → Loops) : (s.modLoops f).mem = s.mem := rfl
@[simp] theorem State.modLoops_setBits (f : Loops → Loops) : (s.modLoops f).setBits = s.setBits := rfl
@[simp] theorem State.modLoops_pending (f : Loops → Loops) : (s.modLoops f).pending = s.pending := rfl

/-! `modPlan` -/

@[simp] theorem State.modPlan_now (f : Planner → Planner) : (s.modPlan f).now = s.now := rfl
@[simp] theorem State.modPlan_free (f : Planner → Planner) : (s.modPlan f).free = s.free := rfl
@[simp] theorem State.modPlan_sys (f : Planner → Planner) : (s.modPlan f).sys = s.sys := rfl
@[simp] theorem State.modPlan_fs (f : Planner → Planner) : (s.modPlan f).fs = s.fs := rfl
@[simp] theorem State.modPlan_hub (f : Planner → Planner) : (s.modPlan f).hub = s.hub := rfl
@[simp] theorem State.modPlan_rtc (f : Planner → Planner) : (s.modPlan f).rtc = s.rtc := rfl
@[simp] theorem State.modPlan_pwr (f : Planner → Planner) : (s.modPlan f).pwr = s.pwr := rfl
@[simp] theorem State.modPlan_sil (f : Planner → Planner) : (s.modPlan f).sil = s.sil := rfl
@[simp] theorem State.modPlan_twin (f : Planner → Planner) : (s.modPlan f).twin = s.twin := rfl
@[simp] theorem State.modPlan_pairs (f : Planner → Planner) : (s.modPlan f).pairs = s.pairs := rfl
@[simp] theorem State.modPlan_fab (f : Planner → Planner) : (s.modPlan f).fab = s.fab := rfl
@[simp] theorem State.modPlan_acc (f : Planner → Planner) : (s.modPlan f).acc = s.acc := rfl
@[simp] theorem State.modPlan_se (f : Planner → Planner) : (s.modPlan f).se = s.se := rfl
@[simp] theorem State.modPlan_loops (f : Planner → Planner) : (s.modPlan f).loops = s.loops := rfl
@[simp] theorem State.modPlan_plan (f : Planner → Planner) : (s.modPlan f).plan = f s.plan := rfl
@[simp] theorem State.modPlan_prog (f : Planner → Planner) : (s.modPlan f).prog = s.prog := rfl
@[simp] theorem State.modPlan_mtr (f : Planner → Planner) : (s.modPlan f).mtr = s.mtr := rfl
@[simp] theorem State.modPlan_can (f : Planner → Planner) : (s.modPlan f).can = s.can := rfl
@[simp] theorem State.modPlan_dio (f : Planner → Planner) : (s.modPlan f).dio = s.dio := rfl
@[simp] theorem State.modPlan_key (f : Planner → Planner) : (s.modPlan f).key = s.key := rfl
@[simp] theorem State.modPlan_net (f : Planner → Planner) : (s.modPlan f).net = s.net := rfl
@[simp] theorem State.modPlan_run (f : Planner → Planner) : (s.modPlan f).run = s.run := rfl
@[simp] theorem State.modPlan_mem (f : Planner → Planner) : (s.modPlan f).mem = s.mem := rfl
@[simp] theorem State.modPlan_setBits (f : Planner → Planner) : (s.modPlan f).setBits = s.setBits := rfl
@[simp] theorem State.modPlan_pending (f : Planner → Planner) : (s.modPlan f).pending = s.pending := rfl

/-! `modProg` -/

@[simp] theorem State.modProg_now (f : Programs → Programs) : (s.modProg f).now = s.now := rfl
@[simp] theorem State.modProg_free (f : Programs → Programs) : (s.modProg f).free = s.free := rfl
@[simp] theorem State.modProg_sys (f : Programs → Programs) : (s.modProg f).sys = s.sys := rfl
@[simp] theorem State.modProg_fs (f : Programs → Programs) : (s.modProg f).fs = s.fs := rfl
@[simp] theorem State.modProg_hub (f : Programs → Programs) : (s.modProg f).hub = s.hub := rfl
@[simp] theorem State.modProg_rtc (f : Programs → Programs) : (s.modProg f).rtc = s.rtc := rfl
@[simp] theorem State.modProg_pwr (f : Programs → Programs) : (s.modProg f).pwr = s.pwr := rfl
@[simp] theorem State.modProg_sil (f : Programs → Programs) : (s.modProg f).sil = s.sil := rfl
@[simp] theorem State.modProg_twin (f : Programs → Programs) : (s.modProg f).twin = s.twin := rfl
@[simp] theorem State.modProg_pairs (f : Programs → Programs) : (s.modProg f).pairs = s.pairs := rfl
@[simp] theorem State.modProg_fab (f : Programs → Programs) : (s.modProg f).fab = s.fab := rfl
@[simp] theorem State.modProg_acc (f : Programs → Programs) : (s.modProg f).acc = s.acc := rfl
@[simp] theorem State.modProg_se (f : Programs → Programs) : (s.modProg f).se = s.se := rfl
@[simp] theorem State.modProg_loops (f : Programs → Programs) : (s.modProg f).loops = s.loops := rfl
@[simp] theorem State.modProg_plan (f : Programs → Programs) : (s.modProg f).plan = s.plan := rfl
@[simp] theorem State.modProg_prog (f : Programs → Programs) : (s.modProg f).prog = f s.prog := rfl
@[simp] theorem State.modProg_mtr (f : Programs → Programs) : (s.modProg f).mtr = s.mtr := rfl
@[simp] theorem State.modProg_can (f : Programs → Programs) : (s.modProg f).can = s.can := rfl
@[simp] theorem State.modProg_dio (f : Programs → Programs) : (s.modProg f).dio = s.dio := rfl
@[simp] theorem State.modProg_key (f : Programs → Programs) : (s.modProg f).key = s.key := rfl
@[simp] theorem State.modProg_net (f : Programs → Programs) : (s.modProg f).net = s.net := rfl
@[simp] theorem State.modProg_run (f : Programs → Programs) : (s.modProg f).run = s.run := rfl
@[simp] theorem State.modProg_mem (f : Programs → Programs) : (s.modProg f).mem = s.mem := rfl
@[simp] theorem State.modProg_setBits (f : Programs → Programs) : (s.modProg f).setBits = s.setBits := rfl
@[simp] theorem State.modProg_pending (f : Programs → Programs) : (s.modProg f).pending = s.pending := rfl

/-! `modMtr` -/

@[simp] theorem State.modMtr_now (f : Meter → Meter) : (s.modMtr f).now = s.now := rfl
@[simp] theorem State.modMtr_free (f : Meter → Meter) : (s.modMtr f).free = s.free := rfl
@[simp] theorem State.modMtr_sys (f : Meter → Meter) : (s.modMtr f).sys = s.sys := rfl
@[simp] theorem State.modMtr_fs (f : Meter → Meter) : (s.modMtr f).fs = s.fs := rfl
@[simp] theorem State.modMtr_hub (f : Meter → Meter) : (s.modMtr f).hub = s.hub := rfl
@[simp] theorem State.modMtr_rtc (f : Meter → Meter) : (s.modMtr f).rtc = s.rtc := rfl
@[simp] theorem State.modMtr_pwr (f : Meter → Meter) : (s.modMtr f).pwr = s.pwr := rfl
@[simp] theorem State.modMtr_sil (f : Meter → Meter) : (s.modMtr f).sil = s.sil := rfl
@[simp] theorem State.modMtr_twin (f : Meter → Meter) : (s.modMtr f).twin = s.twin := rfl
@[simp] theorem State.modMtr_pairs (f : Meter → Meter) : (s.modMtr f).pairs = s.pairs := rfl
@[simp] theorem State.modMtr_fab (f : Meter → Meter) : (s.modMtr f).fab = s.fab := rfl
@[simp] theorem State.modMtr_acc (f : Meter → Meter) : (s.modMtr f).acc = s.acc := rfl
@[simp] theorem State.modMtr_se (f : Meter → Meter) : (s.modMtr f).se = s.se := rfl
@[simp] theorem State.modMtr_loops (f : Meter → Meter) : (s.modMtr f).loops = s.loops := rfl
@[simp] theorem State.modMtr_plan (f : Meter → Meter) : (s.modMtr f).plan = s.plan := rfl
@[simp] theorem State.modMtr_prog (f : Meter → Meter) : (s.modMtr f).prog = s.prog := rfl
@[simp] theorem State.modMtr_mtr (f : Meter → Meter) : (s.modMtr f).mtr = f s.mtr := rfl
@[simp] theorem State.modMtr_can (f : Meter → Meter) : (s.modMtr f).can = s.can := rfl
@[simp] theorem State.modMtr_dio (f : Meter → Meter) : (s.modMtr f).dio = s.dio := rfl
@[simp] theorem State.modMtr_key (f : Meter → Meter) : (s.modMtr f).key = s.key := rfl
@[simp] theorem State.modMtr_net (f : Meter → Meter) : (s.modMtr f).net = s.net := rfl
@[simp] theorem State.modMtr_run (f : Meter → Meter) : (s.modMtr f).run = s.run := rfl
@[simp] theorem State.modMtr_mem (f : Meter → Meter) : (s.modMtr f).mem = s.mem := rfl
@[simp] theorem State.modMtr_setBits (f : Meter → Meter) : (s.modMtr f).setBits = s.setBits := rfl
@[simp] theorem State.modMtr_pending (f : Meter → Meter) : (s.modMtr f).pending = s.pending := rfl

/-! `modDio` -/

@[simp] theorem State.modDio_now (f : Dio → Dio) : (s.modDio f).now = s.now := rfl
@[simp] theorem State.modDio_free (f : Dio → Dio) : (s.modDio f).free = s.free := rfl
@[simp] theorem State.modDio_sys (f : Dio → Dio) : (s.modDio f).sys = s.sys := rfl
@[simp] theorem State.modDio_fs (f : Dio → Dio) : (s.modDio f).fs = s.fs := rfl
@[simp] theorem State.modDio_hub (f : Dio → Dio) : (s.modDio f).hub = s.hub := rfl
@[simp] theorem State.modDio_rtc (f : Dio → Dio) : (s.modDio f).rtc = s.rtc := rfl
@[simp] theorem State.modDio_pwr (f : Dio → Dio) : (s.modDio f).pwr = s.pwr := rfl
@[simp] theorem State.modDio_sil (f : Dio → Dio) : (s.modDio f).sil = s.sil := rfl
@[simp] theorem State.modDio_twin (f : Dio → Dio) : (s.modDio f).twin = s.twin := rfl
@[simp] theorem State.modDio_pairs (f : Dio → Dio) : (s.modDio f).pairs = s.pairs := rfl
@[simp] theorem State.modDio_fab (f : Dio → Dio) : (s.modDio f).fab = s.fab := rfl
@[simp] theorem State.modDio_acc (f : Dio → Dio) : (s.modDio f).acc = s.acc := rfl
@[simp] theorem State.modDio_se (f : Dio → Dio) : (s.modDio f).se = s.se := rfl
@[simp] theorem State.modDio_loops (f : Dio → Dio) : (s.modDio f).loops = s.loops := rfl
@[simp] theorem State.modDio_plan (f : Dio → Dio) : (s.modDio f).plan = s.plan := rfl
@[simp] theorem State.modDio_prog (f : Dio → Dio) : (s.modDio f).prog = s.prog := rfl
@[simp] theorem State.modDio_mtr (f : Dio → Dio) : (s.modDio f).mtr = s.mtr := rfl
@[simp] theorem State.modDio_can (f : Dio → Dio) : (s.modDio f).can = s.can := rfl
@[simp] theorem State.modDio_dio (f : Dio → Dio) : (s.modDio f).dio = f s.dio := rfl
@[simp] theorem State.modDio_key (f : Dio → Dio) : (s.modDio f).key = s.key := rfl
@[simp] theorem State.modDio_net (f : Dio → Dio) : (s.modDio f).net = s.net := rfl
@[simp] theorem State.modDio_run (f : Dio → Dio) : (s.modDio f).run = s.run := rfl
@[simp] theorem State.modDio_mem (f : Dio → Dio) : (s.modDio f).mem = s.mem := rfl
@[simp] theorem State.modDio_setBits (f : Dio → Dio) : (s.modDio f).setBits = s.setBits := rfl
@[simp] theorem State.modDio_pending (f : Dio → Dio) : (s.modDio f).pending = s.pending := rfl

/-! `modKey` -/

@[simp] theorem State.modKey_now (f : Keys → Keys) : (s.modKey f).now = s.now := rfl
@[simp] theorem State.modKey_free (f : Keys → Keys) : (s.modKey f).free = s.free := rfl
@[simp] theorem State.modKey_sys (f : Keys → Keys) : (s.modKey f).sys = s.sys := rfl
@[simp] theorem State.modKey_fs (f : Keys → Keys) : (s.modKey f).fs = s.fs := rfl
@[simp] theorem State.modKey_hub (f : Keys → Keys) : (s.modKey f).hub = s.hub := rfl
@[simp] theorem State.modKey_rtc (f : Keys → Keys) : (s.modKey f).rtc = s.rtc := rfl
@[simp] theorem State.modKey_pwr (f : Keys → Keys) : (s.modKey f).pwr = s.pwr := rfl
@[simp] theorem State.modKey_sil (f : Keys → Keys) : (s.modKey f).sil = s.sil := rfl
@[simp] theorem State.modKey_twin (f : Keys → Keys) : (s.modKey f).twin = s.twin := rfl
@[simp] theorem State.modKey_pairs (f : Keys → Keys) : (s.modKey f).pairs = s.pairs := rfl
@[simp] theorem State.modKey_fab (f : Keys → Keys) : (s.modKey f).fab = s.fab := rfl
@[simp] theorem State.modKey_acc (f : Keys → Keys) : (s.modKey f).acc = s.acc := rfl
@[simp] theorem State.modKey_se (f : Keys → Keys) : (s.modKey f).se = s.se := rfl
@[simp] theorem State.modKey_loops (f : Keys → Keys) : (s.modKey f).loops = s.loops := rfl
@[simp] theorem State.modKey_plan (f : Keys → Keys) : (s.modKey f).plan = s.plan := rfl
@[simp] theorem State.modKey_prog (f : Keys → Keys) : (s.modKey f).prog = s.prog := rfl
@[simp] theorem State.modKey_mtr (f : Keys → Keys) : (s.modKey f).mtr = s.mtr := rfl
@[simp] theorem State.modKey_can (f : Keys → Keys) : (s.modKey f).can = s.can := rfl
@[simp] theorem State.modKey_dio (f : Keys → Keys) : (s.modKey f).dio = s.dio := rfl
@[simp] theorem State.modKey_key (f : Keys → Keys) : (s.modKey f).key = f s.key := rfl
@[simp] theorem State.modKey_net (f : Keys → Keys) : (s.modKey f).net = s.net := rfl
@[simp] theorem State.modKey_run (f : Keys → Keys) : (s.modKey f).run = s.run := rfl
@[simp] theorem State.modKey_mem (f : Keys → Keys) : (s.modKey f).mem = s.mem := rfl
@[simp] theorem State.modKey_setBits (f : Keys → Keys) : (s.modKey f).setBits = s.setBits := rfl
@[simp] theorem State.modKey_pending (f : Keys → Keys) : (s.modKey f).pending = s.pending := rfl

/-! `modNet` -/

@[simp] theorem State.modNet_now (f : Net → Net) : (s.modNet f).now = s.now := rfl
@[simp] theorem State.modNet_free (f : Net → Net) : (s.modNet f).free = s.free := rfl
@[simp] theorem State.modNet_sys (f : Net → Net) : (s.modNet f).sys = s.sys := rfl
@[simp] theorem State.modNet_fs (f : Net → Net) : (s.modNet f).fs = s.fs := rfl
@[simp] theorem State.modNet_hub (f : Net → Net) : (s.modNet f).hub = s.hub := rfl
@[simp] theorem State.modNet_rtc (f : Net → Net) : (s.modNet f).rtc = s.rtc := rfl
@[simp] theorem State.modNet_pwr (f : Net → Net) : (s.modNet f).pwr = s.pwr := rfl
@[simp] theorem State.modNet_sil (f : Net → Net) : (s.modNet f).sil = s.sil := rfl
@[simp] theorem State.modNet_twin (f : Net → Net) : (s.modNet f).twin = s.twin := rfl
@[simp] theorem State.modNet_pairs (f : Net → Net) : (s.modNet f).pairs = s.pairs := rfl
@[simp] theorem State.modNet_fab (f : Net → Net) : (s.modNet f).fab = s.fab := rfl
@[simp] theorem State.modNet_acc (f : Net → Net) : (s.modNet f).acc = s.acc := rfl
@[simp] theorem State.modNet_se (f : Net → Net) : (s.modNet f).se = s.se := rfl
@[simp] theorem State.modNet_loops (f : Net → Net) : (s.modNet f).loops = s.loops := rfl
@[simp] theorem State.modNet_plan (f : Net → Net) : (s.modNet f).plan = s.plan := rfl
@[simp] theorem State.modNet_prog (f : Net → Net) : (s.modNet f).prog = s.prog := rfl
@[simp] theorem State.modNet_mtr (f : Net → Net) : (s.modNet f).mtr = s.mtr := rfl
@[simp] theorem State.modNet_can (f : Net → Net) : (s.modNet f).can = s.can := rfl
@[simp] theorem State.modNet_dio (f : Net → Net) : (s.modNet f).dio = s.dio := rfl
@[simp] theorem State.modNet_key (f : Net → Net) : (s.modNet f).key = s.key := rfl
@[simp] theorem State.modNet_net (f : Net → Net) : (s.modNet f).net = f s.net := rfl
@[simp] theorem State.modNet_run (f : Net → Net) : (s.modNet f).run = s.run := rfl
@[simp] theorem State.modNet_mem (f : Net → Net) : (s.modNet f).mem = s.mem := rfl
@[simp] theorem State.modNet_setBits (f : Net → Net) : (s.modNet f).setBits = s.setBits := rfl
@[simp] theorem State.modNet_pending (f : Net → Net) : (s.modNet f).pending = s.pending := rfl

/-! `modSe` -/

@[simp] theorem State.modSe_now (n : Fin 4) (f : SolverEngine → SolverEngine) : (s.modSe n f).now = s.now := rfl
@[simp] theorem State.modSe_free (n : Fin 4) (f : SolverEngine → SolverEngine) : (s.modSe n f).free = s.free := rfl
@[simp] theorem State.modSe_sys (n : Fin 4) (f : SolverEngine → SolverEngine) : (s.modSe n f).sys = s.sys := rfl
@[simp] theorem State.modSe_fs (n : Fin 4) (f : SolverEngine → SolverEngine) : (s.modSe n f).fs = s.fs := rfl
@[simp] theorem State.modSe_hub (n : Fin 4) (f : SolverEngine → SolverEngine) : (s.modSe n f).hub = s.hub := rfl
@[simp] theorem State.modSe_rtc (n : Fin 4) (f : SolverEngine → SolverEngine) : (s.modSe n f).rtc = s.rtc := rfl
@[simp] theorem State.modSe_pwr (n : Fin 4) (f : SolverEngine → SolverEngine) : (s.modSe n f).pwr = s.pwr := rfl
@[simp] theorem State.modSe_sil (n : Fin 4) (f : SolverEngine → SolverEngine) : (s.modSe n f).sil = s.sil := rfl
@[simp] theorem State.modSe_twin (n : Fin 4) (f : SolverEngine → SolverEngine) : (s.modSe n f).twin = s.twin := rfl
@[simp] theorem State.modSe_pairs (n : Fin 4) (f : SolverEngine → SolverEngine) : (s.modSe n f).pairs = s.pairs := rfl
@[simp] theorem State.modSe_fab (n : Fin 4) (f : SolverEngine → SolverEngine) : (s.modSe n f).fab = s.fab := rfl
@[simp] theorem State.modSe_acc (n : Fin 4) (f : SolverEngine → SolverEngine) : (s.modSe n f).acc = s.acc := rfl
@[simp] theorem State.modSe_se (n : Fin 4) (f : SolverEngine → SolverEngine) : (s.modSe n f).se = upd s.se n f := rfl
@[simp] theorem State.modSe_loops (n : Fin 4) (f : SolverEngine → SolverEngine) : (s.modSe n f).loops = s.loops := rfl
@[simp] theorem State.modSe_plan (n : Fin 4) (f : SolverEngine → SolverEngine) : (s.modSe n f).plan = s.plan := rfl
@[simp] theorem State.modSe_prog (n : Fin 4) (f : SolverEngine → SolverEngine) : (s.modSe n f).prog = s.prog := rfl
@[simp] theorem State.modSe_mtr (n : Fin 4) (f : SolverEngine → SolverEngine) : (s.modSe n f).mtr = s.mtr := rfl
@[simp] theorem State.modSe_can (n : Fin 4) (f : SolverEngine → SolverEngine) : (s.modSe n f).can = s.can := rfl
@[simp] theorem State.modSe_dio (n : Fin 4) (f : SolverEngine → SolverEngine) : (s.modSe n f).dio = s.dio := rfl
@[simp] theorem State.modSe_key (n : Fin 4) (f : SolverEngine → SolverEngine) : (s.modSe n f).key = s.key := rfl
@[simp] theorem State.modSe_net (n : Fin 4) (f : SolverEngine → SolverEngine) : (s.modSe n f).net = s.net := rfl
@[simp] theorem State.modSe_run (n : Fin 4) (f : SolverEngine → SolverEngine) : (s.modSe n f).run = s.run := rfl
@[simp] theorem State.modSe_mem (n : Fin 4) (f : SolverEngine → SolverEngine) : (s.modSe n f).mem = s.mem := rfl
@[simp] theorem State.modSe_setBits (n : Fin 4) (f : SolverEngine → SolverEngine) : (s.modSe n f).setBits = s.setBits := rfl
@[simp] theorem State.modSe_pending (n : Fin 4) (f : SolverEngine → SolverEngine) : (s.modSe n f).pending = s.pending := rfl

/-! `modCan` -/

@[simp] theorem State.modCan_now (n : Fin 8) (f : CanPort → CanPort) : (s.modCan n f).now = s.now := rfl
@[simp] theorem State.modCan_free (n : Fin 8) (f : CanPort → CanPort) : (s.modCan n f).free = s.free := rfl
@[simp] theorem State.modCan_sys (n : Fin 8) (f : CanPort → CanPort) : (s.modCan n f).sys = s.sys := rfl
@[simp] theorem State.modCan_fs (n : Fin 8) (f : CanPort → CanPort) : (s.modCan n f).fs = s.fs := rfl
@[simp] theorem State.modCan_hub (n : Fin 8) (f : CanPort → CanPort) : (s.modCan n f).hub = s.hub := rfl
@[simp] theorem State.modCan_rtc (n : Fin 8) (f : CanPort → CanPort) : (s.modCan n f).rtc = s.rtc := rfl
@[simp] theorem State.modCan_pwr (n : Fin 8) (f : CanPort → CanPort) : (s.modCan n f).pwr = s.pwr := rfl
@[simp] theorem State.modCan_sil (n : Fin 8) (f : CanPort → CanPort) : (s.modCan n f).sil = s.sil := rfl
@[simp] theorem State.modCan_twin (n : Fin 8) (f : CanPort → CanPort) : (s.modCan n f).twin = s.twin := rfl
@[simp] theorem State.modCan_pairs (n : Fin 8) (f : CanPort → CanPort) : (s.modCan n f).pairs = s.pairs := rfl
@[simp] theorem State.modCan_fab (n : Fin 8) (f : CanPort → CanPort) : (s.modCan n f).fab = s.fab := rfl
@[simp] theorem State.modCan_acc (n : Fin 8) (f : CanPort → CanPort) : (s.modCan n f).acc = s.acc := rfl
@[simp] theorem State.modCan_se (n : Fin 8) (f : CanPort → CanPort) : (s.modCan n f).se = s.se := rfl
@[simp] theorem State.modCan_loops (n : Fin 8) (f : CanPort → CanPort) : (s.modCan n f).loops = s.loops := rfl
@[simp] theorem State.modCan_plan (n : Fin 8) (f : CanPort → CanPort) : (s.modCan n f).plan = s.plan := rfl
@[simp] theorem State.modCan_prog (n : Fin 8) (f : CanPort → CanPort) : (s.modCan n f).prog = s.prog := rfl
@[simp] theorem State.modCan_mtr (n : Fin 8) (f : CanPort → CanPort) : (s.modCan n f).mtr = s.mtr := rfl
@[simp] theorem State.modCan_can (n : Fin 8) (f : CanPort → CanPort) : (s.modCan n f).can = upd s.can n f := rfl
@[simp] theorem State.modCan_dio (n : Fin 8) (f : CanPort → CanPort) : (s.modCan n f).dio = s.dio := rfl
@[simp] theorem State.modCan_key (n : Fin 8) (f : CanPort → CanPort) : (s.modCan n f).key = s.key := rfl
@[simp] theorem State.modCan_net (n : Fin 8) (f : CanPort → CanPort) : (s.modCan n f).net = s.net := rfl
@[simp] theorem State.modCan_run (n : Fin 8) (f : CanPort → CanPort) : (s.modCan n f).run = s.run := rfl
@[simp] theorem State.modCan_mem (n : Fin 8) (f : CanPort → CanPort) : (s.modCan n f).mem = s.mem := rfl
@[simp] theorem State.modCan_setBits (n : Fin 8) (f : CanPort → CanPort) : (s.modCan n f).setBits = s.setBits := rfl
@[simp] theorem State.modCan_pending (n : Fin 8) (f : CanPort → CanPort) : (s.modCan n f).pending = s.pending := rfl

/-! `modLe` -/

@[simp] theorem State.modLe_now (n : Fin 2) (f : LoopEngine → LoopEngine) : (s.modLe n f).now = s.now := rfl
@[simp] theorem State.modLe_free (n : Fin 2) (f : LoopEngine → LoopEngine) : (s.modLe n f).free = s.free := rfl
@[simp] theorem State.modLe_sys (n : Fin 2) (f : LoopEngine → LoopEngine) : (s.modLe n f).sys = s.sys := rfl
@[simp] theorem State.modLe_fs (n : Fin 2) (f : LoopEngine → LoopEngine) : (s.modLe n f).fs = s.fs := rfl
@[simp] theorem State.modLe_hub (n : Fin 2) (f : LoopEngine → LoopEngine) : (s.modLe n f).hub = s.hub := rfl
@[simp] theorem State.modLe_rtc (n : Fin 2) (f : LoopEngine → LoopEngine) : (s.modLe n f).rtc = s.rtc := rfl
@[simp] theorem State.modLe_pwr (n : Fin 2) (f : LoopEngine → LoopEngine) : (s.modLe n f).pwr = s.pwr := rfl
@[simp] theorem State.modLe_sil (n : Fin 2) (f : LoopEngine → LoopEngine) : (s.modLe n f).sil = s.sil := rfl
@[simp] theorem State.modLe_twin (n : Fin 2) (f : LoopEngine → LoopEngine) : (s.modLe n f).twin = s.twin := rfl
@[simp] theorem State.modLe_pairs (n : Fin 2) (f : LoopEngine → LoopEngine) : (s.modLe n f).pairs = s.pairs := rfl
@[simp] theorem State.modLe_fab (n : Fin 2) (f : LoopEngine → LoopEngine) : (s.modLe n f).fab = s.fab := rfl
@[simp] theorem State.modLe_acc (n : Fin 2) (f : LoopEngine → LoopEngine) : (s.modLe n f).acc = s.acc := rfl
@[simp] theorem State.modLe_se (n : Fin 2) (f : LoopEngine → LoopEngine) : (s.modLe n f).se = s.se := rfl
@[simp] theorem State.modLe_loops (n : Fin 2) (f : LoopEngine → LoopEngine) : (s.modLe n f).loops = { s.loops with le := upd s.loops.le n f } := rfl
@[simp] theorem State.modLe_plan (n : Fin 2) (f : LoopEngine → LoopEngine) : (s.modLe n f).plan = s.plan := rfl
@[simp] theorem State.modLe_prog (n : Fin 2) (f : LoopEngine → LoopEngine) : (s.modLe n f).prog = s.prog := rfl
@[simp] theorem State.modLe_mtr (n : Fin 2) (f : LoopEngine → LoopEngine) : (s.modLe n f).mtr = s.mtr := rfl
@[simp] theorem State.modLe_can (n : Fin 2) (f : LoopEngine → LoopEngine) : (s.modLe n f).can = s.can := rfl
@[simp] theorem State.modLe_dio (n : Fin 2) (f : LoopEngine → LoopEngine) : (s.modLe n f).dio = s.dio := rfl
@[simp] theorem State.modLe_key (n : Fin 2) (f : LoopEngine → LoopEngine) : (s.modLe n f).key = s.key := rfl
@[simp] theorem State.modLe_net (n : Fin 2) (f : LoopEngine → LoopEngine) : (s.modLe n f).net = s.net := rfl
@[simp] theorem State.modLe_run (n : Fin 2) (f : LoopEngine → LoopEngine) : (s.modLe n f).run = s.run := rfl
@[simp] theorem State.modLe_mem (n : Fin 2) (f : LoopEngine → LoopEngine) : (s.modLe n f).mem = s.mem := rfl
@[simp] theorem State.modLe_setBits (n : Fin 2) (f : LoopEngine → LoopEngine) : (s.modLe n f).setBits = s.setBits := rfl
@[simp] theorem State.modLe_pending (n : Fin 2) (f : LoopEngine → LoopEngine) : (s.modLe n f).pending = s.pending := rfl

/-! `modPart` -/

@[simp] theorem State.modPart_now (p : Fin 4) (f : PartSt → PartSt) : (s.modPart p f).now = s.now := rfl
@[simp] theorem State.modPart_free (p : Fin 4) (f : PartSt → PartSt) : (s.modPart p f).free = s.free := rfl
@[simp] theorem State.modPart_sys (p : Fin 4) (f : PartSt → PartSt) : (s.modPart p f).sys = s.sys := rfl
@[simp] theorem State.modPart_fs (p : Fin 4) (f : PartSt → PartSt) : (s.modPart p f).fs = s.fs := rfl
@[simp] theorem State.modPart_hub (p : Fin 4) (f : PartSt → PartSt) : (s.modPart p f).hub = s.hub := rfl
@[simp] theorem State.modPart_rtc (p : Fin 4) (f : PartSt → PartSt) : (s.modPart p f).rtc = s.rtc := rfl
@[simp] theorem State.modPart_pwr (p : Fin 4) (f : PartSt → PartSt) : (s.modPart p f).pwr = s.pwr := rfl
@[simp] theorem State.modPart_sil (p : Fin 4) (f : PartSt → PartSt) : (s.modPart p f).sil = s.sil := rfl
@[simp] theorem State.modPart_twin (p : Fin 4) (f : PartSt → PartSt) : (s.modPart p f).twin = s.twin := rfl
@[simp] theorem State.modPart_pairs (p : Fin 4) (f : PartSt → PartSt) : (s.modPart p f).pairs = s.pairs := rfl
@[simp] theorem State.modPart_fab (p : Fin 4) (f : PartSt → PartSt) : (s.modPart p f).fab = s.fab := rfl
@[simp] theorem State.modPart_acc (p : Fin 4) (f : PartSt → PartSt) : (s.modPart p f).acc = s.acc := rfl
@[simp] theorem State.modPart_se (p : Fin 4) (f : PartSt → PartSt) : (s.modPart p f).se = s.se := rfl
@[simp] theorem State.modPart_loops (p : Fin 4) (f : PartSt → PartSt) : (s.modPart p f).loops = s.loops := rfl
@[simp] theorem State.modPart_plan (p : Fin 4) (f : PartSt → PartSt) : (s.modPart p f).plan = s.plan := rfl
@[simp] theorem State.modPart_prog (p : Fin 4) (f : PartSt → PartSt) : (s.modPart p f).prog = { s.prog with p := upd s.prog.p p f } := rfl
@[simp] theorem State.modPart_mtr (p : Fin 4) (f : PartSt → PartSt) : (s.modPart p f).mtr = s.mtr := rfl
@[simp] theorem State.modPart_can (p : Fin 4) (f : PartSt → PartSt) : (s.modPart p f).can = s.can := rfl
@[simp] theorem State.modPart_dio (p : Fin 4) (f : PartSt → PartSt) : (s.modPart p f).dio = s.dio := rfl
@[simp] theorem State.modPart_key (p : Fin 4) (f : PartSt → PartSt) : (s.modPart p f).key = s.key := rfl
@[simp] theorem State.modPart_net (p : Fin 4) (f : PartSt → PartSt) : (s.modPart p f).net = s.net := rfl
@[simp] theorem State.modPart_run (p : Fin 4) (f : PartSt → PartSt) : (s.modPart p f).run = s.run := rfl
@[simp] theorem State.modPart_mem (p : Fin 4) (f : PartSt → PartSt) : (s.modPart p f).mem = s.mem := rfl
@[simp] theorem State.modPart_setBits (p : Fin 4) (f : PartSt → PartSt) : (s.modPart p f).setBits = s.setBits := rfl
@[simp] theorem State.modPart_pending (p : Fin 4) (f : PartSt → PartSt) : (s.modPart p f).pending = s.pending := rfl

/-! `modXsx` -/

@[simp] theorem State.modXsx_now (f : Xsx → Xsx) : (s.modXsx f).now = s.now := rfl
@[simp] theorem State.modXsx_free (f : Xsx → Xsx) : (s.modXsx f).free = s.free := rfl
@[simp] theorem State.modXsx_sys (f : Xsx → Xsx) : (s.modXsx f).sys = s.sys := rfl
@[simp] theorem State.modXsx_fs (f : Xsx → Xsx) : (s.modXsx f).fs = s.fs := rfl
@[simp] theorem State.modXsx_hub (f : Xsx → Xsx) : (s.modXsx f).hub = s.hub := rfl
@[simp] theorem State.modXsx_rtc (f : Xsx → Xsx) : (s.modXsx f).rtc = s.rtc := rfl
@[simp] theorem State.modXsx_pwr (f : Xsx → Xsx) : (s.modXsx f).pwr = s.pwr := rfl
@[simp] theorem State.modXsx_sil (f : Xsx → Xsx) : (s.modXsx f).sil = s.sil := rfl
@[simp] theorem State.modXsx_twin (f : Xsx → Xsx) : (s.modXsx f).twin = s.twin := rfl
@[simp] theorem State.modXsx_pairs (f : Xsx → Xsx) : (s.modXsx f).pairs = s.pairs := rfl
@[simp] theorem State.modXsx_fab (f : Xsx → Xsx) : (s.modXsx f).fab = s.fab := rfl
@[simp] theorem State.modXsx_acc (f : Xsx → Xsx) : (s.modXsx f).acc = s.acc := rfl
@[simp] theorem State.modXsx_se (f : Xsx → Xsx) : (s.modXsx f).se = s.se := rfl
@[simp] theorem State.modXsx_loops (f : Xsx → Xsx) : (s.modXsx f).loops = s.loops := rfl
@[simp] theorem State.modXsx_plan (f : Xsx → Xsx) : (s.modXsx f).plan = s.plan := rfl
@[simp] theorem State.modXsx_prog (f : Xsx → Xsx) : (s.modXsx f).prog = s.prog := rfl
@[simp] theorem State.modXsx_mtr (f : Xsx → Xsx) : (s.modXsx f).mtr = s.mtr := rfl
@[simp] theorem State.modXsx_can (f : Xsx → Xsx) : (s.modXsx f).can = s.can := rfl
@[simp] theorem State.modXsx_dio (f : Xsx → Xsx) : (s.modXsx f).dio = s.dio := rfl
@[simp] theorem State.modXsx_key (f : Xsx → Xsx) : (s.modXsx f).key = s.key := rfl
@[simp] theorem State.modXsx_net (f : Xsx → Xsx) : (s.modXsx f).net = { s.net with xsx := f s.net.xsx } := rfl
@[simp] theorem State.modXsx_run (f : Xsx → Xsx) : (s.modXsx f).run = s.run := rfl
@[simp] theorem State.modXsx_mem (f : Xsx → Xsx) : (s.modXsx f).mem = s.mem := rfl
@[simp] theorem State.modXsx_setBits (f : Xsx → Xsx) : (s.modXsx f).setBits = s.setBits := rfl
@[simp] theorem State.modXsx_pending (f : Xsx → Xsx) : (s.modXsx f).pending = s.pending := rfl

/-! `modPtp` -/

@[simp] theorem State.modPtp_now (f : Ptp → Ptp) : (s.modPtp f).now = s.now := rfl
@[simp] theorem State.modPtp_free (f : Ptp → Ptp) : (s.modPtp f).free = s.free := rfl
@[simp] theorem State.modPtp_sys (f : Ptp → Ptp) : (s.modPtp f).sys = s.sys := rfl
@[simp] theorem State.modPtp_fs (f : Ptp → Ptp) : (s.modPtp f).fs = s.fs := rfl
@[simp] theorem State.modPtp_hub (f : Ptp → Ptp) : (s.modPtp f).hub = s.hub := rfl
@[simp] theorem State.modPtp_rtc (f : Ptp → Ptp) : (s.modPtp f).rtc = s.rtc := rfl
@[simp] theorem State.modPtp_pwr (f : Ptp → Ptp) : (s.modPtp f).pwr = s.pwr := rfl
@[simp] theorem State.modPtp_sil (f : Ptp → Ptp) : (s.modPtp f).sil = s.sil := rfl
@[simp] theorem State.modPtp_twin (f : Ptp → Ptp) : (s.modPtp f).twin = s.twin := rfl
@[simp] theorem State.modPtp_pairs (f : Ptp → Ptp) : (s.modPtp f).pairs = s.pairs := rfl
@[simp] theorem State.modPtp_fab (f : Ptp → Ptp) : (s.modPtp f).fab = s.fab := rfl
@[simp] theorem State.modPtp_acc (f : Ptp → Ptp) : (s.modPtp f).acc = s.acc := rfl
@[simp] theorem State.modPtp_se (f : Ptp → Ptp) : (s.modPtp f).se = s.se := rfl
@[simp] theorem State.modPtp_loops (f : Ptp → Ptp) : (s.modPtp f).loops = s.loops := rfl
@[simp] theorem State.modPtp_plan (f : Ptp → Ptp) : (s.modPtp f).plan = s.plan := rfl
@[simp] theorem State.modPtp_prog (f : Ptp → Ptp) : (s.modPtp f).prog = s.prog := rfl
@[simp] theorem State.modPtp_mtr (f : Ptp → Ptp) : (s.modPtp f).mtr = s.mtr := rfl
@[simp] theorem State.modPtp_can (f : Ptp → Ptp) : (s.modPtp f).can = s.can := rfl
@[simp] theorem State.modPtp_dio (f : Ptp → Ptp) : (s.modPtp f).dio = s.dio := rfl
@[simp] theorem State.modPtp_key (f : Ptp → Ptp) : (s.modPtp f).key = s.key := rfl
@[simp] theorem State.modPtp_net (f : Ptp → Ptp) : (s.modPtp f).net = { s.net with ptp := f s.net.ptp } := rfl
@[simp] theorem State.modPtp_run (f : Ptp → Ptp) : (s.modPtp f).run = s.run := rfl
@[simp] theorem State.modPtp_mem (f : Ptp → Ptp) : (s.modPtp f).mem = s.mem := rfl
@[simp] theorem State.modPtp_setBits (f : Ptp → Ptp) : (s.modPtp f).setBits = s.setBits := rfl
@[simp] theorem State.modPtp_pending (f : Ptp → Ptp) : (s.modPtp f).pending = s.pending := rfl

/-! `modEth` -/

@[simp] theorem State.modEth_now (k : Fin 4) (f : EthPort → EthPort) : (s.modEth k f).now = s.now := rfl
@[simp] theorem State.modEth_free (k : Fin 4) (f : EthPort → EthPort) : (s.modEth k f).free = s.free := rfl
@[simp] theorem State.modEth_sys (k : Fin 4) (f : EthPort → EthPort) : (s.modEth k f).sys = s.sys := rfl
@[simp] theorem State.modEth_fs (k : Fin 4) (f : EthPort → EthPort) : (s.modEth k f).fs = s.fs := rfl
@[simp] theorem State.modEth_hub (k : Fin 4) (f : EthPort → EthPort) : (s.modEth k f).hub = s.hub := rfl
@[simp] theorem State.modEth_rtc (k : Fin 4) (f : EthPort → EthPort) : (s.modEth k f).rtc = s.rtc := rfl
@[simp] theorem State.modEth_pwr (k : Fin 4) (f : EthPort → EthPort) : (s.modEth k f).pwr = s.pwr := rfl
@[simp] theorem State.modEth_sil (k : Fin 4) (f : EthPort → EthPort) : (s.modEth k f).sil = s.sil := rfl
@[simp] theorem State.modEth_twin (k : Fin 4) (f : EthPort → EthPort) : (s.modEth k f).twin = s.twin := rfl
@[simp] theorem State.modEth_pairs (k : Fin 4) (f : EthPort → EthPort) : (s.modEth k f).pairs = s.pairs := rfl
@[simp] theorem State.modEth_fab (k : Fin 4) (f : EthPort → EthPort) : (s.modEth k f).fab = s.fab := rfl
@[simp] theorem State.modEth_acc (k : Fin 4) (f : EthPort → EthPort) : (s.modEth k f).acc = s.acc := rfl
@[simp] theorem State.modEth_se (k : Fin 4) (f : EthPort → EthPort) : (s.modEth k f).se = s.se := rfl
@[simp] theorem State.modEth_loops (k : Fin 4) (f : EthPort → EthPort) : (s.modEth k f).loops = s.loops := rfl
@[simp] theorem State.modEth_plan (k : Fin 4) (f : EthPort → EthPort) : (s.modEth k f).plan = s.plan := rfl
@[simp] theorem State.modEth_prog (k : Fin 4) (f : EthPort → EthPort) : (s.modEth k f).prog = s.prog := rfl
@[simp] theorem State.modEth_mtr (k : Fin 4) (f : EthPort → EthPort) : (s.modEth k f).mtr = s.mtr := rfl
@[simp] theorem State.modEth_can (k : Fin 4) (f : EthPort → EthPort) : (s.modEth k f).can = s.can := rfl
@[simp] theorem State.modEth_dio (k : Fin 4) (f : EthPort → EthPort) : (s.modEth k f).dio = s.dio := rfl
@[simp] theorem State.modEth_key (k : Fin 4) (f : EthPort → EthPort) : (s.modEth k f).key = s.key := rfl
@[simp] theorem State.modEth_net (k : Fin 4) (f : EthPort → EthPort) : (s.modEth k f).net = { s.net with eth := upd s.net.eth k f } := rfl
@[simp] theorem State.modEth_run (k : Fin 4) (f : EthPort → EthPort) : (s.modEth k f).run = s.run := rfl
@[simp] theorem State.modEth_mem (k : Fin 4) (f : EthPort → EthPort) : (s.modEth k f).mem = s.mem := rfl
@[simp] theorem State.modEth_setBits (k : Fin 4) (f : EthPort → EthPort) : (s.modEth k f).setBits = s.setBits := rfl
@[simp] theorem State.modEth_pending (k : Fin 4) (f : EthPort → EthPort) : (s.modEth k f).pending = s.pending := rfl

/-! `to` -/

@[simp] theorem State.to_now (t : Nat) : (s.to t).now = max s.now t := rfl
@[simp] theorem State.to_free (t : Nat) : (s.to t).free = s.free := rfl
@[simp] theorem State.to_sys (t : Nat) : (s.to t).sys = s.sys := rfl
@[simp] theorem State.to_fs (t : Nat) : (s.to t).fs = s.fs := rfl
@[simp] theorem State.to_hub (t : Nat) : (s.to t).hub = s.hub := rfl
@[simp] theorem State.to_rtc (t : Nat) : (s.to t).rtc = s.rtc := rfl
@[simp] theorem State.to_pwr (t : Nat) : (s.to t).pwr = s.pwr := rfl
@[simp] theorem State.to_sil (t : Nat) : (s.to t).sil = s.sil := rfl
@[simp] theorem State.to_twin (t : Nat) : (s.to t).twin = s.twin := rfl
@[simp] theorem State.to_pairs (t : Nat) : (s.to t).pairs = s.pairs := rfl
@[simp] theorem State.to_fab (t : Nat) : (s.to t).fab = s.fab := rfl
@[simp] theorem State.to_acc (t : Nat) : (s.to t).acc = s.acc := rfl
@[simp] theorem State.to_se (t : Nat) : (s.to t).se = s.se := rfl
@[simp] theorem State.to_loops (t : Nat) : (s.to t).loops = s.loops := rfl
@[simp] theorem State.to_plan (t : Nat) : (s.to t).plan = s.plan := rfl
@[simp] theorem State.to_prog (t : Nat) : (s.to t).prog = s.prog := rfl
@[simp] theorem State.to_mtr (t : Nat) : (s.to t).mtr = s.mtr := rfl
@[simp] theorem State.to_can (t : Nat) : (s.to t).can = s.can := rfl
@[simp] theorem State.to_dio (t : Nat) : (s.to t).dio = s.dio := rfl
@[simp] theorem State.to_key (t : Nat) : (s.to t).key = s.key := rfl
@[simp] theorem State.to_net (t : Nat) : (s.to t).net = s.net := rfl
@[simp] theorem State.to_run (t : Nat) : (s.to t).run = s.run := rfl
@[simp] theorem State.to_mem (t : Nat) : (s.to t).mem = s.mem := rfl
@[simp] theorem State.to_setBits (t : Nat) : (s.to t).setBits = s.setBits := rfl
@[simp] theorem State.to_pending (t : Nat) : (s.to t).pending = s.pending := rfl

/-! `wait` -/

@[simp] theorem State.wait_now (d : Nat) : (s.wait d).now = s.now + d := rfl
@[simp] theorem State.wait_free (d : Nat) : (s.wait d).free = s.free := rfl
@[simp] theorem State.wait_sys (d : Nat) : (s.wait d).sys = s.sys := rfl
@[simp] theorem State.wait_fs (d : Nat) : (s.wait d).fs = s.fs := rfl
@[simp] theorem State.wait_hub (d : Nat) : (s.wait d).hub = s.hub := rfl
@[simp] theorem State.wait_rtc (d : Nat) : (s.wait d).rtc = s.rtc := rfl
@[simp] theorem State.wait_pwr (d : Nat) : (s.wait d).pwr = s.pwr := rfl
@[simp] theorem State.wait_sil (d : Nat) : (s.wait d).sil = s.sil := rfl
@[simp] theorem State.wait_twin (d : Nat) : (s.wait d).twin = s.twin := rfl
@[simp] theorem State.wait_pairs (d : Nat) : (s.wait d).pairs = s.pairs := rfl
@[simp] theorem State.wait_fab (d : Nat) : (s.wait d).fab = s.fab := rfl
@[simp] theorem State.wait_acc (d : Nat) : (s.wait d).acc = s.acc := rfl
@[simp] theorem State.wait_se (d : Nat) : (s.wait d).se = s.se := rfl
@[simp] theorem State.wait_loops (d : Nat) : (s.wait d).loops = s.loops := rfl
@[simp] theorem State.wait_plan (d : Nat) : (s.wait d).plan = s.plan := rfl
@[simp] theorem State.wait_prog (d : Nat) : (s.wait d).prog = s.prog := rfl
@[simp] theorem State.wait_mtr (d : Nat) : (s.wait d).mtr = s.mtr := rfl
@[simp] theorem State.wait_can (d : Nat) : (s.wait d).can = s.can := rfl
@[simp] theorem State.wait_dio (d : Nat) : (s.wait d).dio = s.dio := rfl
@[simp] theorem State.wait_key (d : Nat) : (s.wait d).key = s.key := rfl
@[simp] theorem State.wait_net (d : Nat) : (s.wait d).net = s.net := rfl
@[simp] theorem State.wait_run (d : Nat) : (s.wait d).run = s.run := rfl
@[simp] theorem State.wait_mem (d : Nat) : (s.wait d).mem = s.mem := rfl
@[simp] theorem State.wait_setBits (d : Nat) : (s.wait d).setBits = s.setBits := rfl
@[simp] theorem State.wait_pending (d : Nat) : (s.wait d).pending = s.pending := rfl

/-! `answer` -/

@[simp] theorem State.answer_now (w : Initiator) (d : Nat) : (s.answer w d).now = s.now := rfl
@[simp] theorem State.answer_free (w : Initiator) (d : Nat) : (s.answer w d).free = s.free := rfl
@[simp] theorem State.answer_sys (w : Initiator) (d : Nat) : (s.answer w d).sys = s.sys := rfl
@[simp] theorem State.answer_fs (w : Initiator) (d : Nat) : (s.answer w d).fs = s.fs := rfl
@[simp] theorem State.answer_hub (w : Initiator) (d : Nat) : (s.answer w d).hub = s.hub := rfl
@[simp] theorem State.answer_rtc (w : Initiator) (d : Nat) : (s.answer w d).rtc = s.rtc := rfl
@[simp] theorem State.answer_pwr (w : Initiator) (d : Nat) : (s.answer w d).pwr = s.pwr := rfl
@[simp] theorem State.answer_sil (w : Initiator) (d : Nat) : (s.answer w d).sil = s.sil := rfl
@[simp] theorem State.answer_twin (w : Initiator) (d : Nat) : (s.answer w d).twin = s.twin := rfl
@[simp] theorem State.answer_pairs (w : Initiator) (d : Nat) : (s.answer w d).pairs = s.pairs := rfl
@[simp] theorem State.answer_fab (w : Initiator) (d : Nat) : (s.answer w d).fab = { s.fab with answers := Tbl.set w.code (Answer.ofData d) s.fab.answers } := rfl
@[simp] theorem State.answer_acc (w : Initiator) (d : Nat) : (s.answer w d).acc = s.acc := rfl
@[simp] theorem State.answer_se (w : Initiator) (d : Nat) : (s.answer w d).se = s.se := rfl
@[simp] theorem State.answer_loops (w : Initiator) (d : Nat) : (s.answer w d).loops = s.loops := rfl
@[simp] theorem State.answer_plan (w : Initiator) (d : Nat) : (s.answer w d).plan = s.plan := rfl
@[simp] theorem State.answer_prog (w : Initiator) (d : Nat) : (s.answer w d).prog = s.prog := rfl
@[simp] theorem State.answer_mtr (w : Initiator) (d : Nat) : (s.answer w d).mtr = s.mtr := rfl
@[simp] theorem State.answer_can (w : Initiator) (d : Nat) : (s.answer w d).can = s.can := rfl
@[simp] theorem State.answer_dio (w : Initiator) (d : Nat) : (s.answer w d).dio = s.dio := rfl
@[simp] theorem State.answer_key (w : Initiator) (d : Nat) : (s.answer w d).key = s.key := rfl
@[simp] theorem State.answer_net (w : Initiator) (d : Nat) : (s.answer w d).net = s.net := rfl
@[simp] theorem State.answer_run (w : Initiator) (d : Nat) : (s.answer w d).run = s.run := rfl
@[simp] theorem State.answer_mem (w : Initiator) (d : Nat) : (s.answer w d).mem = s.mem := rfl
@[simp] theorem State.answer_setBits (w : Initiator) (d : Nat) : (s.answer w d).setBits = s.setBits := rfl
@[simp] theorem State.answer_pending (w : Initiator) (d : Nat) : (s.answer w d).pending = s.pending := rfl

end Sys2Proof.Machine
end

