-- ==== Sys2Proof/Laws/Flags.lean ====
section
/-! SUPPORT. What the shared operations of Machine/Flags.lean can do: an assertion of sources changes the hub alone, and an entry the
hub, the sillage and the record of bits set in the present PERI cycle. -/

namespace Sys2Proof.Machine

/-! ### The record of bits set (R12) -/

theorem State.setBit_frame (addr i : Nat) (s : State) : s.setBit addr i = { s with setBits := (s.setBit addr i).setBits } := rfl

theorem State.setIf_frame (c : Bool) (addr i : Nat) (s : State) :
    s.setIf c addr i = { s with setBits := (s.setIf c addr i).setBits } := by
  unfold State.setIf; split <;> rfl

/-! ### Assertions change the hub alone -/

theorem State.assertOne_frame (src : Nat) (s : State) : s.assertOne src = { s with hub := (s.assertOne src).hub } := rfl

theorem State.signal_frame (base lat : Nat) (t : Fin 9) (s : State) :
    s.signal base lat t = { s with hub := (s.signal base lat t).hub } := by
  unfold State.signal; dsimp only; split <;> rfl

theorem foldl_hub {α : Type} (f : State → α → State) (h : ∀ s a, f s a = { s with hub := (f s a).hub }) (l : List α)
    (s : State) : l.foldl f s = { s with hub := (l.foldl f s).hub } := by
  induction l generalizing s with
  | nil => rfl
  | cons a l ih =>
    rw [List.foldl_cons, ih (f s a)]
    generalize (List.foldl f (f s a) l).hub = x
    rw [h s a]

theorem State.signalAll_frame (lat : Nat) (s : State) : s.signalAll lat = { s with hub := (s.signalAll lat).hub } :=
  foldl_hub _ (fun s t => State.signal_frame (periEdge s.now) lat t s) _ s

theorem State.raise_frame (src : Nat) (s : State) : s.raise src = { s with hub := (s.raise src).hub } := by
  unfold State.raise
  rw [State.signalAll_frame]
  generalize (State.signalAll 7 (State.assertOne src s)).hub = x
  rw [State.assertOne_frame]

theorem State.raiseEn_frame (en base i : Nat) (s : State) :
    s.raiseEn en base i = { s with hub := (s.raiseEn en base i).hub } := by
  unfold State.raiseEn; split
  · exact State.raise_frame _ s
  · rfl

/-! ### Entries change the hub, the sillage and the record of bits set -/

theorem State.enter_frame (e : SilEntry) (s : State) :
    s.enter e = { s with hub := (s.enter e).hub, sil := (s.enter e).sil, setBits := (s.enter e).setBits } := by
  unfold State.enter; split
  · rfl
  · rw [State.raiseEn_frame]; rfl

/-- An entry joins the queue while there is room (R524). -/
theorem State.enter_room (e : SilEntry) (s : State) (h : s.sil.queue.length < 64) :
    s.enter e = { s with sil := { s.sil with queue := s.sil.queue ++ [e] } } := by simp [State.enter, h]

theorem State.log_frame (block inst cls num : Nat) (payload : List Byte) (s : State) :
    s.log block inst cls num payload =
      { s with hub := (s.log block inst cls num payload).hub, sil := (s.log block inst cls num payload).sil,
               setBits := (s.log block inst cls num payload).setBits } :=
  State.enter_frame _ s

theorem State.refuse_frame (cls addr : Nat) (w : Initiator) (v : Nat) (s : State) :
    s.refuse cls addr w v =
      { s with hub := (s.refuse cls addr w v).hub, sil := (s.refuse cls addr w v).sil,
               setBits := (s.refuse cls addr w v).setBits } :=
  State.enter_frame _ s

/-! ### Guarded writes -/

@[simp] theorem State.guardWrite_true (addr : Nat) (w : Initiator) (v : Nat) (f : State → State) (s : State) :
    s.guardWrite true addr w v f = f s := rfl

@[simp] theorem State.guardWrite_false (addr : Nat) (w : Initiator) (v : Nat) (f : State → State) (s : State) :
    s.guardWrite false addr w v f = s.refuse 4 addr w v := rfl

/-! ### Fields -/

variable (s : State)

/-! `assertOne` -/

@[simp] theorem State.assertOne_now (src : Nat) : (s.assertOne src).now = s.now := by rw [State.assertOne_frame]
@[simp] theorem State.assertOne_free (src : Nat) : (s.assertOne src).free = s.free := by rw [State.assertOne_frame]
@[simp] theorem State.assertOne_sys (src : Nat) : (s.assertOne src).sys = s.sys := by rw [State.assertOne_frame]
@[simp] theorem State.assertOne_fs (src : Nat) : (s.assertOne src).fs = s.fs := by rw [State.assertOne_frame]
@[simp] theorem State.assertOne_rtc (src : Nat) : (s.assertOne src).rtc = s.rtc := by rw [State.assertOne_frame]
@[simp] theorem State.assertOne_pwr (src : Nat) : (s.assertOne src).pwr = s.pwr := by rw [State.assertOne_frame]
@[simp] theorem State.assertOne_sil (src : Nat) : (s.assertOne src).sil = s.sil := by rw [State.assertOne_frame]
@[simp] theorem State.assertOne_twin (src : Nat) : (s.assertOne src).twin = s.twin := by rw [State.assertOne_frame]
@[simp] theorem State.assertOne_pairs (src : Nat) : (s.assertOne src).pairs = s.pairs := by rw [State.assertOne_frame]
@[simp] theorem State.assertOne_fab (src : Nat) : (s.assertOne src).fab = s.fab := by rw [State.assertOne_frame]
@[simp] theorem State.assertOne_acc (src : Nat) : (s.assertOne src).acc = s.acc := by rw [State.assertOne_frame]
@[simp] theorem State.assertOne_se (src : Nat) : (s.assertOne src).se = s.se := by rw [State.assertOne_frame]
@[simp] theorem State.assertOne_loops (src : Nat) : (s.assertOne src).loops = s.loops := by rw [State.assertOne_frame]
@[simp] theorem State.assertOne_plan (src : Nat) : (s.assertOne src).plan = s.plan := by rw [State.assertOne_frame]
@[simp] theorem State.assertOne_prog (src : Nat) : (s.assertOne src).prog = s.prog := by rw [State.assertOne_frame]
@[simp] theorem State.assertOne_mtr (src : Nat) : (s.assertOne src).mtr = s.mtr := by rw [State.assertOne_frame]
@[simp] theorem State.assertOne_can (src : Nat) : (s.assertOne src).can = s.can := by rw [State.assertOne_frame]
@[simp] theorem State.assertOne_dio (src : Nat) : (s.assertOne src).dio = s.dio := by rw [State.assertOne_frame]
@[simp] theorem State.assertOne_key (src : Nat) : (s.assertOne src).key = s.key := by rw [State.assertOne_frame]
@[simp] theorem State.assertOne_net (src : Nat) : (s.assertOne src).net = s.net := by rw [State.assertOne_frame]
@[simp] theorem State.assertOne_run (src : Nat) : (s.assertOne src).run = s.run := by rw [State.assertOne_frame]
@[simp] theorem State.assertOne_mem (src : Nat) : (s.assertOne src).mem = s.mem := by rw [State.assertOne_frame]
@[simp] theorem State.assertOne_setBits (src : Nat) : (s.assertOne src).setBits = s.setBits := by rw [State.assertOne_frame]
@[simp] theorem State.assertOne_pending (src : Nat) : (s.assertOne src).pending = s.pending := by rw [State.assertOne_frame]

/-! `setBit` -/

@[simp] theorem State.setBit_now (addr i : Nat) : (s.setBit addr i).now = s.now := by rw [State.setBit_frame]
@[simp] theorem State.setBit_free (addr i : Nat) : (s.setBit addr i).free = s.free := by rw [State.setBit_frame]
@[simp] theorem State.setBit_sys (addr i : Nat) : (s.setBit addr i).sys = s.sys := by rw [State.setBit_frame]
@[simp] theorem State.setBit_fs (addr i : Nat) : (s.setBit addr i).fs = s.fs := by rw [State.setBit_frame]
@[simp] theorem State.setBit_hub (addr i : Nat) : (s.setBit addr i).hub = s.hub := by rw [State.setBit_frame]
@[simp] theorem State.setBit_rtc (addr i : Nat) : (s.setBit addr i).rtc = s.rtc := by rw [State.setBit_frame]
@[simp] theorem State.setBit_pwr (addr i : Nat) : (s.setBit addr i).pwr = s.pwr := by rw [State.setBit_frame]
@[simp] theorem State.setBit_sil (addr i : Nat) : (s.setBit addr i).sil = s.sil := by rw [State.setBit_frame]
@[simp] theorem State.setBit_twin (addr i : Nat) : (s.setBit addr i).twin = s.twin := by rw [State.setBit_frame]
@[simp] theorem State.setBit_pairs (addr i : Nat) : (s.setBit addr i).pairs = s.pairs := by rw [State.setBit_frame]
@[simp] theorem State.setBit_fab (addr i : Nat) : (s.setBit addr i).fab = s.fab := by rw [State.setBit_frame]
@[simp] theorem State.setBit_acc (addr i : Nat) : (s.setBit addr i).acc = s.acc := by rw [State.setBit_frame]
@[simp] theorem State.setBit_se (addr i : Nat) : (s.setBit addr i).se = s.se := by rw [State.setBit_frame]
@[simp] theorem State.setBit_loops (addr i : Nat) : (s.setBit addr i).loops = s.loops := by rw [State.setBit_frame]
@[simp] theorem State.setBit_plan (addr i : Nat) : (s.setBit addr i).plan = s.plan := by rw [State.setBit_frame]
@[simp] theorem State.setBit_prog (addr i : Nat) : (s.setBit addr i).prog = s.prog := by rw [State.setBit_frame]
@[simp] theorem State.setBit_mtr (addr i : Nat) : (s.setBit addr i).mtr = s.mtr := by rw [State.setBit_frame]
@[simp] theorem State.setBit_can (addr i : Nat) : (s.setBit addr i).can = s.can := by rw [State.setBit_frame]
@[simp] theorem State.setBit_dio (addr i : Nat) : (s.setBit addr i).dio = s.dio := by rw [State.setBit_frame]
@[simp] theorem State.setBit_key (addr i : Nat) : (s.setBit addr i).key = s.key := by rw [State.setBit_frame]
@[simp] theorem State.setBit_net (addr i : Nat) : (s.setBit addr i).net = s.net := by rw [State.setBit_frame]
@[simp] theorem State.setBit_run (addr i : Nat) : (s.setBit addr i).run = s.run := by rw [State.setBit_frame]
@[simp] theorem State.setBit_mem (addr i : Nat) : (s.setBit addr i).mem = s.mem := by rw [State.setBit_frame]
@[simp] theorem State.setBit_pending (addr i : Nat) : (s.setBit addr i).pending = s.pending := by rw [State.setBit_frame]

/-! `setIf` -/

@[simp] theorem State.setIf_now (c : Bool) (addr i : Nat) : (s.setIf c addr i).now = s.now := by rw [State.setIf_frame]
@[simp] theorem State.setIf_free (c : Bool) (addr i : Nat) : (s.setIf c addr i).free = s.free := by rw [State.setIf_frame]
@[simp] theorem State.setIf_sys (c : Bool) (addr i : Nat) : (s.setIf c addr i).sys = s.sys := by rw [State.setIf_frame]
@[simp] theorem State.setIf_fs (c : Bool) (addr i : Nat) : (s.setIf c addr i).fs = s.fs := by rw [State.setIf_frame]
@[simp] theorem State.setIf_hub (c : Bool) (addr i : Nat) : (s.setIf c addr i).hub = s.hub := by rw [State.setIf_frame]
@[simp] theorem State.setIf_rtc (c : Bool) (addr i : Nat) : (s.setIf c addr i).rtc = s.rtc := by rw [State.setIf_frame]
@[simp] theorem State.setIf_pwr (c : Bool) (addr i : Nat) : (s.setIf c addr i).pwr = s.pwr := by rw [State.setIf_frame]
@[simp] theorem State.setIf_sil (c : Bool) (addr i : Nat) : (s.setIf c addr i).sil = s.sil := by rw [State.setIf_frame]
@[simp] theorem State.setIf_twin (c : Bool) (addr i : Nat) : (s.setIf c addr i).twin = s.twin := by rw [State.setIf_frame]
@[simp] theorem State.setIf_pairs (c : Bool) (addr i : Nat) : (s.setIf c addr i).pairs = s.pairs := by rw [State.setIf_frame]
@[simp] theorem State.setIf_fab (c : Bool) (addr i : Nat) : (s.setIf c addr i).fab = s.fab := by rw [State.setIf_frame]
@[simp] theorem State.setIf_acc (c : Bool) (addr i : Nat) : (s.setIf c addr i).acc = s.acc := by rw [State.setIf_frame]
@[simp] theorem State.setIf_se (c : Bool) (addr i : Nat) : (s.setIf c addr i).se = s.se := by rw [State.setIf_frame]
@[simp] theorem State.setIf_loops (c : Bool) (addr i : Nat) : (s.setIf c addr i).loops = s.loops := by rw [State.setIf_frame]
@[simp] theorem State.setIf_plan (c : Bool) (addr i : Nat) : (s.setIf c addr i).plan = s.plan := by rw [State.setIf_frame]
@[simp] theorem State.setIf_prog (c : Bool) (addr i : Nat) : (s.setIf c addr i).prog = s.prog := by rw [State.setIf_frame]
@[simp] theorem State.setIf_mtr (c : Bool) (addr i : Nat) : (s.setIf c addr i).mtr = s.mtr := by rw [State.setIf_frame]
@[simp] theorem State.setIf_can (c : Bool) (addr i : Nat) : (s.setIf c addr i).can = s.can := by rw [State.setIf_frame]
@[simp] theorem State.setIf_dio (c : Bool) (addr i : Nat) : (s.setIf c addr i).dio = s.dio := by rw [State.setIf_frame]
@[simp] theorem State.setIf_key (c : Bool) (addr i : Nat) : (s.setIf c addr i).key = s.key := by rw [State.setIf_frame]
@[simp] theorem State.setIf_net (c : Bool) (addr i : Nat) : (s.setIf c addr i).net = s.net := by rw [State.setIf_frame]
@[simp] theorem State.setIf_run (c : Bool) (addr i : Nat) : (s.setIf c addr i).run = s.run := by rw [State.setIf_frame]
@[simp] theorem State.setIf_mem (c : Bool) (addr i : Nat) : (s.setIf c addr i).mem = s.mem := by rw [State.setIf_frame]
@[simp] theorem State.setIf_pending (c : Bool) (addr i : Nat) : (s.setIf c addr i).pending = s.pending := by rw [State.setIf_frame]

/-! `signal` -/

@[simp] theorem State.signal_now (base lat : Nat) (t : Fin 9) : (s.signal base lat t).now = s.now := by rw [State.signal_frame]
@[simp] theorem State.signal_free (base lat : Nat) (t : Fin 9) : (s.signal base lat t).free = s.free := by rw [State.signal_frame]
@[simp] theorem State.signal_sys (base lat : Nat) (t : Fin 9) : (s.signal base lat t).sys = s.sys := by rw [State.signal_frame]
@[simp] theorem State.signal_fs (base lat : Nat) (t : Fin 9) : (s.signal base lat t).fs = s.fs := by rw [State.signal_frame]
@[simp] theorem State.signal_rtc (base lat : Nat) (t : Fin 9) : (s.signal base lat t).rtc = s.rtc := by rw [State.signal_frame]
@[simp] theorem State.signal_pwr (base lat : Nat) (t : Fin 9) : (s.signal base lat t).pwr = s.pwr := by rw [State.signal_frame]
@[simp] theorem State.signal_sil (base lat : Nat) (t : Fin 9) : (s.signal base lat t).sil = s.sil := by rw [State.signal_frame]
@[simp] theorem State.signal_twin (base lat : Nat) (t : Fin 9) : (s.signal base lat t).twin = s.twin := by rw [State.signal_frame]
@[simp] theorem State.signal_pairs (base lat : Nat) (t : Fin 9) : (s.signal base lat t).pairs = s.pairs := by rw [State.signal_frame]
@[simp] theorem State.signal_fab (base lat : Nat) (t : Fin 9) : (s.signal base lat t).fab = s.fab := by rw [State.signal_frame]
@[simp] theorem State.signal_acc (base lat : Nat) (t : Fin 9) : (s.signal base lat t).acc = s.acc := by rw [State.signal_frame]
@[simp] theorem State.signal_se (base lat : Nat) (t : Fin 9) : (s.signal base lat t).se = s.se := by rw [State.signal_frame]
@[simp] theorem State.signal_loops (base lat : Nat) (t : Fin 9) : (s.signal base lat t).loops = s.loops := by rw [State.signal_frame]
@[simp] theorem State.signal_plan (base lat : Nat) (t : Fin 9) : (s.signal base lat t).plan = s.plan := by rw [State.signal_frame]
@[simp] theorem State.signal_prog (base lat : Nat) (t : Fin 9) : (s.signal base lat t).prog = s.prog := by rw [State.signal_frame]
@[simp] theorem State.signal_mtr (base lat : Nat) (t : Fin 9) : (s.signal base lat t).mtr = s.mtr := by rw [State.signal_frame]
@[simp] theorem State.signal_can (base lat : Nat) (t : Fin 9) : (s.signal base lat t).can = s.can := by rw [State.signal_frame]
@[simp] theorem State.signal_dio (base lat : Nat) (t : Fin 9) : (s.signal base lat t).dio = s.dio := by rw [State.signal_frame]
@[simp] theorem State.signal_key (base lat : Nat) (t : Fin 9) : (s.signal base lat t).key = s.key := by rw [State.signal_frame]
@[simp] theorem State.signal_net (base lat : Nat) (t : Fin 9) : (s.signal base lat t).net = s.net := by rw [State.signal_frame]
@[simp] theorem State.signal_run (base lat : Nat) (t : Fin 9) : (s.signal base lat t).run = s.run := by rw [State.signal_frame]
@[simp] theorem State.signal_mem (base lat : Nat) (t : Fin 9) : (s.signal base lat t).mem = s.mem := by rw [State.signal_frame]
@[simp] theorem State.signal_setBits (base lat : Nat) (t : Fin 9) : (s.signal base lat t).setBits = s.setBits := by rw [State.signal_frame]
@[simp] theorem State.signal_pending (base lat : Nat) (t : Fin 9) : (s.signal base lat t).pending = s.pending := by rw [State.signal_frame]

/-! `signalAll` -/

@[simp] theorem State.signalAll_now (lat : Nat) : (s.signalAll lat).now = s.now := by rw [State.signalAll_frame]
@[simp] theorem State.signalAll_free (lat : Nat) : (s.signalAll lat).free = s.free := by rw [State.signalAll_frame]
@[simp] theorem State.signalAll_sys (lat : Nat) : (s.signalAll lat).sys = s.sys := by rw [State.signalAll_frame]
@[simp] theorem State.signalAll_fs (lat : Nat) : (s.signalAll lat).fs = s.fs := by rw [State.signalAll_frame]
@[simp] theorem State.signalAll_rtc (lat : Nat) : (s.signalAll lat).rtc = s.rtc := by rw [State.signalAll_frame]
@[simp] theorem State.signalAll_pwr (lat : Nat) : (s.signalAll lat).pwr = s.pwr := by rw [State.signalAll_frame]
@[simp] theorem State.signalAll_sil (lat : Nat) : (s.signalAll lat).sil = s.sil := by rw [State.signalAll_frame]
@[simp] theorem State.signalAll_twin (lat : Nat) : (s.signalAll lat).twin = s.twin := by rw [State.signalAll_frame]
@[simp] theorem State.signalAll_pairs (lat : Nat) : (s.signalAll lat).pairs = s.pairs := by rw [State.signalAll_frame]
@[simp] theorem State.signalAll_fab (lat : Nat) : (s.signalAll lat).fab = s.fab := by rw [State.signalAll_frame]
@[simp] theorem State.signalAll_acc (lat : Nat) : (s.signalAll lat).acc = s.acc := by rw [State.signalAll_frame]
@[simp] theorem State.signalAll_se (lat : Nat) : (s.signalAll lat).se = s.se := by rw [State.signalAll_frame]
@[simp] theorem State.signalAll_loops (lat : Nat) : (s.signalAll lat).loops = s.loops := by rw [State.signalAll_frame]
@[simp] theorem State.signalAll_plan (lat : Nat) : (s.signalAll lat).plan = s.plan := by rw [State.signalAll_frame]
@[simp] theorem State.signalAll_prog (lat : Nat) : (s.signalAll lat).prog = s.prog := by rw [State.signalAll_frame]
@[simp] theorem State.signalAll_mtr (lat : Nat) : (s.signalAll lat).mtr = s.mtr := by rw [State.signalAll_frame]
@[simp] theorem State.signalAll_can (lat : Nat) : (s.signalAll lat).can = s.can := by rw [State.signalAll_frame]
@[simp] theorem State.signalAll_dio (lat : Nat) : (s.signalAll lat).dio = s.dio := by rw [State.signalAll_frame]
@[simp] theorem State.signalAll_key (lat : Nat) : (s.signalAll lat).key = s.key := by rw [State.signalAll_frame]
@[simp] theorem State.signalAll_net (lat : Nat) : (s.signalAll lat).net = s.net := by rw [State.signalAll_frame]
@[simp] theorem State.signalAll_run (lat : Nat) : (s.signalAll lat).run = s.run := by rw [State.signalAll_frame]
@[simp] theorem State.signalAll_mem (lat : Nat) : (s.signalAll lat).mem = s.mem := by rw [State.signalAll_frame]
@[simp] theorem State.signalAll_setBits (lat : Nat) : (s.signalAll lat).setBits = s.setBits := by rw [State.signalAll_frame]
@[simp] theorem State.signalAll_pending (lat : Nat) : (s.signalAll lat).pending = s.pending := by rw [State.signalAll_frame]

/-! `raise` -/

@[simp] theorem State.raise_now (src : Nat) : (s.raise src).now = s.now := by rw [State.raise_frame]
@[simp] theorem State.raise_free (src : Nat) : (s.raise src).free = s.free := by rw [State.raise_frame]
@[simp] theorem State.raise_sys (src : Nat) : (s.raise src).sys = s.sys := by rw [State.raise_frame]
@[simp] theorem State.raise_fs (src : Nat) : (s.raise src).fs = s.fs := by rw [State.raise_frame]
@[simp] theorem State.raise_rtc (src : Nat) : (s.raise src).rtc = s.rtc := by rw [State.raise_frame]
@[simp] theorem State.raise_pwr (src : Nat) : (s.raise src).pwr = s.pwr := by rw [State.raise_frame]
@[simp] theorem State.raise_sil (src : Nat) : (s.raise src).sil = s.sil := by rw [State.raise_frame]
@[simp] theorem State.raise_twin (src : Nat) : (s.raise src).twin = s.twin := by rw [State.raise_frame]
@[simp] theorem State.raise_pairs (src : Nat) : (s.raise src).pairs = s.pairs := by rw [State.raise_frame]
@[simp] theorem State.raise_fab (src : Nat) : (s.raise src).fab = s.fab := by rw [State.raise_frame]
@[simp] theorem State.raise_acc (src : Nat) : (s.raise src).acc = s.acc := by rw [State.raise_frame]
@[simp] theorem State.raise_se (src : Nat) : (s.raise src).se = s.se := by rw [State.raise_frame]
@[simp] theorem State.raise_loops (src : Nat) : (s.raise src).loops = s.loops := by rw [State.raise_frame]
@[simp] theorem State.raise_plan (src : Nat) : (s.raise src).plan = s.plan := by rw [State.raise_frame]
@[simp] theorem State.raise_prog (src : Nat) : (s.raise src).prog = s.prog := by rw [State.raise_frame]
@[simp] theorem State.raise_mtr (src : Nat) : (s.raise src).mtr = s.mtr := by rw [State.raise_frame]
@[simp] theorem State.raise_can (src : Nat) : (s.raise src).can = s.can := by rw [State.raise_frame]
@[simp] theorem State.raise_dio (src : Nat) : (s.raise src).dio = s.dio := by rw [State.raise_frame]
@[simp] theorem State.raise_key (src : Nat) : (s.raise src).key = s.key := by rw [State.raise_frame]
@[simp] theorem State.raise_net (src : Nat) : (s.raise src).net = s.net := by rw [State.raise_frame]
@[simp] theorem State.raise_run (src : Nat) : (s.raise src).run = s.run := by rw [State.raise_frame]
@[simp] theorem State.raise_mem (src : Nat) : (s.raise src).mem = s.mem := by rw [State.raise_frame]
@[simp] theorem State.raise_setBits (src : Nat) : (s.raise src).setBits = s.setBits := by rw [State.raise_frame]
@[simp] theorem State.raise_pending (src : Nat) : (s.raise src).pending = s.pending := by rw [State.raise_frame]

/-! `raiseEn` -/

@[simp] theorem State.raiseEn_now (en base i : Nat) : (s.raiseEn en base i).now = s.now := by rw [State.raiseEn_frame]
@[simp] theorem State.raiseEn_free (en base i : Nat) : (s.raiseEn en base i).free = s.free := by rw [State.raiseEn_frame]
@[simp] theorem State.raiseEn_sys (en base i : Nat) : (s.raiseEn en base i).sys = s.sys := by rw [State.raiseEn_frame]
@[simp] theorem State.raiseEn_fs (en base i : Nat) : (s.raiseEn en base i).fs = s.fs := by rw [State.raiseEn_frame]
@[simp] theorem State.raiseEn_rtc (en base i : Nat) : (s.raiseEn en base i).rtc = s.rtc := by rw [State.raiseEn_frame]
@[simp] theorem State.raiseEn_pwr (en base i : Nat) : (s.raiseEn en base i).pwr = s.pwr := by rw [State.raiseEn_frame]
@[simp] theorem State.raiseEn_sil (en base i : Nat) : (s.raiseEn en base i).sil = s.sil := by rw [State.raiseEn_frame]
@[simp] theorem State.raiseEn_twin (en base i : Nat) : (s.raiseEn en base i).twin = s.twin := by rw [State.raiseEn_frame]
@[simp] theorem State.raiseEn_pairs (en base i : Nat) : (s.raiseEn en base i).pairs = s.pairs := by rw [State.raiseEn_frame]
@[simp] theorem State.raiseEn_fab (en base i : Nat) : (s.raiseEn en base i).fab = s.fab := by rw [State.raiseEn_frame]
@[simp] theorem State.raiseEn_acc (en base i : Nat) : (s.raiseEn en base i).acc = s.acc := by rw [State.raiseEn_frame]
@[simp] theorem State.raiseEn_se (en base i : Nat) : (s.raiseEn en base i).se = s.se := by rw [State.raiseEn_frame]
@[simp] theorem State.raiseEn_loops (en base i : Nat) : (s.raiseEn en base i).loops = s.loops := by rw [State.raiseEn_frame]
@[simp] theorem State.raiseEn_plan (en base i : Nat) : (s.raiseEn en base i).plan = s.plan := by rw [State.raiseEn_frame]
@[simp] theorem State.raiseEn_prog (en base i : Nat) : (s.raiseEn en base i).prog = s.prog := by rw [State.raiseEn_frame]
@[simp] theorem State.raiseEn_mtr (en base i : Nat) : (s.raiseEn en base i).mtr = s.mtr := by rw [State.raiseEn_frame]
@[simp] theorem State.raiseEn_can (en base i : Nat) : (s.raiseEn en base i).can = s.can := by rw [State.raiseEn_frame]
@[simp] theorem State.raiseEn_dio (en base i : Nat) : (s.raiseEn en base i).dio = s.dio := by rw [State.raiseEn_frame]
@[simp] theorem State.raiseEn_key (en base i : Nat) : (s.raiseEn en base i).key = s.key := by rw [State.raiseEn_frame]
@[simp] theorem State.raiseEn_net (en base i : Nat) : (s.raiseEn en base i).net = s.net := by rw [State.raiseEn_frame]
@[simp] theorem State.raiseEn_run (en base i : Nat) : (s.raiseEn en base i).run = s.run := by rw [State.raiseEn_frame]
@[simp] theorem State.raiseEn_mem (en base i : Nat) : (s.raiseEn en base i).mem = s.mem := by rw [State.raiseEn_frame]
@[simp] theorem State.raiseEn_setBits (en base i : Nat) : (s.raiseEn en base i).setBits = s.setBits := by rw [State.raiseEn_frame]
@[simp] theorem State.raiseEn_pending (en base i : Nat) : (s.raiseEn en base i).pending = s.pending := by rw [State.raiseEn_frame]

/-! `enter` -/

@[simp] theorem State.enter_now (e : SilEntry) : (s.enter e).now = s.now := by rw [State.enter_frame]
@[simp] theorem State.enter_free (e : SilEntry) : (s.enter e).free = s.free := by rw [State.enter_frame]
@[simp] theorem State.enter_sys (e : SilEntry) : (s.enter e).sys = s.sys := by rw [State.enter_frame]
@[simp] theorem State.enter_fs (e : SilEntry) : (s.enter e).fs = s.fs := by rw [State.enter_frame]
@[simp] theorem State.enter_rtc (e : SilEntry) : (s.enter e).rtc = s.rtc := by rw [State.enter_frame]
@[simp] theorem State.enter_pwr (e : SilEntry) : (s.enter e).pwr = s.pwr := by rw [State.enter_frame]
@[simp] theorem State.enter_twin (e : SilEntry) : (s.enter e).twin = s.twin := by rw [State.enter_frame]
@[simp] theorem State.enter_pairs (e : SilEntry) : (s.enter e).pairs = s.pairs := by rw [State.enter_frame]
@[simp] theorem State.enter_fab (e : SilEntry) : (s.enter e).fab = s.fab := by rw [State.enter_frame]
@[simp] theorem State.enter_acc (e : SilEntry) : (s.enter e).acc = s.acc := by rw [State.enter_frame]
@[simp] theorem State.enter_se (e : SilEntry) : (s.enter e).se = s.se := by rw [State.enter_frame]
@[simp] theorem State.enter_loops (e : SilEntry) : (s.enter e).loops = s.loops := by rw [State.enter_frame]
@[simp] theorem State.enter_plan (e : SilEntry) : (s.enter e).plan = s.plan := by rw [State.enter_frame]
@[simp] theorem State.enter_prog (e : SilEntry) : (s.enter e).prog = s.prog := by rw [State.enter_frame]
@[simp] theorem State.enter_mtr (e : SilEntry) : (s.enter e).mtr = s.mtr := by rw [State.enter_frame]
@[simp] theorem State.enter_can (e : SilEntry) : (s.enter e).can = s.can := by rw [State.enter_frame]
@[simp] theorem State.enter_dio (e : SilEntry) : (s.enter e).dio = s.dio := by rw [State.enter_frame]
@[simp] theorem State.enter_key (e : SilEntry) : (s.enter e).key = s.key := by rw [State.enter_frame]
@[simp] theorem State.enter_net (e : SilEntry) : (s.enter e).net = s.net := by rw [State.enter_frame]
@[simp] theorem State.enter_run (e : SilEntry) : (s.enter e).run = s.run := by rw [State.enter_frame]
@[simp] theorem State.enter_mem (e : SilEntry) : (s.enter e).mem = s.mem := by rw [State.enter_frame]
@[simp] theorem State.enter_pending (e : SilEntry) : (s.enter e).pending = s.pending := by rw [State.enter_frame]

/-! `log` -/

@[simp] theorem State.log_now (block inst cls num : Nat) (payload : List Byte) : (s.log block inst cls num payload).now = s.now := by rw [State.log_frame]
@[simp] theorem State.log_free (block inst cls num : Nat) (payload : List Byte) : (s.log block inst cls num payload).free = s.free := by rw [State.log_frame]
@[simp] theorem State.log_sys (block inst cls num : Nat) (payload : List Byte) : (s.log block inst cls num payload).sys = s.sys := by rw [State.log_frame]
@[simp] theorem State.log_fs (block inst cls num : Nat) (payload : List Byte) : (s.log block inst cls num payload).fs = s.fs := by rw [State.log_frame]
@[simp] theorem State.log_rtc (block inst cls num : Nat) (payload : List Byte) : (s.log block inst cls num payload).rtc = s.rtc := by rw [State.log_frame]
@[simp] theorem State.log_pwr (block inst cls num : Nat) (payload : List Byte) : (s.log block inst cls num payload).pwr = s.pwr := by rw [State.log_frame]
@[simp] theorem State.log_twin (block inst cls num : Nat) (payload : List Byte) : (s.log block inst cls num payload).twin = s.twin := by rw [State.log_frame]
@[simp] theorem State.log_pairs (block inst cls num : Nat) (payload : List Byte) : (s.log block inst cls num payload).pairs = s.pairs := by rw [State.log_frame]
@[simp] theorem State.log_fab (block inst cls num : Nat) (payload : List Byte) : (s.log block inst cls num payload).fab = s.fab := by rw [State.log_frame]
@[simp] theorem State.log_acc (block inst cls num : Nat) (payload : List Byte) : (s.log block inst cls num payload).acc = s.acc := by rw [State.log_frame]
@[simp] theorem State.log_se (block inst cls num : Nat) (payload : List Byte) : (s.log block inst cls num payload).se = s.se := by rw [State.log_frame]
@[simp] theorem State.log_loops (block inst cls num : Nat) (payload : List Byte) : (s.log block inst cls num payload).loops = s.loops := by rw [State.log_frame]
@[simp] theorem State.log_plan (block inst cls num : Nat) (payload : List Byte) : (s.log block inst cls num payload).plan = s.plan := by rw [State.log_frame]
@[simp] theorem State.log_prog (block inst cls num : Nat) (payload : List Byte) : (s.log block inst cls num payload).prog = s.prog := by rw [State.log_frame]
@[simp] theorem State.log_mtr (block inst cls num : Nat) (payload : List Byte) : (s.log block inst cls num payload).mtr = s.mtr := by rw [State.log_frame]
@[simp] theorem State.log_can (block inst cls num : Nat) (payload : List Byte) : (s.log block inst cls num payload).can = s.can := by rw [State.log_frame]
@[simp] theorem State.log_dio (block inst cls num : Nat) (payload : List Byte) : (s.log block inst cls num payload).dio = s.dio := by rw [State.log_frame]
@[simp] theorem State.log_key (block inst cls num : Nat) (payload : List Byte) : (s.log block inst cls num payload).key = s.key := by rw [State.log_frame]
@[simp] theorem State.log_net (block inst cls num : Nat) (payload : List Byte) : (s.log block inst cls num payload).net = s.net := by rw [State.log_frame]
@[simp] theorem State.log_run (block inst cls num : Nat) (payload : List Byte) : (s.log block inst cls num payload).run = s.run := by rw [State.log_frame]
@[simp] theorem State.log_mem (block inst cls num : Nat) (payload : List Byte) : (s.log block inst cls num payload).mem = s.mem := by rw [State.log_frame]
@[simp] theorem State.log_pending (block inst cls num : Nat) (payload : List Byte) : (s.log block inst cls num payload).pending = s.pending := by rw [State.log_frame]

/-! `refuse` -/

@[simp] theorem State.refuse_now (cls addr : Nat) (w : Initiator) (v : Nat) : (s.refuse cls addr w v).now = s.now := by rw [State.refuse_frame]
@[simp] theorem State.refuse_free (cls addr : Nat) (w : Initiator) (v : Nat) : (s.refuse cls addr w v).free = s.free := by rw [State.refuse_frame]
@[simp] theorem State.refuse_sys (cls addr : Nat) (w : Initiator) (v : Nat) : (s.refuse cls addr w v).sys = s.sys := by rw [State.refuse_frame]
@[simp] theorem State.refuse_fs (cls addr : Nat) (w : Initiator) (v : Nat) : (s.refuse cls addr w v).fs = s.fs := by rw [State.refuse_frame]
@[simp] theorem State.refuse_rtc (cls addr : Nat) (w : Initiator) (v : Nat) : (s.refuse cls addr w v).rtc = s.rtc := by rw [State.refuse_frame]
@[simp] theorem State.refuse_pwr (cls addr : Nat) (w : Initiator) (v : Nat) : (s.refuse cls addr w v).pwr = s.pwr := by rw [State.refuse_frame]
@[simp] theorem State.refuse_twin (cls addr : Nat) (w : Initiator) (v : Nat) : (s.refuse cls addr w v).twin = s.twin := by rw [State.refuse_frame]
@[simp] theorem State.refuse_pairs (cls addr : Nat) (w : Initiator) (v : Nat) : (s.refuse cls addr w v).pairs = s.pairs := by rw [State.refuse_frame]
@[simp] theorem State.refuse_fab (cls addr : Nat) (w : Initiator) (v : Nat) : (s.refuse cls addr w v).fab = s.fab := by rw [State.refuse_frame]
@[simp] theorem State.refuse_acc (cls addr : Nat) (w : Initiator) (v : Nat) : (s.refuse cls addr w v).acc = s.acc := by rw [State.refuse_frame]
@[simp] theorem State.refuse_se (cls addr : Nat) (w : Initiator) (v : Nat) : (s.refuse cls addr w v).se = s.se := by rw [State.refuse_frame]
@[simp] theorem State.refuse_loops (cls addr : Nat) (w : Initiator) (v : Nat) : (s.refuse cls addr w v).loops = s.loops := by rw [State.refuse_frame]
@[simp] theorem State.refuse_plan (cls addr : Nat) (w : Initiator) (v : Nat) : (s.refuse cls addr w v).plan = s.plan := by rw [State.refuse_frame]
@[simp] theorem State.refuse_prog (cls addr : Nat) (w : Initiator) (v : Nat) : (s.refuse cls addr w v).prog = s.prog := by rw [State.refuse_frame]
@[simp] theorem State.refuse_mtr (cls addr : Nat) (w : Initiator) (v : Nat) : (s.refuse cls addr w v).mtr = s.mtr := by rw [State.refuse_frame]
@[simp] theorem State.refuse_can (cls addr : Nat) (w : Initiator) (v : Nat) : (s.refuse cls addr w v).can = s.can := by rw [State.refuse_frame]
@[simp] theorem State.refuse_dio (cls addr : Nat) (w : Initiator) (v : Nat) : (s.refuse cls addr w v).dio = s.dio := by rw [State.refuse_frame]
@[simp] theorem State.refuse_key (cls addr : Nat) (w : Initiator) (v : Nat) : (s.refuse cls addr w v).key = s.key := by rw [State.refuse_frame]
@[simp] theorem State.refuse_net (cls addr : Nat) (w : Initiator) (v : Nat) : (s.refuse cls addr w v).net = s.net := by rw [State.refuse_frame]
@[simp] theorem State.refuse_run (cls addr : Nat) (w : Initiator) (v : Nat) : (s.refuse cls addr w v).run = s.run := by rw [State.refuse_frame]
@[simp] theorem State.refuse_mem (cls addr : Nat) (w : Initiator) (v : Nat) : (s.refuse cls addr w v).mem = s.mem := by rw [State.refuse_frame]
@[simp] theorem State.refuse_pending (cls addr : Nat) (w : Initiator) (v : Nat) : (s.refuse cls addr w v).pending = s.pending := by rw [State.refuse_frame]

end Sys2Proof.Machine
end

