-- ==== Sys2Proof/Laws/Keep.lean ====
section
/-! SUPPORT. What the operations on State leave alone: for each operation, the fields of State that it never changes. -/

namespace Sys2Proof.Machine

/-! ### A repeated operation keeps what each of its turns keeps -/

theorem foldl_keeps_now {α : Type} (g : State → α → State) (l : List α) (s : State) (h : ∀ s a, (g s a).now = s.now) :
    (l.foldl g s).now = s.now := by
  induction l generalizing s with
  | nil => rfl
  | cons a l ih => rw [List.foldl_cons, ih, h]

theorem foldl_keeps_free {α : Type} (g : State → α → State) (l : List α) (s : State) (h : ∀ s a,
  (g s a).free = s.free) :
    (l.foldl g s).free = s.free := by
  induction l generalizing s with
  | nil => rfl
  | cons a l ih => rw [List.foldl_cons, ih, h]

theorem foldl_keeps_sys {α : Type} (g : State → α → State) (l : List α) (s : State) (h : ∀ s a, (g s a).sys = s.sys) :
    (l.foldl g s).sys = s.sys := by
  induction l generalizing s with
  | nil => rfl
  | cons a l ih => rw [List.foldl_cons, ih, h]

theorem foldl_keeps_fs {α : Type} (g : State → α → State) (l : List α) (s : State) (h : ∀ s a, (g s a).fs = s.fs) :
    (l.foldl g s).fs = s.fs := by
  induction l generalizing s with
  | nil => rfl
  | cons a l ih => rw [List.foldl_cons, ih, h]

theorem foldl_keeps_hub {α : Type} (g : State → α → State) (l : List α) (s : State) (h : ∀ s a, (g s a).hub = s.hub) :
    (l.foldl g s).hub = s.hub := by
  induction l generalizing s with
  | nil => rfl
  | cons a l ih => rw [List.foldl_cons, ih, h]

theorem foldl_keeps_rtc {α : Type} (g : State → α → State) (l : List α) (s : State) (h : ∀ s a, (g s a).rtc = s.rtc) :
    (l.foldl g s).rtc = s.rtc := by
  induction l generalizing s with
  | nil => rfl
  | cons a l ih => rw [List.foldl_cons, ih, h]

theorem foldl_keeps_pwr {α : Type} (g : State → α → State) (l : List α) (s : State) (h : ∀ s a, (g s a).pwr = s.pwr) :
    (l.foldl g s).pwr = s.pwr := by
  induction l generalizing s with
  | nil => rfl
  | cons a l ih => rw [List.foldl_cons, ih, h]

theorem foldl_keeps_sil {α : Type} (g : State → α → State) (l : List α) (s : State) (h : ∀ s a, (g s a).sil = s.sil) :
    (l.foldl g s).sil = s.sil := by
  induction l generalizing s with
  | nil => rfl
  | cons a l ih => rw [List.foldl_cons, ih, h]

theorem foldl_keeps_twin {α : Type} (g : State → α → State) (l : List α) (s : State) (h : ∀ s a,
  (g s a).twin = s.twin) :
    (l.foldl g s).twin = s.twin := by
  induction l generalizing s with
  | nil => rfl
  | cons a l ih => rw [List.foldl_cons, ih, h]

theorem foldl_keeps_pairs {α : Type} (g : State → α → State) (l : List α) (s : State) (h : ∀ s a,
  (g s a).pairs = s.pairs) :
    (l.foldl g s).pairs = s.pairs := by
  induction l generalizing s with
  | nil => rfl
  | cons a l ih => rw [List.foldl_cons, ih, h]

theorem foldl_keeps_fab {α : Type} (g : State → α → State) (l : List α) (s : State) (h : ∀ s a, (g s a).fab = s.fab) :
    (l.foldl g s).fab = s.fab := by
  induction l generalizing s with
  | nil => rfl
  | cons a l ih => rw [List.foldl_cons, ih, h]

theorem foldl_keeps_acc {α : Type} (g : State → α → State) (l : List α) (s : State) (h : ∀ s a, (g s a).acc = s.acc) :
    (l.foldl g s).acc = s.acc := by
  induction l generalizing s with
  | nil => rfl
  | cons a l ih => rw [List.foldl_cons, ih, h]

theorem foldl_keeps_se {α : Type} (g : State → α → State) (l : List α) (s : State) (h : ∀ s a, (g s a).se = s.se) :
    (l.foldl g s).se = s.se := by
  induction l generalizing s with
  | nil => rfl
  | cons a l ih => rw [List.foldl_cons, ih, h]

theorem foldl_keeps_loops {α : Type} (g : State → α → State) (l : List α) (s : State) (h : ∀ s a,
  (g s a).loops = s.loops) :
    (l.foldl g s).loops = s.loops := by
  induction l generalizing s with
  | nil => rfl
  | cons a l ih => rw [List.foldl_cons, ih, h]

theorem foldl_keeps_plan {α : Type} (g : State → α → State) (l : List α) (s : State) (h : ∀ s a,
  (g s a).plan = s.plan) :
    (l.foldl g s).plan = s.plan := by
  induction l generalizing s with
  | nil => rfl
  | cons a l ih => rw [List.foldl_cons, ih, h]

theorem foldl_keeps_prog {α : Type} (g : State → α → State) (l : List α) (s : State) (h : ∀ s a,
  (g s a).prog = s.prog) :
    (l.foldl g s).prog = s.prog := by
  induction l generalizing s with
  | nil => rfl
  | cons a l ih => rw [List.foldl_cons, ih, h]

theorem foldl_keeps_mtr {α : Type} (g : State → α → State) (l : List α) (s : State) (h : ∀ s a, (g s a).mtr = s.mtr) :
    (l.foldl g s).mtr = s.mtr := by
  induction l generalizing s with
  | nil => rfl
  | cons a l ih => rw [List.foldl_cons, ih, h]

theorem foldl_keeps_can {α : Type} (g : State → α → State) (l : List α) (s : State) (h : ∀ s a, (g s a).can = s.can) :
    (l.foldl g s).can = s.can := by
  induction l generalizing s with
  | nil => rfl
  | cons a l ih => rw [List.foldl_cons, ih, h]

theorem foldl_keeps_dio {α : Type} (g : State → α → State) (l : List α) (s : State) (h : ∀ s a, (g s a).dio = s.dio) :
    (l.foldl g s).dio = s.dio := by
  induction l generalizing s with
  | nil => rfl
  | cons a l ih => rw [List.foldl_cons, ih, h]

theorem foldl_keeps_key {α : Type} (g : State → α → State) (l : List α) (s : State) (h : ∀ s a, (g s a).key = s.key) :
    (l.foldl g s).key = s.key := by
  induction l generalizing s with
  | nil => rfl
  | cons a l ih => rw [List.foldl_cons, ih, h]

theorem foldl_keeps_net {α : Type} (g : State → α → State) (l : List α) (s : State) (h : ∀ s a, (g s a).net = s.net) :
    (l.foldl g s).net = s.net := by
  induction l generalizing s with
  | nil => rfl
  | cons a l ih => rw [List.foldl_cons, ih, h]

theorem foldl_keeps_run {α : Type} (g : State → α → State) (l : List α) (s : State) (h : ∀ s a, (g s a).run = s.run) :
    (l.foldl g s).run = s.run := by
  induction l generalizing s with
  | nil => rfl
  | cons a l ih => rw [List.foldl_cons, ih, h]

theorem foldl_keeps_mem {α : Type} (g : State → α → State) (l : List α) (s : State) (h : ∀ s a, (g s a).mem = s.mem) :
    (l.foldl g s).mem = s.mem := by
  induction l generalizing s with
  | nil => rfl
  | cons a l ih => rw [List.foldl_cons, ih, h]

theorem foldl_keeps_setBits {α : Type} (g : State → α → State) (l : List α) (s : State) (h : ∀ s a,
  (g s a).setBits = s.setBits) :
    (l.foldl g s).setBits = s.setBits := by
  induction l generalizing s with
  | nil => rfl
  | cons a l ih => rw [List.foldl_cons, ih, h]

theorem foldl_keeps_pending {α : Type} (g : State → α → State) (l : List α) (s : State) (h : ∀ s a,
  (g s a).pending = s.pending) :
    (l.foldl g s).pending = s.pending := by
  induction l generalizing s with
  | nil => rfl
  | cons a l ih => rw [List.foldl_cons, ih, h]

@[simp] theorem State.setBit_keeps (addr i : Nat) (s : State) :
    (s.setBit addr i).now = s.now ∧ (s.setBit addr i).free = s.free ∧ (s.setBit addr i).sys = s.sys ∧
    (s.setBit addr i).fs = s.fs ∧ (s.setBit addr i).hub = s.hub ∧ (s.setBit addr i).rtc = s.rtc ∧
    (s.setBit addr i).pwr = s.pwr ∧ (s.setBit addr i).sil = s.sil ∧ (s.setBit addr i).twin = s.twin ∧
    (s.setBit addr i).pairs = s.pairs ∧ (s.setBit addr i).fab = s.fab ∧ (s.setBit addr i).acc = s.acc ∧
    (s.setBit addr i).se = s.se ∧ (s.setBit addr i).loops = s.loops ∧ (s.setBit addr i).plan = s.plan ∧
    (s.setBit addr i).prog = s.prog ∧ (s.setBit addr i).mtr = s.mtr ∧ (s.setBit addr i).can = s.can ∧
    (s.setBit addr i).dio = s.dio ∧ (s.setBit addr i).key = s.key ∧ (s.setBit addr i).net = s.net ∧
    (s.setBit addr i).run = s.run ∧ (s.setBit addr i).mem = s.mem ∧ (s.setBit addr i).pending = s.pending := by
  simp [State.setBit]

@[simp] theorem State.setIf_keeps (c : Bool) (addr i : Nat) (s : State) :
    (s.setIf c addr i).now = s.now ∧ (s.setIf c addr i).free = s.free ∧ (s.setIf c addr i).sys = s.sys ∧
    (s.setIf c addr i).fs = s.fs ∧ (s.setIf c addr i).hub = s.hub ∧ (s.setIf c addr i).rtc = s.rtc ∧
    (s.setIf c addr i).pwr = s.pwr ∧ (s.setIf c addr i).sil = s.sil ∧ (s.setIf c addr i).twin = s.twin ∧
    (s.setIf c addr i).pairs = s.pairs ∧ (s.setIf c addr i).fab = s.fab ∧ (s.setIf c addr i).acc = s.acc ∧
    (s.setIf c addr i).se = s.se ∧ (s.setIf c addr i).loops = s.loops ∧ (s.setIf c addr i).plan = s.plan ∧
    (s.setIf c addr i).prog = s.prog ∧ (s.setIf c addr i).mtr = s.mtr ∧ (s.setIf c addr i).can = s.can ∧
    (s.setIf c addr i).dio = s.dio ∧ (s.setIf c addr i).key = s.key ∧ (s.setIf c addr i).net = s.net ∧
    (s.setIf c addr i).run = s.run ∧ (s.setIf c addr i).mem = s.mem ∧ (s.setIf c addr i).pending = s.pending := by
  unfold State.setIf; (repeat' split) <;> simp

@[simp] theorem State.answer_keeps (w : Initiator) (d : Nat) (s : State) :
    (s.answer w d).sil = s.sil ∧ (s.answer w d).pairs = s.pairs ∧ (s.answer w d).key = s.key ∧
    (s.answer w d).run = s.run ∧ (s.answer w d).mem = s.mem ∧ (s.answer w d).pending = s.pending := by
  simp [State.answer]

@[simp] theorem State.keepOld_keeps (a n : Nat) (s : State) :
    (s.keepOld a n).now = s.now ∧ (s.keepOld a n).free = s.free ∧ (s.keepOld a n).sys = s.sys ∧
    (s.keepOld a n).fs = s.fs ∧ (s.keepOld a n).hub = s.hub ∧ (s.keepOld a n).rtc = s.rtc ∧
    (s.keepOld a n).pwr = s.pwr ∧ (s.keepOld a n).sil = s.sil ∧ (s.keepOld a n).twin = s.twin ∧
    (s.keepOld a n).pairs = s.pairs ∧ (s.keepOld a n).acc = s.acc ∧ (s.keepOld a n).loops = s.loops ∧
    (s.keepOld a n).plan = s.plan ∧ (s.keepOld a n).prog = s.prog ∧ (s.keepOld a n).mtr = s.mtr ∧
    (s.keepOld a n).can = s.can ∧ (s.keepOld a n).dio = s.dio ∧ (s.keepOld a n).key = s.key ∧
    (s.keepOld a n).net = s.net ∧ (s.keepOld a n).run = s.run ∧ (s.keepOld a n).mem = s.mem ∧
    (s.keepOld a n).setBits = s.setBits ∧ (s.keepOld a n).pending = s.pending := by
  unfold State.keepOld; (repeat' split) <;> simp

@[simp] theorem State.busWrite_keeps (code a : Nat) (bs : List Byte) (s : State) :
    (s.busWrite code a bs).now = s.now ∧ (s.busWrite code a bs).free = s.free ∧ (s.busWrite code a bs).sys = s.sys ∧
    (s.busWrite code a bs).fs = s.fs ∧ (s.busWrite code a bs).hub = s.hub ∧ (s.busWrite code a bs).rtc = s.rtc ∧
    (s.busWrite code a bs).pwr = s.pwr ∧ (s.busWrite code a bs).sil = s.sil ∧ (s.busWrite code a bs).twin = s.twin ∧
    (s.busWrite code a bs).pairs = s.pairs ∧ (s.busWrite code a bs).acc = s.acc ∧
    (s.busWrite code a bs).loops = s.loops ∧ (s.busWrite code a bs).plan = s.plan ∧
    (s.busWrite code a bs).prog = s.prog ∧ (s.busWrite code a bs).mtr = s.mtr ∧ (s.busWrite code a bs).can = s.can ∧
    (s.busWrite code a bs).dio = s.dio ∧ (s.busWrite code a bs).key = s.key ∧ (s.busWrite code a bs).net = s.net ∧
    (s.busWrite code a bs).run = s.run ∧ (s.busWrite code a bs).setBits = s.setBits ∧
    (s.busWrite code a bs).pending = s.pending := by
  simp [State.busWrite]

@[simp] theorem State.signal_keeps (base lat : Nat) (t : Fin 9) (s : State) :
    (s.signal base lat t).now = s.now ∧ (s.signal base lat t).free = s.free ∧ (s.signal base lat t).sys = s.sys ∧
    (s.signal base lat t).fs = s.fs ∧ (s.signal base lat t).rtc = s.rtc ∧ (s.signal base lat t).pwr = s.pwr ∧
    (s.signal base lat t).sil = s.sil ∧ (s.signal base lat t).twin = s.twin ∧ (s.signal base lat t).pairs = s.pairs ∧
    (s.signal base lat t).fab = s.fab ∧ (s.signal base lat t).acc = s.acc ∧ (s.signal base lat t).se = s.se ∧
    (s.signal base lat t).loops = s.loops ∧ (s.signal base lat t).plan = s.plan ∧ (s.signal base lat t).prog = s.prog ∧
    (s.signal base lat t).mtr = s.mtr ∧ (s.signal base lat t).can = s.can ∧ (s.signal base lat t).dio = s.dio ∧
    (s.signal base lat t).key = s.key ∧ (s.signal base lat t).net = s.net ∧ (s.signal base lat t).run = s.run ∧
    (s.signal base lat t).mem = s.mem ∧ (s.signal base lat t).setBits = s.setBits ∧
    (s.signal base lat t).pending = s.pending := by
  unfold State.signal; dsimp only; (repeat' split) <;> simp

@[simp] theorem State.dropBit_keeps (addr i : Nat) (s : State) :
    (s.dropBit addr i).now = s.now ∧ (s.dropBit addr i).free = s.free ∧ (s.dropBit addr i).sys = s.sys ∧ (s.dropBit
    addr i).fs = s.fs ∧ (s.dropBit addr i).hub = s.hub ∧ (s.dropBit addr i).rtc = s.rtc ∧ (s.dropBit addr i).pwr =
    s.pwr ∧ (s.dropBit addr i).sil = s.sil ∧ (s.dropBit addr i).twin = s.twin ∧ (s.dropBit addr i).pairs = s.pairs ∧
    (s.dropBit addr i).fab = s.fab ∧ (s.dropBit addr i).acc = s.acc ∧ (s.dropBit addr i).se = s.se ∧ (s.dropBit addr
    i).loops = s.loops ∧ (s.dropBit addr i).plan = s.plan ∧ (s.dropBit addr i).prog = s.prog ∧ (s.dropBit addr i).mtr
    = s.mtr ∧ (s.dropBit addr i).can = s.can ∧ (s.dropBit addr i).dio = s.dio ∧ (s.dropBit addr i).key = s.key ∧
    (s.dropBit addr i).net = s.net ∧ (s.dropBit addr i).run = s.run ∧ (s.dropBit addr i).mem = s.mem ∧ (s.dropBit
    addr i).pending = s.pending := by
  simp -implicitDefEqProofs [State.dropBit]

@[simp] theorem State.signalAll_keeps (lat : Nat) (s : State) :
    (s.signalAll lat).now = s.now ∧ (s.signalAll lat).free = s.free ∧ (s.signalAll lat).sys = s.sys ∧
    (s.signalAll lat).fs = s.fs ∧ (s.signalAll lat).rtc = s.rtc ∧ (s.signalAll lat).pwr = s.pwr ∧
    (s.signalAll lat).sil = s.sil ∧ (s.signalAll lat).twin = s.twin ∧ (s.signalAll lat).pairs = s.pairs ∧
    (s.signalAll lat).fab = s.fab ∧ (s.signalAll lat).acc = s.acc ∧ (s.signalAll lat).se = s.se ∧
    (s.signalAll lat).loops = s.loops ∧ (s.signalAll lat).plan = s.plan ∧ (s.signalAll lat).prog = s.prog ∧
    (s.signalAll lat).mtr = s.mtr ∧ (s.signalAll lat).can = s.can ∧ (s.signalAll lat).dio = s.dio ∧
    (s.signalAll lat).key = s.key ∧ (s.signalAll lat).net = s.net ∧ (s.signalAll lat).run = s.run ∧
    (s.signalAll lat).mem = s.mem ∧ (s.signalAll lat).setBits = s.setBits ∧
    (s.signalAll lat).pending = s.pending := by
  simp [State.signalAll, foldl_keeps_now, foldl_keeps_free, foldl_keeps_sys, foldl_keeps_fs, foldl_keeps_rtc,
    foldl_keeps_pwr, foldl_keeps_sil, foldl_keeps_twin, foldl_keeps_pairs, foldl_keeps_fab, foldl_keeps_acc,
    foldl_keeps_se, foldl_keeps_loops, foldl_keeps_plan, foldl_keeps_prog, foldl_keeps_mtr, foldl_keeps_can,
    foldl_keeps_dio, foldl_keeps_key, foldl_keeps_net, foldl_keeps_run, foldl_keeps_mem, foldl_keeps_setBits,
    foldl_keeps_pending]

@[simp] theorem State.assertOne_keeps (src : Nat) (s : State) :
    (s.assertOne src).now = s.now ∧ (s.assertOne src).free = s.free ∧ (s.assertOne src).sys = s.sys ∧
    (s.assertOne src).fs = s.fs ∧ (s.assertOne src).rtc = s.rtc ∧ (s.assertOne src).pwr = s.pwr ∧
    (s.assertOne src).sil = s.sil ∧ (s.assertOne src).twin = s.twin ∧ (s.assertOne src).pairs = s.pairs ∧
    (s.assertOne src).fab = s.fab ∧ (s.assertOne src).acc = s.acc ∧ (s.assertOne src).se = s.se ∧
    (s.assertOne src).loops = s.loops ∧ (s.assertOne src).plan = s.plan ∧ (s.assertOne src).prog = s.prog ∧
    (s.assertOne src).mtr = s.mtr ∧ (s.assertOne src).can = s.can ∧ (s.assertOne src).dio = s.dio ∧
    (s.assertOne src).key = s.key ∧ (s.assertOne src).net = s.net ∧ (s.assertOne src).run = s.run ∧
    (s.assertOne src).mem = s.mem ∧ (s.assertOne src).setBits = s.setBits ∧
    (s.assertOne src).pending = s.pending := by
  simp [State.assertOne]

@[simp] theorem State.raise_keeps (src : Nat) (s : State) :
    (s.raise src).now = s.now ∧ (s.raise src).free = s.free ∧ (s.raise src).sys = s.sys ∧ (s.raise src).fs = s.fs ∧
    (s.raise src).rtc = s.rtc ∧ (s.raise src).pwr = s.pwr ∧ (s.raise src).sil = s.sil ∧ (s.raise src).twin = s.twin ∧
    (s.raise src).pairs = s.pairs ∧ (s.raise src).fab = s.fab ∧ (s.raise src).acc = s.acc ∧ (s.raise src).se = s.se ∧
    (s.raise src).loops = s.loops ∧ (s.raise src).plan = s.plan ∧ (s.raise src).prog = s.prog ∧
    (s.raise src).mtr = s.mtr ∧ (s.raise src).can = s.can ∧ (s.raise src).dio = s.dio ∧ (s.raise src).key = s.key ∧
    (s.raise src).net = s.net ∧ (s.raise src).run = s.run ∧ (s.raise src).mem = s.mem ∧
    (s.raise src).setBits = s.setBits ∧ (s.raise src).pending = s.pending := by
  simp [State.raise]

@[simp] theorem State.raiseEn_keeps (en base i : Nat) (s : State) :
    (s.raiseEn en base i).now = s.now ∧ (s.raiseEn en base i).free = s.free ∧ (s.raiseEn en base i).sys = s.sys ∧
    (s.raiseEn en base i).fs = s.fs ∧ (s.raiseEn en base i).rtc = s.rtc ∧ (s.raiseEn en base i).pwr = s.pwr ∧
    (s.raiseEn en base i).sil = s.sil ∧ (s.raiseEn en base i).twin = s.twin ∧ (s.raiseEn en base i).pairs = s.pairs ∧
    (s.raiseEn en base i).fab = s.fab ∧ (s.raiseEn en base i).acc = s.acc ∧ (s.raiseEn en base i).se = s.se ∧
    (s.raiseEn en base i).loops = s.loops ∧ (s.raiseEn en base i).plan = s.plan ∧ (s.raiseEn en base i).prog = s.prog ∧
    (s.raiseEn en base i).mtr = s.mtr ∧ (s.raiseEn en base i).can = s.can ∧ (s.raiseEn en base i).dio = s.dio ∧
    (s.raiseEn en base i).key = s.key ∧ (s.raiseEn en base i).net = s.net ∧ (s.raiseEn en base i).run = s.run ∧
    (s.raiseEn en base i).mem = s.mem ∧ (s.raiseEn en base i).setBits = s.setBits ∧
    (s.raiseEn en base i).pending = s.pending := by
  unfold State.raiseEn; split <;> simp

@[simp] theorem State.enter_keeps (e : SilEntry) (s : State) :
    (s.enter e).now = s.now ∧ (s.enter e).free = s.free ∧ (s.enter e).sys = s.sys ∧ (s.enter e).fs = s.fs ∧
    (s.enter e).rtc = s.rtc ∧ (s.enter e).pwr = s.pwr ∧ (s.enter e).twin = s.twin ∧ (s.enter e).pairs = s.pairs ∧
    (s.enter e).fab = s.fab ∧ (s.enter e).acc = s.acc ∧ (s.enter e).se = s.se ∧ (s.enter e).loops = s.loops ∧
    (s.enter e).plan = s.plan ∧ (s.enter e).prog = s.prog ∧ (s.enter e).mtr = s.mtr ∧ (s.enter e).can = s.can ∧
    (s.enter e).dio = s.dio ∧ (s.enter e).key = s.key ∧ (s.enter e).net = s.net ∧ (s.enter e).run = s.run ∧
    (s.enter e).mem = s.mem ∧ (s.enter e).pending = s.pending := by
  unfold State.enter; split <;> simp

@[simp] theorem State.log_keeps (block inst cls num : Nat) (payload : List Byte) (s : State) :
    (s.log block inst cls num payload).now = s.now ∧ (s.log block inst cls num payload).free = s.free ∧
    (s.log block inst cls num payload).sys = s.sys ∧ (s.log block inst cls num payload).fs = s.fs ∧
    (s.log block inst cls num payload).rtc = s.rtc ∧ (s.log block inst cls num payload).pwr = s.pwr ∧
    (s.log block inst cls num payload).twin = s.twin ∧ (s.log block inst cls num payload).pairs = s.pairs ∧
    (s.log block inst cls num payload).fab = s.fab ∧ (s.log block inst cls num payload).acc = s.acc ∧
    (s.log block inst cls num payload).se = s.se ∧ (s.log block inst cls num payload).loops = s.loops ∧
    (s.log block inst cls num payload).plan = s.plan ∧ (s.log block inst cls num payload).prog = s.prog ∧
    (s.log block inst cls num payload).mtr = s.mtr ∧ (s.log block inst cls num payload).can = s.can ∧
    (s.log block inst cls num payload).dio = s.dio ∧ (s.log block inst cls num payload).key = s.key ∧
    (s.log block inst cls num payload).net = s.net ∧ (s.log block inst cls num payload).run = s.run ∧
    (s.log block inst cls num payload).mem = s.mem ∧ (s.log block inst cls num payload).pending = s.pending := by
  simp [State.log]

@[simp] theorem State.corrected_keeps (k : Nat) (s : State) :
    (s.corrected k).now = s.now ∧ (s.corrected k).free = s.free ∧ (s.corrected k).sys = s.sys ∧
    (s.corrected k).fs = s.fs ∧ (s.corrected k).hub = s.hub ∧ (s.corrected k).rtc = s.rtc ∧
    (s.corrected k).pwr = s.pwr ∧ (s.corrected k).sil = s.sil ∧ (s.corrected k).twin = s.twin ∧
    (s.corrected k).pairs = s.pairs ∧ (s.corrected k).acc = s.acc ∧ (s.corrected k).se = s.se ∧
    (s.corrected k).loops = s.loops ∧ (s.corrected k).plan = s.plan ∧ (s.corrected k).prog = s.prog ∧
    (s.corrected k).mtr = s.mtr ∧ (s.corrected k).can = s.can ∧ (s.corrected k).dio = s.dio ∧
    (s.corrected k).key = s.key ∧ (s.corrected k).net = s.net ∧ (s.corrected k).run = s.run ∧
    (s.corrected k).mem = s.mem ∧ (s.corrected k).setBits = s.setBits ∧ (s.corrected k).pending = s.pending := by
  simp [State.corrected]

@[simp] theorem State.uncorrected_keeps (s : State) :
    s.uncorrected.now = s.now ∧ s.uncorrected.free = s.free ∧ s.uncorrected.sys = s.sys ∧ s.uncorrected.fs = s.fs ∧
    s.uncorrected.rtc = s.rtc ∧ s.uncorrected.pwr = s.pwr ∧ s.uncorrected.sil = s.sil ∧ s.uncorrected.twin = s.twin ∧
    s.uncorrected.pairs = s.pairs ∧ s.uncorrected.acc = s.acc ∧ s.uncorrected.se = s.se ∧
    s.uncorrected.loops = s.loops ∧ s.uncorrected.plan = s.plan ∧ s.uncorrected.prog = s.prog ∧
    s.uncorrected.mtr = s.mtr ∧ s.uncorrected.can = s.can ∧ s.uncorrected.dio = s.dio ∧ s.uncorrected.key = s.key ∧
    s.uncorrected.net = s.net ∧ s.uncorrected.run = s.run ∧ s.uncorrected.mem = s.mem ∧
    s.uncorrected.setBits = s.setBits ∧ s.uncorrected.pending = s.pending := by
  simp [State.uncorrected]

@[simp] theorem State.accessError_keeps (e : AccessError) (s : State) :
    (s.accessError e).now = s.now ∧ (s.accessError e).free = s.free ∧ (s.accessError e).sys = s.sys ∧
    (s.accessError e).fs = s.fs ∧ (s.accessError e).rtc = s.rtc ∧ (s.accessError e).pwr = s.pwr ∧
    (s.accessError e).twin = s.twin ∧ (s.accessError e).pairs = s.pairs ∧ (s.accessError e).acc = s.acc ∧
    (s.accessError e).se = s.se ∧ (s.accessError e).loops = s.loops ∧ (s.accessError e).plan = s.plan ∧
    (s.accessError e).prog = s.prog ∧ (s.accessError e).mtr = s.mtr ∧ (s.accessError e).can = s.can ∧
    (s.accessError e).dio = s.dio ∧ (s.accessError e).key = s.key ∧ (s.accessError e).net = s.net ∧
    (s.accessError e).run = s.run ∧ (s.accessError e).mem = s.mem ∧ (s.accessError e).pending = s.pending := by
  unfold State.accessError; (repeat' split) <;> simp

@[simp] theorem State.refuse_keeps (cls addr : Nat) (w : Initiator) (v : Nat) (s : State) :
    (s.refuse cls addr w v).now = s.now ∧ (s.refuse cls addr w v).free = s.free ∧ (s.refuse cls addr w v).sys = s.sys ∧
    (s.refuse cls addr w v).fs = s.fs ∧ (s.refuse cls addr w v).rtc = s.rtc ∧ (s.refuse cls addr w v).pwr = s.pwr ∧
    (s.refuse cls addr w v).twin = s.twin ∧ (s.refuse cls addr w v).pairs = s.pairs ∧
    (s.refuse cls addr w v).fab = s.fab ∧ (s.refuse cls addr w v).acc = s.acc ∧ (s.refuse cls addr w v).se = s.se ∧
    (s.refuse cls addr w v).loops = s.loops ∧ (s.refuse cls addr w v).plan = s.plan ∧
    (s.refuse cls addr w v).prog = s.prog ∧ (s.refuse cls addr w v).mtr = s.mtr ∧ (s.refuse cls addr w v).can = s.can ∧
    (s.refuse cls addr w v).dio = s.dio ∧ (s.refuse cls addr w v).key = s.key ∧ (s.refuse cls addr w v).net = s.net ∧
    (s.refuse cls addr w v).run = s.run ∧ (s.refuse cls addr w v).mem = s.mem ∧
    (s.refuse cls addr w v).pending = s.pending := by
  simp [State.refuse]

@[simp] theorem State.enterState_keeps (m : ModState) (s : State) :
    (s.enterState m).now = s.now ∧ (s.enterState m).free = s.free ∧ (s.enterState m).fs = s.fs ∧
    (s.enterState m).rtc = s.rtc ∧ (s.enterState m).pwr = s.pwr ∧ (s.enterState m).twin = s.twin ∧
    (s.enterState m).pairs = s.pairs ∧ (s.enterState m).fab = s.fab ∧ (s.enterState m).acc = s.acc ∧
    (s.enterState m).se = s.se ∧ (s.enterState m).loops = s.loops ∧ (s.enterState m).plan = s.plan ∧
    (s.enterState m).prog = s.prog ∧ (s.enterState m).mtr = s.mtr ∧ (s.enterState m).can = s.can ∧
    (s.enterState m).dio = s.dio ∧ (s.enterState m).key = s.key ∧ (s.enterState m).net = s.net ∧
    (s.enterState m).run = s.run ∧ (s.enterState m).mem = s.mem ∧ (s.enterState m).pending = s.pending := by
  unfold State.enterState; split <;> simp

@[simp] theorem State.rtcRaise_keeps (i : Nat) (s : State) :
    (s.rtcRaise i).now = s.now ∧ (s.rtcRaise i).free = s.free ∧ (s.rtcRaise i).sys = s.sys ∧ (s.rtcRaise i).fs = s.fs ∧
    (s.rtcRaise i).rtc = s.rtc ∧ (s.rtcRaise i).pwr = s.pwr ∧ (s.rtcRaise i).sil = s.sil ∧
    (s.rtcRaise i).twin = s.twin ∧ (s.rtcRaise i).pairs = s.pairs ∧ (s.rtcRaise i).fab = s.fab ∧
    (s.rtcRaise i).acc = s.acc ∧ (s.rtcRaise i).se = s.se ∧ (s.rtcRaise i).loops = s.loops ∧
    (s.rtcRaise i).plan = s.plan ∧ (s.rtcRaise i).prog = s.prog ∧ (s.rtcRaise i).mtr = s.mtr ∧
    (s.rtcRaise i).can = s.can ∧ (s.rtcRaise i).dio = s.dio ∧ (s.rtcRaise i).key = s.key ∧ (s.rtcRaise i).net = s.net ∧
    (s.rtcRaise i).run = s.run ∧ (s.rtcRaise i).mem = s.mem ∧ (s.rtcRaise i).setBits = s.setBits ∧
    (s.rtcRaise i).pending = s.pending := by
  unfold State.rtcRaise; split <;> simp

@[simp] theorem State.rtcCompare_keeps (s : State) :
    s.rtcCompare.now = s.now ∧ s.rtcCompare.free = s.free ∧ s.rtcCompare.sys = s.sys ∧ s.rtcCompare.fs = s.fs ∧
    s.rtcCompare.pwr = s.pwr ∧ s.rtcCompare.sil = s.sil ∧ s.rtcCompare.twin = s.twin ∧ s.rtcCompare.pairs = s.pairs ∧
    s.rtcCompare.fab = s.fab ∧ s.rtcCompare.acc = s.acc ∧ s.rtcCompare.se = s.se ∧ s.rtcCompare.loops = s.loops ∧
    s.rtcCompare.plan = s.plan ∧ s.rtcCompare.prog = s.prog ∧ s.rtcCompare.mtr = s.mtr ∧ s.rtcCompare.can = s.can ∧
    s.rtcCompare.dio = s.dio ∧ s.rtcCompare.key = s.key ∧ s.rtcCompare.net = s.net ∧ s.rtcCompare.run = s.run ∧
    s.rtcCompare.mem = s.mem ∧ s.rtcCompare.pending = s.pending := by
  unfold State.rtcCompare; (repeat' split) <;> simp

@[simp] theorem State.rtcSync_keeps (s : State) :
    s.rtcSync.sys = s.sys ∧ s.rtcSync.fs = s.fs ∧ s.rtcSync.hub = s.hub ∧ s.rtcSync.rtc = s.rtc ∧
    s.rtcSync.pwr = s.pwr ∧ s.rtcSync.sil = s.sil ∧ s.rtcSync.twin = s.twin ∧ s.rtcSync.pairs = s.pairs ∧
    s.rtcSync.fab = s.fab ∧ s.rtcSync.acc = s.acc ∧ s.rtcSync.se = s.se ∧ s.rtcSync.loops = s.loops ∧
    s.rtcSync.plan = s.plan ∧ s.rtcSync.prog = s.prog ∧ s.rtcSync.mtr = s.mtr ∧ s.rtcSync.can = s.can ∧
    s.rtcSync.dio = s.dio ∧ s.rtcSync.key = s.key ∧ s.rtcSync.net = s.net ∧ s.rtcSync.run = s.run ∧
    s.rtcSync.mem = s.mem ∧ s.rtcSync.setBits = s.setBits ∧ s.rtcSync.pending = s.pending := by
  unfold State.rtcSync; (repeat' split) <;> simp

@[simp] theorem State.rtcCount_keeps (s : State) :
    s.rtcCount.now = s.now ∧ s.rtcCount.sys = s.sys ∧ s.rtcCount.fs = s.fs ∧ s.rtcCount.hub = s.hub ∧
    s.rtcCount.pwr = s.pwr ∧ s.rtcCount.sil = s.sil ∧ s.rtcCount.twin = s.twin ∧ s.rtcCount.pairs = s.pairs ∧
    s.rtcCount.fab = s.fab ∧ s.rtcCount.acc = s.acc ∧ s.rtcCount.se = s.se ∧ s.rtcCount.loops = s.loops ∧
    s.rtcCount.plan = s.plan ∧ s.rtcCount.prog = s.prog ∧ s.rtcCount.mtr = s.mtr ∧ s.rtcCount.can = s.can ∧
    s.rtcCount.dio = s.dio ∧ s.rtcCount.key = s.key ∧ s.rtcCount.net = s.net ∧ s.rtcCount.run = s.run ∧
    s.rtcCount.mem = s.mem ∧ s.rtcCount.setBits = s.setBits ∧ s.rtcCount.pending = s.pending := by
  unfold State.rtcCount; (repeat' split) <;> simp

@[simp] theorem State.rtcTick_keeps (s : State) :
    s.rtcTick.now = s.now ∧ s.rtcTick.free = s.free ∧ s.rtcTick.sys = s.sys ∧ s.rtcTick.fs = s.fs ∧
    s.rtcTick.pwr = s.pwr ∧ s.rtcTick.sil = s.sil ∧ s.rtcTick.twin = s.twin ∧ s.rtcTick.pairs = s.pairs ∧
    s.rtcTick.fab = s.fab ∧ s.rtcTick.acc = s.acc ∧ s.rtcTick.se = s.se ∧ s.rtcTick.loops = s.loops ∧
    s.rtcTick.plan = s.plan ∧ s.rtcTick.prog = s.prog ∧ s.rtcTick.mtr = s.mtr ∧ s.rtcTick.can = s.can ∧
    s.rtcTick.dio = s.dio ∧ s.rtcTick.key = s.key ∧ s.rtcTick.net = s.net ∧ s.rtcTick.run = s.run ∧
    s.rtcTick.mem = s.mem ∧ s.rtcTick.pending = s.pending := by
  unfold State.rtcTick; dsimp only; (repeat' split) <;> simp

@[simp] theorem State.rtcSet_keeps (w : Initiator) (v : Nat) (s : State) :
    (s.rtcSet w v).now = s.now ∧ (s.rtcSet w v).free = s.free ∧ (s.rtcSet w v).sys = s.sys ∧ (s.rtcSet w v).fs = s.fs ∧
    (s.rtcSet w v).pwr = s.pwr ∧ (s.rtcSet w v).twin = s.twin ∧ (s.rtcSet w v).pairs = s.pairs ∧
    (s.rtcSet w v).fab = s.fab ∧ (s.rtcSet w v).acc = s.acc ∧ (s.rtcSet w v).se = s.se ∧
    (s.rtcSet w v).loops = s.loops ∧ (s.rtcSet w v).plan = s.plan ∧ (s.rtcSet w v).prog = s.prog ∧
    (s.rtcSet w v).mtr = s.mtr ∧ (s.rtcSet w v).can = s.can ∧ (s.rtcSet w v).dio = s.dio ∧ (s.rtcSet w v).key = s.key ∧
    (s.rtcSet w v).net = s.net ∧ (s.rtcSet w v).run = s.run ∧ (s.rtcSet w v).mem = s.mem ∧
    (s.rtcSet w v).pending = s.pending := by
  unfold State.rtcSet State.guardWrite; dsimp only; (repeat' split) <;> simp

@[simp] theorem State.rtcApply_keeps (t1 : Cal) (s : State) :
    (s.rtcApply t1).pairs = s.pairs ∧ (s.rtcApply t1).key = s.key ∧ (s.rtcApply t1).run = s.run ∧
    (s.rtcApply t1).mem = s.mem ∧ (s.rtcApply t1).pending = s.pending := by
  unfold State.rtcApply; dsimp only; (repeat' split) <;> simp

@[simp] theorem State.rtcOpen_keeps (w : Initiator) (s : State) :
    (s.rtcOpen w).now = s.now ∧ (s.rtcOpen w).free = s.free ∧ (s.rtcOpen w).sys = s.sys ∧ (s.rtcOpen w).fs = s.fs ∧
    (s.rtcOpen w).hub = s.hub ∧ (s.rtcOpen w).pwr = s.pwr ∧ (s.rtcOpen w).sil = s.sil ∧ (s.rtcOpen w).twin = s.twin ∧
    (s.rtcOpen w).pairs = s.pairs ∧ (s.rtcOpen w).fab = s.fab ∧ (s.rtcOpen w).acc = s.acc ∧ (s.rtcOpen w).se = s.se ∧
    (s.rtcOpen w).loops = s.loops ∧ (s.rtcOpen w).plan = s.plan ∧ (s.rtcOpen w).prog = s.prog ∧
    (s.rtcOpen w).mtr = s.mtr ∧ (s.rtcOpen w).can = s.can ∧ (s.rtcOpen w).dio = s.dio ∧ (s.rtcOpen w).key = s.key ∧
    (s.rtcOpen w).net = s.net ∧ (s.rtcOpen w).run = s.run ∧ (s.rtcOpen w).mem = s.mem ∧
    (s.rtcOpen w).setBits = s.setBits ∧ (s.rtcOpen w).pending = s.pending := by
  simp [State.rtcOpen]

@[simp] theorem State.rtcClose_keeps (w : Initiator) (s : State) :
    (s.rtcClose w).now = s.now ∧ (s.rtcClose w).free = s.free ∧ (s.rtcClose w).sys = s.sys ∧ (s.rtcClose w).fs = s.fs ∧
    (s.rtcClose w).hub = s.hub ∧ (s.rtcClose w).pwr = s.pwr ∧ (s.rtcClose w).sil = s.sil ∧
    (s.rtcClose w).twin = s.twin ∧ (s.rtcClose w).pairs = s.pairs ∧ (s.rtcClose w).fab = s.fab ∧
    (s.rtcClose w).acc = s.acc ∧ (s.rtcClose w).se = s.se ∧ (s.rtcClose w).loops = s.loops ∧
    (s.rtcClose w).plan = s.plan ∧ (s.rtcClose w).prog = s.prog ∧ (s.rtcClose w).mtr = s.mtr ∧
    (s.rtcClose w).can = s.can ∧ (s.rtcClose w).dio = s.dio ∧ (s.rtcClose w).key = s.key ∧ (s.rtcClose w).net = s.net ∧
    (s.rtcClose w).run = s.run ∧ (s.rtcClose w).mem = s.mem ∧ (s.rtcClose w).setBits = s.setBits ∧
    (s.rtcClose w).pending = s.pending := by
  simp [State.rtcClose]

@[simp] theorem State.rtcTouch_keeps (s : State) (w : Initiator) (ofs : Nat) :
    (s.rtcTouch w ofs).sil = s.sil ∧ (s.rtcTouch w ofs).pairs = s.pairs ∧ (s.rtcTouch w ofs).key = s.key ∧
    (s.rtcTouch w ofs).run = s.run ∧ (s.rtcTouch w ofs).mem = s.mem ∧ (s.rtcTouch w ofs).pending = s.pending := by
  unfold State.rtcTouch; (repeat' split) <;> simp

@[simp] theorem State.rtcWrite_keeps (s : State) (w : Initiator) (ofs v : Nat) :
    (s.rtcWrite w ofs v).pairs = s.pairs ∧ (s.rtcWrite w ofs v).key = s.key ∧ (s.rtcWrite w ofs v).run = s.run ∧
    (s.rtcWrite w ofs v).mem = s.mem ∧ (s.rtcWrite w ofs v).pending = s.pending := by
  unfold State.rtcWrite State.guardWrite; (repeat' split) <;> simp

@[simp] theorem State.silRaise_keeps (i : Nat) (s : State) :
    (s.silRaise i).now = s.now ∧ (s.silRaise i).free = s.free ∧ (s.silRaise i).sys = s.sys ∧ (s.silRaise i).fs = s.fs ∧
    (s.silRaise i).rtc = s.rtc ∧ (s.silRaise i).pwr = s.pwr ∧ (s.silRaise i).sil = s.sil ∧
    (s.silRaise i).twin = s.twin ∧ (s.silRaise i).pairs = s.pairs ∧ (s.silRaise i).fab = s.fab ∧
    (s.silRaise i).acc = s.acc ∧ (s.silRaise i).se = s.se ∧ (s.silRaise i).loops = s.loops ∧
    (s.silRaise i).plan = s.plan ∧ (s.silRaise i).prog = s.prog ∧ (s.silRaise i).mtr = s.mtr ∧
    (s.silRaise i).can = s.can ∧ (s.silRaise i).dio = s.dio ∧ (s.silRaise i).key = s.key ∧ (s.silRaise i).net = s.net ∧
    (s.silRaise i).run = s.run ∧ (s.silRaise i).mem = s.mem ∧ (s.silRaise i).setBits = s.setBits ∧
    (s.silRaise i).pending = s.pending := by
  simp [State.silRaise]

@[simp] theorem State.silPut_keeps (w : Initiator) (v : Nat) (s : State) :
    (s.silPut w v).now = s.now ∧ (s.silPut w v).free = s.free ∧ (s.silPut w v).sys = s.sys ∧ (s.silPut w v).fs = s.fs ∧
    (s.silPut w v).rtc = s.rtc ∧ (s.silPut w v).pwr = s.pwr ∧ (s.silPut w v).twin = s.twin ∧
    (s.silPut w v).pairs = s.pairs ∧ (s.silPut w v).fab = s.fab ∧ (s.silPut w v).acc = s.acc ∧
    (s.silPut w v).se = s.se ∧ (s.silPut w v).loops = s.loops ∧ (s.silPut w v).plan = s.plan ∧
    (s.silPut w v).prog = s.prog ∧ (s.silPut w v).mtr = s.mtr ∧ (s.silPut w v).can = s.can ∧
    (s.silPut w v).dio = s.dio ∧ (s.silPut w v).key = s.key ∧ (s.silPut w v).net = s.net ∧ (s.silPut w v).run = s.run ∧
    (s.silPut w v).mem = s.mem ∧ (s.silPut w v).pending = s.pending := by
  unfold State.silPut State.guardWrite; (repeat' split) <;> simp

@[simp] theorem State.capture_keeps (reason : Nat) (s : State) :
    (s.capture reason).now = s.now ∧ (s.capture reason).free = s.free ∧ (s.capture reason).sys = s.sys ∧
    (s.capture reason).fs = s.fs ∧ (s.capture reason).rtc = s.rtc ∧ (s.capture reason).pwr = s.pwr ∧
    (s.capture reason).twin = s.twin ∧ (s.capture reason).pairs = s.pairs ∧ (s.capture reason).fab = s.fab ∧
    (s.capture reason).acc = s.acc ∧ (s.capture reason).se = s.se ∧ (s.capture reason).loops = s.loops ∧
    (s.capture reason).plan = s.plan ∧ (s.capture reason).prog = s.prog ∧ (s.capture reason).mtr = s.mtr ∧
    (s.capture reason).can = s.can ∧ (s.capture reason).dio = s.dio ∧ (s.capture reason).key = s.key ∧
    (s.capture reason).net = s.net ∧ (s.capture reason).run = s.run ∧ (s.capture reason).mem = s.mem ∧
    (s.capture reason).pending = s.pending := by
  unfold State.capture; (repeat' split) <;> simp

@[simp] theorem State.silRequest_keeps (s : State) :
    s.silRequest.now = s.now ∧ s.silRequest.free = s.free ∧ s.silRequest.sys = s.sys ∧ s.silRequest.fs = s.fs ∧
    s.silRequest.rtc = s.rtc ∧ s.silRequest.pwr = s.pwr ∧ s.silRequest.twin = s.twin ∧ s.silRequest.pairs = s.pairs ∧
    s.silRequest.fab = s.fab ∧ s.silRequest.acc = s.acc ∧ s.silRequest.se = s.se ∧ s.silRequest.loops = s.loops ∧
    s.silRequest.plan = s.plan ∧ s.silRequest.prog = s.prog ∧ s.silRequest.mtr = s.mtr ∧ s.silRequest.can = s.can ∧
    s.silRequest.dio = s.dio ∧ s.silRequest.key = s.key ∧ s.silRequest.net = s.net ∧ s.silRequest.run = s.run ∧
    s.silRequest.mem = s.mem ∧ s.silRequest.pending = s.pending := by
  simp [State.silRequest]

@[simp] theorem State.silCapture_keeps (w : Initiator) (s : State) :
    (s.silCapture w).pairs = s.pairs ∧ (s.silCapture w).key = s.key ∧ (s.silCapture w).run = s.run ∧
    (s.silCapture w).mem = s.mem ∧ (s.silCapture w).pending = s.pending := by
  unfold State.silCapture State.guardWrite; (repeat' split) <;> simp

@[simp] theorem State.finishCapture_keeps (s : State) :
    s.finishCapture.now = s.now ∧ s.finishCapture.free = s.free ∧ s.finishCapture.sys = s.sys ∧
    s.finishCapture.fs = s.fs ∧ s.finishCapture.rtc = s.rtc ∧ s.finishCapture.pwr = s.pwr ∧
    s.finishCapture.twin = s.twin ∧ s.finishCapture.pairs = s.pairs ∧ s.finishCapture.fab = s.fab ∧
    s.finishCapture.acc = s.acc ∧ s.finishCapture.se = s.se ∧ s.finishCapture.loops = s.loops ∧
    s.finishCapture.plan = s.plan ∧ s.finishCapture.prog = s.prog ∧ s.finishCapture.mtr = s.mtr ∧
    s.finishCapture.can = s.can ∧ s.finishCapture.dio = s.dio ∧ s.finishCapture.key = s.key ∧
    s.finishCapture.net = s.net ∧ s.finishCapture.run = s.run ∧ s.finishCapture.mem = s.mem ∧
    s.finishCapture.setBits = s.setBits ∧ s.finishCapture.pending = s.pending := by
  unfold State.finishCapture; split <;> simp

@[simp] theorem State.silHold_keeps (w : Initiator) (v : Nat) (s : State) :
    (s.silHold w v).pairs = s.pairs ∧ (s.silHold w v).key = s.key ∧ (s.silHold w v).run = s.run ∧
    (s.silHold w v).mem = s.mem ∧ (s.silHold w v).pending = s.pending := by
  unfold State.silHold State.guardWrite; (repeat' split) <;> simp

@[simp] theorem State.silBoot_keeps (s : State) :
    s.silBoot.pairs = s.pairs ∧ s.silBoot.key = s.key ∧ s.silBoot.run = s.run ∧ s.silBoot.mem = s.mem ∧
    s.silBoot.pending = s.pending := by
  unfold State.silBoot; split <;> simp

@[simp] theorem State.silWriteReg_keeps (s : State) (w : Initiator) (ofs v : Nat) :
    (s.silWriteReg w ofs v).pairs = s.pairs ∧ (s.silWriteReg w ofs v).key = s.key ∧
    (s.silWriteReg w ofs v).run = s.run ∧ (s.silWriteReg w ofs v).mem = s.mem ∧
    (s.silWriteReg w ofs v).pending = s.pending := by
  unfold State.silWriteReg; (repeat' split) <;> simp

@[simp] theorem State.silWrite_keeps (s : State) (w : Initiator) (ofs v : Nat) :
    (s.silWrite w ofs v).pairs = s.pairs ∧ (s.silWrite w ofs v).key = s.key ∧ (s.silWrite w ofs v).run = s.run ∧
    (s.silWrite w ofs v).mem = s.mem ∧ (s.silWrite w ofs v).pending = s.pending := by
  unfold State.silWrite State.guardWrite; (repeat' split) <;> simp

@[simp] theorem State.keyRaise_keeps (i : Nat) (s : State) :
    (s.keyRaise i).now = s.now ∧ (s.keyRaise i).free = s.free ∧ (s.keyRaise i).sys = s.sys ∧ (s.keyRaise i).fs = s.fs ∧
    (s.keyRaise i).rtc = s.rtc ∧ (s.keyRaise i).pwr = s.pwr ∧ (s.keyRaise i).sil = s.sil ∧
    (s.keyRaise i).twin = s.twin ∧ (s.keyRaise i).pairs = s.pairs ∧ (s.keyRaise i).fab = s.fab ∧
    (s.keyRaise i).acc = s.acc ∧ (s.keyRaise i).se = s.se ∧ (s.keyRaise i).loops = s.loops ∧
    (s.keyRaise i).plan = s.plan ∧ (s.keyRaise i).prog = s.prog ∧ (s.keyRaise i).mtr = s.mtr ∧
    (s.keyRaise i).can = s.can ∧ (s.keyRaise i).dio = s.dio ∧ (s.keyRaise i).key = s.key ∧ (s.keyRaise i).net = s.net ∧
    (s.keyRaise i).run = s.run ∧ (s.keyRaise i).mem = s.mem ∧ (s.keyRaise i).setBits = s.setBits ∧
    (s.keyRaise i).pending = s.pending := by
  simp [State.keyRaise]

@[simp] theorem State.markFell_keeps (s : State) :
    s.markFell.now = s.now ∧ s.markFell.free = s.free ∧ s.markFell.sys = s.sys ∧ s.markFell.fs = s.fs ∧
    s.markFell.hub = s.hub ∧ s.markFell.rtc = s.rtc ∧ s.markFell.pwr = s.pwr ∧ s.markFell.sil = s.sil ∧
    s.markFell.twin = s.twin ∧ s.markFell.pairs = s.pairs ∧ s.markFell.fab = s.fab ∧ s.markFell.acc = s.acc ∧
    s.markFell.se = s.se ∧ s.markFell.loops = s.loops ∧ s.markFell.plan = s.plan ∧ s.markFell.prog = s.prog ∧
    s.markFell.mtr = s.mtr ∧ s.markFell.can = s.can ∧ s.markFell.dio = s.dio ∧ s.markFell.net = s.net ∧
    s.markFell.run = s.run ∧ s.markFell.mem = s.mem ∧ s.markFell.setBits = s.setBits ∧
    s.markFell.pending = s.pending := by
  unfold State.markFell; split <;> simp

@[simp] theorem State.accLog_keeps (i : Nat) (s : State) :
    (s.accLog i).now = s.now ∧ (s.accLog i).free = s.free ∧ (s.accLog i).sys = s.sys ∧ (s.accLog i).fs = s.fs ∧
    (s.accLog i).rtc = s.rtc ∧ (s.accLog i).pwr = s.pwr ∧ (s.accLog i).twin = s.twin ∧ (s.accLog i).pairs = s.pairs ∧
    (s.accLog i).fab = s.fab ∧ (s.accLog i).acc = s.acc ∧ (s.accLog i).se = s.se ∧ (s.accLog i).loops = s.loops ∧
    (s.accLog i).plan = s.plan ∧ (s.accLog i).prog = s.prog ∧ (s.accLog i).mtr = s.mtr ∧ (s.accLog i).can = s.can ∧
    (s.accLog i).dio = s.dio ∧ (s.accLog i).key = s.key ∧ (s.accLog i).net = s.net ∧ (s.accLog i).run = s.run ∧
    (s.accLog i).mem = s.mem ∧ (s.accLog i).pending = s.pending := by
  simp [State.accLog]

@[simp] theorem State.accClose_keeps (s : State) :
    s.accClose.now = s.now ∧ s.accClose.free = s.free ∧ s.accClose.sys = s.sys ∧ s.accClose.fs = s.fs ∧
    s.accClose.rtc = s.rtc ∧ s.accClose.pwr = s.pwr ∧ s.accClose.twin = s.twin ∧ s.accClose.pairs = s.pairs ∧
    s.accClose.fab = s.fab ∧ s.accClose.acc = s.acc ∧ s.accClose.se = s.se ∧ s.accClose.loops = s.loops ∧
    s.accClose.plan = s.plan ∧ s.accClose.prog = s.prog ∧ s.accClose.mtr = s.mtr ∧ s.accClose.can = s.can ∧
    s.accClose.dio = s.dio ∧ s.accClose.net = s.net ∧ s.accClose.run = s.run ∧ s.accClose.mem = s.mem ∧
    s.accClose.pending = s.pending := by
  unfold State.accClose; split <;> simp

@[simp] theorem State.settleAcc_keeps (s : State) :
    s.settleAcc.now = s.now ∧ s.settleAcc.free = s.free ∧ s.settleAcc.sys = s.sys ∧ s.settleAcc.fs = s.fs ∧
    s.settleAcc.rtc = s.rtc ∧ s.settleAcc.pwr = s.pwr ∧ s.settleAcc.twin = s.twin ∧ s.settleAcc.pairs = s.pairs ∧
    s.settleAcc.fab = s.fab ∧ s.settleAcc.acc = s.acc ∧ s.settleAcc.se = s.se ∧ s.settleAcc.loops = s.loops ∧
    s.settleAcc.plan = s.plan ∧ s.settleAcc.prog = s.prog ∧ s.settleAcc.mtr = s.mtr ∧ s.settleAcc.can = s.can ∧
    s.settleAcc.dio = s.dio ∧ s.settleAcc.net = s.net ∧ s.settleAcc.run = s.run ∧ s.settleAcc.mem = s.mem ∧
    s.settleAcc.pending = s.pending := by
  unfold State.settleAcc; (repeat' split) <;> simp

@[simp] theorem State.keyRefuse_keeps (cmd err : Nat) (s : State) :
    (s.keyRefuse cmd err).now = s.now ∧ (s.keyRefuse cmd err).free = s.free ∧ (s.keyRefuse cmd err).sys = s.sys ∧
    (s.keyRefuse cmd err).fs = s.fs ∧ (s.keyRefuse cmd err).rtc = s.rtc ∧ (s.keyRefuse cmd err).pwr = s.pwr ∧
    (s.keyRefuse cmd err).sil = s.sil ∧ (s.keyRefuse cmd err).twin = s.twin ∧ (s.keyRefuse cmd err).pairs = s.pairs ∧
    (s.keyRefuse cmd err).fab = s.fab ∧ (s.keyRefuse cmd err).acc = s.acc ∧ (s.keyRefuse cmd err).se = s.se ∧
    (s.keyRefuse cmd err).loops = s.loops ∧ (s.keyRefuse cmd err).plan = s.plan ∧ (s.keyRefuse cmd err).prog = s.prog ∧
    (s.keyRefuse cmd err).mtr = s.mtr ∧ (s.keyRefuse cmd err).can = s.can ∧ (s.keyRefuse cmd err).dio = s.dio ∧
    (s.keyRefuse cmd err).net = s.net ∧ (s.keyRefuse cmd err).run = s.run ∧ (s.keyRefuse cmd err).mem = s.mem ∧
    (s.keyRefuse cmd err).setBits = s.setBits ∧ (s.keyRefuse cmd err).pending = s.pending := by
  simp [State.keyRefuse]

@[simp] theorem State.keyNext_keeps (s : State) :
    s.keyNext.now = s.now ∧ s.keyNext.free = s.free ∧ s.keyNext.sys = s.sys ∧ s.keyNext.fs = s.fs ∧
    s.keyNext.hub = s.hub ∧ s.keyNext.rtc = s.rtc ∧ s.keyNext.pwr = s.pwr ∧ s.keyNext.sil = s.sil ∧
    s.keyNext.twin = s.twin ∧ s.keyNext.pairs = s.pairs ∧ s.keyNext.fab = s.fab ∧ s.keyNext.acc = s.acc ∧
    s.keyNext.se = s.se ∧ s.keyNext.loops = s.loops ∧ s.keyNext.plan = s.plan ∧ s.keyNext.prog = s.prog ∧
    s.keyNext.mtr = s.mtr ∧ s.keyNext.can = s.can ∧ s.keyNext.dio = s.dio ∧ s.keyNext.net = s.net ∧
    s.keyNext.mem = s.mem ∧ s.keyNext.setBits = s.setBits ∧ s.keyNext.pending = s.pending := by
  unfold State.keyNext; split <;> simp

@[simp] theorem State.uartReply_keeps (type result : Nat) (payload : List Byte) (s : State) :
    (s.uartReply type result payload).now = s.now ∧ (s.uartReply type result payload).free = s.free ∧
    (s.uartReply type result payload).sys = s.sys ∧ (s.uartReply type result payload).fs = s.fs ∧
    (s.uartReply type result payload).hub = s.hub ∧ (s.uartReply type result payload).rtc = s.rtc ∧
    (s.uartReply type result payload).pwr = s.pwr ∧ (s.uartReply type result payload).sil = s.sil ∧
    (s.uartReply type result payload).twin = s.twin ∧ (s.uartReply type result payload).pairs = s.pairs ∧
    (s.uartReply type result payload).fab = s.fab ∧ (s.uartReply type result payload).acc = s.acc ∧
    (s.uartReply type result payload).se = s.se ∧ (s.uartReply type result payload).loops = s.loops ∧
    (s.uartReply type result payload).plan = s.plan ∧ (s.uartReply type result payload).prog = s.prog ∧
    (s.uartReply type result payload).mtr = s.mtr ∧ (s.uartReply type result payload).can = s.can ∧
    (s.uartReply type result payload).dio = s.dio ∧ (s.uartReply type result payload).net = s.net ∧
    (s.uartReply type result payload).run = s.run ∧ (s.uartReply type result payload).mem = s.mem ∧
    (s.uartReply type result payload).setBits = s.setBits ∧
    (s.uartReply type result payload).pending = s.pending := by
  simp [State.uartReply]

@[simp] theorem State.keyEnd_keeps (err cyc : Nat) (out : List Byte) (s : State) :
    (s.keyEnd err cyc out).free = s.free ∧ (s.keyEnd err cyc out).sys = s.sys ∧ (s.keyEnd err cyc out).fs = s.fs ∧
    (s.keyEnd err cyc out).rtc = s.rtc ∧ (s.keyEnd err cyc out).pwr = s.pwr ∧ (s.keyEnd err cyc out).sil = s.sil ∧
    (s.keyEnd err cyc out).twin = s.twin ∧ (s.keyEnd err cyc out).pairs = s.pairs ∧ (s.keyEnd err cyc out).fab = s.fab ∧
    (s.keyEnd err cyc out).acc = s.acc ∧ (s.keyEnd err cyc out).se = s.se ∧ (s.keyEnd err cyc out).loops = s.loops ∧
    (s.keyEnd err cyc out).plan = s.plan ∧ (s.keyEnd err cyc out).prog = s.prog ∧ (s.keyEnd err cyc out).mtr = s.mtr ∧
    (s.keyEnd err cyc out).can = s.can ∧ (s.keyEnd err cyc out).dio = s.dio ∧ (s.keyEnd err cyc out).net = s.net ∧
    (s.keyEnd err cyc out).mem = s.mem ∧ (s.keyEnd err cyc out).setBits = s.setBits ∧
    (s.keyEnd err cyc out).pending = s.pending := by
  unfold State.keyEnd; (repeat' split) <;> simp

@[simp] theorem State.revoke_keeps (k : Nat) (s : State) :
    (s.revoke k).free = s.free ∧ (s.revoke k).sys = s.sys ∧ (s.revoke k).fs = s.fs ∧ (s.revoke k).rtc = s.rtc ∧
    (s.revoke k).pwr = s.pwr ∧ (s.revoke k).sil = s.sil ∧ (s.revoke k).twin = s.twin ∧ (s.revoke k).pairs = s.pairs ∧
    (s.revoke k).fab = s.fab ∧ (s.revoke k).acc = s.acc ∧ (s.revoke k).se = s.se ∧ (s.revoke k).loops = s.loops ∧
    (s.revoke k).plan = s.plan ∧ (s.revoke k).prog = s.prog ∧ (s.revoke k).mtr = s.mtr ∧ (s.revoke k).can = s.can ∧
    (s.revoke k).dio = s.dio ∧ (s.revoke k).net = s.net ∧ (s.revoke k).mem = s.mem ∧ (s.revoke k).setBits = s.setBits ∧
    (s.revoke k).pending = s.pending := by
  unfold State.revoke; dsimp only; (repeat' split) <;> simp

@[simp] theorem State.keySubmit_keeps (r : KeyReq) (s0 : State) :
    (s0.keySubmit r).free = s0.free ∧ (s0.keySubmit r).sys = s0.sys ∧ (s0.keySubmit r).fs = s0.fs ∧
    (s0.keySubmit r).rtc = s0.rtc ∧ (s0.keySubmit r).pwr = s0.pwr ∧ (s0.keySubmit r).twin = s0.twin ∧
    (s0.keySubmit r).pairs = s0.pairs ∧ (s0.keySubmit r).fab = s0.fab ∧ (s0.keySubmit r).acc = s0.acc ∧
    (s0.keySubmit r).se = s0.se ∧ (s0.keySubmit r).loops = s0.loops ∧ (s0.keySubmit r).plan = s0.plan ∧
    (s0.keySubmit r).prog = s0.prog ∧ (s0.keySubmit r).mtr = s0.mtr ∧ (s0.keySubmit r).can = s0.can ∧
    (s0.keySubmit r).dio = s0.dio ∧ (s0.keySubmit r).net = s0.net ∧ (s0.keySubmit r).mem = s0.mem ∧
    (s0.keySubmit r).pending = s0.pending := by
  unfold State.keySubmit; dsimp only; (repeat' split) <;> simp

@[simp] theorem State.keyCmd_keeps (w : Initiator) (v : Nat) (s : State) :
    (s.keyCmd w v).free = s.free ∧ (s.keyCmd w v).sys = s.sys ∧ (s.keyCmd w v).fs = s.fs ∧ (s.keyCmd w v).rtc = s.rtc ∧
    (s.keyCmd w v).pwr = s.pwr ∧ (s.keyCmd w v).twin = s.twin ∧ (s.keyCmd w v).pairs = s.pairs ∧
    (s.keyCmd w v).fab = s.fab ∧ (s.keyCmd w v).acc = s.acc ∧ (s.keyCmd w v).se = s.se ∧
    (s.keyCmd w v).loops = s.loops ∧ (s.keyCmd w v).plan = s.plan ∧ (s.keyCmd w v).prog = s.prog ∧
    (s.keyCmd w v).mtr = s.mtr ∧ (s.keyCmd w v).can = s.can ∧ (s.keyCmd w v).dio = s.dio ∧ (s.keyCmd w v).net = s.net ∧
    (s.keyCmd w v).mem = s.mem ∧ (s.keyCmd w v).pending = s.pending := by
  unfold State.keyCmd State.guardWrite; (repeat' split) <;> simp

@[simp] theorem State.killAll_keeps (s : State) :
    s.killAll.pairs = s.pairs ∧ s.killAll.mem = s.mem ∧ s.killAll.pending = s.pending := by
  simp [State.killAll, foldl_keeps_pairs, foldl_keeps_mem, foldl_keeps_pending]

@[simp] theorem State.fill_keeps (u : KeyRun) (m : Except Nat MadeKey) (s : State) :
    (s.fill u m).sys = s.sys ∧ (s.fill u m).fs = s.fs ∧ (s.fill u m).rtc = s.rtc ∧ (s.fill u m).pwr = s.pwr ∧
    (s.fill u m).sil = s.sil ∧ (s.fill u m).twin = s.twin ∧ (s.fill u m).pairs = s.pairs ∧ (s.fill u m).fab = s.fab ∧
    (s.fill u m).acc = s.acc ∧ (s.fill u m).se = s.se ∧ (s.fill u m).loops = s.loops ∧ (s.fill u m).plan = s.plan ∧
    (s.fill u m).prog = s.prog ∧ (s.fill u m).mtr = s.mtr ∧ (s.fill u m).can = s.can ∧ (s.fill u m).dio = s.dio ∧
    (s.fill u m).net = s.net ∧ (s.fill u m).mem = s.mem ∧ (s.fill u m).setBits = s.setBits ∧
    (s.fill u m).pending = s.pending := by
  unfold State.fill; (repeat' split) <;> simp

@[simp] theorem State.setPassword_keeps (u : KeyRun) (s : State) :
    (s.setPassword u).sil = s.sil ∧ (s.setPassword u).pairs = s.pairs ∧ (s.setPassword u).mem = s.mem ∧
    (s.setPassword u).pending = s.pending := by
  unfold State.setPassword; dsimp only; (repeat' split) <;> simp

@[simp] theorem State.replaceKey_keeps (u : KeyRun) (s : State) :
    (s.replaceKey u).sil = s.sil ∧ (s.replaceKey u).pairs = s.pairs ∧ (s.replaceKey u).mem = s.mem ∧
    (s.replaceKey u).pending = s.pending := by
  unfold State.replaceKey; dsimp only; (repeat' split) <;> simp

@[simp] theorem State.keyResult_keeps (r : KeyReq) (o : Nat) (b : List Byte) (s : State) :
    (s.keyResult r o b).now = s.now ∧ (s.keyResult r o b).free = s.free ∧ (s.keyResult r o b).sys = s.sys ∧
    (s.keyResult r o b).fs = s.fs ∧ (s.keyResult r o b).hub = s.hub ∧ (s.keyResult r o b).rtc = s.rtc ∧
    (s.keyResult r o b).pwr = s.pwr ∧ (s.keyResult r o b).sil = s.sil ∧ (s.keyResult r o b).twin = s.twin ∧
    (s.keyResult r o b).pairs = s.pairs ∧ (s.keyResult r o b).acc = s.acc ∧ (s.keyResult r o b).loops = s.loops ∧
    (s.keyResult r o b).plan = s.plan ∧ (s.keyResult r o b).prog = s.prog ∧ (s.keyResult r o b).mtr = s.mtr ∧
    (s.keyResult r o b).can = s.can ∧ (s.keyResult r o b).dio = s.dio ∧ (s.keyResult r o b).key = s.key ∧
    (s.keyResult r o b).net = s.net ∧ (s.keyResult r o b).run = s.run ∧ (s.keyResult r o b).setBits = s.setBits ∧
    (s.keyResult r o b).pending = s.pending := by
  unfold State.keyResult; split <;> simp

@[simp] theorem State.signEnd_keeps (u : KeyRun) (base o : Nat) (pre : List Byte) (sg : List Byte × Nat) (s : State) :
    (s.signEnd u base o pre sg).sys = s.sys ∧ (s.signEnd u base o pre sg).fs = s.fs ∧
    (s.signEnd u base o pre sg).rtc = s.rtc ∧ (s.signEnd u base o pre sg).pwr = s.pwr ∧
    (s.signEnd u base o pre sg).sil = s.sil ∧ (s.signEnd u base o pre sg).twin = s.twin ∧
    (s.signEnd u base o pre sg).pairs = s.pairs ∧ (s.signEnd u base o pre sg).acc = s.acc ∧
    (s.signEnd u base o pre sg).loops = s.loops ∧ (s.signEnd u base o pre sg).plan = s.plan ∧
    (s.signEnd u base o pre sg).prog = s.prog ∧ (s.signEnd u base o pre sg).mtr = s.mtr ∧
    (s.signEnd u base o pre sg).can = s.can ∧ (s.signEnd u base o pre sg).dio = s.dio ∧
    (s.signEnd u base o pre sg).net = s.net ∧ (s.signEnd u base o pre sg).setBits = s.setBits ∧
    (s.signEnd u base o pre sg).pending = s.pending := by
  unfold State.signEnd; split <;> simp

@[simp] theorem State.abandonAdvance_keeps (s : State) :
    s.abandonAdvance.now = s.now ∧ s.abandonAdvance.sys = s.sys ∧ s.abandonAdvance.fs = s.fs ∧
    s.abandonAdvance.hub = s.hub ∧ s.abandonAdvance.rtc = s.rtc ∧ s.abandonAdvance.pwr = s.pwr ∧
    s.abandonAdvance.sil = s.sil ∧ s.abandonAdvance.twin = s.twin ∧ s.abandonAdvance.pairs = s.pairs ∧
    s.abandonAdvance.fab = s.fab ∧ s.abandonAdvance.acc = s.acc ∧ s.abandonAdvance.se = s.se ∧
    s.abandonAdvance.loops = s.loops ∧ s.abandonAdvance.plan = s.plan ∧ s.abandonAdvance.prog = s.prog ∧
    s.abandonAdvance.mtr = s.mtr ∧ s.abandonAdvance.can = s.can ∧ s.abandonAdvance.dio = s.dio ∧
    s.abandonAdvance.net = s.net ∧ s.abandonAdvance.run = s.run ∧ s.abandonAdvance.mem = s.mem ∧
    s.abandonAdvance.setBits = s.setBits ∧ s.abandonAdvance.pending = s.pending := by
  unfold State.abandonAdvance; (repeat' split) <;> simp

@[simp] theorem State.keyAbort_keeps (s : State) :
    s.keyAbort.now = s.now ∧ s.keyAbort.sys = s.sys ∧ s.keyAbort.fs = s.fs ∧ s.keyAbort.hub = s.hub ∧
    s.keyAbort.rtc = s.rtc ∧ s.keyAbort.pwr = s.pwr ∧ s.keyAbort.sil = s.sil ∧ s.keyAbort.twin = s.twin ∧
    s.keyAbort.pairs = s.pairs ∧ s.keyAbort.fab = s.fab ∧ s.keyAbort.acc = s.acc ∧ s.keyAbort.se = s.se ∧
    s.keyAbort.loops = s.loops ∧ s.keyAbort.plan = s.plan ∧ s.keyAbort.prog = s.prog ∧ s.keyAbort.mtr = s.mtr ∧
    s.keyAbort.can = s.can ∧ s.keyAbort.dio = s.dio ∧ s.keyAbort.net = s.net ∧ s.keyAbort.mem = s.mem ∧
    s.keyAbort.setBits = s.setBits ∧ s.keyAbort.pending = s.pending := by
  unfold State.keyAbort; split <;> simp

@[simp] theorem State.keyReset_keeps (s : State) :
    s.keyReset.pairs = s.pairs ∧ s.keyReset.mem = s.mem ∧ s.keyReset.pending = s.pending := by
  unfold State.keyReset; dsimp only; (repeat' split) <;> simp

@[simp] theorem State.modCore_keeps (p : Fin 9) (f : Core → Core) (s : State) :
    (s.modCore p f).now = s.now ∧ (s.modCore p f).free = s.free ∧ (s.modCore p f).sys = s.sys ∧
    (s.modCore p f).fs = s.fs ∧ (s.modCore p f).hub = s.hub ∧ (s.modCore p f).rtc = s.rtc ∧
    (s.modCore p f).pwr = s.pwr ∧ (s.modCore p f).sil = s.sil ∧ (s.modCore p f).twin = s.twin ∧
    (s.modCore p f).fab = s.fab ∧ (s.modCore p f).acc = s.acc ∧ (s.modCore p f).se = s.se ∧
    (s.modCore p f).loops = s.loops ∧ (s.modCore p f).plan = s.plan ∧ (s.modCore p f).prog = s.prog ∧
    (s.modCore p f).mtr = s.mtr ∧ (s.modCore p f).can = s.can ∧ (s.modCore p f).dio = s.dio ∧
    (s.modCore p f).key = s.key ∧ (s.modCore p f).net = s.net ∧ (s.modCore p f).run = s.run ∧
    (s.modCore p f).mem = s.mem ∧ (s.modCore p f).setBits = s.setBits ∧ (s.modCore p f).pending = s.pending := by
  simp [State.modCore]

@[simp] theorem State.claim_keeps (t : Fin 9) (src : Nat) (second : Bool) (s : State) :
    (s.claim t src second).sil = s.sil ∧ (s.claim t src second).pairs = s.pairs ∧ (s.claim t src second).key = s.key ∧
    (s.claim t src second).run = s.run ∧ (s.claim t src second).mem = s.mem ∧
    (s.claim t src second).pending = s.pending := by
  simp [State.claim]

@[simp] theorem State.evDone_keeps (at_ : Nat) (t : Fin 9) (src : Nat) (s : State) :
    (s.evDone at_ t src).now = s.now ∧ (s.evDone at_ t src).free = s.free ∧ (s.evDone at_ t src).sys = s.sys ∧
    (s.evDone at_ t src).fs = s.fs ∧ (s.evDone at_ t src).rtc = s.rtc ∧ (s.evDone at_ t src).pwr = s.pwr ∧
    (s.evDone at_ t src).twin = s.twin ∧ (s.evDone at_ t src).pairs = s.pairs ∧ (s.evDone at_ t src).fab = s.fab ∧
    (s.evDone at_ t src).acc = s.acc ∧ (s.evDone at_ t src).se = s.se ∧ (s.evDone at_ t src).loops = s.loops ∧
    (s.evDone at_ t src).plan = s.plan ∧ (s.evDone at_ t src).prog = s.prog ∧ (s.evDone at_ t src).mtr = s.mtr ∧
    (s.evDone at_ t src).can = s.can ∧ (s.evDone at_ t src).dio = s.dio ∧ (s.evDone at_ t src).key = s.key ∧
    (s.evDone at_ t src).net = s.net ∧ (s.evDone at_ t src).run = s.run ∧ (s.evDone at_ t src).mem = s.mem ∧
    (s.evDone at_ t src).pending = s.pending := by
  unfold State.evDone; dsimp only; (repeat' split) <;> simp

@[simp] theorem State.evhSwgen_keeps (w : Initiator) (v : Nat) (s : State) :
    (s.evhSwgen w v).now = s.now ∧ (s.evhSwgen w v).free = s.free ∧ (s.evhSwgen w v).sys = s.sys ∧
    (s.evhSwgen w v).fs = s.fs ∧ (s.evhSwgen w v).rtc = s.rtc ∧ (s.evhSwgen w v).pwr = s.pwr ∧
    (s.evhSwgen w v).twin = s.twin ∧ (s.evhSwgen w v).pairs = s.pairs ∧ (s.evhSwgen w v).fab = s.fab ∧
    (s.evhSwgen w v).acc = s.acc ∧ (s.evhSwgen w v).se = s.se ∧ (s.evhSwgen w v).loops = s.loops ∧
    (s.evhSwgen w v).plan = s.plan ∧ (s.evhSwgen w v).prog = s.prog ∧ (s.evhSwgen w v).mtr = s.mtr ∧
    (s.evhSwgen w v).can = s.can ∧ (s.evhSwgen w v).dio = s.dio ∧ (s.evhSwgen w v).key = s.key ∧
    (s.evhSwgen w v).net = s.net ∧ (s.evhSwgen w v).run = s.run ∧ (s.evhSwgen w v).mem = s.mem ∧
    (s.evhSwgen w v).pending = s.pending := by
  unfold State.evhSwgen State.guardWrite; (repeat' split) <;> simp

@[simp] theorem State.evhCtrl_keeps (w : Initiator) (v : Nat) (s : State) :
    (s.evhCtrl w v).now = s.now ∧ (s.evhCtrl w v).free = s.free ∧ (s.evhCtrl w v).sys = s.sys ∧
    (s.evhCtrl w v).fs = s.fs ∧ (s.evhCtrl w v).rtc = s.rtc ∧ (s.evhCtrl w v).pwr = s.pwr ∧
    (s.evhCtrl w v).twin = s.twin ∧ (s.evhCtrl w v).pairs = s.pairs ∧ (s.evhCtrl w v).fab = s.fab ∧
    (s.evhCtrl w v).acc = s.acc ∧ (s.evhCtrl w v).se = s.se ∧ (s.evhCtrl w v).loops = s.loops ∧
    (s.evhCtrl w v).plan = s.plan ∧ (s.evhCtrl w v).prog = s.prog ∧ (s.evhCtrl w v).mtr = s.mtr ∧
    (s.evhCtrl w v).can = s.can ∧ (s.evhCtrl w v).dio = s.dio ∧ (s.evhCtrl w v).key = s.key ∧
    (s.evhCtrl w v).net = s.net ∧ (s.evhCtrl w v).run = s.run ∧ (s.evhCtrl w v).mem = s.mem ∧
    (s.evhCtrl w v).pending = s.pending := by
  unfold State.evhCtrl State.guardWrite; (repeat' split) <;> simp

@[simp] theorem State.evhPend_keeps (w : Initiator) (k v : Nat) (s : State) :
    (s.evhPend w k v).now = s.now ∧ (s.evhPend w k v).free = s.free ∧ (s.evhPend w k v).sys = s.sys ∧
    (s.evhPend w k v).fs = s.fs ∧ (s.evhPend w k v).rtc = s.rtc ∧ (s.evhPend w k v).pwr = s.pwr ∧
    (s.evhPend w k v).twin = s.twin ∧ (s.evhPend w k v).pairs = s.pairs ∧ (s.evhPend w k v).fab = s.fab ∧
    (s.evhPend w k v).acc = s.acc ∧ (s.evhPend w k v).se = s.se ∧ (s.evhPend w k v).loops = s.loops ∧
    (s.evhPend w k v).plan = s.plan ∧ (s.evhPend w k v).prog = s.prog ∧ (s.evhPend w k v).mtr = s.mtr ∧
    (s.evhPend w k v).can = s.can ∧ (s.evhPend w k v).dio = s.dio ∧ (s.evhPend w k v).key = s.key ∧
    (s.evhPend w k v).net = s.net ∧ (s.evhPend w k v).run = s.run ∧ (s.evhPend w k v).mem = s.mem ∧
    (s.evhPend w k v).pending = s.pending := by
  unfold State.evhPend; dsimp only; (repeat' split) <;> simp (disch := (intros; (try dsimp only); (repeat' split) <;> simp -implicitDefEqProofs)) [foldl_keeps_now,
    foldl_keeps_free, foldl_keeps_sys, foldl_keeps_fs, foldl_keeps_rtc, foldl_keeps_pwr, foldl_keeps_twin,
    foldl_keeps_pairs, foldl_keeps_fab, foldl_keeps_acc, foldl_keeps_se, foldl_keeps_loops, foldl_keeps_plan,
    foldl_keeps_prog, foldl_keeps_mtr, foldl_keeps_can, foldl_keeps_dio, foldl_keeps_key, foldl_keeps_net,
    foldl_keeps_run, foldl_keeps_mem, foldl_keeps_pending]

@[simp] theorem State.evhSource_keeps (w : Initiator) (src : Nat) (coal : Bool) (v : Nat) (s : State) :
    (s.evhSource w src coal v).now = s.now ∧ (s.evhSource w src coal v).free = s.free ∧
    (s.evhSource w src coal v).sys = s.sys ∧ (s.evhSource w src coal v).fs = s.fs ∧
    (s.evhSource w src coal v).rtc = s.rtc ∧ (s.evhSource w src coal v).pwr = s.pwr ∧
    (s.evhSource w src coal v).twin = s.twin ∧ (s.evhSource w src coal v).pairs = s.pairs ∧
    (s.evhSource w src coal v).fab = s.fab ∧ (s.evhSource w src coal v).acc = s.acc ∧
    (s.evhSource w src coal v).se = s.se ∧ (s.evhSource w src coal v).loops = s.loops ∧
    (s.evhSource w src coal v).plan = s.plan ∧ (s.evhSource w src coal v).prog = s.prog ∧
    (s.evhSource w src coal v).mtr = s.mtr ∧ (s.evhSource w src coal v).can = s.can ∧
    (s.evhSource w src coal v).dio = s.dio ∧ (s.evhSource w src coal v).key = s.key ∧
    (s.evhSource w src coal v).net = s.net ∧ (s.evhSource w src coal v).run = s.run ∧
    (s.evhSource w src coal v).mem = s.mem ∧ (s.evhSource w src coal v).pending = s.pending := by
  unfold State.evhSource State.guardWrite; (repeat' split) <;> simp

@[simp] theorem State.evhTgtCfg_keeps (w : Initiator) (t : Fin 9) (v : Nat) (s : State) :
    (s.evhTgtCfg w t v).pairs = s.pairs ∧ (s.evhTgtCfg w t v).key = s.key ∧ (s.evhTgtCfg w t v).run = s.run ∧
    (s.evhTgtCfg w t v).mem = s.mem ∧ (s.evhTgtCfg w t v).pending = s.pending := by
  unfold State.evhTgtCfg State.guardWrite; (repeat' split) <;> simp

@[simp] theorem State.evhTgtState_keeps (w : Initiator) (t : Fin 9) (v : Nat) (s : State) :
    (s.evhTgtState w t v).pairs = s.pairs ∧ (s.evhTgtState w t v).key = s.key ∧ (s.evhTgtState w t v).run = s.run ∧
    (s.evhTgtState w t v).mem = s.mem ∧ (s.evhTgtState w t v).pending = s.pending := by
  simp only [State.evhTgtState, State.guardWrite]; (repeat' split) <;> simp

@[simp] theorem State.evhWrite_keeps (s : State) (w : Initiator) (ofs v : Nat) :
    (s.evhWrite w ofs v).pairs = s.pairs ∧ (s.evhWrite w ofs v).key = s.key ∧ (s.evhWrite w ofs v).run = s.run ∧
    (s.evhWrite w ofs v).mem = s.mem ∧ (s.evhWrite w ofs v).pending = s.pending := by
  unfold State.evhWrite; (repeat' split) <;> simp

@[simp] theorem State.holdTarget_keeps (t : Fin 9) (s : State) :
    (s.holdTarget t).now = s.now ∧ (s.holdTarget t).free = s.free ∧ (s.holdTarget t).fs = s.fs ∧
    (s.holdTarget t).rtc = s.rtc ∧ (s.holdTarget t).sil = s.sil ∧ (s.holdTarget t).pairs = s.pairs ∧
    (s.holdTarget t).fab = s.fab ∧ (s.holdTarget t).acc = s.acc ∧ (s.holdTarget t).se = s.se ∧
    (s.holdTarget t).loops = s.loops ∧ (s.holdTarget t).plan = s.plan ∧ (s.holdTarget t).mtr = s.mtr ∧
    (s.holdTarget t).can = s.can ∧ (s.holdTarget t).key = s.key ∧ (s.holdTarget t).net = s.net ∧
    (s.holdTarget t).run = s.run ∧ (s.holdTarget t).mem = s.mem ∧ (s.holdTarget t).pending = s.pending := by
  simp [State.holdTarget]

@[simp] theorem State.emptyStack_keeps (t : Fin 9) (s : State) :
    (s.emptyStack t).now = s.now ∧ (s.emptyStack t).free = s.free ∧ (s.emptyStack t).sys = s.sys ∧
    (s.emptyStack t).fs = s.fs ∧ (s.emptyStack t).rtc = s.rtc ∧ (s.emptyStack t).pwr = s.pwr ∧
    (s.emptyStack t).sil = s.sil ∧ (s.emptyStack t).twin = s.twin ∧ (s.emptyStack t).pairs = s.pairs ∧
    (s.emptyStack t).fab = s.fab ∧ (s.emptyStack t).acc = s.acc ∧ (s.emptyStack t).se = s.se ∧
    (s.emptyStack t).loops = s.loops ∧ (s.emptyStack t).plan = s.plan ∧ (s.emptyStack t).prog = s.prog ∧
    (s.emptyStack t).mtr = s.mtr ∧ (s.emptyStack t).can = s.can ∧ (s.emptyStack t).dio = s.dio ∧
    (s.emptyStack t).key = s.key ∧ (s.emptyStack t).net = s.net ∧ (s.emptyStack t).run = s.run ∧
    (s.emptyStack t).mem = s.mem ∧ (s.emptyStack t).setBits = s.setBits ∧ (s.emptyStack t).pending = s.pending := by
  simp (disch := (intros; (repeat' split) <;> simp -implicitDefEqProofs)) [State.emptyStack, foldl_keeps_now,
    foldl_keeps_free, foldl_keeps_sys, foldl_keeps_fs, foldl_keeps_rtc, foldl_keeps_pwr, foldl_keeps_sil,
    foldl_keeps_twin, foldl_keeps_pairs, foldl_keeps_fab, foldl_keeps_acc, foldl_keeps_se, foldl_keeps_loops,
    foldl_keeps_plan, foldl_keeps_prog, foldl_keeps_mtr, foldl_keeps_can, foldl_keeps_dio, foldl_keeps_key,
    foldl_keeps_net, foldl_keeps_run, foldl_keeps_mem, foldl_keeps_setBits, foldl_keeps_pending]

@[simp] theorem State.releaseTarget_keeps (t : Fin 9) (s : State) :
    (s.releaseTarget t).now = s.now ∧ (s.releaseTarget t).free = s.free ∧ (s.releaseTarget t).sys = s.sys ∧
    (s.releaseTarget t).fs = s.fs ∧ (s.releaseTarget t).rtc = s.rtc ∧ (s.releaseTarget t).pwr = s.pwr ∧
    (s.releaseTarget t).sil = s.sil ∧ (s.releaseTarget t).twin = s.twin ∧ (s.releaseTarget t).pairs = s.pairs ∧
    (s.releaseTarget t).fab = s.fab ∧ (s.releaseTarget t).acc = s.acc ∧ (s.releaseTarget t).se = s.se ∧
    (s.releaseTarget t).loops = s.loops ∧ (s.releaseTarget t).plan = s.plan ∧ (s.releaseTarget t).prog = s.prog ∧
    (s.releaseTarget t).mtr = s.mtr ∧ (s.releaseTarget t).can = s.can ∧ (s.releaseTarget t).dio = s.dio ∧
    (s.releaseTarget t).key = s.key ∧ (s.releaseTarget t).net = s.net ∧ (s.releaseTarget t).run = s.run ∧
    (s.releaseTarget t).mem = s.mem ∧ (s.releaseTarget t).setBits = s.setBits ∧
    (s.releaseTarget t).pending = s.pending := by
  simp [State.releaseTarget]

@[simp] theorem State.modCh_keeps (c : Fin 48) (f : DioChan → DioChan) (s : State) :
    (s.modCh c f).now = s.now ∧ (s.modCh c f).free = s.free ∧ (s.modCh c f).sys = s.sys ∧ (s.modCh c f).fs = s.fs ∧
    (s.modCh c f).hub = s.hub ∧ (s.modCh c f).rtc = s.rtc ∧ (s.modCh c f).pwr = s.pwr ∧ (s.modCh c f).sil = s.sil ∧
    (s.modCh c f).twin = s.twin ∧ (s.modCh c f).pairs = s.pairs ∧ (s.modCh c f).fab = s.fab ∧
    (s.modCh c f).acc = s.acc ∧ (s.modCh c f).se = s.se ∧ (s.modCh c f).loops = s.loops ∧ (s.modCh c f).plan = s.plan ∧
    (s.modCh c f).prog = s.prog ∧ (s.modCh c f).mtr = s.mtr ∧ (s.modCh c f).can = s.can ∧ (s.modCh c f).key = s.key ∧
    (s.modCh c f).net = s.net ∧ (s.modCh c f).run = s.run ∧ (s.modCh c f).mem = s.mem ∧
    (s.modCh c f).setBits = s.setBits ∧ (s.modCh c f).pending = s.pending := by
  simp [State.modCh]

@[simp] theorem State.modBank_keeps (b : Fin 6) (f : DioBank → DioBank) (s : State) :
    (s.modBank b f).now = s.now ∧ (s.modBank b f).free = s.free ∧ (s.modBank b f).sys = s.sys ∧
    (s.modBank b f).fs = s.fs ∧ (s.modBank b f).hub = s.hub ∧ (s.modBank b f).rtc = s.rtc ∧
    (s.modBank b f).pwr = s.pwr ∧ (s.modBank b f).sil = s.sil ∧ (s.modBank b f).twin = s.twin ∧
    (s.modBank b f).pairs = s.pairs ∧ (s.modBank b f).fab = s.fab ∧ (s.modBank b f).acc = s.acc ∧
    (s.modBank b f).se = s.se ∧ (s.modBank b f).loops = s.loops ∧ (s.modBank b f).plan = s.plan ∧
    (s.modBank b f).prog = s.prog ∧ (s.modBank b f).mtr = s.mtr ∧ (s.modBank b f).can = s.can ∧
    (s.modBank b f).key = s.key ∧ (s.modBank b f).net = s.net ∧ (s.modBank b f).run = s.run ∧
    (s.modBank b f).mem = s.mem ∧ (s.modBank b f).setBits = s.setBits ∧ (s.modBank b f).pending = s.pending := by
  simp [State.modBank]

@[simp] theorem State.dioRaise_keeps (i : Nat) (s : State) :
    (s.dioRaise i).now = s.now ∧ (s.dioRaise i).free = s.free ∧ (s.dioRaise i).sys = s.sys ∧ (s.dioRaise i).fs = s.fs ∧
    (s.dioRaise i).rtc = s.rtc ∧ (s.dioRaise i).pwr = s.pwr ∧ (s.dioRaise i).sil = s.sil ∧
    (s.dioRaise i).twin = s.twin ∧ (s.dioRaise i).pairs = s.pairs ∧ (s.dioRaise i).fab = s.fab ∧
    (s.dioRaise i).acc = s.acc ∧ (s.dioRaise i).se = s.se ∧ (s.dioRaise i).loops = s.loops ∧
    (s.dioRaise i).plan = s.plan ∧ (s.dioRaise i).prog = s.prog ∧ (s.dioRaise i).mtr = s.mtr ∧
    (s.dioRaise i).can = s.can ∧ (s.dioRaise i).dio = s.dio ∧ (s.dioRaise i).key = s.key ∧ (s.dioRaise i).net = s.net ∧
    (s.dioRaise i).run = s.run ∧ (s.dioRaise i).mem = s.mem ∧ (s.dioRaise i).setBits = s.setBits ∧
    (s.dioRaise i).pending = s.pending := by
  simp [State.dioRaise]

@[simp] theorem State.drive_keeps (s : State) (c : Fin 48) :
    (s.drive c).now = s.now ∧ (s.drive c).free = s.free ∧ (s.drive c).sys = s.sys ∧ (s.drive c).fs = s.fs ∧
    (s.drive c).hub = s.hub ∧ (s.drive c).rtc = s.rtc ∧ (s.drive c).pwr = s.pwr ∧ (s.drive c).sil = s.sil ∧
    (s.drive c).twin = s.twin ∧ (s.drive c).pairs = s.pairs ∧ (s.drive c).fab = s.fab ∧ (s.drive c).acc = s.acc ∧
    (s.drive c).se = s.se ∧ (s.drive c).loops = s.loops ∧ (s.drive c).plan = s.plan ∧ (s.drive c).prog = s.prog ∧
    (s.drive c).mtr = s.mtr ∧ (s.drive c).can = s.can ∧ (s.drive c).key = s.key ∧ (s.drive c).net = s.net ∧
    (s.drive c).run = s.run ∧ (s.drive c).mem = s.mem ∧ (s.drive c).setBits = s.setBits ∧
    (s.drive c).pending = s.pending := by
  unfold State.drive; dsimp only; (repeat' split) <;> simp

@[simp] theorem State.driveAll_keeps (s : State) :
    s.driveAll.now = s.now ∧ s.driveAll.free = s.free ∧ s.driveAll.sys = s.sys ∧ s.driveAll.fs = s.fs ∧
    s.driveAll.hub = s.hub ∧ s.driveAll.rtc = s.rtc ∧ s.driveAll.pwr = s.pwr ∧ s.driveAll.sil = s.sil ∧
    s.driveAll.twin = s.twin ∧ s.driveAll.pairs = s.pairs ∧ s.driveAll.fab = s.fab ∧ s.driveAll.acc = s.acc ∧
    s.driveAll.se = s.se ∧ s.driveAll.loops = s.loops ∧ s.driveAll.plan = s.plan ∧ s.driveAll.prog = s.prog ∧
    s.driveAll.mtr = s.mtr ∧ s.driveAll.can = s.can ∧ s.driveAll.key = s.key ∧ s.driveAll.net = s.net ∧
    s.driveAll.run = s.run ∧ s.driveAll.mem = s.mem ∧ s.driveAll.setBits = s.setBits ∧
    s.driveAll.pending = s.pending := by
  unfold State.driveAll; (repeat' split) <;> simp [foldl_keeps_now, foldl_keeps_free, foldl_keeps_sys, foldl_keeps_fs,
    foldl_keeps_hub, foldl_keeps_rtc, foldl_keeps_pwr, foldl_keeps_sil, foldl_keeps_twin, foldl_keeps_pairs,
    foldl_keeps_fab, foldl_keeps_acc, foldl_keeps_se, foldl_keeps_loops, foldl_keeps_plan, foldl_keeps_prog,
    foldl_keeps_mtr, foldl_keeps_can, foldl_keeps_key, foldl_keeps_net, foldl_keeps_run, foldl_keeps_mem,
    foldl_keeps_setBits, foldl_keeps_pending]

@[simp] theorem State.dioGateClosed_keeps (s : State) :
    s.dioGateClosed.now = s.now ∧ s.dioGateClosed.free = s.free ∧ s.dioGateClosed.sys = s.sys ∧
    s.dioGateClosed.fs = s.fs ∧ s.dioGateClosed.rtc = s.rtc ∧ s.dioGateClosed.pwr = s.pwr ∧
    s.dioGateClosed.sil = s.sil ∧ s.dioGateClosed.pairs = s.pairs ∧ s.dioGateClosed.fab = s.fab ∧
    s.dioGateClosed.acc = s.acc ∧ s.dioGateClosed.se = s.se ∧ s.dioGateClosed.loops = s.loops ∧
    s.dioGateClosed.plan = s.plan ∧ s.dioGateClosed.prog = s.prog ∧ s.dioGateClosed.mtr = s.mtr ∧
    s.dioGateClosed.can = s.can ∧ s.dioGateClosed.key = s.key ∧ s.dioGateClosed.net = s.net ∧
    s.dioGateClosed.run = s.run ∧ s.dioGateClosed.mem = s.mem ∧ s.dioGateClosed.setBits = s.setBits ∧
    s.dioGateClosed.pending = s.pending := by
  simp [State.dioGateClosed]

@[simp] theorem State.twinRaise_keeps (i : Nat) (s : State) :
    (s.twinRaise i).now = s.now ∧ (s.twinRaise i).free = s.free ∧ (s.twinRaise i).sys = s.sys ∧
    (s.twinRaise i).fs = s.fs ∧ (s.twinRaise i).rtc = s.rtc ∧ (s.twinRaise i).pwr = s.pwr ∧
    (s.twinRaise i).sil = s.sil ∧ (s.twinRaise i).twin = s.twin ∧ (s.twinRaise i).pairs = s.pairs ∧
    (s.twinRaise i).fab = s.fab ∧ (s.twinRaise i).acc = s.acc ∧ (s.twinRaise i).se = s.se ∧
    (s.twinRaise i).loops = s.loops ∧ (s.twinRaise i).plan = s.plan ∧ (s.twinRaise i).prog = s.prog ∧
    (s.twinRaise i).mtr = s.mtr ∧ (s.twinRaise i).can = s.can ∧ (s.twinRaise i).dio = s.dio ∧
    (s.twinRaise i).key = s.key ∧ (s.twinRaise i).net = s.net ∧ (s.twinRaise i).run = s.run ∧
    (s.twinRaise i).mem = s.mem ∧ (s.twinRaise i).setBits = s.setBits ∧ (s.twinRaise i).pending = s.pending := by
  simp [State.twinRaise]

@[simp] theorem State.closeGate_keeps (s : State) :
    s.closeGate.now = s.now ∧ s.closeGate.free = s.free ∧ s.closeGate.sys = s.sys ∧ s.closeGate.fs = s.fs ∧
    s.closeGate.rtc = s.rtc ∧ s.closeGate.pwr = s.pwr ∧ s.closeGate.sil = s.sil ∧ s.closeGate.pairs = s.pairs ∧
    s.closeGate.fab = s.fab ∧ s.closeGate.acc = s.acc ∧ s.closeGate.se = s.se ∧ s.closeGate.loops = s.loops ∧
    s.closeGate.plan = s.plan ∧ s.closeGate.prog = s.prog ∧ s.closeGate.mtr = s.mtr ∧ s.closeGate.can = s.can ∧
    s.closeGate.key = s.key ∧ s.closeGate.net = s.net ∧ s.closeGate.run = s.run ∧ s.closeGate.mem = s.mem ∧
    s.closeGate.setBits = s.setBits ∧ s.closeGate.pending = s.pending := by
  unfold State.closeGate; split <;> simp

@[simp] theorem State.negateClaim_keeps (s : State) :
    s.negateClaim.now = s.now ∧ s.negateClaim.free = s.free ∧ s.negateClaim.sys = s.sys ∧ s.negateClaim.fs = s.fs ∧
    s.negateClaim.rtc = s.rtc ∧ s.negateClaim.pwr = s.pwr ∧ s.negateClaim.sil = s.sil ∧ s.negateClaim.pairs = s.pairs ∧
    s.negateClaim.fab = s.fab ∧ s.negateClaim.acc = s.acc ∧ s.negateClaim.se = s.se ∧ s.negateClaim.loops = s.loops ∧
    s.negateClaim.plan = s.plan ∧ s.negateClaim.prog = s.prog ∧ s.negateClaim.mtr = s.mtr ∧ s.negateClaim.can = s.can ∧
    s.negateClaim.key = s.key ∧ s.negateClaim.net = s.net ∧ s.negateClaim.run = s.run ∧ s.negateClaim.mem = s.mem ∧
    s.negateClaim.setBits = s.setBits ∧ s.negateClaim.pending = s.pending := by
  simp [State.negateClaim]

@[simp] theorem State.twinTo_keeps (x : TwinState) (s : State) :
    (s.twinTo x).now = s.now ∧ (s.twinTo x).free = s.free ∧ (s.twinTo x).sys = s.sys ∧ (s.twinTo x).fs = s.fs ∧
    (s.twinTo x).rtc = s.rtc ∧ (s.twinTo x).pwr = s.pwr ∧ (s.twinTo x).sil = s.sil ∧ (s.twinTo x).pairs = s.pairs ∧
    (s.twinTo x).fab = s.fab ∧ (s.twinTo x).acc = s.acc ∧ (s.twinTo x).se = s.se ∧ (s.twinTo x).loops = s.loops ∧
    (s.twinTo x).plan = s.plan ∧ (s.twinTo x).prog = s.prog ∧ (s.twinTo x).mtr = s.mtr ∧ (s.twinTo x).can = s.can ∧
    (s.twinTo x).dio = s.dio ∧ (s.twinTo x).key = s.key ∧ (s.twinTo x).net = s.net ∧ (s.twinTo x).run = s.run ∧
    (s.twinTo x).mem = s.mem ∧ (s.twinTo x).setBits = s.setBits ∧ (s.twinTo x).pending = s.pending := by
  unfold State.twinTo; split <;> simp

@[simp] theorem State.twinClaim_keeps (s : State) :
    s.twinClaim.now = s.now ∧ s.twinClaim.free = s.free ∧ s.twinClaim.sys = s.sys ∧ s.twinClaim.fs = s.fs ∧
    s.twinClaim.hub = s.hub ∧ s.twinClaim.rtc = s.rtc ∧ s.twinClaim.pwr = s.pwr ∧ s.twinClaim.sil = s.sil ∧
    s.twinClaim.pairs = s.pairs ∧ s.twinClaim.fab = s.fab ∧ s.twinClaim.acc = s.acc ∧ s.twinClaim.se = s.se ∧
    s.twinClaim.loops = s.loops ∧ s.twinClaim.plan = s.plan ∧ s.twinClaim.prog = s.prog ∧ s.twinClaim.mtr = s.mtr ∧
    s.twinClaim.can = s.can ∧ s.twinClaim.dio = s.dio ∧ s.twinClaim.key = s.key ∧ s.twinClaim.net = s.net ∧
    s.twinClaim.run = s.run ∧ s.twinClaim.mem = s.mem ∧ s.twinClaim.setBits = s.setBits ∧
    s.twinClaim.pending = s.pending := by
  unfold State.twinClaim; split <;> simp

@[simp] theorem State.sendTwin_keeps (type part commit : Nat) (payload : List Byte) (s : State) :
    (s.sendTwin type part commit payload).now = s.now ∧ (s.sendTwin type part commit payload).free = s.free ∧
    (s.sendTwin type part commit payload).sys = s.sys ∧ (s.sendTwin type part commit payload).fs = s.fs ∧
    (s.sendTwin type part commit payload).hub = s.hub ∧ (s.sendTwin type part commit payload).rtc = s.rtc ∧
    (s.sendTwin type part commit payload).pwr = s.pwr ∧ (s.sendTwin type part commit payload).sil = s.sil ∧
    (s.sendTwin type part commit payload).pairs = s.pairs ∧ (s.sendTwin type part commit payload).fab = s.fab ∧
    (s.sendTwin type part commit payload).acc = s.acc ∧ (s.sendTwin type part commit payload).se = s.se ∧
    (s.sendTwin type part commit payload).loops = s.loops ∧ (s.sendTwin type part commit payload).plan = s.plan ∧
    (s.sendTwin type part commit payload).prog = s.prog ∧ (s.sendTwin type part commit payload).mtr = s.mtr ∧
    (s.sendTwin type part commit payload).can = s.can ∧ (s.sendTwin type part commit payload).dio = s.dio ∧
    (s.sendTwin type part commit payload).key = s.key ∧ (s.sendTwin type part commit payload).net = s.net ∧
    (s.sendTwin type part commit payload).run = s.run ∧ (s.sendTwin type part commit payload).mem = s.mem ∧
    (s.sendTwin type part commit payload).setBits = s.setBits ∧
    (s.sendTwin type part commit payload).pending = s.pending := by
  simp [State.sendTwin]

@[simp] theorem State.sendDelta_keeps (p : Fin 4) (lines : List (Nat × List Byte)) (img : Img) (s : State) :
    (s.sendDelta p lines img).now = s.now ∧ (s.sendDelta p lines img).free = s.free ∧
    (s.sendDelta p lines img).sys = s.sys ∧ (s.sendDelta p lines img).fs = s.fs ∧
    (s.sendDelta p lines img).rtc = s.rtc ∧ (s.sendDelta p lines img).pwr = s.pwr ∧
    (s.sendDelta p lines img).sil = s.sil ∧ (s.sendDelta p lines img).pairs = s.pairs ∧
    (s.sendDelta p lines img).fab = s.fab ∧ (s.sendDelta p lines img).acc = s.acc ∧
    (s.sendDelta p lines img).se = s.se ∧ (s.sendDelta p lines img).loops = s.loops ∧
    (s.sendDelta p lines img).plan = s.plan ∧ (s.sendDelta p lines img).mtr = s.mtr ∧
    (s.sendDelta p lines img).can = s.can ∧ (s.sendDelta p lines img).dio = s.dio ∧
    (s.sendDelta p lines img).key = s.key ∧ (s.sendDelta p lines img).net = s.net ∧
    (s.sendDelta p lines img).run = s.run ∧ (s.sendDelta p lines img).mem = s.mem ∧
    (s.sendDelta p lines img).pending = s.pending := by
  unfold State.sendDelta; (repeat' split) <;> simp [foldl_keeps_now, foldl_keeps_free, foldl_keeps_sys, foldl_keeps_fs,
    foldl_keeps_rtc, foldl_keeps_pwr, foldl_keeps_sil, foldl_keeps_pairs, foldl_keeps_fab, foldl_keeps_acc,
    foldl_keeps_se, foldl_keeps_loops, foldl_keeps_plan, foldl_keeps_mtr, foldl_keeps_can, foldl_keeps_dio,
    foldl_keeps_key, foldl_keeps_net, foldl_keeps_run, foldl_keeps_mem, foldl_keeps_pending]

@[simp] theorem State.sendResync_keeps (s : State) :
    s.sendResync.now = s.now ∧ s.sendResync.free = s.free ∧ s.sendResync.sys = s.sys ∧ s.sendResync.fs = s.fs ∧
    s.sendResync.hub = s.hub ∧ s.sendResync.rtc = s.rtc ∧ s.sendResync.pwr = s.pwr ∧ s.sendResync.sil = s.sil ∧
    s.sendResync.pairs = s.pairs ∧ s.sendResync.fab = s.fab ∧ s.sendResync.acc = s.acc ∧ s.sendResync.se = s.se ∧
    s.sendResync.loops = s.loops ∧ s.sendResync.prog = s.prog ∧ s.sendResync.mtr = s.mtr ∧ s.sendResync.can = s.can ∧
    s.sendResync.dio = s.dio ∧ s.sendResync.key = s.key ∧ s.sendResync.net = s.net ∧ s.sendResync.run = s.run ∧
    s.sendResync.mem = s.mem ∧ s.sendResync.setBits = s.setBits ∧ s.sendResync.pending = s.pending := by
  unfold State.sendResync; refine ⟨foldl_keeps_now _ _ _ ?_, foldl_keeps_free _ _ _ ?_, foldl_keeps_sys _ _ _ ?_,
    foldl_keeps_fs _ _ _ ?_, foldl_keeps_hub _ _ _ ?_, foldl_keeps_rtc _ _ _ ?_, foldl_keeps_pwr _ _ _ ?_,
    foldl_keeps_sil _ _ _ ?_, foldl_keeps_pairs _ _ _ ?_, foldl_keeps_fab _ _ _ ?_, foldl_keeps_acc _ _ _ ?_,
    foldl_keeps_se _ _ _ ?_, foldl_keeps_loops _ _ _ ?_, foldl_keeps_prog _ _ _ ?_, foldl_keeps_mtr _ _ _ ?_,
    foldl_keeps_can _ _ _ ?_, foldl_keeps_dio _ _ _ ?_, foldl_keeps_key _ _ _ ?_, foldl_keeps_net _ _ _ ?_,
    foldl_keeps_run _ _ _ ?_, foldl_keeps_mem _ _ _ ?_, foldl_keeps_setBits _ _ _ ?_,
    foldl_keeps_pending _ _ _ ?_⟩ <;> (intros; (repeat' split) <;> simp)

@[simp] theorem State.loseSync_keeps (s : State) :
    s.loseSync.now = s.now ∧ s.loseSync.free = s.free ∧ s.loseSync.sys = s.sys ∧ s.loseSync.fs = s.fs ∧
    s.loseSync.hub = s.hub ∧ s.loseSync.rtc = s.rtc ∧ s.loseSync.pwr = s.pwr ∧ s.loseSync.sil = s.sil ∧
    s.loseSync.pairs = s.pairs ∧ s.loseSync.fab = s.fab ∧ s.loseSync.acc = s.acc ∧ s.loseSync.se = s.se ∧
    s.loseSync.loops = s.loops ∧ s.loseSync.prog = s.prog ∧ s.loseSync.mtr = s.mtr ∧ s.loseSync.can = s.can ∧
    s.loseSync.dio = s.dio ∧ s.loseSync.key = s.key ∧ s.loseSync.net = s.net ∧ s.loseSync.run = s.run ∧
    s.loseSync.mem = s.mem ∧ s.loseSync.setBits = s.setBits ∧ s.loseSync.pending = s.pending := by
  unfold State.loseSync; refine ⟨foldl_keeps_now _ _ _ ?_, foldl_keeps_free _ _ _ ?_, foldl_keeps_sys _ _ _ ?_,
    foldl_keeps_fs _ _ _ ?_, foldl_keeps_hub _ _ _ ?_, foldl_keeps_rtc _ _ _ ?_, foldl_keeps_pwr _ _ _ ?_,
    foldl_keeps_sil _ _ _ ?_, foldl_keeps_pairs _ _ _ ?_, foldl_keeps_fab _ _ _ ?_, foldl_keeps_acc _ _ _ ?_,
    foldl_keeps_se _ _ _ ?_, foldl_keeps_loops _ _ _ ?_, foldl_keeps_prog _ _ _ ?_, foldl_keeps_mtr _ _ _ ?_,
    foldl_keeps_can _ _ _ ?_, foldl_keeps_dio _ _ _ ?_, foldl_keeps_key _ _ _ ?_, foldl_keeps_net _ _ _ ?_,
    foldl_keeps_run _ _ _ ?_, foldl_keeps_mem _ _ _ ?_, foldl_keeps_setBits _ _ _ ?_,
    foldl_keeps_pending _ _ _ ?_⟩ <;> (intros; (repeat' split) <;> simp)

@[simp] theorem State.standBy_keeps (s : State) :
    s.standBy.now = s.now ∧ s.standBy.free = s.free ∧ s.standBy.sys = s.sys ∧ s.standBy.fs = s.fs ∧
    s.standBy.rtc = s.rtc ∧ s.standBy.pwr = s.pwr ∧ s.standBy.sil = s.sil ∧ s.standBy.pairs = s.pairs ∧
    s.standBy.fab = s.fab ∧ s.standBy.acc = s.acc ∧ s.standBy.se = s.se ∧ s.standBy.loops = s.loops ∧
    s.standBy.prog = s.prog ∧ s.standBy.mtr = s.mtr ∧ s.standBy.can = s.can ∧ s.standBy.dio = s.dio ∧
    s.standBy.key = s.key ∧ s.standBy.net = s.net ∧ s.standBy.run = s.run ∧ s.standBy.mem = s.mem ∧
    s.standBy.setBits = s.setBits ∧ s.standBy.pending = s.pending := by
  simp [State.standBy]

@[simp] theorem State.forceLog_keeps (p : Fin 4) (sym action : Nat) (s : State) :
    (s.forceLog p sym action).now = s.now ∧ (s.forceLog p sym action).free = s.free ∧
    (s.forceLog p sym action).sys = s.sys ∧ (s.forceLog p sym action).fs = s.fs ∧
    (s.forceLog p sym action).rtc = s.rtc ∧ (s.forceLog p sym action).pwr = s.pwr ∧
    (s.forceLog p sym action).twin = s.twin ∧ (s.forceLog p sym action).pairs = s.pairs ∧
    (s.forceLog p sym action).fab = s.fab ∧ (s.forceLog p sym action).acc = s.acc ∧
    (s.forceLog p sym action).se = s.se ∧ (s.forceLog p sym action).loops = s.loops ∧
    (s.forceLog p sym action).plan = s.plan ∧ (s.forceLog p sym action).prog = s.prog ∧
    (s.forceLog p sym action).mtr = s.mtr ∧ (s.forceLog p sym action).can = s.can ∧
    (s.forceLog p sym action).dio = s.dio ∧ (s.forceLog p sym action).key = s.key ∧
    (s.forceLog p sym action).net = s.net ∧ (s.forceLog p sym action).run = s.run ∧
    (s.forceLog p sym action).mem = s.mem ∧ (s.forceLog p sym action).pending = s.pending := by
  simp [State.forceLog]

@[simp] theorem State.dropForces_keeps (s : State) (p : Fin 4) :
    (s.dropForces p).now = s.now ∧ (s.dropForces p).free = s.free ∧ (s.dropForces p).sys = s.sys ∧
    (s.dropForces p).fs = s.fs ∧ (s.dropForces p).rtc = s.rtc ∧ (s.dropForces p).pwr = s.pwr ∧
    (s.dropForces p).twin = s.twin ∧ (s.dropForces p).pairs = s.pairs ∧ (s.dropForces p).fab = s.fab ∧
    (s.dropForces p).acc = s.acc ∧ (s.dropForces p).se = s.se ∧ (s.dropForces p).loops = s.loops ∧
    (s.dropForces p).plan = s.plan ∧ (s.dropForces p).mtr = s.mtr ∧ (s.dropForces p).can = s.can ∧
    (s.dropForces p).dio = s.dio ∧ (s.dropForces p).key = s.key ∧ (s.dropForces p).net = s.net ∧
    (s.dropForces p).run = s.run ∧ (s.dropForces p).mem = s.mem ∧ (s.dropForces p).pending = s.pending := by
  simp [State.dropForces, foldl_keeps_now, foldl_keeps_free, foldl_keeps_sys, foldl_keeps_fs, foldl_keeps_rtc,
    foldl_keeps_pwr, foldl_keeps_twin, foldl_keeps_pairs, foldl_keeps_fab, foldl_keeps_acc, foldl_keeps_se,
    foldl_keeps_loops, foldl_keeps_plan, foldl_keeps_mtr, foldl_keeps_can, foldl_keeps_dio, foldl_keeps_key,
    foldl_keeps_net, foldl_keeps_run, foldl_keeps_mem, foldl_keeps_pending]

@[simp] theorem State.dropAllForces_keeps (s : State) :
    s.dropAllForces.now = s.now ∧ s.dropAllForces.free = s.free ∧ s.dropAllForces.sys = s.sys ∧
    s.dropAllForces.fs = s.fs ∧ s.dropAllForces.rtc = s.rtc ∧ s.dropAllForces.pwr = s.pwr ∧
    s.dropAllForces.twin = s.twin ∧ s.dropAllForces.pairs = s.pairs ∧ s.dropAllForces.fab = s.fab ∧
    s.dropAllForces.acc = s.acc ∧ s.dropAllForces.se = s.se ∧ s.dropAllForces.loops = s.loops ∧
    s.dropAllForces.plan = s.plan ∧ s.dropAllForces.mtr = s.mtr ∧ s.dropAllForces.can = s.can ∧
    s.dropAllForces.dio = s.dio ∧ s.dropAllForces.key = s.key ∧ s.dropAllForces.net = s.net ∧
    s.dropAllForces.run = s.run ∧ s.dropAllForces.mem = s.mem ∧ s.dropAllForces.pending = s.pending := by
  simp [State.dropAllForces, foldl_keeps_now, foldl_keeps_free, foldl_keeps_sys, foldl_keeps_fs, foldl_keeps_rtc,
    foldl_keeps_pwr, foldl_keeps_twin, foldl_keeps_pairs, foldl_keeps_fab, foldl_keeps_acc, foldl_keeps_se,
    foldl_keeps_loops, foldl_keeps_plan, foldl_keeps_mtr, foldl_keeps_can, foldl_keeps_dio, foldl_keeps_key,
    foldl_keeps_net, foldl_keeps_run, foldl_keeps_mem, foldl_keeps_pending]

@[simp] theorem State.leaveCommissioning_keeps (s : State) :
    s.leaveCommissioning.now = s.now ∧ s.leaveCommissioning.free = s.free ∧ s.leaveCommissioning.sys = s.sys ∧
    s.leaveCommissioning.fs = s.fs ∧ s.leaveCommissioning.rtc = s.rtc ∧ s.leaveCommissioning.pwr = s.pwr ∧
    s.leaveCommissioning.twin = s.twin ∧ s.leaveCommissioning.pairs = s.pairs ∧ s.leaveCommissioning.fab = s.fab ∧
    s.leaveCommissioning.acc = s.acc ∧ s.leaveCommissioning.se = s.se ∧ s.leaveCommissioning.loops = s.loops ∧
    s.leaveCommissioning.plan = s.plan ∧ s.leaveCommissioning.mtr = s.mtr ∧ s.leaveCommissioning.dio = s.dio ∧
    s.leaveCommissioning.key = s.key ∧ s.leaveCommissioning.net = s.net ∧ s.leaveCommissioning.run = s.run ∧
    s.leaveCommissioning.mem = s.mem ∧ s.leaveCommissioning.pending = s.pending := by
  unfold State.leaveCommissioning; (try dsimp only); (repeat' split) <;> simp -implicitDefEqProofs
    (disch := (first | (intros; (try dsimp only); (repeat' split) <;> simp -implicitDefEqProofs; done) | fail))
    [State.asAt, foldl_keeps_now, foldl_keeps_free, foldl_keeps_sys, foldl_keeps_fs, foldl_keeps_rtc,
    foldl_keeps_pwr, foldl_keeps_twin, foldl_keeps_pairs, foldl_keeps_fab, foldl_keeps_acc, foldl_keeps_se,
    foldl_keeps_loops, foldl_keeps_plan, foldl_keeps_mtr, foldl_keeps_dio, foldl_keeps_key, foldl_keeps_net,
    foldl_keeps_run, foldl_keeps_mem, foldl_keeps_pending]

@[simp] theorem State.forcesOff_keeps (s : State) :
    s.forcesOff.now = s.now ∧ s.forcesOff.free = s.free ∧ s.forcesOff.sys = s.sys ∧ s.forcesOff.fs = s.fs ∧
    s.forcesOff.rtc = s.rtc ∧ s.forcesOff.pwr = s.pwr ∧ s.forcesOff.twin = s.twin ∧ s.forcesOff.pairs = s.pairs ∧
    s.forcesOff.fab = s.fab ∧ s.forcesOff.acc = s.acc ∧ s.forcesOff.se = s.se ∧ s.forcesOff.loops = s.loops ∧
    s.forcesOff.plan = s.plan ∧ s.forcesOff.mtr = s.mtr ∧ s.forcesOff.dio = s.dio ∧ s.forcesOff.key = s.key ∧
    s.forcesOff.net = s.net ∧ s.forcesOff.run = s.run ∧ s.forcesOff.mem = s.mem ∧ s.forcesOff.pending = s.pending := by
  unfold State.forcesOff; (repeat' split) <;> simp

@[simp] theorem State.toSafeHold_keeps (s : State) :
    s.toSafeHold.now = s.now ∧ s.toSafeHold.free = s.free ∧ s.toSafeHold.fs = s.fs ∧ s.toSafeHold.rtc = s.rtc ∧
    s.toSafeHold.pairs = s.pairs ∧ s.toSafeHold.fab = s.fab ∧ s.toSafeHold.acc = s.acc ∧ s.toSafeHold.se = s.se ∧
    s.toSafeHold.loops = s.loops ∧ s.toSafeHold.plan = s.plan ∧ s.toSafeHold.mtr = s.mtr ∧ s.toSafeHold.key = s.key ∧
    s.toSafeHold.net = s.net ∧ s.toSafeHold.run = s.run ∧ s.toSafeHold.mem = s.mem ∧ s.toSafeHold.pending = s.pending := by
  unfold State.toSafeHold; split <;> simp

@[simp] theorem State.applyLog_keeps (r : Fin 7) (s : State) :
    (s.applyLog r).now = s.now ∧ (s.applyLog r).free = s.free ∧ (s.applyLog r).sys = s.sys ∧ (s.applyLog r).fs = s.fs ∧
    (s.applyLog r).rtc = s.rtc ∧ (s.applyLog r).pwr = s.pwr ∧ (s.applyLog r).twin = s.twin ∧
    (s.applyLog r).fab = s.fab ∧ (s.applyLog r).acc = s.acc ∧ (s.applyLog r).se = s.se ∧
    (s.applyLog r).loops = s.loops ∧ (s.applyLog r).plan = s.plan ∧ (s.applyLog r).prog = s.prog ∧
    (s.applyLog r).mtr = s.mtr ∧ (s.applyLog r).can = s.can ∧ (s.applyLog r).dio = s.dio ∧ (s.applyLog r).key = s.key ∧
    (s.applyLog r).net = s.net ∧ (s.applyLog r).run = s.run ∧ (s.applyLog r).pending = s.pending := by
  unfold State.applyLog; split <;> simp

@[simp] theorem State.writeCkpt_keeps (p : Fin 4) (tnc : Nat) (full : Bool) (st : Nat) (s : State) :
    (s.writeCkpt p tnc full st).now = s.now ∧ (s.writeCkpt p tnc full st).free = s.free ∧
    (s.writeCkpt p tnc full st).sys = s.sys ∧ (s.writeCkpt p tnc full st).fs = s.fs ∧
    (s.writeCkpt p tnc full st).hub = s.hub ∧ (s.writeCkpt p tnc full st).rtc = s.rtc ∧
    (s.writeCkpt p tnc full st).pwr = s.pwr ∧ (s.writeCkpt p tnc full st).sil = s.sil ∧
    (s.writeCkpt p tnc full st).twin = s.twin ∧ (s.writeCkpt p tnc full st).pairs = s.pairs ∧
    (s.writeCkpt p tnc full st).fab = s.fab ∧ (s.writeCkpt p tnc full st).acc = s.acc ∧
    (s.writeCkpt p tnc full st).se = s.se ∧ (s.writeCkpt p tnc full st).loops = s.loops ∧
    (s.writeCkpt p tnc full st).plan = s.plan ∧ (s.writeCkpt p tnc full st).mtr = s.mtr ∧
    (s.writeCkpt p tnc full st).can = s.can ∧ (s.writeCkpt p tnc full st).dio = s.dio ∧
    (s.writeCkpt p tnc full st).key = s.key ∧ (s.writeCkpt p tnc full st).net = s.net ∧
    (s.writeCkpt p tnc full st).run = s.run ∧ (s.writeCkpt p tnc full st).setBits = s.setBits ∧
    (s.writeCkpt p tnc full st).pending = s.pending := by
  unfold State.writeCkpt; dsimp only; (repeat' split) <;> simp

@[simp] theorem State.endCkpt_keeps (p : Fin 4) (s : State) :
    (s.endCkpt p).now = s.now ∧ (s.endCkpt p).free = s.free ∧ (s.endCkpt p).sys = s.sys ∧ (s.endCkpt p).fs = s.fs ∧
    (s.endCkpt p).hub = s.hub ∧ (s.endCkpt p).rtc = s.rtc ∧ (s.endCkpt p).pwr = s.pwr ∧ (s.endCkpt p).sil = s.sil ∧
    (s.endCkpt p).twin = s.twin ∧ (s.endCkpt p).pairs = s.pairs ∧ (s.endCkpt p).fab = s.fab ∧
    (s.endCkpt p).acc = s.acc ∧ (s.endCkpt p).se = s.se ∧ (s.endCkpt p).loops = s.loops ∧ (s.endCkpt p).plan = s.plan ∧
    (s.endCkpt p).mtr = s.mtr ∧ (s.endCkpt p).can = s.can ∧ (s.endCkpt p).dio = s.dio ∧ (s.endCkpt p).key = s.key ∧
    (s.endCkpt p).net = s.net ∧ (s.endCkpt p).run = s.run ∧ (s.endCkpt p).setBits = s.setBits ∧
    (s.endCkpt p).pending = s.pending := by
  unfold State.endCkpt; (repeat' split) <;> simp

@[simp] theorem State.applyWait_keeps (r : Fin 7) (s : State) :
    (s.applyWait r).now = s.now ∧ (s.applyWait r).free = s.free ∧ (s.applyWait r).sys = s.sys ∧
    (s.applyWait r).fs = s.fs ∧ (s.applyWait r).rtc = s.rtc ∧ (s.applyWait r).pwr = s.pwr ∧
    (s.applyWait r).twin = s.twin ∧ (s.applyWait r).fab = s.fab ∧ (s.applyWait r).acc = s.acc ∧
    (s.applyWait r).se = s.se ∧ (s.applyWait r).loops = s.loops ∧ (s.applyWait r).plan = s.plan ∧
    (s.applyWait r).mtr = s.mtr ∧ (s.applyWait r).can = s.can ∧ (s.applyWait r).dio = s.dio ∧
    (s.applyWait r).key = s.key ∧ (s.applyWait r).net = s.net ∧ (s.applyWait r).run = s.run ∧
    (s.applyWait r).pending = s.pending := by
  unfold State.applyWait; (repeat' split) <;> simp

@[simp] theorem State.seal_keeps (r : Fin 7) (s : State) :
    (s.seal r).now = s.now ∧ (s.seal r).free = s.free ∧ (s.seal r).sys = s.sys ∧ (s.seal r).fs = s.fs ∧
    (s.seal r).rtc = s.rtc ∧ (s.seal r).pwr = s.pwr ∧ (s.seal r).twin = s.twin ∧ (s.seal r).fab = s.fab ∧
    (s.seal r).acc = s.acc ∧ (s.seal r).se = s.se ∧ (s.seal r).loops = s.loops ∧ (s.seal r).plan = s.plan ∧
    (s.seal r).mtr = s.mtr ∧ (s.seal r).can = s.can ∧ (s.seal r).dio = s.dio ∧ (s.seal r).key = s.key ∧
    (s.seal r).net = s.net ∧ (s.seal r).run = s.run ∧ (s.seal r).pending = s.pending := by
  simp [State.seal]

@[simp] theorem State.isolate_keeps (p : Fin 8) (s : State) :
    (s.isolate p).now = s.now ∧ (s.isolate p).free = s.free ∧ (s.isolate p).fs = s.fs ∧ (s.isolate p).rtc = s.rtc ∧
    (s.isolate p).sil = s.sil ∧ (s.isolate p).fab = s.fab ∧ (s.isolate p).acc = s.acc ∧ (s.isolate p).se = s.se ∧
    (s.isolate p).loops = s.loops ∧ (s.isolate p).plan = s.plan ∧ (s.isolate p).mtr = s.mtr ∧
    (s.isolate p).can = s.can ∧ (s.isolate p).key = s.key ∧ (s.isolate p).net = s.net ∧ (s.isolate p).run = s.run ∧
    (s.isolate p).mem = s.mem ∧ (s.isolate p).pending = s.pending := by
  unfold State.isolate; split <;> simp

@[simp] theorem State.lockstep_keeps (ps : List (Fin 8)) (s : State) :
    (s.lockstep ps).now = s.now ∧ (s.lockstep ps).free = s.free ∧ (s.lockstep ps).fs = s.fs ∧ (s.lockstep ps).rtc =
    s.rtc ∧ (s.lockstep ps).fab = s.fab ∧ (s.lockstep ps).acc = s.acc ∧ (s.lockstep ps).se = s.se ∧ (s.lockstep
    ps).loops = s.loops ∧ (s.lockstep ps).plan = s.plan ∧ (s.lockstep ps).mtr = s.mtr ∧ (s.lockstep ps).key = s.key ∧
    (s.lockstep ps).net = s.net ∧ (s.lockstep ps).run = s.run ∧ (s.lockstep ps).mem = s.mem ∧ (s.lockstep ps).pending
    = s.pending := by
  unfold State.lockstep; dsimp only; (repeat' split) <;> simp [foldl_keeps_now, foldl_keeps_free, foldl_keeps_fs,
    foldl_keeps_rtc, foldl_keeps_fab, foldl_keeps_acc, foldl_keeps_se, foldl_keeps_loops, foldl_keeps_plan,
    foldl_keeps_mtr, foldl_keeps_key, foldl_keeps_net, foldl_keeps_run, foldl_keeps_mem, foldl_keeps_pending]

@[simp] theorem State.migCommand_keeps (w : Initiator) (v : Nat) (s : State) :
    (s.migCommand w v).now = s.now ∧ (s.migCommand w v).free = s.free ∧ (s.migCommand w v).sys = s.sys ∧
    (s.migCommand w v).fs = s.fs ∧ (s.migCommand w v).rtc = s.rtc ∧ (s.migCommand w v).pwr = s.pwr ∧
    (s.migCommand w v).twin = s.twin ∧ (s.migCommand w v).fab = s.fab ∧ (s.migCommand w v).acc = s.acc ∧
    (s.migCommand w v).se = s.se ∧ (s.migCommand w v).loops = s.loops ∧ (s.migCommand w v).plan = s.plan ∧
    (s.migCommand w v).prog = s.prog ∧ (s.migCommand w v).mtr = s.mtr ∧ (s.migCommand w v).can = s.can ∧
    (s.migCommand w v).dio = s.dio ∧ (s.migCommand w v).key = s.key ∧ (s.migCommand w v).net = s.net ∧
    (s.migCommand w v).run = s.run ∧ (s.migCommand w v).mem = s.mem ∧ (s.migCommand w v).pending = s.pending := by
  unfold State.migCommand State.guardWrite; dsimp only; (repeat' split) <;> simp

@[simp] theorem State.migrate_keeps (r : Fin 7) (s : State) :
    (s.migrate r).now = s.now ∧ (s.migrate r).free = s.free ∧ (s.migrate r).sys = s.sys ∧ (s.migrate r).fs = s.fs ∧
    (s.migrate r).rtc = s.rtc ∧ (s.migrate r).pwr = s.pwr ∧ (s.migrate r).sil = s.sil ∧ (s.migrate r).twin = s.twin ∧
    (s.migrate r).fab = s.fab ∧ (s.migrate r).acc = s.acc ∧ (s.migrate r).se = s.se ∧ (s.migrate r).loops = s.loops ∧
    (s.migrate r).plan = s.plan ∧ (s.migrate r).prog = s.prog ∧ (s.migrate r).mtr = s.mtr ∧ (s.migrate r).can = s.can ∧
    (s.migrate r).dio = s.dio ∧ (s.migrate r).key = s.key ∧ (s.migrate r).net = s.net ∧ (s.migrate r).run = s.run ∧
    (s.migrate r).mem = s.mem ∧ (s.migrate r).setBits = s.setBits ∧ (s.migrate r).pending = s.pending := by
  simp [State.migrate]

@[simp] theorem State.loadPair_keeps (p : Fin 9) (r : Nat) (entry : DWord) (s : State) :
    (s.loadPair p r entry).now = s.now ∧ (s.loadPair p r entry).free = s.free ∧ (s.loadPair p r entry).sys = s.sys ∧
    (s.loadPair p r entry).fs = s.fs ∧ (s.loadPair p r entry).hub = s.hub ∧ (s.loadPair p r entry).rtc = s.rtc ∧
    (s.loadPair p r entry).pwr = s.pwr ∧ (s.loadPair p r entry).sil = s.sil ∧ (s.loadPair p r entry).twin = s.twin ∧
    (s.loadPair p r entry).fab = s.fab ∧ (s.loadPair p r entry).acc = s.acc ∧ (s.loadPair p r entry).se = s.se ∧
    (s.loadPair p r entry).loops = s.loops ∧ (s.loadPair p r entry).plan = s.plan ∧
    (s.loadPair p r entry).prog = s.prog ∧ (s.loadPair p r entry).mtr = s.mtr ∧ (s.loadPair p r entry).can = s.can ∧
    (s.loadPair p r entry).dio = s.dio ∧ (s.loadPair p r entry).key = s.key ∧ (s.loadPair p r entry).net = s.net ∧
    (s.loadPair p r entry).run = s.run ∧ (s.loadPair p r entry).mem = s.mem ∧
    (s.loadPair p r entry).setBits = s.setBits ∧ (s.loadPair p r entry).pending = s.pending := by
  simp [State.loadPair]

@[simp] theorem State.resume_keeps (r : Fin 7) (s : State) :
    (s.resume r).free = s.free ∧ (s.resume r).sys = s.sys ∧ (s.resume r).fs = s.fs ∧ (s.resume r).rtc = s.rtc ∧
    (s.resume r).pwr = s.pwr ∧ (s.resume r).twin = s.twin ∧ (s.resume r).fab = s.fab ∧ (s.resume r).acc = s.acc ∧
    (s.resume r).se = s.se ∧ (s.resume r).loops = s.loops ∧ (s.resume r).plan = s.plan ∧ (s.resume r).prog = s.prog ∧
    (s.resume r).mtr = s.mtr ∧ (s.resume r).can = s.can ∧ (s.resume r).dio = s.dio ∧ (s.resume r).key = s.key ∧
    (s.resume r).net = s.net ∧ (s.resume r).run = s.run ∧ (s.resume r).pending = s.pending := by
  simp [State.resume]

@[simp] theorem State.pairWrite_keeps (s : State) (w : Initiator) (ofs v : Nat) :
    (s.pairWrite w ofs v).key = s.key ∧ (s.pairWrite w ofs v).run = s.run ∧ (s.pairWrite w ofs v).mem = s.mem ∧
    (s.pairWrite w ofs v).pending = s.pending := by
  unfold State.pairWrite; split <;> simp

@[simp] theorem State.loadRoles_keeps (s : State) :
    s.loadRoles.now = s.now ∧ s.loadRoles.free = s.free ∧ s.loadRoles.rtc = s.rtc ∧ s.loadRoles.sil = s.sil ∧
    s.loadRoles.key = s.key ∧ s.loadRoles.run = s.run ∧ s.loadRoles.mem = s.mem ∧
    s.loadRoles.pending = s.pending := by
  simp [State.loadRoles, foldl_keeps_now, foldl_keeps_free, foldl_keeps_rtc, foldl_keeps_sil, foldl_keeps_key,
    foldl_keeps_run, foldl_keeps_mem, foldl_keeps_pending]

@[simp] theorem State.postRec_keeps (k : Nat) (r : Rec) (s : State) :
    (s.postRec k r).now = s.now ∧ (s.postRec k r).free = s.free ∧ (s.postRec k r).sys = s.sys ∧
    (s.postRec k r).fs = s.fs ∧ (s.postRec k r).rtc = s.rtc ∧ (s.postRec k r).pwr = s.pwr ∧
    (s.postRec k r).sil = s.sil ∧ (s.postRec k r).twin = s.twin ∧ (s.postRec k r).pairs = s.pairs ∧
    (s.postRec k r).acc = s.acc ∧ (s.postRec k r).se = s.se ∧ (s.postRec k r).loops = s.loops ∧
    (s.postRec k r).plan = s.plan ∧ (s.postRec k r).prog = s.prog ∧ (s.postRec k r).mtr = s.mtr ∧
    (s.postRec k r).can = s.can ∧ (s.postRec k r).dio = s.dio ∧ (s.postRec k r).key = s.key ∧
    (s.postRec k r).net = s.net ∧ (s.postRec k r).run = s.run ∧ (s.postRec k r).mem = s.mem ∧
    (s.postRec k r).setBits = s.setBits ∧ (s.postRec k r).pending = s.pending := by
  unfold State.postRec; dsimp only; (repeat' split) <;> simp

@[simp] theorem State.postHead_keeps (k : Nat) (s : State) :
    (s.postHead k).sil = s.sil ∧ (s.postHead k).pairs = s.pairs ∧ (s.postHead k).pending = s.pending := by
  unfold State.postHead; (repeat' split) <;> simp

@[simp] theorem State.release_keeps (w : Initiator) (v : Nat) (s : State) :
    (s.release w v).sys = s.sys ∧ (s.release w v).fs = s.fs ∧ (s.release w v).rtc = s.rtc ∧
    (s.release w v).pwr = s.pwr ∧ (s.release w v).twin = s.twin ∧ (s.release w v).pairs = s.pairs ∧
    (s.release w v).acc = s.acc ∧ (s.release w v).se = s.se ∧ (s.release w v).loops = s.loops ∧
    (s.release w v).plan = s.plan ∧ (s.release w v).prog = s.prog ∧ (s.release w v).mtr = s.mtr ∧
    (s.release w v).can = s.can ∧ (s.release w v).dio = s.dio ∧ (s.release w v).net = s.net ∧
    (s.release w v).mem = s.mem ∧ (s.release w v).pending = s.pending := by
  unfold State.release State.guardWrite; dsimp only; (repeat' split) <;> simp

@[simp] theorem State.fabWrite_keeps (s : State) (w : Initiator) (ofs v : Nat) :
    (s.fabWrite w ofs v).pairs = s.pairs ∧ (s.fabWrite w ofs v).mem = s.mem ∧
    (s.fabWrite w ofs v).pending = s.pending := by
  simp only [State.fabWrite, State.guardWrite]; (repeat' split) <;> simp

@[simp] theorem State.accOpen_keeps (level method secs : Nat) (s : State) :
    (s.accOpen level method secs).now = s.now ∧ (s.accOpen level method secs).free = s.free ∧
    (s.accOpen level method secs).sys = s.sys ∧ (s.accOpen level method secs).fs = s.fs ∧
    (s.accOpen level method secs).rtc = s.rtc ∧ (s.accOpen level method secs).pwr = s.pwr ∧
    (s.accOpen level method secs).twin = s.twin ∧ (s.accOpen level method secs).pairs = s.pairs ∧
    (s.accOpen level method secs).fab = s.fab ∧ (s.accOpen level method secs).acc = s.acc ∧
    (s.accOpen level method secs).se = s.se ∧ (s.accOpen level method secs).loops = s.loops ∧
    (s.accOpen level method secs).plan = s.plan ∧ (s.accOpen level method secs).prog = s.prog ∧
    (s.accOpen level method secs).mtr = s.mtr ∧ (s.accOpen level method secs).can = s.can ∧
    (s.accOpen level method secs).dio = s.dio ∧ (s.accOpen level method secs).net = s.net ∧
    (s.accOpen level method secs).run = s.run ∧ (s.accOpen level method secs).mem = s.mem ∧
    (s.accOpen level method secs).pending = s.pending := by
  simp [State.accOpen]

@[simp] theorem State.accFail_keeps (s : State) :
    s.accFail.now = s.now ∧ s.accFail.free = s.free ∧ s.accFail.sys = s.sys ∧ s.accFail.fs = s.fs ∧
    s.accFail.rtc = s.rtc ∧ s.accFail.pwr = s.pwr ∧ s.accFail.sil = s.sil ∧ s.accFail.twin = s.twin ∧
    s.accFail.pairs = s.pairs ∧ s.accFail.fab = s.fab ∧ s.accFail.acc = s.acc ∧ s.accFail.se = s.se ∧
    s.accFail.loops = s.loops ∧ s.accFail.plan = s.plan ∧ s.accFail.prog = s.prog ∧ s.accFail.mtr = s.mtr ∧
    s.accFail.can = s.can ∧ s.accFail.dio = s.dio ∧ s.accFail.net = s.net ∧ s.accFail.run = s.run ∧
    s.accFail.mem = s.mem ∧ s.accFail.setBits = s.setBits ∧ s.accFail.pending = s.pending := by
  unfold State.accFail; dsimp only; (repeat' split) <;> simp

@[simp] theorem State.newNonce_keeps (s : State) :
    s.newNonce.now = s.now ∧ s.newNonce.sys = s.sys ∧ s.newNonce.fs = s.fs ∧ s.newNonce.hub = s.hub ∧
    s.newNonce.rtc = s.rtc ∧ s.newNonce.pwr = s.pwr ∧ s.newNonce.sil = s.sil ∧ s.newNonce.twin = s.twin ∧
    s.newNonce.pairs = s.pairs ∧ s.newNonce.fab = s.fab ∧ s.newNonce.acc = s.acc ∧ s.newNonce.se = s.se ∧
    s.newNonce.loops = s.loops ∧ s.newNonce.plan = s.plan ∧ s.newNonce.prog = s.prog ∧ s.newNonce.mtr = s.mtr ∧
    s.newNonce.can = s.can ∧ s.newNonce.dio = s.dio ∧ s.newNonce.net = s.net ∧ s.newNonce.run = s.run ∧
    s.newNonce.mem = s.mem ∧ s.newNonce.setBits = s.setBits ∧ s.newNonce.pending = s.pending := by
  simp [State.newNonce]

@[simp] theorem State.zeroWords_keeps (s : State) :
    s.zeroWords.now = s.now ∧ s.zeroWords.sys = s.sys ∧ s.zeroWords.fs = s.fs ∧ s.zeroWords.rtc = s.rtc ∧
    s.zeroWords.pwr = s.pwr ∧ s.zeroWords.sil = s.sil ∧ s.zeroWords.twin = s.twin ∧ s.zeroWords.pairs = s.pairs ∧
    s.zeroWords.fab = s.fab ∧ s.zeroWords.acc = s.acc ∧ s.zeroWords.se = s.se ∧ s.zeroWords.loops = s.loops ∧
    s.zeroWords.plan = s.plan ∧ s.zeroWords.prog = s.prog ∧ s.zeroWords.mtr = s.mtr ∧ s.zeroWords.can = s.can ∧
    s.zeroWords.dio = s.dio ∧ s.zeroWords.net = s.net ∧ s.zeroWords.run = s.run ∧ s.zeroWords.mem = s.mem ∧
    s.zeroWords.pending = s.pending := by
  simp [State.zeroWords]

@[simp] theorem State.tryCr_keeps (level expiry : Nat) (resp : List Byte) (s : State) :
    ((s.tryCr level expiry resp).1).now = s.now ∧ ((s.tryCr level expiry resp).1).sys = s.sys ∧
    ((s.tryCr level expiry resp).1).fs = s.fs ∧ ((s.tryCr level expiry resp).1).rtc = s.rtc ∧
    ((s.tryCr level expiry resp).1).pwr = s.pwr ∧ ((s.tryCr level expiry resp).1).twin = s.twin ∧
    ((s.tryCr level expiry resp).1).pairs = s.pairs ∧ ((s.tryCr level expiry resp).1).fab = s.fab ∧
    ((s.tryCr level expiry resp).1).acc = s.acc ∧ ((s.tryCr level expiry resp).1).se = s.se ∧
    ((s.tryCr level expiry resp).1).loops = s.loops ∧ ((s.tryCr level expiry resp).1).plan = s.plan ∧
    ((s.tryCr level expiry resp).1).prog = s.prog ∧ ((s.tryCr level expiry resp).1).mtr = s.mtr ∧
    ((s.tryCr level expiry resp).1).can = s.can ∧ ((s.tryCr level expiry resp).1).dio = s.dio ∧
    ((s.tryCr level expiry resp).1).net = s.net ∧ ((s.tryCr level expiry resp).1).run = s.run ∧
    ((s.tryCr level expiry resp).1).mem = s.mem ∧ ((s.tryCr level expiry resp).1).pending = s.pending := by
  unfold State.tryCr; dsimp only; (repeat' split) <;> simp

@[simp] theorem State.tryPw_keeps (level : Nat) (pw : List Byte) (s : State) :
    ((s.tryPw level pw).1).now = s.now ∧ ((s.tryPw level pw).1).sys = s.sys ∧ ((s.tryPw level pw).1).fs = s.fs ∧
    ((s.tryPw level pw).1).rtc = s.rtc ∧ ((s.tryPw level pw).1).pwr = s.pwr ∧ ((s.tryPw level pw).1).twin = s.twin ∧
    ((s.tryPw level pw).1).pairs = s.pairs ∧ ((s.tryPw level pw).1).fab = s.fab ∧ ((s.tryPw level pw).1).acc = s.acc ∧
    ((s.tryPw level pw).1).se = s.se ∧ ((s.tryPw level pw).1).loops = s.loops ∧ ((s.tryPw level pw).1).plan = s.plan ∧
    ((s.tryPw level pw).1).prog = s.prog ∧ ((s.tryPw level pw).1).mtr = s.mtr ∧ ((s.tryPw level pw).1).can = s.can ∧
    ((s.tryPw level pw).1).dio = s.dio ∧ ((s.tryPw level pw).1).net = s.net ∧ ((s.tryPw level pw).1).run = s.run ∧
    ((s.tryPw level pw).1).mem = s.mem ∧ ((s.tryPw level pw).1).pending = s.pending := by
  unfold State.tryPw; dsimp only; (repeat' split) <;> simp

@[simp] theorem State.accReq_keeps (w : Initiator) (v : Nat) (s : State) :
    (s.accReq w v).now = s.now ∧ (s.accReq w v).sys = s.sys ∧ (s.accReq w v).fs = s.fs ∧ (s.accReq w v).rtc = s.rtc ∧
    (s.accReq w v).pwr = s.pwr ∧ (s.accReq w v).twin = s.twin ∧ (s.accReq w v).pairs = s.pairs ∧
    (s.accReq w v).fab = s.fab ∧ (s.accReq w v).acc = s.acc ∧ (s.accReq w v).se = s.se ∧
    (s.accReq w v).loops = s.loops ∧ (s.accReq w v).plan = s.plan ∧ (s.accReq w v).prog = s.prog ∧
    (s.accReq w v).mtr = s.mtr ∧ (s.accReq w v).can = s.can ∧ (s.accReq w v).dio = s.dio ∧ (s.accReq w v).net = s.net ∧
    (s.accReq w v).run = s.run ∧ (s.accReq w v).mem = s.mem ∧ (s.accReq w v).pending = s.pending := by
  unfold State.accReq State.guardWrite; dsimp only; (repeat' split) <;> simp

@[simp] theorem State.keyWrite_keeps (s : State) (w : Initiator) (ofs v : Nat) :
    (s.keyWrite w ofs v).pairs = s.pairs ∧ (s.keyWrite w ofs v).mem = s.mem ∧
    (s.keyWrite w ofs v).pending = s.pending := by
  unfold State.keyWrite; split
  · simp
  · unfold State.guardWrite; split <;> simp

@[simp] theorem State.accWrite_keeps (s : State) (w : Initiator) (ofs v : Nat) :
    (s.accWrite w ofs v).pairs = s.pairs ∧ (s.accWrite w ofs v).run = s.run ∧ (s.accWrite w ofs v).mem = s.mem ∧
    (s.accWrite w ofs v).pending = s.pending := by
  simp only [State.accWrite, State.guardWrite]; (repeat' split) <;> simp

@[simp] theorem State.fsEvents_keeps (old : FrameSeq) (s : State) :
    (s.fsEvents old).now = s.now ∧ (s.fsEvents old).free = s.free ∧ (s.fsEvents old).sys = s.sys ∧
    (s.fsEvents old).fs = s.fs ∧ (s.fsEvents old).rtc = s.rtc ∧ (s.fsEvents old).pwr = s.pwr ∧
    (s.fsEvents old).twin = s.twin ∧ (s.fsEvents old).pairs = s.pairs ∧ (s.fsEvents old).fab = s.fab ∧
    (s.fsEvents old).acc = s.acc ∧ (s.fsEvents old).se = s.se ∧ (s.fsEvents old).loops = s.loops ∧
    (s.fsEvents old).plan = s.plan ∧ (s.fsEvents old).prog = s.prog ∧ (s.fsEvents old).mtr = s.mtr ∧
    (s.fsEvents old).can = s.can ∧ (s.fsEvents old).dio = s.dio ∧ (s.fsEvents old).key = s.key ∧
    (s.fsEvents old).net = s.net ∧ (s.fsEvents old).run = s.run ∧ (s.fsEvents old).mem = s.mem ∧
    (s.fsEvents old).pending = s.pending := by
  unfold State.fsEvents; (repeat' split) <;> simp

@[simp] theorem State.secondEdge_keeps (c : Int) (s : State) :
    (s.secondEdge c).now = s.now ∧ (s.secondEdge c).free = s.free ∧ (s.secondEdge c).sys = s.sys ∧
    (s.secondEdge c).rtc = s.rtc ∧ (s.secondEdge c).pwr = s.pwr ∧ (s.secondEdge c).twin = s.twin ∧
    (s.secondEdge c).pairs = s.pairs ∧ (s.secondEdge c).fab = s.fab ∧ (s.secondEdge c).acc = s.acc ∧
    (s.secondEdge c).se = s.se ∧ (s.secondEdge c).loops = s.loops ∧ (s.secondEdge c).plan = s.plan ∧
    (s.secondEdge c).prog = s.prog ∧ (s.secondEdge c).mtr = s.mtr ∧ (s.secondEdge c).can = s.can ∧
    (s.secondEdge c).dio = s.dio ∧ (s.secondEdge c).key = s.key ∧ (s.secondEdge c).net = s.net ∧
    (s.secondEdge c).run = s.run ∧ (s.secondEdge c).mem = s.mem ∧ (s.secondEdge c).pending = s.pending := by
  unfold State.secondEdge; (repeat' split) <;> simp

@[simp] theorem State.ptpPulse_keeps (at_ : Nat) (s : State) :
    (s.ptpPulse at_).now = s.now ∧ (s.ptpPulse at_).free = s.free ∧ (s.ptpPulse at_).sys = s.sys ∧ (s.ptpPulse
    at_).rtc = s.rtc ∧ (s.ptpPulse at_).pwr = s.pwr ∧ (s.ptpPulse at_).twin = s.twin ∧ (s.ptpPulse at_).pairs =
    s.pairs ∧ (s.ptpPulse at_).fab = s.fab ∧ (s.ptpPulse at_).acc = s.acc ∧ (s.ptpPulse at_).se = s.se ∧ (s.ptpPulse
    at_).loops = s.loops ∧ (s.ptpPulse at_).plan = s.plan ∧ (s.ptpPulse at_).prog = s.prog ∧ (s.ptpPulse at_).mtr =
    s.mtr ∧ (s.ptpPulse at_).can = s.can ∧ (s.ptpPulse at_).dio = s.dio ∧ (s.ptpPulse at_).key = s.key ∧ (s.ptpPulse
    at_).net = s.net ∧ (s.ptpPulse at_).run = s.run ∧ (s.ptpPulse at_).mem = s.mem ∧ (s.ptpPulse at_).pending =
    s.pending := by
  unfold State.ptpPulse; (try dsimp only); (repeat' split) <;> simp -implicitDefEqProofs

@[simp] theorem State.fsOpen_keeps (w : Initiator) (g : FsGroup) (s : State) :
    (s.fsOpen w g).now = s.now ∧ (s.fsOpen w g).free = s.free ∧ (s.fsOpen w g).sys = s.sys ∧
    (s.fsOpen w g).hub = s.hub ∧ (s.fsOpen w g).rtc = s.rtc ∧ (s.fsOpen w g).pwr = s.pwr ∧ (s.fsOpen w g).sil = s.sil ∧
    (s.fsOpen w g).twin = s.twin ∧ (s.fsOpen w g).pairs = s.pairs ∧ (s.fsOpen w g).fab = s.fab ∧
    (s.fsOpen w g).acc = s.acc ∧ (s.fsOpen w g).se = s.se ∧ (s.fsOpen w g).loops = s.loops ∧
    (s.fsOpen w g).plan = s.plan ∧ (s.fsOpen w g).prog = s.prog ∧ (s.fsOpen w g).mtr = s.mtr ∧
    (s.fsOpen w g).can = s.can ∧ (s.fsOpen w g).dio = s.dio ∧ (s.fsOpen w g).key = s.key ∧ (s.fsOpen w g).net = s.net ∧
    (s.fsOpen w g).run = s.run ∧ (s.fsOpen w g).mem = s.mem ∧ (s.fsOpen w g).setBits = s.setBits ∧
    (s.fsOpen w g).pending = s.pending := by
  simp [State.fsOpen]

@[simp] theorem State.fsClose_keeps (w : Initiator) (g : FsGroup) (s : State) :
    (s.fsClose w g).now = s.now ∧ (s.fsClose w g).free = s.free ∧ (s.fsClose w g).sys = s.sys ∧
    (s.fsClose w g).hub = s.hub ∧ (s.fsClose w g).rtc = s.rtc ∧ (s.fsClose w g).pwr = s.pwr ∧
    (s.fsClose w g).sil = s.sil ∧ (s.fsClose w g).twin = s.twin ∧ (s.fsClose w g).pairs = s.pairs ∧
    (s.fsClose w g).fab = s.fab ∧ (s.fsClose w g).acc = s.acc ∧ (s.fsClose w g).se = s.se ∧
    (s.fsClose w g).loops = s.loops ∧ (s.fsClose w g).plan = s.plan ∧ (s.fsClose w g).prog = s.prog ∧
    (s.fsClose w g).mtr = s.mtr ∧ (s.fsClose w g).can = s.can ∧ (s.fsClose w g).dio = s.dio ∧
    (s.fsClose w g).key = s.key ∧ (s.fsClose w g).net = s.net ∧ (s.fsClose w g).run = s.run ∧
    (s.fsClose w g).mem = s.mem ∧ (s.fsClose w g).setBits = s.setBits ∧ (s.fsClose w g).pending = s.pending := by
  simp [State.fsClose]

@[simp] theorem State.fsSteer_keeps (w : Initiator) (v : Nat) (s : State) :
    (s.fsSteer w v).now = s.now ∧ (s.fsSteer w v).free = s.free ∧ (s.fsSteer w v).sys = s.sys ∧
    (s.fsSteer w v).rtc = s.rtc ∧ (s.fsSteer w v).pwr = s.pwr ∧ (s.fsSteer w v).twin = s.twin ∧
    (s.fsSteer w v).pairs = s.pairs ∧ (s.fsSteer w v).fab = s.fab ∧ (s.fsSteer w v).acc = s.acc ∧
    (s.fsSteer w v).se = s.se ∧ (s.fsSteer w v).loops = s.loops ∧ (s.fsSteer w v).plan = s.plan ∧
    (s.fsSteer w v).prog = s.prog ∧ (s.fsSteer w v).mtr = s.mtr ∧ (s.fsSteer w v).can = s.can ∧
    (s.fsSteer w v).dio = s.dio ∧ (s.fsSteer w v).key = s.key ∧ (s.fsSteer w v).net = s.net ∧
    (s.fsSteer w v).run = s.run ∧ (s.fsSteer w v).mem = s.mem ∧ (s.fsSteer w v).pending = s.pending := by
  unfold State.fsSteer State.guardWrite; dsimp only; (repeat' split) <;> simp

@[simp] theorem State.fsTouch_keeps (s : State) (w : Initiator) (ofs : Nat) :
    (s.fsTouch w ofs).sil = s.sil ∧ (s.fsTouch w ofs).pairs = s.pairs ∧ (s.fsTouch w ofs).key = s.key ∧
    (s.fsTouch w ofs).run = s.run ∧ (s.fsTouch w ofs).mem = s.mem ∧ (s.fsTouch w ofs).pending = s.pending := by
  unfold State.fsTouch; (repeat' split) <;> simp

@[simp] theorem State.fsWrite_keeps (s : State) (w : Initiator) (ofs v : Nat) :
    (s.fsWrite w ofs v).pairs = s.pairs ∧ (s.fsWrite w ofs v).key = s.key ∧ (s.fsWrite w ofs v).run = s.run ∧
    (s.fsWrite w ofs v).mem = s.mem ∧ (s.fsWrite w ofs v).pending = s.pending := by
  simp only [State.fsWrite, State.guardWrite, State.rwlWrite]; (repeat' split) <;> simp

@[simp] theorem State.ethRaise_keeps (n : Fin 4) (i : Nat) (s : State) :
    (s.ethRaise n i).now = s.now ∧ (s.ethRaise n i).free = s.free ∧ (s.ethRaise n i).sys = s.sys ∧
    (s.ethRaise n i).fs = s.fs ∧ (s.ethRaise n i).rtc = s.rtc ∧ (s.ethRaise n i).pwr = s.pwr ∧
    (s.ethRaise n i).sil = s.sil ∧ (s.ethRaise n i).twin = s.twin ∧ (s.ethRaise n i).pairs = s.pairs ∧
    (s.ethRaise n i).fab = s.fab ∧ (s.ethRaise n i).acc = s.acc ∧ (s.ethRaise n i).se = s.se ∧
    (s.ethRaise n i).loops = s.loops ∧ (s.ethRaise n i).plan = s.plan ∧ (s.ethRaise n i).prog = s.prog ∧
    (s.ethRaise n i).mtr = s.mtr ∧ (s.ethRaise n i).can = s.can ∧ (s.ethRaise n i).dio = s.dio ∧
    (s.ethRaise n i).key = s.key ∧ (s.ethRaise n i).net = s.net ∧ (s.ethRaise n i).run = s.run ∧
    (s.ethRaise n i).mem = s.mem ∧ (s.ethRaise n i).setBits = s.setBits ∧ (s.ethRaise n i).pending = s.pending := by
  simp [State.ethRaise]

@[simp] theorem State.ethDrop_keeps (n : Fin 4) (f : EthPort → EthPort) (s : State) :
    (s.ethDrop n f).now = s.now ∧ (s.ethDrop n f).free = s.free ∧ (s.ethDrop n f).sys = s.sys ∧
    (s.ethDrop n f).fs = s.fs ∧ (s.ethDrop n f).rtc = s.rtc ∧ (s.ethDrop n f).pwr = s.pwr ∧
    (s.ethDrop n f).sil = s.sil ∧ (s.ethDrop n f).twin = s.twin ∧ (s.ethDrop n f).pairs = s.pairs ∧
    (s.ethDrop n f).fab = s.fab ∧ (s.ethDrop n f).acc = s.acc ∧ (s.ethDrop n f).se = s.se ∧
    (s.ethDrop n f).loops = s.loops ∧ (s.ethDrop n f).plan = s.plan ∧ (s.ethDrop n f).prog = s.prog ∧
    (s.ethDrop n f).mtr = s.mtr ∧ (s.ethDrop n f).can = s.can ∧ (s.ethDrop n f).dio = s.dio ∧
    (s.ethDrop n f).key = s.key ∧ (s.ethDrop n f).run = s.run ∧ (s.ethDrop n f).mem = s.mem ∧
    (s.ethDrop n f).setBits = s.setBits ∧ (s.ethDrop n f).pending = s.pending := by
  simp [State.ethDrop]

@[simp] theorem State.ethClear_keeps (n : Fin 4) (s : State) :
    (s.ethClear n).now = s.now ∧ (s.ethClear n).free = s.free ∧ (s.ethClear n).sys = s.sys ∧ (s.ethClear n).fs = s.fs ∧
    (s.ethClear n).rtc = s.rtc ∧ (s.ethClear n).pwr = s.pwr ∧ (s.ethClear n).sil = s.sil ∧
    (s.ethClear n).twin = s.twin ∧ (s.ethClear n).pairs = s.pairs ∧ (s.ethClear n).fab = s.fab ∧
    (s.ethClear n).acc = s.acc ∧ (s.ethClear n).se = s.se ∧ (s.ethClear n).loops = s.loops ∧
    (s.ethClear n).plan = s.plan ∧ (s.ethClear n).prog = s.prog ∧ (s.ethClear n).mtr = s.mtr ∧
    (s.ethClear n).can = s.can ∧ (s.ethClear n).dio = s.dio ∧ (s.ethClear n).key = s.key ∧ (s.ethClear n).run = s.run ∧
    (s.ethClear n).mem = s.mem ∧ (s.ethClear n).pending = s.pending := by
  simp [State.ethClear]

@[simp] theorem State.ethWrite_keeps (s : State) (w : Initiator) (n : Fin 4) (ofs v : Nat) :
    (s.ethWrite w n ofs v).now = s.now ∧ (s.ethWrite w n ofs v).free = s.free ∧ (s.ethWrite w n ofs v).sys = s.sys ∧
    (s.ethWrite w n ofs v).fs = s.fs ∧ (s.ethWrite w n ofs v).rtc = s.rtc ∧ (s.ethWrite w n ofs v).pwr = s.pwr ∧
    (s.ethWrite w n ofs v).twin = s.twin ∧ (s.ethWrite w n ofs v).pairs = s.pairs ∧ (s.ethWrite w n ofs v).fab = s.fab ∧
    (s.ethWrite w n ofs v).acc = s.acc ∧ (s.ethWrite w n ofs v).se = s.se ∧ (s.ethWrite w n ofs v).loops = s.loops ∧
    (s.ethWrite w n ofs v).plan = s.plan ∧ (s.ethWrite w n ofs v).prog = s.prog ∧ (s.ethWrite w n ofs v).mtr = s.mtr ∧
    (s.ethWrite w n ofs v).can = s.can ∧ (s.ethWrite w n ofs v).dio = s.dio ∧ (s.ethWrite w n ofs v).key = s.key ∧
    (s.ethWrite w n ofs v).run = s.run ∧ (s.ethWrite w n ofs v).mem = s.mem ∧
    (s.ethWrite w n ofs v).pending = s.pending := by
  simp only [State.ethWrite, State.guardWrite, State.rwlWrite]; (repeat' split) <;> simp

@[simp] theorem State.ptpRaise_keeps (i : Nat) (s : State) :
    (s.ptpRaise i).now = s.now ∧ (s.ptpRaise i).free = s.free ∧ (s.ptpRaise i).sys = s.sys ∧ (s.ptpRaise i).fs = s.fs ∧
    (s.ptpRaise i).rtc = s.rtc ∧ (s.ptpRaise i).pwr = s.pwr ∧ (s.ptpRaise i).sil = s.sil ∧
    (s.ptpRaise i).twin = s.twin ∧ (s.ptpRaise i).pairs = s.pairs ∧ (s.ptpRaise i).fab = s.fab ∧
    (s.ptpRaise i).acc = s.acc ∧ (s.ptpRaise i).se = s.se ∧ (s.ptpRaise i).loops = s.loops ∧
    (s.ptpRaise i).plan = s.plan ∧ (s.ptpRaise i).prog = s.prog ∧ (s.ptpRaise i).mtr = s.mtr ∧
    (s.ptpRaise i).can = s.can ∧ (s.ptpRaise i).dio = s.dio ∧ (s.ptpRaise i).key = s.key ∧ (s.ptpRaise i).net = s.net ∧
    (s.ptpRaise i).run = s.run ∧ (s.ptpRaise i).mem = s.mem ∧ (s.ptpRaise i).setBits = s.setBits ∧
    (s.ptpRaise i).pending = s.pending := by
  simp [State.ptpRaise]

@[simp] theorem State.ptpRoll_keeps (s : State) :
    s.ptpRoll.free = s.free ∧ s.ptpRoll.sys = s.sys ∧ s.ptpRoll.rtc = s.rtc ∧ s.ptpRoll.pwr = s.pwr ∧ s.ptpRoll.twin
    = s.twin ∧ s.ptpRoll.pairs = s.pairs ∧ s.ptpRoll.fab = s.fab ∧ s.ptpRoll.acc = s.acc ∧ s.ptpRoll.se = s.se ∧
    s.ptpRoll.loops = s.loops ∧ s.ptpRoll.plan = s.plan ∧ s.ptpRoll.prog = s.prog ∧ s.ptpRoll.mtr = s.mtr ∧
    s.ptpRoll.can = s.can ∧ s.ptpRoll.dio = s.dio ∧ s.ptpRoll.key = s.key ∧ s.ptpRoll.run = s.run ∧ s.ptpRoll.mem =
    s.mem ∧ s.ptpRoll.pending = s.pending := by
  unfold State.ptpRoll; (try dsimp only); (repeat' split) <;> simp -implicitDefEqProofs

@[simp] theorem State.ptpStep_keeps (w : Initiator) (v : Nat) (s : State) :
    (s.ptpStep w v).free = s.free ∧ (s.ptpStep w v).sys = s.sys ∧ (s.ptpStep w v).rtc = s.rtc ∧
    (s.ptpStep w v).pwr = s.pwr ∧ (s.ptpStep w v).twin = s.twin ∧ (s.ptpStep w v).pairs = s.pairs ∧
    (s.ptpStep w v).fab = s.fab ∧ (s.ptpStep w v).acc = s.acc ∧ (s.ptpStep w v).se = s.se ∧
    (s.ptpStep w v).loops = s.loops ∧ (s.ptpStep w v).plan = s.plan ∧ (s.ptpStep w v).prog = s.prog ∧
    (s.ptpStep w v).mtr = s.mtr ∧ (s.ptpStep w v).can = s.can ∧ (s.ptpStep w v).dio = s.dio ∧
    (s.ptpStep w v).key = s.key ∧ (s.ptpStep w v).run = s.run ∧ (s.ptpStep w v).mem = s.mem ∧
    (s.ptpStep w v).pending = s.pending := by
  unfold State.ptpStep State.guardWrite; dsimp only; (repeat' split) <;> simp

@[simp] theorem State.ptpAdj_keeps (w : Initiator) (v : Nat) (s : State) :
    (s.ptpAdj w v).free = s.free ∧ (s.ptpAdj w v).sys = s.sys ∧ (s.ptpAdj w v).rtc = s.rtc ∧
    (s.ptpAdj w v).pwr = s.pwr ∧ (s.ptpAdj w v).twin = s.twin ∧ (s.ptpAdj w v).pairs = s.pairs ∧
    (s.ptpAdj w v).fab = s.fab ∧ (s.ptpAdj w v).acc = s.acc ∧ (s.ptpAdj w v).se = s.se ∧
    (s.ptpAdj w v).loops = s.loops ∧ (s.ptpAdj w v).plan = s.plan ∧ (s.ptpAdj w v).prog = s.prog ∧
    (s.ptpAdj w v).mtr = s.mtr ∧ (s.ptpAdj w v).can = s.can ∧ (s.ptpAdj w v).dio = s.dio ∧ (s.ptpAdj w v).key = s.key ∧
    (s.ptpAdj w v).run = s.run ∧ (s.ptpAdj w v).mem = s.mem ∧ (s.ptpAdj w v).pending = s.pending := by
  unfold State.ptpAdj State.guardWrite; dsimp only; (repeat' split) <;> simp

@[simp] theorem State.ptpOpen_keeps (w : Initiator) (g : PtpGroup) (s : State) :
    (s.ptpOpen w g).now = s.now ∧ (s.ptpOpen w g).free = s.free ∧ (s.ptpOpen w g).sys = s.sys ∧
    (s.ptpOpen w g).fs = s.fs ∧ (s.ptpOpen w g).hub = s.hub ∧ (s.ptpOpen w g).rtc = s.rtc ∧
    (s.ptpOpen w g).pwr = s.pwr ∧ (s.ptpOpen w g).sil = s.sil ∧ (s.ptpOpen w g).twin = s.twin ∧
    (s.ptpOpen w g).pairs = s.pairs ∧ (s.ptpOpen w g).fab = s.fab ∧ (s.ptpOpen w g).acc = s.acc ∧
    (s.ptpOpen w g).se = s.se ∧ (s.ptpOpen w g).loops = s.loops ∧ (s.ptpOpen w g).plan = s.plan ∧
    (s.ptpOpen w g).prog = s.prog ∧ (s.ptpOpen w g).mtr = s.mtr ∧ (s.ptpOpen w g).can = s.can ∧
    (s.ptpOpen w g).dio = s.dio ∧ (s.ptpOpen w g).key = s.key ∧ (s.ptpOpen w g).run = s.run ∧
    (s.ptpOpen w g).mem = s.mem ∧ (s.ptpOpen w g).setBits = s.setBits ∧ (s.ptpOpen w g).pending = s.pending := by
  simp [State.ptpOpen]

@[simp] theorem State.ptpClose_keeps (w : Initiator) (g : PtpGroup) (s : State) :
    (s.ptpClose w g).now = s.now ∧ (s.ptpClose w g).free = s.free ∧ (s.ptpClose w g).sys = s.sys ∧
    (s.ptpClose w g).fs = s.fs ∧ (s.ptpClose w g).hub = s.hub ∧ (s.ptpClose w g).rtc = s.rtc ∧
    (s.ptpClose w g).pwr = s.pwr ∧ (s.ptpClose w g).sil = s.sil ∧ (s.ptpClose w g).twin = s.twin ∧
    (s.ptpClose w g).pairs = s.pairs ∧ (s.ptpClose w g).fab = s.fab ∧ (s.ptpClose w g).acc = s.acc ∧
    (s.ptpClose w g).se = s.se ∧ (s.ptpClose w g).loops = s.loops ∧ (s.ptpClose w g).plan = s.plan ∧
    (s.ptpClose w g).prog = s.prog ∧ (s.ptpClose w g).mtr = s.mtr ∧ (s.ptpClose w g).can = s.can ∧
    (s.ptpClose w g).dio = s.dio ∧ (s.ptpClose w g).key = s.key ∧ (s.ptpClose w g).run = s.run ∧
    (s.ptpClose w g).mem = s.mem ∧ (s.ptpClose w g).setBits = s.setBits ∧ (s.ptpClose w g).pending = s.pending := by
  simp [State.ptpClose]

@[simp] theorem State.ptpTouch_keeps (s : State) (w : Initiator) (ofs : Nat) :
    (s.ptpTouch w ofs).sil = s.sil ∧ (s.ptpTouch w ofs).pairs = s.pairs ∧ (s.ptpTouch w ofs).key = s.key ∧
    (s.ptpTouch w ofs).run = s.run ∧ (s.ptpTouch w ofs).mem = s.mem ∧ (s.ptpTouch w ofs).pending = s.pending := by
  unfold State.ptpTouch; (repeat' split) <;> simp

@[simp] theorem State.ptpWrite_keeps (s : State) (w : Initiator) (ofs v : Nat) :
    (s.ptpWrite w ofs v).pairs = s.pairs ∧ (s.ptpWrite w ofs v).key = s.key ∧ (s.ptpWrite w ofs v).run = s.run ∧
    (s.ptpWrite w ofs v).mem = s.mem ∧ (s.ptpWrite w ofs v).pending = s.pending := by
  simp only [State.ptpWrite, State.guardWrite, State.rwlWrite]; (repeat' split) <;> simp

@[simp] theorem State.xsxRaise_keeps (i : Nat) (s : State) :
    (s.xsxRaise i).now = s.now ∧ (s.xsxRaise i).free = s.free ∧ (s.xsxRaise i).sys = s.sys ∧ (s.xsxRaise i).fs = s.fs ∧
    (s.xsxRaise i).rtc = s.rtc ∧ (s.xsxRaise i).pwr = s.pwr ∧ (s.xsxRaise i).sil = s.sil ∧
    (s.xsxRaise i).twin = s.twin ∧ (s.xsxRaise i).pairs = s.pairs ∧ (s.xsxRaise i).fab = s.fab ∧
    (s.xsxRaise i).acc = s.acc ∧ (s.xsxRaise i).se = s.se ∧ (s.xsxRaise i).loops = s.loops ∧
    (s.xsxRaise i).plan = s.plan ∧ (s.xsxRaise i).prog = s.prog ∧ (s.xsxRaise i).mtr = s.mtr ∧
    (s.xsxRaise i).can = s.can ∧ (s.xsxRaise i).dio = s.dio ∧ (s.xsxRaise i).key = s.key ∧ (s.xsxRaise i).net = s.net ∧
    (s.xsxRaise i).run = s.run ∧ (s.xsxRaise i).mem = s.mem ∧ (s.xsxRaise i).setBits = s.setBits ∧
    (s.xsxRaise i).pending = s.pending := by
  simp [State.xsxRaise]

@[simp] theorem State.substPut_keeps (k o : Nat) (b : List Byte) (s : State) :
    (s.substPut k o b).now = s.now ∧ (s.substPut k o b).free = s.free ∧ (s.substPut k o b).sys = s.sys ∧
    (s.substPut k o b).fs = s.fs ∧ (s.substPut k o b).rtc = s.rtc ∧ (s.substPut k o b).pwr = s.pwr ∧
    (s.substPut k o b).twin = s.twin ∧ (s.substPut k o b).pairs = s.pairs ∧ (s.substPut k o b).acc = s.acc ∧
    (s.substPut k o b).loops = s.loops ∧ (s.substPut k o b).plan = s.plan ∧ (s.substPut k o b).prog = s.prog ∧
    (s.substPut k o b).mtr = s.mtr ∧ (s.substPut k o b).can = s.can ∧ (s.substPut k o b).dio = s.dio ∧
    (s.substPut k o b).key = s.key ∧ (s.substPut k o b).net = s.net ∧ (s.substPut k o b).run = s.run ∧
    (s.substPut k o b).pending = s.pending := by
  unfold State.substPut; (repeat' split) <;> simp

@[simp] theorem State.substAddr_keeps (k : Nat) (t : XsxIn) (s : State) :
    (s.substAddr k t).now = s.now ∧ (s.substAddr k t).sys = s.sys ∧ (s.substAddr k t).fs = s.fs ∧
    (s.substAddr k t).rtc = s.rtc ∧ (s.substAddr k t).pwr = s.pwr ∧ (s.substAddr k t).twin = s.twin ∧
    (s.substAddr k t).pairs = s.pairs ∧ (s.substAddr k t).acc = s.acc ∧ (s.substAddr k t).loops = s.loops ∧
    (s.substAddr k t).plan = s.plan ∧ (s.substAddr k t).prog = s.prog ∧ (s.substAddr k t).mtr = s.mtr ∧
    (s.substAddr k t).can = s.can ∧ (s.substAddr k t).dio = s.dio ∧ (s.substAddr k t).key = s.key ∧
    (s.substAddr k t).run = s.run ∧ (s.substAddr k t).pending = s.pending := by
  simp [State.substAddr]

@[simp] theorem State.xsxReject_keeps (c : Nat) (t : XsxIn) (s : State) :
    (s.xsxReject c t).now = s.now ∧ (s.xsxReject c t).sys = s.sys ∧ (s.xsxReject c t).fs = s.fs ∧
    (s.xsxReject c t).rtc = s.rtc ∧ (s.xsxReject c t).pwr = s.pwr ∧ (s.xsxReject c t).twin = s.twin ∧
    (s.xsxReject c t).pairs = s.pairs ∧ (s.xsxReject c t).acc = s.acc ∧ (s.xsxReject c t).loops = s.loops ∧
    (s.xsxReject c t).plan = s.plan ∧ (s.xsxReject c t).prog = s.prog ∧ (s.xsxReject c t).mtr = s.mtr ∧
    (s.xsxReject c t).can = s.can ∧ (s.xsxReject c t).dio = s.dio ∧ (s.xsxReject c t).key = s.key ∧
    (s.xsxReject c t).run = s.run ∧ (s.xsxReject c t).pending = s.pending := by
  unfold State.xsxReject; (repeat' split) <;> simp

@[simp] theorem State.xsxTake_keeps (s : State) (t : XsxIn) :
    (s.xsxTake t).now = s.now ∧ (s.xsxTake t).sys = s.sys ∧ (s.xsxTake t).fs = s.fs ∧ (s.xsxTake t).rtc = s.rtc ∧
    (s.xsxTake t).pwr = s.pwr ∧ (s.xsxTake t).twin = s.twin ∧ (s.xsxTake t).pairs = s.pairs ∧
    (s.xsxTake t).acc = s.acc ∧ (s.xsxTake t).loops = s.loops ∧ (s.xsxTake t).plan = s.plan ∧
    (s.xsxTake t).prog = s.prog ∧ (s.xsxTake t).mtr = s.mtr ∧ (s.xsxTake t).can = s.can ∧ (s.xsxTake t).dio = s.dio ∧
    (s.xsxTake t).key = s.key ∧ (s.xsxTake t).run = s.run ∧ (s.xsxTake t).pending = s.pending := by
  unfold State.xsxTake; dsimp only; (repeat' split) <;> simp

@[simp] theorem State.substTick_keeps (s : State) (k : Nat) :
    (s.substTick k).pairs = s.pairs ∧ (s.substTick k).key = s.key ∧ (s.substTick k).run = s.run ∧
    (s.substTick k).pending = s.pending := by
  unfold State.substTick; dsimp only; (repeat' split) <;> simp

@[simp] theorem State.xsxUpdate_keeps (s : State) :
    s.xsxUpdate.pairs = s.pairs ∧ s.xsxUpdate.key = s.key ∧ s.xsxUpdate.run = s.run ∧
    s.xsxUpdate.pending = s.pending := by
  unfold State.xsxUpdate; split <;> simp -implicitDefEqProofs (disch := (intros; (try dsimp only); (repeat' split) <;> simp -implicitDefEqProofs)) [foldl_keeps_pairs,
    foldl_keeps_key, foldl_keeps_run, foldl_keeps_pending]

@[simp] theorem State.sendXsx_keeps (key : List Byte) (type : Nat) (s : State) (p : Nat × List Byte) :
    (s.sendXsx key type p).now = s.now ∧ (s.sendXsx key type p).free = s.free ∧ (s.sendXsx key type p).sys = s.sys ∧
    (s.sendXsx key type p).fs = s.fs ∧ (s.sendXsx key type p).hub = s.hub ∧ (s.sendXsx key type p).rtc = s.rtc ∧
    (s.sendXsx key type p).pwr = s.pwr ∧ (s.sendXsx key type p).sil = s.sil ∧ (s.sendXsx key type p).twin = s.twin ∧
    (s.sendXsx key type p).pairs = s.pairs ∧ (s.sendXsx key type p).fab = s.fab ∧ (s.sendXsx key type p).acc = s.acc ∧
    (s.sendXsx key type p).se = s.se ∧ (s.sendXsx key type p).loops = s.loops ∧ (s.sendXsx key type p).plan = s.plan ∧
    (s.sendXsx key type p).prog = s.prog ∧ (s.sendXsx key type p).mtr = s.mtr ∧ (s.sendXsx key type p).can = s.can ∧
    (s.sendXsx key type p).dio = s.dio ∧ (s.sendXsx key type p).key = s.key ∧ (s.sendXsx key type p).run = s.run ∧
    (s.sendXsx key type p).mem = s.mem ∧ (s.sendXsx key type p).setBits = s.setBits ∧
    (s.sendXsx key type p).pending = s.pending := by
  unfold State.sendXsx; dsimp only; (repeat' split) <;> simp

@[simp] theorem State.startRound_keeps (shift : Bool) (s : State) :
    (s.startRound shift).now = s.now ∧ (s.startRound shift).free = s.free ∧ (s.startRound shift).sys = s.sys ∧
    (s.startRound shift).fs = s.fs ∧ (s.startRound shift).hub = s.hub ∧ (s.startRound shift).rtc = s.rtc ∧
    (s.startRound shift).pwr = s.pwr ∧ (s.startRound shift).sil = s.sil ∧ (s.startRound shift).twin = s.twin ∧
    (s.startRound shift).pairs = s.pairs ∧ (s.startRound shift).fab = s.fab ∧ (s.startRound shift).acc = s.acc ∧
    (s.startRound shift).se = s.se ∧ (s.startRound shift).loops = s.loops ∧ (s.startRound shift).plan = s.plan ∧
    (s.startRound shift).prog = s.prog ∧ (s.startRound shift).mtr = s.mtr ∧ (s.startRound shift).can = s.can ∧
    (s.startRound shift).dio = s.dio ∧ (s.startRound shift).key = s.key ∧ (s.startRound shift).run = s.run ∧
    (s.startRound shift).mem = s.mem ∧ (s.startRound shift).setBits = s.setBits ∧
    (s.startRound shift).pending = s.pending := by
  simp [State.startRound]

@[simp] theorem State.settleXsx_keeps (s : State) :
    s.settleXsx.now = s.now ∧ s.settleXsx.free = s.free ∧ s.settleXsx.sys = s.sys ∧ s.settleXsx.fs = s.fs ∧
    s.settleXsx.rtc = s.rtc ∧ s.settleXsx.pwr = s.pwr ∧ s.settleXsx.sil = s.sil ∧ s.settleXsx.twin = s.twin ∧
    s.settleXsx.pairs = s.pairs ∧ s.settleXsx.fab = s.fab ∧ s.settleXsx.acc = s.acc ∧ s.settleXsx.se = s.se ∧
    s.settleXsx.loops = s.loops ∧ s.settleXsx.plan = s.plan ∧ s.settleXsx.prog = s.prog ∧ s.settleXsx.mtr = s.mtr ∧
    s.settleXsx.can = s.can ∧ s.settleXsx.dio = s.dio ∧ s.settleXsx.key = s.key ∧ s.settleXsx.run = s.run ∧
    s.settleXsx.mem = s.mem ∧ s.settleXsx.setBits = s.setBits ∧ s.settleXsx.pending = s.pending := by
  unfold State.settleXsx; dsimp only; (repeat' split) <;> simp

@[simp] theorem State.xsxRound_keeps (s : State) :
    s.xsxRound.now = s.now ∧ s.xsxRound.free = s.free ∧ s.xsxRound.sys = s.sys ∧ s.xsxRound.fs = s.fs ∧
    s.xsxRound.rtc = s.rtc ∧ s.xsxRound.pwr = s.pwr ∧ s.xsxRound.sil = s.sil ∧ s.xsxRound.pairs = s.pairs ∧
    s.xsxRound.fab = s.fab ∧ s.xsxRound.acc = s.acc ∧ s.xsxRound.se = s.se ∧ s.xsxRound.plan = s.plan ∧
    s.xsxRound.key = s.key ∧ s.xsxRound.run = s.run ∧ s.xsxRound.mem = s.mem ∧ s.xsxRound.pending = s.pending := by
  unfold State.xsxRound; (repeat' split) <;> simp [foldl_keeps_now, foldl_keeps_free, foldl_keeps_sys, foldl_keeps_fs,
    foldl_keeps_rtc, foldl_keeps_pwr, foldl_keeps_sil, foldl_keeps_pairs, foldl_keeps_fab, foldl_keeps_acc,
    foldl_keeps_se, foldl_keeps_plan, foldl_keeps_key, foldl_keeps_run, foldl_keeps_mem, foldl_keeps_pending]

@[simp] theorem State.xsxHeart_keeps (s : State) :
    s.xsxHeart.sil = s.sil ∧ s.xsxHeart.pairs = s.pairs ∧ s.xsxHeart.key = s.key ∧ s.xsxHeart.run = s.run ∧
    s.xsxHeart.mem = s.mem ∧ s.xsxHeart.pending = s.pending := by
  unfold State.xsxHeart; split <;> simp

@[simp] theorem State.drawRun_keeps (s : State) :
    s.drawRun.sil = s.sil ∧ s.drawRun.pairs = s.pairs ∧ s.drawRun.key = s.key ∧ s.drawRun.mem = s.mem ∧
    s.drawRun.pending = s.pending := by
  simp [State.drawRun]

@[simp] theorem State.xsxWrite_keeps (s : State) (w : Initiator) (ofs v : Nat) :
    (s.xsxWrite w ofs v).pairs = s.pairs ∧ (s.xsxWrite w ofs v).key = s.key ∧ (s.xsxWrite w ofs v).run = s.run ∧
    (s.xsxWrite w ofs v).mem = s.mem ∧ (s.xsxWrite w ofs v).pending = s.pending := by
  simp only [State.xsxWrite, State.guardWrite, State.rwlWrite]; (repeat' split) <;> simp

@[simp] theorem State.netConfigure_keeps (s : State) :
    s.netConfigure.now = s.now ∧ s.netConfigure.free = s.free ∧ s.netConfigure.rtc = s.rtc ∧
    s.netConfigure.sil = s.sil ∧ s.netConfigure.pairs = s.pairs ∧ s.netConfigure.key = s.key ∧
    s.netConfigure.run = s.run ∧ s.netConfigure.mem = s.mem ∧ s.netConfigure.pending = s.pending := by
  simp [State.netConfigure]

@[simp] theorem State.leRaise_keeps (n : Fin 2) (i : Nat) (s : State) :
    (s.leRaise n i).now = s.now ∧ (s.leRaise n i).free = s.free ∧ (s.leRaise n i).sys = s.sys ∧
    (s.leRaise n i).fs = s.fs ∧ (s.leRaise n i).rtc = s.rtc ∧ (s.leRaise n i).pwr = s.pwr ∧
    (s.leRaise n i).sil = s.sil ∧ (s.leRaise n i).twin = s.twin ∧ (s.leRaise n i).pairs = s.pairs ∧
    (s.leRaise n i).fab = s.fab ∧ (s.leRaise n i).acc = s.acc ∧ (s.leRaise n i).se = s.se ∧
    (s.leRaise n i).loops = s.loops ∧ (s.leRaise n i).plan = s.plan ∧ (s.leRaise n i).prog = s.prog ∧
    (s.leRaise n i).mtr = s.mtr ∧ (s.leRaise n i).can = s.can ∧ (s.leRaise n i).dio = s.dio ∧
    (s.leRaise n i).key = s.key ∧ (s.leRaise n i).net = s.net ∧ (s.leRaise n i).run = s.run ∧
    (s.leRaise n i).mem = s.mem ∧ (s.leRaise n i).setBits = s.setBits ∧ (s.leRaise n i).pending = s.pending := by
  simp [State.leRaise]

@[simp] theorem State.leLog_keeps (n : Fin 2) (cls i reg obj : Nat) (s : State) :
    (s.leLog n cls i reg obj).now = s.now ∧ (s.leLog n cls i reg obj).free = s.free ∧
    (s.leLog n cls i reg obj).sys = s.sys ∧ (s.leLog n cls i reg obj).fs = s.fs ∧
    (s.leLog n cls i reg obj).rtc = s.rtc ∧ (s.leLog n cls i reg obj).pwr = s.pwr ∧
    (s.leLog n cls i reg obj).twin = s.twin ∧ (s.leLog n cls i reg obj).pairs = s.pairs ∧
    (s.leLog n cls i reg obj).fab = s.fab ∧ (s.leLog n cls i reg obj).acc = s.acc ∧
    (s.leLog n cls i reg obj).se = s.se ∧ (s.leLog n cls i reg obj).loops = s.loops ∧
    (s.leLog n cls i reg obj).plan = s.plan ∧ (s.leLog n cls i reg obj).prog = s.prog ∧
    (s.leLog n cls i reg obj).mtr = s.mtr ∧ (s.leLog n cls i reg obj).can = s.can ∧
    (s.leLog n cls i reg obj).dio = s.dio ∧ (s.leLog n cls i reg obj).key = s.key ∧
    (s.leLog n cls i reg obj).net = s.net ∧ (s.leLog n cls i reg obj).run = s.run ∧
    (s.leLog n cls i reg obj).mem = s.mem ∧ (s.leLog n cls i reg obj).pending = s.pending := by
  simp [State.leLog]

@[simp] theorem State.leErr_keeps (n : Fin 2) (i : Nat) (s : State) :
    (s.leErr n i).now = s.now ∧ (s.leErr n i).free = s.free ∧ (s.leErr n i).sys = s.sys ∧ (s.leErr n i).fs = s.fs ∧
    (s.leErr n i).hub = s.hub ∧ (s.leErr n i).rtc = s.rtc ∧ (s.leErr n i).pwr = s.pwr ∧ (s.leErr n i).sil = s.sil ∧
    (s.leErr n i).twin = s.twin ∧ (s.leErr n i).pairs = s.pairs ∧ (s.leErr n i).fab = s.fab ∧
    (s.leErr n i).acc = s.acc ∧ (s.leErr n i).se = s.se ∧ (s.leErr n i).plan = s.plan ∧ (s.leErr n i).prog = s.prog ∧
    (s.leErr n i).mtr = s.mtr ∧ (s.leErr n i).can = s.can ∧ (s.leErr n i).dio = s.dio ∧ (s.leErr n i).key = s.key ∧
    (s.leErr n i).net = s.net ∧ (s.leErr n i).run = s.run ∧ (s.leErr n i).mem = s.mem ∧
    (s.leErr n i).pending = s.pending := by
  simp [State.leErr]

@[simp] theorem State.setPass_keeps (n : Fin 2) (p : LoopPass) (s : State) :
    (s.setPass n p).now = s.now ∧ (s.setPass n p).free = s.free ∧ (s.setPass n p).sys = s.sys ∧
    (s.setPass n p).fs = s.fs ∧ (s.setPass n p).hub = s.hub ∧ (s.setPass n p).rtc = s.rtc ∧
    (s.setPass n p).pwr = s.pwr ∧ (s.setPass n p).sil = s.sil ∧ (s.setPass n p).twin = s.twin ∧
    (s.setPass n p).pairs = s.pairs ∧ (s.setPass n p).fab = s.fab ∧ (s.setPass n p).acc = s.acc ∧
    (s.setPass n p).se = s.se ∧ (s.setPass n p).plan = s.plan ∧ (s.setPass n p).prog = s.prog ∧
    (s.setPass n p).mtr = s.mtr ∧ (s.setPass n p).can = s.can ∧ (s.setPass n p).dio = s.dio ∧
    (s.setPass n p).key = s.key ∧ (s.setPass n p).net = s.net ∧ (s.setPass n p).run = s.run ∧
    (s.setPass n p).mem = s.mem ∧ (s.setPass n p).setBits = s.setBits ∧ (s.setPass n p).pending = s.pending := by
  simp [State.setPass]

@[simp] theorem State.sampleLoop_keeps (n : Fin 2) (p : LoopPass) (i : Nat) (l : Loop) (r : Sampled) (s : State) :
    (s.sampleLoop n p i l r).free = s.free ∧ (s.sampleLoop n p i l r).sys = s.sys ∧ (s.sampleLoop n p i l r).fs = s.fs ∧
    (s.sampleLoop n p i l r).rtc = s.rtc ∧ (s.sampleLoop n p i l r).pwr = s.pwr ∧ (s.sampleLoop n p i l r).sil = s.sil ∧
    (s.sampleLoop n p i l r).twin = s.twin ∧ (s.sampleLoop n p i l r).pairs = s.pairs ∧
    (s.sampleLoop n p i l r).acc = s.acc ∧ (s.sampleLoop n p i l r).se = s.se ∧ (s.sampleLoop n p i l r).plan = s.plan ∧
    (s.sampleLoop n p i l r).prog = s.prog ∧ (s.sampleLoop n p i l r).mtr = s.mtr ∧
    (s.sampleLoop n p i l r).can = s.can ∧ (s.sampleLoop n p i l r).dio = s.dio ∧ (s.sampleLoop n p i l r).key = s.key ∧
    (s.sampleLoop n p i l r).net = s.net ∧ (s.sampleLoop n p i l r).run = s.run ∧ (s.sampleLoop n p i l r).mem = s.mem ∧
    (s.sampleLoop n p i l r).pending = s.pending := by
  simp [State.sampleLoop]

@[simp] theorem State.mismatch_keeps (n : Fin 2) (tnc i : Nat) (firstOne : Bool) (old : Loop) (s : State) :
    (s.mismatch n tnc i firstOne old).now = s.now ∧ (s.mismatch n tnc i firstOne old).free = s.free ∧
    (s.mismatch n tnc i firstOne old).sys = s.sys ∧ (s.mismatch n tnc i firstOne old).fs = s.fs ∧
    (s.mismatch n tnc i firstOne old).rtc = s.rtc ∧ (s.mismatch n tnc i firstOne old).pwr = s.pwr ∧
    (s.mismatch n tnc i firstOne old).twin = s.twin ∧ (s.mismatch n tnc i firstOne old).pairs = s.pairs ∧
    (s.mismatch n tnc i firstOne old).fab = s.fab ∧ (s.mismatch n tnc i firstOne old).acc = s.acc ∧
    (s.mismatch n tnc i firstOne old).se = s.se ∧ (s.mismatch n tnc i firstOne old).plan = s.plan ∧
    (s.mismatch n tnc i firstOne old).prog = s.prog ∧ (s.mismatch n tnc i firstOne old).mtr = s.mtr ∧
    (s.mismatch n tnc i firstOne old).can = s.can ∧ (s.mismatch n tnc i firstOne old).dio = s.dio ∧
    (s.mismatch n tnc i firstOne old).key = s.key ∧ (s.mismatch n tnc i firstOne old).net = s.net ∧
    (s.mismatch n tnc i firstOne old).run = s.run ∧ (s.mismatch n tnc i firstOne old).mem = s.mem ∧
    (s.mismatch n tnc i firstOne old).pending = s.pending := by
  unfold State.mismatch; (repeat' split) <;> simp

@[simp] theorem State.checkLoop_keeps (n : Fin 2) (p : LoopPass) (i : Nat) (old : Loop) (s : State) :
    (s.checkLoop n p i old).free = s.free ∧ (s.checkLoop n p i old).sys = s.sys ∧ (s.checkLoop n p i old).fs = s.fs ∧
    (s.checkLoop n p i old).rtc = s.rtc ∧ (s.checkLoop n p i old).pwr = s.pwr ∧ (s.checkLoop n p i old).twin = s.twin ∧
    (s.checkLoop n p i old).pairs = s.pairs ∧ (s.checkLoop n p i old).acc = s.acc ∧ (s.checkLoop n p i old).se = s.se ∧
    (s.checkLoop n p i old).plan = s.plan ∧ (s.checkLoop n p i old).prog = s.prog ∧
    (s.checkLoop n p i old).mtr = s.mtr ∧ (s.checkLoop n p i old).can = s.can ∧ (s.checkLoop n p i old).dio = s.dio ∧
    (s.checkLoop n p i old).key = s.key ∧ (s.checkLoop n p i old).net = s.net ∧ (s.checkLoop n p i old).run = s.run ∧
    (s.checkLoop n p i old).mem = s.mem ∧ (s.checkLoop n p i old).pending = s.pending := by
  unfold State.checkLoop; dsimp only; (repeat' split) <;> simp [State.asAt]

@[simp] theorem State.mirrorLoop_keeps (n : Fin 2) (p : LoopPass) (i : Nat) (rest : List Nat) (s : State) :
    (s.mirrorLoop n p i rest).free = s.free ∧ (s.mirrorLoop n p i rest).sys = s.sys ∧
    (s.mirrorLoop n p i rest).fs = s.fs ∧ (s.mirrorLoop n p i rest).rtc = s.rtc ∧
    (s.mirrorLoop n p i rest).pwr = s.pwr ∧ (s.mirrorLoop n p i rest).sil = s.sil ∧
    (s.mirrorLoop n p i rest).twin = s.twin ∧ (s.mirrorLoop n p i rest).pairs = s.pairs ∧
    (s.mirrorLoop n p i rest).acc = s.acc ∧ (s.mirrorLoop n p i rest).se = s.se ∧
    (s.mirrorLoop n p i rest).plan = s.plan ∧ (s.mirrorLoop n p i rest).prog = s.prog ∧
    (s.mirrorLoop n p i rest).mtr = s.mtr ∧ (s.mirrorLoop n p i rest).can = s.can ∧
    (s.mirrorLoop n p i rest).dio = s.dio ∧ (s.mirrorLoop n p i rest).key = s.key ∧
    (s.mirrorLoop n p i rest).net = s.net ∧ (s.mirrorLoop n p i rest).run = s.run ∧
    (s.mirrorLoop n p i rest).mem = s.mem ∧ (s.mirrorLoop n p i rest).pending = s.pending := by
  unfold State.mirrorLoop; (repeat' split) <;> simp

@[simp] theorem State.handOver_keeps (n : Fin 2) (tnc : Nat) (w : PassWork) (s : State) :
    (s.handOver n tnc w).now = s.now ∧ (s.handOver n tnc w).free = s.free ∧ (s.handOver n tnc w).sys = s.sys ∧
    (s.handOver n tnc w).fs = s.fs ∧ (s.handOver n tnc w).rtc = s.rtc ∧ (s.handOver n tnc w).pwr = s.pwr ∧
    (s.handOver n tnc w).sil = s.sil ∧ (s.handOver n tnc w).twin = s.twin ∧ (s.handOver n tnc w).pairs = s.pairs ∧
    (s.handOver n tnc w).acc = s.acc ∧ (s.handOver n tnc w).se = s.se ∧ (s.handOver n tnc w).plan = s.plan ∧
    (s.handOver n tnc w).prog = s.prog ∧ (s.handOver n tnc w).mtr = s.mtr ∧ (s.handOver n tnc w).can = s.can ∧
    (s.handOver n tnc w).dio = s.dio ∧ (s.handOver n tnc w).key = s.key ∧ (s.handOver n tnc w).net = s.net ∧
    (s.handOver n tnc w).run = s.run ∧ (s.handOver n tnc w).mem = s.mem ∧ (s.handOver n tnc w).setBits = s.setBits ∧
    (s.handOver n tnc w).pending = s.pending := by
  unfold State.handOver; (repeat' split) <;> simp

@[simp] theorem State.passItem_keeps (n : Fin 2) (s : State) :
    (s.passItem n).free = s.free ∧ (s.passItem n).sys = s.sys ∧ (s.passItem n).fs = s.fs ∧ (s.passItem n).rtc = s.rtc ∧
    (s.passItem n).pwr = s.pwr ∧ (s.passItem n).twin = s.twin ∧ (s.passItem n).pairs = s.pairs ∧
    (s.passItem n).acc = s.acc ∧ (s.passItem n).se = s.se ∧ (s.passItem n).plan = s.plan ∧
    (s.passItem n).prog = s.prog ∧ (s.passItem n).mtr = s.mtr ∧ (s.passItem n).can = s.can ∧
    (s.passItem n).dio = s.dio ∧ (s.passItem n).key = s.key ∧ (s.passItem n).net = s.net ∧ (s.passItem n).run = s.run ∧
    (s.passItem n).mem = s.mem ∧ (s.passItem n).pending = s.pending := by
  unfold State.passItem; dsimp only; (repeat' split) <;> simp [State.asAt]

@[simp] theorem State.cutOff_keeps (n : Fin 2) (s : State) :
    (s.cutOff n).free = s.free ∧ (s.cutOff n).sys = s.sys ∧ (s.cutOff n).fs = s.fs ∧ (s.cutOff n).rtc = s.rtc ∧
    (s.cutOff n).pwr = s.pwr ∧ (s.cutOff n).twin = s.twin ∧ (s.cutOff n).pairs = s.pairs ∧ (s.cutOff n).acc = s.acc ∧
    (s.cutOff n).se = s.se ∧ (s.cutOff n).plan = s.plan ∧ (s.cutOff n).prog = s.prog ∧ (s.cutOff n).mtr = s.mtr ∧
    (s.cutOff n).can = s.can ∧ (s.cutOff n).dio = s.dio ∧ (s.cutOff n).key = s.key ∧ (s.cutOff n).net = s.net ∧
    (s.cutOff n).run = s.run ∧ (s.cutOff n).mem = s.mem ∧ (s.cutOff n).pending = s.pending := by
  unfold State.cutOff; dsimp only; (repeat' split) <;> simp [State.asAt]

@[simp] theorem State.settleLoops_keeps (s : State) :
    s.settleLoops.free = s.free ∧ s.settleLoops.sys = s.sys ∧ s.settleLoops.fs = s.fs ∧ s.settleLoops.rtc = s.rtc ∧
    s.settleLoops.pwr = s.pwr ∧ s.settleLoops.twin = s.twin ∧ s.settleLoops.pairs = s.pairs ∧
    s.settleLoops.acc = s.acc ∧ s.settleLoops.se = s.se ∧ s.settleLoops.plan = s.plan ∧ s.settleLoops.prog = s.prog ∧
    s.settleLoops.mtr = s.mtr ∧ s.settleLoops.can = s.can ∧ s.settleLoops.dio = s.dio ∧ s.settleLoops.key = s.key ∧
    s.settleLoops.net = s.net ∧ s.settleLoops.run = s.run ∧ s.settleLoops.mem = s.mem ∧
    s.settleLoops.pending = s.pending := by
  unfold State.settleLoops; (repeat' split) <;> simp
    (disch := (first
      | (intros; (try dsimp only); (repeat' split) <;>
          simp -implicitDefEqProofs
            (disch := (first | (intros; (try dsimp only); (repeat' split) <;> simp -implicitDefEqProofs; done) | fail))
            [foldl_keeps_free, foldl_keeps_sys, foldl_keeps_fs, foldl_keeps_rtc, foldl_keeps_pwr, foldl_keeps_twin,
              foldl_keeps_pairs, foldl_keeps_acc, foldl_keeps_se, foldl_keeps_plan, foldl_keeps_prog, foldl_keeps_mtr,
              foldl_keeps_can, foldl_keeps_dio, foldl_keeps_key, foldl_keeps_net, foldl_keeps_run, foldl_keeps_mem,
              foldl_keeps_pending]; done)
      | fail))
    [foldl_keeps_free, foldl_keeps_sys, foldl_keeps_fs, foldl_keeps_rtc, foldl_keeps_pwr, foldl_keeps_twin,
      foldl_keeps_pairs, foldl_keeps_acc, foldl_keeps_se, foldl_keeps_plan, foldl_keeps_prog, foldl_keeps_mtr,
      foldl_keeps_can, foldl_keeps_dio, foldl_keeps_key, foldl_keeps_net, foldl_keeps_run, foldl_keeps_mem,
      foldl_keeps_pending]

@[simp] theorem State.loopEcc_keeps (n : Fin 2) (i : Nat) (s : State) :
    (s.loopEcc n i).pairs = s.pairs ∧ (s.loopEcc n i).key = s.key ∧ (s.loopEcc n i).run = s.run ∧
    (s.loopEcc n i).mem = s.mem ∧ (s.loopEcc n i).pending = s.pending := by
  unfold State.loopEcc; split <;> simp

@[simp] theorem State.startPass_keeps (mism : List Nat) (s : State) (n : Fin 2) :
    (s.startPass mism n).sil = s.sil ∧ (s.startPass mism n).pairs = s.pairs ∧ (s.startPass mism n).key = s.key ∧
    (s.startPass mism n).run = s.run ∧ (s.startPass mism n).mem = s.mem ∧
    (s.startPass mism n).pending = s.pending := by
  unfold State.startPass; dsimp only; (repeat' split) <;> simp

@[simp] theorem State.writeAmds_keeps (s : State) :
    s.writeAmds.sil = s.sil ∧ s.writeAmds.pairs = s.pairs ∧ s.writeAmds.key = s.key ∧ s.writeAmds.run = s.run ∧
    s.writeAmds.mem = s.mem ∧ s.writeAmds.pending = s.pending := by
  simp (disch := (intros; (repeat' split) <;> simp)) [State.writeAmds, foldl_keeps_sil, foldl_keeps_pairs,
    foldl_keeps_key, foldl_keeps_run, foldl_keeps_mem, foldl_keeps_pending]

@[simp] theorem State.takeOver_keeps (n : Fin 2) (s : State) :
    (s.takeOver n).now = s.now ∧ (s.takeOver n).free = s.free ∧ (s.takeOver n).sys = s.sys ∧ (s.takeOver n).fs = s.fs ∧
    (s.takeOver n).rtc = s.rtc ∧ (s.takeOver n).pwr = s.pwr ∧ (s.takeOver n).twin = s.twin ∧
    (s.takeOver n).pairs = s.pairs ∧ (s.takeOver n).fab = s.fab ∧ (s.takeOver n).acc = s.acc ∧
    (s.takeOver n).se = s.se ∧ (s.takeOver n).plan = s.plan ∧ (s.takeOver n).prog = s.prog ∧
    (s.takeOver n).mtr = s.mtr ∧ (s.takeOver n).can = s.can ∧ (s.takeOver n).dio = s.dio ∧ (s.takeOver n).key = s.key ∧
    (s.takeOver n).net = s.net ∧ (s.takeOver n).run = s.run ∧ (s.takeOver n).mem = s.mem ∧
    (s.takeOver n).pending = s.pending := by
  simp [State.takeOver]

@[simp] theorem State.takeoverDue_keeps (s : State) :
    s.takeoverDue.now = s.now ∧ s.takeoverDue.free = s.free ∧ s.takeoverDue.sys = s.sys ∧ s.takeoverDue.fs = s.fs ∧
    s.takeoverDue.rtc = s.rtc ∧ s.takeoverDue.pwr = s.pwr ∧ s.takeoverDue.twin = s.twin ∧
    s.takeoverDue.pairs = s.pairs ∧ s.takeoverDue.fab = s.fab ∧ s.takeoverDue.acc = s.acc ∧ s.takeoverDue.se = s.se ∧
    s.takeoverDue.plan = s.plan ∧ s.takeoverDue.prog = s.prog ∧ s.takeoverDue.mtr = s.mtr ∧ s.takeoverDue.can = s.can ∧
    s.takeoverDue.dio = s.dio ∧ s.takeoverDue.key = s.key ∧ s.takeoverDue.net = s.net ∧ s.takeoverDue.run = s.run ∧
    s.takeoverDue.mem = s.mem ∧ s.takeoverDue.pending = s.pending := by
  unfold State.takeoverDue; (repeat' split) <;> simp (disch := (intros; (repeat' split) <;> simp -implicitDefEqProofs)) [foldl_keeps_now,
    foldl_keeps_free, foldl_keeps_sys, foldl_keeps_fs, foldl_keeps_rtc, foldl_keeps_pwr, foldl_keeps_twin,
    foldl_keeps_pairs, foldl_keeps_fab, foldl_keeps_acc, foldl_keeps_se, foldl_keeps_plan, foldl_keeps_prog,
    foldl_keeps_mtr, foldl_keeps_can, foldl_keeps_dio, foldl_keeps_key, foldl_keeps_net, foldl_keeps_run,
    foldl_keeps_mem, foldl_keeps_pending]

@[simp] theorem State.leRefuse_keeps (n : Fin 2) (bit i : Nat) (s : State) :
    (s.leRefuse n bit i).now = s.now ∧ (s.leRefuse n bit i).free = s.free ∧ (s.leRefuse n bit i).sys = s.sys ∧
    (s.leRefuse n bit i).fs = s.fs ∧ (s.leRefuse n bit i).rtc = s.rtc ∧ (s.leRefuse n bit i).pwr = s.pwr ∧
    (s.leRefuse n bit i).twin = s.twin ∧ (s.leRefuse n bit i).pairs = s.pairs ∧ (s.leRefuse n bit i).fab = s.fab ∧
    (s.leRefuse n bit i).acc = s.acc ∧ (s.leRefuse n bit i).se = s.se ∧ (s.leRefuse n bit i).plan = s.plan ∧
    (s.leRefuse n bit i).prog = s.prog ∧ (s.leRefuse n bit i).mtr = s.mtr ∧ (s.leRefuse n bit i).can = s.can ∧
    (s.leRefuse n bit i).dio = s.dio ∧ (s.leRefuse n bit i).key = s.key ∧ (s.leRefuse n bit i).net = s.net ∧
    (s.leRefuse n bit i).run = s.run ∧ (s.leRefuse n bit i).mem = s.mem ∧
    (s.leRefuse n bit i).pending = s.pending := by
  simp [State.leRefuse]

@[simp] theorem State.changeLoop_keeps (n : Fin 2) (i : Nat) (f : Loop → Loop) (s : State) :
    (s.changeLoop n i f).now = s.now ∧ (s.changeLoop n i f).free = s.free ∧ (s.changeLoop n i f).sys = s.sys ∧
    (s.changeLoop n i f).fs = s.fs ∧ (s.changeLoop n i f).hub = s.hub ∧ (s.changeLoop n i f).rtc = s.rtc ∧
    (s.changeLoop n i f).pwr = s.pwr ∧ (s.changeLoop n i f).sil = s.sil ∧ (s.changeLoop n i f).twin = s.twin ∧
    (s.changeLoop n i f).pairs = s.pairs ∧ (s.changeLoop n i f).fab = s.fab ∧ (s.changeLoop n i f).acc = s.acc ∧
    (s.changeLoop n i f).se = s.se ∧ (s.changeLoop n i f).plan = s.plan ∧ (s.changeLoop n i f).prog = s.prog ∧
    (s.changeLoop n i f).mtr = s.mtr ∧ (s.changeLoop n i f).can = s.can ∧ (s.changeLoop n i f).dio = s.dio ∧
    (s.changeLoop n i f).key = s.key ∧ (s.changeLoop n i f).net = s.net ∧ (s.changeLoop n i f).run = s.run ∧
    (s.changeLoop n i f).mem = s.mem ∧ (s.changeLoop n i f).setBits = s.setBits ∧
    (s.changeLoop n i f).pending = s.pending := by
  unfold State.changeLoop; (repeat' split) <;> simp

@[simp] theorem State.leCmd_keeps (w : Initiator) (n : Fin 2) (cmd : Nat) (i : Nat) (s : State) :
    (s.leCmd w n cmd i).sys = s.sys ∧ (s.leCmd w n cmd i).fs = s.fs ∧ (s.leCmd w n cmd i).rtc = s.rtc ∧
    (s.leCmd w n cmd i).pwr = s.pwr ∧ (s.leCmd w n cmd i).twin = s.twin ∧ (s.leCmd w n cmd i).pairs = s.pairs ∧
    (s.leCmd w n cmd i).acc = s.acc ∧ (s.leCmd w n cmd i).se = s.se ∧ (s.leCmd w n cmd i).plan = s.plan ∧
    (s.leCmd w n cmd i).prog = s.prog ∧ (s.leCmd w n cmd i).mtr = s.mtr ∧ (s.leCmd w n cmd i).can = s.can ∧
    (s.leCmd w n cmd i).dio = s.dio ∧ (s.leCmd w n cmd i).net = s.net ∧ (s.leCmd w n cmd i).mem = s.mem ∧
    (s.leCmd w n cmd i).pending = s.pending := by
  simp only [State.leCmd, State.guardWrite]; (repeat' split) <;> simp

@[simp] theorem State.leWdata_keeps (w : Initiator) (n : Fin 2) (v : Nat) (s : State) :
    (s.leWdata w n v).free = s.free ∧ (s.leWdata w n v).sys = s.sys ∧ (s.leWdata w n v).fs = s.fs ∧
    (s.leWdata w n v).rtc = s.rtc ∧ (s.leWdata w n v).pwr = s.pwr ∧ (s.leWdata w n v).twin = s.twin ∧
    (s.leWdata w n v).pairs = s.pairs ∧ (s.leWdata w n v).acc = s.acc ∧ (s.leWdata w n v).se = s.se ∧
    (s.leWdata w n v).plan = s.plan ∧ (s.leWdata w n v).prog = s.prog ∧ (s.leWdata w n v).mtr = s.mtr ∧
    (s.leWdata w n v).can = s.can ∧ (s.leWdata w n v).dio = s.dio ∧ (s.leWdata w n v).key = s.key ∧
    (s.leWdata w n v).net = s.net ∧ (s.leWdata w n v).run = s.run ∧ (s.leWdata w n v).mem = s.mem ∧
    (s.leWdata w n v).pending = s.pending := by
  simp only [State.leWdata, State.guardWrite]; (repeat' split) <;> simp

@[simp] theorem State.leDisable_keeps (n : Fin 2) (s : State) :
    (s.leDisable n).now = s.now ∧ (s.leDisable n).free = s.free ∧ (s.leDisable n).sys = s.sys ∧
    (s.leDisable n).fs = s.fs ∧ (s.leDisable n).rtc = s.rtc ∧ (s.leDisable n).pwr = s.pwr ∧
    (s.leDisable n).sil = s.sil ∧ (s.leDisable n).twin = s.twin ∧ (s.leDisable n).pairs = s.pairs ∧
    (s.leDisable n).fab = s.fab ∧ (s.leDisable n).acc = s.acc ∧ (s.leDisable n).se = s.se ∧
    (s.leDisable n).plan = s.plan ∧ (s.leDisable n).prog = s.prog ∧ (s.leDisable n).mtr = s.mtr ∧
    (s.leDisable n).can = s.can ∧ (s.leDisable n).dio = s.dio ∧ (s.leDisable n).key = s.key ∧
    (s.leDisable n).net = s.net ∧ (s.leDisable n).run = s.run ∧ (s.leDisable n).mem = s.mem ∧
    (s.leDisable n).pending = s.pending := by
  simp [State.leDisable]

@[simp] theorem State.leCtrl_keeps (w : Initiator) (n : Fin 2) (v : Nat) (s : State) :
    (s.leCtrl w n v).now = s.now ∧ (s.leCtrl w n v).free = s.free ∧ (s.leCtrl w n v).sys = s.sys ∧
    (s.leCtrl w n v).fs = s.fs ∧ (s.leCtrl w n v).rtc = s.rtc ∧ (s.leCtrl w n v).pwr = s.pwr ∧
    (s.leCtrl w n v).twin = s.twin ∧ (s.leCtrl w n v).pairs = s.pairs ∧ (s.leCtrl w n v).fab = s.fab ∧
    (s.leCtrl w n v).acc = s.acc ∧ (s.leCtrl w n v).se = s.se ∧ (s.leCtrl w n v).plan = s.plan ∧
    (s.leCtrl w n v).prog = s.prog ∧ (s.leCtrl w n v).mtr = s.mtr ∧ (s.leCtrl w n v).can = s.can ∧
    (s.leCtrl w n v).dio = s.dio ∧ (s.leCtrl w n v).key = s.key ∧ (s.leCtrl w n v).net = s.net ∧
    (s.leCtrl w n v).run = s.run ∧ (s.leCtrl w n v).mem = s.mem ∧ (s.leCtrl w n v).pending = s.pending := by
  simp only [State.leCtrl, State.rwlWrite]; (repeat' split) <;> simp

@[simp] theorem State.leWrite_keeps (s : State) (w : Initiator) (n : Fin 2) (ofs v : Nat) :
    (s.leWrite w n ofs v).sys = s.sys ∧ (s.leWrite w n ofs v).fs = s.fs ∧ (s.leWrite w n ofs v).rtc = s.rtc ∧
    (s.leWrite w n ofs v).pwr = s.pwr ∧ (s.leWrite w n ofs v).twin = s.twin ∧ (s.leWrite w n ofs v).pairs = s.pairs ∧
    (s.leWrite w n ofs v).acc = s.acc ∧ (s.leWrite w n ofs v).se = s.se ∧ (s.leWrite w n ofs v).plan = s.plan ∧
    (s.leWrite w n ofs v).prog = s.prog ∧ (s.leWrite w n ofs v).mtr = s.mtr ∧ (s.leWrite w n ofs v).can = s.can ∧
    (s.leWrite w n ofs v).dio = s.dio ∧ (s.leWrite w n ofs v).net = s.net ∧ (s.leWrite w n ofs v).mem = s.mem ∧
    (s.leWrite w n ofs v).pending = s.pending := by
  simp only [State.leWrite, State.guardWrite]; (repeat' split) <;> simp

@[simp] theorem State.enableAtStart_keeps (s : State) :
    s.enableAtStart.sil = s.sil ∧ s.enableAtStart.pairs = s.pairs ∧ s.enableAtStart.key = s.key ∧
    s.enableAtStart.run = s.run ∧ s.enableAtStart.mem = s.mem ∧ s.enableAtStart.pending = s.pending := by
  simp
    (disch := (first
      | (intros; (try dsimp only); (repeat' split) <;>
          simp -implicitDefEqProofs
            (disch := (first | (intros; (try dsimp only); (repeat' split) <;> simp -implicitDefEqProofs; done) | fail))
            [foldl_keeps_sil, foldl_keeps_pairs, foldl_keeps_key, foldl_keeps_run, foldl_keeps_mem,
              foldl_keeps_pending]; done)
      | fail))
    [State.enableAtStart, foldl_keeps_sil, foldl_keeps_pairs, foldl_keeps_key, foldl_keeps_run, foldl_keeps_mem,
      foldl_keeps_pending]

@[simp] theorem State.copyVars_keeps (p : Fin 4) (t : Fin 8) (b : PartBind) (s : State) :
    (s.copyVars p t b).now = s.now ∧ (s.copyVars p t b).free = s.free ∧ (s.copyVars p t b).sys = s.sys ∧
    (s.copyVars p t b).fs = s.fs ∧ (s.copyVars p t b).hub = s.hub ∧ (s.copyVars p t b).rtc = s.rtc ∧
    (s.copyVars p t b).pwr = s.pwr ∧ (s.copyVars p t b).sil = s.sil ∧ (s.copyVars p t b).twin = s.twin ∧
    (s.copyVars p t b).pairs = s.pairs ∧ (s.copyVars p t b).fab = s.fab ∧ (s.copyVars p t b).acc = s.acc ∧
    (s.copyVars p t b).se = s.se ∧ (s.copyVars p t b).loops = s.loops ∧ (s.copyVars p t b).plan = s.plan ∧
    (s.copyVars p t b).mtr = s.mtr ∧ (s.copyVars p t b).can = s.can ∧ (s.copyVars p t b).dio = s.dio ∧
    (s.copyVars p t b).key = s.key ∧ (s.copyVars p t b).net = s.net ∧ (s.copyVars p t b).run = s.run ∧
    (s.copyVars p t b).mem = s.mem ∧ (s.copyVars p t b).setBits = s.setBits ∧
    (s.copyVars p t b).pending = s.pending := by
  simp [State.copyVars]

@[simp] theorem State.sealPart_keeps (p : Fin 4) (img : Img) (s : State) :
    (s.sealPart p img).now = s.now ∧ (s.sealPart p img).free = s.free ∧ (s.sealPart p img).sys = s.sys ∧
    (s.sealPart p img).fs = s.fs ∧ (s.sealPart p img).rtc = s.rtc ∧ (s.sealPart p img).pwr = s.pwr ∧
    (s.sealPart p img).fab = s.fab ∧ (s.sealPart p img).acc = s.acc ∧ (s.sealPart p img).se = s.se ∧
    (s.sealPart p img).loops = s.loops ∧ (s.sealPart p img).plan = s.plan ∧ (s.sealPart p img).mtr = s.mtr ∧
    (s.sealPart p img).can = s.can ∧ (s.sealPart p img).dio = s.dio ∧ (s.sealPart p img).key = s.key ∧
    (s.sealPart p img).net = s.net ∧ (s.sealPart p img).run = s.run ∧ (s.sealPart p img).pending = s.pending := by
  simp [State.sealPart]

@[simp] theorem State.overrunTask_keeps (p : Fin 4) (t : Fin 8) (tnc : Nat) (s : State) :
    (s.overrunTask p t tnc).now = s.now ∧ (s.overrunTask p t tnc).free = s.free ∧ (s.overrunTask p t tnc).sys = s.sys ∧
    (s.overrunTask p t tnc).fs = s.fs ∧ (s.overrunTask p t tnc).hub = s.hub ∧ (s.overrunTask p t tnc).rtc = s.rtc ∧
    (s.overrunTask p t tnc).pwr = s.pwr ∧ (s.overrunTask p t tnc).sil = s.sil ∧ (s.overrunTask p t tnc).twin = s.twin ∧
    (s.overrunTask p t tnc).pairs = s.pairs ∧ (s.overrunTask p t tnc).fab = s.fab ∧
    (s.overrunTask p t tnc).acc = s.acc ∧ (s.overrunTask p t tnc).se = s.se ∧ (s.overrunTask p t tnc).loops = s.loops ∧
    (s.overrunTask p t tnc).plan = s.plan ∧ (s.overrunTask p t tnc).mtr = s.mtr ∧ (s.overrunTask p t tnc).can = s.can ∧
    (s.overrunTask p t tnc).dio = s.dio ∧ (s.overrunTask p t tnc).key = s.key ∧ (s.overrunTask p t tnc).net = s.net ∧
    (s.overrunTask p t tnc).run = s.run ∧ (s.overrunTask p t tnc).mem = s.mem ∧
    (s.overrunTask p t tnc).setBits = s.setBits ∧ (s.overrunTask p t tnc).pending = s.pending := by
  simp [State.overrunTask]

@[simp] theorem State.rerunTasks_keeps (p : Fin 4) (s : State) :
    (s.rerunTasks p).sys = s.sys ∧ (s.rerunTasks p).fs = s.fs ∧ (s.rerunTasks p).rtc = s.rtc ∧
    (s.rerunTasks p).pwr = s.pwr ∧ (s.rerunTasks p).sil = s.sil ∧ (s.rerunTasks p).twin = s.twin ∧
    (s.rerunTasks p).pairs = s.pairs ∧ (s.rerunTasks p).acc = s.acc ∧ (s.rerunTasks p).loops = s.loops ∧
    (s.rerunTasks p).mtr = s.mtr ∧ (s.rerunTasks p).can = s.can ∧ (s.rerunTasks p).dio = s.dio ∧
    (s.rerunTasks p).key = s.key ∧ (s.rerunTasks p).run = s.run ∧ (s.rerunTasks p).mem = s.mem ∧
    (s.rerunTasks p).pending = s.pending := by
  unfold State.rerunTasks; split
  · simp
  · simp -implicitDefEqProofs (disch := (first | (intros; (try dsimp only); (repeat' split) <;> simp -implicitDefEqProofs; done) | fail)) [foldl_keeps_sys,
    foldl_keeps_fs, foldl_keeps_rtc, foldl_keeps_pwr, foldl_keeps_sil, foldl_keeps_twin, foldl_keeps_pairs,
    foldl_keeps_acc, foldl_keeps_loops, foldl_keeps_mtr, foldl_keeps_can, foldl_keeps_dio, foldl_keeps_key,
    foldl_keeps_run, foldl_keeps_mem, foldl_keeps_pending]

@[simp] theorem State.lateCycles_keeps (s : State) :
    s.lateCycles.sil = s.sil ∧ s.lateCycles.pairs = s.pairs ∧ s.lateCycles.key = s.key ∧ s.lateCycles.run = s.run ∧
    s.lateCycles.mem = s.mem ∧ s.lateCycles.pending = s.pending := by
  simp -implicitDefEqProofs
    (disch := (first
      | (intros; (try dsimp only); (repeat' split) <;>
          simp -implicitDefEqProofs
            (disch := (first | (intros; (try dsimp only); (repeat' split) <;> simp -implicitDefEqProofs; done) | fail))
            [foldl_keeps_sil, foldl_keeps_pairs, foldl_keeps_key, foldl_keeps_run, foldl_keeps_mem,
              foldl_keeps_pending]; done)
      | fail))
    [State.lateCycles, foldl_keeps_sil, foldl_keeps_pairs, foldl_keeps_key, foldl_keeps_run, foldl_keeps_mem,
      foldl_keeps_pending]

@[simp] theorem State.putImage_keeps (p : Fin 4) (items : List OutItem) (img : Img) (s : State) :
    (s.putImage p items img).now = s.now ∧ (s.putImage p items img).free = s.free ∧
    (s.putImage p items img).sys = s.sys ∧ (s.putImage p items img).fs = s.fs ∧ (s.putImage p items img).hub = s.hub ∧
    (s.putImage p items img).rtc = s.rtc ∧ (s.putImage p items img).pwr = s.pwr ∧ (s.putImage p items img).sil = s.sil ∧
    (s.putImage p items img).twin = s.twin ∧ (s.putImage p items img).pairs = s.pairs ∧
    (s.putImage p items img).fab = s.fab ∧ (s.putImage p items img).acc = s.acc ∧ (s.putImage p items img).se = s.se ∧
    (s.putImage p items img).loops = s.loops ∧ (s.putImage p items img).plan = s.plan ∧
    (s.putImage p items img).mtr = s.mtr ∧ (s.putImage p items img).can = s.can ∧ (s.putImage p items img).dio = s.dio ∧
    (s.putImage p items img).key = s.key ∧ (s.putImage p items img).net = s.net ∧ (s.putImage p items img).run = s.run ∧
    (s.putImage p items img).mem = s.mem ∧ (s.putImage p items img).setBits = s.setBits ∧
    (s.putImage p items img).pending = s.pending := by
  simp [State.putImage]

@[simp] theorem State.imageDue_keeps (p : Fin 4) (s : State) (t : Fin 8) :
    (s.imageDue p t).sil = s.sil ∧ (s.imageDue p t).pairs = s.pairs ∧ (s.imageDue p t).key = s.key ∧
    (s.imageDue p t).run = s.run ∧ (s.imageDue p t).mem = s.mem ∧ (s.imageDue p t).pending = s.pending := by
  unfold State.imageDue; (repeat' split) <;> simp

@[simp] theorem State.reportMode_keeps (s : State) :
    s.reportMode.now = s.now ∧ s.reportMode.free = s.free ∧ s.reportMode.fs = s.fs ∧ s.reportMode.rtc = s.rtc ∧
    s.reportMode.pwr = s.pwr ∧ s.reportMode.twin = s.twin ∧ s.reportMode.pairs = s.pairs ∧ s.reportMode.fab = s.fab ∧
    s.reportMode.acc = s.acc ∧ s.reportMode.se = s.se ∧ s.reportMode.loops = s.loops ∧ s.reportMode.plan = s.plan ∧
    s.reportMode.prog = s.prog ∧ s.reportMode.mtr = s.mtr ∧ s.reportMode.can = s.can ∧ s.reportMode.dio = s.dio ∧
    s.reportMode.key = s.key ∧ s.reportMode.net = s.net ∧ s.reportMode.run = s.run ∧ s.reportMode.mem = s.mem ∧
    s.reportMode.pending = s.pending := by
  unfold State.reportMode; (repeat' split) <;> simp

@[simp] theorem State.recoveryImage_keeps (p : Fin 4) (s : State) :
    (s.recoveryImage p).sil = s.sil ∧ (s.recoveryImage p).pairs = s.pairs ∧ (s.recoveryImage p).key = s.key ∧
    (s.recoveryImage p).run = s.run ∧ (s.recoveryImage p).mem = s.mem ∧ (s.recoveryImage p).pending = s.pending := by
  unfold State.recoveryImage; split <;> simp

@[simp] theorem State.finishCkpt_keeps (st : Nat) (s : State) (p : Fin 4) :
    (s.finishCkpt st p).now = s.now ∧ (s.finishCkpt st p).free = s.free ∧ (s.finishCkpt st p).sys = s.sys ∧
    (s.finishCkpt st p).fs = s.fs ∧ (s.finishCkpt st p).rtc = s.rtc ∧ (s.finishCkpt st p).pwr = s.pwr ∧
    (s.finishCkpt st p).twin = s.twin ∧ (s.finishCkpt st p).fab = s.fab ∧ (s.finishCkpt st p).acc = s.acc ∧
    (s.finishCkpt st p).se = s.se ∧ (s.finishCkpt st p).loops = s.loops ∧ (s.finishCkpt st p).plan = s.plan ∧
    (s.finishCkpt st p).mtr = s.mtr ∧ (s.finishCkpt st p).can = s.can ∧ (s.finishCkpt st p).dio = s.dio ∧
    (s.finishCkpt st p).key = s.key ∧ (s.finishCkpt st p).net = s.net ∧ (s.finishCkpt st p).run = s.run ∧
    (s.finishCkpt st p).pending = s.pending := by
  unfold State.finishCkpt; dsimp only; (repeat' split) <;> simp

@[simp] theorem State.beginCkpt_keeps (p : Fin 4) (s : State) :
    (s.beginCkpt p).sil = s.sil ∧ (s.beginCkpt p).pairs = s.pairs ∧ (s.beginCkpt p).key = s.key ∧
    (s.beginCkpt p).run = s.run ∧ (s.beginCkpt p).pending = s.pending := by
  unfold State.beginCkpt; (repeat' split) <;> simp

@[simp] theorem State.startCkpt_keeps (s0 : State) (p : Fin 4) :
    (s0.startCkpt p).key = s0.key ∧ (s0.startCkpt p).run = s0.run ∧ (s0.startCkpt p).pending = s0.pending := by
  unfold State.startCkpt; dsimp only; (repeat' split) <;> simp

@[simp] theorem State.restore_keeps (p : Fin 4) (k : Restore) (s0 : State) :
    (s0.restore p k).now = s0.now ∧ (s0.restore p k).free = s0.free ∧ (s0.restore p k).sys = s0.sys ∧
    (s0.restore p k).fs = s0.fs ∧ (s0.restore p k).rtc = s0.rtc ∧ (s0.restore p k).pwr = s0.pwr ∧
    (s0.restore p k).twin = s0.twin ∧ (s0.restore p k).fab = s0.fab ∧ (s0.restore p k).acc = s0.acc ∧
    (s0.restore p k).se = s0.se ∧ (s0.restore p k).loops = s0.loops ∧ (s0.restore p k).plan = s0.plan ∧
    (s0.restore p k).mtr = s0.mtr ∧ (s0.restore p k).can = s0.can ∧ (s0.restore p k).dio = s0.dio ∧
    (s0.restore p k).key = s0.key ∧ (s0.restore p k).net = s0.net ∧ (s0.restore p k).run = s0.run ∧
    (s0.restore p k).pending = s0.pending := by
  unfold State.restore; dsimp only; (repeat' split) <;> simp

@[simp] theorem State.resumeDue_keeps (s : State) (p : Fin 4) :
    (s.resumeDue p).key = s.key ∧ (s.resumeDue p).run = s.run ∧ (s.resumeDue p).pending = s.pending := by
  unfold State.resumeDue; dsimp only; (repeat' split) <;> simp

@[simp] theorem State.progResume_keeps (p : Fin 4) (s : State) :
    (s.progResume p).now = s.now ∧ (s.progResume p).free = s.free ∧ (s.progResume p).sys = s.sys ∧
    (s.progResume p).fs = s.fs ∧ (s.progResume p).rtc = s.rtc ∧ (s.progResume p).pwr = s.pwr ∧
    (s.progResume p).sil = s.sil ∧ (s.progResume p).twin = s.twin ∧ (s.progResume p).pairs = s.pairs ∧
    (s.progResume p).fab = s.fab ∧ (s.progResume p).acc = s.acc ∧ (s.progResume p).se = s.se ∧
    (s.progResume p).loops = s.loops ∧ (s.progResume p).plan = s.plan ∧ (s.progResume p).mtr = s.mtr ∧
    (s.progResume p).can = s.can ∧ (s.progResume p).dio = s.dio ∧ (s.progResume p).key = s.key ∧
    (s.progResume p).net = s.net ∧ (s.progResume p).run = s.run ∧ (s.progResume p).mem = s.mem ∧
    (s.progResume p).pending = s.pending := by
  unfold State.progResume; split <;> simp

@[simp] theorem State.progRecover_keeps (p : Fin 4) (s : State) :
    (s.progRecover p).now = s.now ∧ (s.progRecover p).free = s.free ∧ (s.progRecover p).sys = s.sys ∧
    (s.progRecover p).fs = s.fs ∧ (s.progRecover p).rtc = s.rtc ∧ (s.progRecover p).pwr = s.pwr ∧
    (s.progRecover p).sil = s.sil ∧ (s.progRecover p).twin = s.twin ∧ (s.progRecover p).pairs = s.pairs ∧
    (s.progRecover p).fab = s.fab ∧ (s.progRecover p).acc = s.acc ∧ (s.progRecover p).se = s.se ∧
    (s.progRecover p).loops = s.loops ∧ (s.progRecover p).plan = s.plan ∧ (s.progRecover p).mtr = s.mtr ∧
    (s.progRecover p).can = s.can ∧ (s.progRecover p).dio = s.dio ∧ (s.progRecover p).key = s.key ∧
    (s.progRecover p).net = s.net ∧ (s.progRecover p).run = s.run ∧ (s.progRecover p).mem = s.mem ∧
    (s.progRecover p).pending = s.pending := by
  unfold State.progRecover; dsimp only; (repeat' split) <;> simp

@[simp] theorem State.progStage_keeps (p : Fin 4) (s : State) :
    (s.progStage p).now = s.now ∧ (s.progStage p).free = s.free ∧ (s.progStage p).sys = s.sys ∧
    (s.progStage p).fs = s.fs ∧ (s.progStage p).rtc = s.rtc ∧ (s.progStage p).pwr = s.pwr ∧
    (s.progStage p).sil = s.sil ∧ (s.progStage p).twin = s.twin ∧ (s.progStage p).pairs = s.pairs ∧
    (s.progStage p).fab = s.fab ∧ (s.progStage p).acc = s.acc ∧ (s.progStage p).se = s.se ∧
    (s.progStage p).loops = s.loops ∧ (s.progStage p).plan = s.plan ∧ (s.progStage p).mtr = s.mtr ∧
    (s.progStage p).can = s.can ∧ (s.progStage p).dio = s.dio ∧ (s.progStage p).key = s.key ∧
    (s.progStage p).net = s.net ∧ (s.progStage p).run = s.run ∧ (s.progStage p).mem = s.mem ∧
    (s.progStage p).pending = s.pending := by
  unfold State.progStage; dsimp only; (repeat' split) <;> simp

@[simp] theorem State.progUnstage_keeps (p : Fin 4) (s : State) :
    (s.progUnstage p).now = s.now ∧ (s.progUnstage p).free = s.free ∧ (s.progUnstage p).sys = s.sys ∧ (s.progUnstage
    p).fs = s.fs ∧ (s.progUnstage p).rtc = s.rtc ∧ (s.progUnstage p).pwr = s.pwr ∧ (s.progUnstage p).sil = s.sil ∧
    (s.progUnstage p).twin = s.twin ∧ (s.progUnstage p).pairs = s.pairs ∧ (s.progUnstage p).fab = s.fab ∧
    (s.progUnstage p).acc = s.acc ∧ (s.progUnstage p).se = s.se ∧ (s.progUnstage p).loops = s.loops ∧ (s.progUnstage
    p).plan = s.plan ∧ (s.progUnstage p).mtr = s.mtr ∧ (s.progUnstage p).can = s.can ∧ (s.progUnstage p).dio = s.dio
    ∧ (s.progUnstage p).key = s.key ∧ (s.progUnstage p).net = s.net ∧ (s.progUnstage p).run = s.run ∧ (s.progUnstage
    p).mem = s.mem ∧ (s.progUnstage p).pending = s.pending := by
  unfold State.progUnstage; (try dsimp only); (repeat' split) <;> simp -implicitDefEqProofs

@[simp] theorem State.progCtrl_keeps (w : Initiator) (cmd : Nat) (p : Fin 4) (s : State) :
    (s.progCtrl w cmd p).now = s.now ∧ (s.progCtrl w cmd p).free = s.free ∧ (s.progCtrl w cmd p).sys = s.sys ∧
    (s.progCtrl w cmd p).fs = s.fs ∧ (s.progCtrl w cmd p).rtc = s.rtc ∧ (s.progCtrl w cmd p).pwr = s.pwr ∧
    (s.progCtrl w cmd p).twin = s.twin ∧ (s.progCtrl w cmd p).pairs = s.pairs ∧ (s.progCtrl w cmd p).fab = s.fab ∧
    (s.progCtrl w cmd p).acc = s.acc ∧ (s.progCtrl w cmd p).se = s.se ∧ (s.progCtrl w cmd p).loops = s.loops ∧
    (s.progCtrl w cmd p).plan = s.plan ∧ (s.progCtrl w cmd p).mtr = s.mtr ∧ (s.progCtrl w cmd p).can = s.can ∧
    (s.progCtrl w cmd p).dio = s.dio ∧ (s.progCtrl w cmd p).key = s.key ∧ (s.progCtrl w cmd p).net = s.net ∧
    (s.progCtrl w cmd p).run = s.run ∧ (s.progCtrl w cmd p).mem = s.mem ∧
    (s.progCtrl w cmd p).pending = s.pending := by
  simp only [State.progCtrl, State.guardWrite]; (repeat' split) <;> simp

@[simp] theorem State.authorise_keeps (p : Fin 4) (img mig : List Byte) (s : State) :
    (s.authorise p img mig).now = s.now ∧ (s.authorise p img mig).free = s.free ∧ (s.authorise p img mig).sys = s.sys
    ∧ (s.authorise p img mig).fs = s.fs ∧ (s.authorise p img mig).hub = s.hub ∧ (s.authorise p img mig).rtc = s.rtc ∧
    (s.authorise p img mig).pwr = s.pwr ∧ (s.authorise p img mig).sil = s.sil ∧ (s.authorise p img mig).twin = s.twin
    ∧ (s.authorise p img mig).pairs = s.pairs ∧ (s.authorise p img mig).fab = s.fab ∧ (s.authorise p img mig).acc =
    s.acc ∧ (s.authorise p img mig).se = s.se ∧ (s.authorise p img mig).loops = s.loops ∧ (s.authorise p img
    mig).plan = s.plan ∧ (s.authorise p img mig).mtr = s.mtr ∧ (s.authorise p img mig).can = s.can ∧ (s.authorise p
    img mig).dio = s.dio ∧ (s.authorise p img mig).key = s.key ∧ (s.authorise p img mig).net = s.net ∧ (s.authorise p
    img mig).run = s.run ∧ (s.authorise p img mig).mem = s.mem ∧ (s.authorise p img mig).setBits = s.setBits ∧
    (s.authorise p img mig).pending = s.pending := by
  unfold State.authorise; (try dsimp only); (repeat' split) <;> simp -implicitDefEqProofs

@[simp] theorem State.forceFail_keeps (p : Fin 4) (e : Nat) (s : State) :
    (s.forceFail p e).now = s.now ∧ (s.forceFail p e).free = s.free ∧ (s.forceFail p e).sys = s.sys ∧
    (s.forceFail p e).fs = s.fs ∧ (s.forceFail p e).hub = s.hub ∧ (s.forceFail p e).rtc = s.rtc ∧
    (s.forceFail p e).pwr = s.pwr ∧ (s.forceFail p e).sil = s.sil ∧ (s.forceFail p e).twin = s.twin ∧
    (s.forceFail p e).pairs = s.pairs ∧ (s.forceFail p e).fab = s.fab ∧ (s.forceFail p e).acc = s.acc ∧
    (s.forceFail p e).se = s.se ∧ (s.forceFail p e).loops = s.loops ∧ (s.forceFail p e).plan = s.plan ∧
    (s.forceFail p e).mtr = s.mtr ∧ (s.forceFail p e).can = s.can ∧ (s.forceFail p e).dio = s.dio ∧
    (s.forceFail p e).key = s.key ∧ (s.forceFail p e).net = s.net ∧ (s.forceFail p e).run = s.run ∧
    (s.forceFail p e).mem = s.mem ∧ (s.forceFail p e).setBits = s.setBits ∧
    (s.forceFail p e).pending = s.pending := by
  simp [State.forceFail]

@[simp] theorem State.forceSet_keeps (p : Fin 4) (s : State) :
    (s.forceSet p).now = s.now ∧ (s.forceSet p).free = s.free ∧ (s.forceSet p).sys = s.sys ∧ (s.forceSet p).fs = s.fs ∧
    (s.forceSet p).rtc = s.rtc ∧ (s.forceSet p).pwr = s.pwr ∧ (s.forceSet p).twin = s.twin ∧
    (s.forceSet p).pairs = s.pairs ∧ (s.forceSet p).fab = s.fab ∧ (s.forceSet p).acc = s.acc ∧
    (s.forceSet p).se = s.se ∧ (s.forceSet p).loops = s.loops ∧ (s.forceSet p).plan = s.plan ∧
    (s.forceSet p).mtr = s.mtr ∧ (s.forceSet p).can = s.can ∧ (s.forceSet p).dio = s.dio ∧ (s.forceSet p).key = s.key ∧
    (s.forceSet p).net = s.net ∧ (s.forceSet p).run = s.run ∧ (s.forceSet p).mem = s.mem ∧
    (s.forceSet p).pending = s.pending := by
  unfold State.forceSet; dsimp only; (repeat' split) <;> simp

@[simp] theorem State.forceRel_keeps (p : Fin 4) (s : State) :
    (s.forceRel p).now = s.now ∧ (s.forceRel p).free = s.free ∧ (s.forceRel p).sys = s.sys ∧ (s.forceRel p).fs = s.fs ∧
    (s.forceRel p).rtc = s.rtc ∧ (s.forceRel p).pwr = s.pwr ∧ (s.forceRel p).twin = s.twin ∧
    (s.forceRel p).pairs = s.pairs ∧ (s.forceRel p).fab = s.fab ∧ (s.forceRel p).acc = s.acc ∧
    (s.forceRel p).se = s.se ∧ (s.forceRel p).loops = s.loops ∧ (s.forceRel p).plan = s.plan ∧
    (s.forceRel p).mtr = s.mtr ∧ (s.forceRel p).can = s.can ∧ (s.forceRel p).dio = s.dio ∧ (s.forceRel p).key = s.key ∧
    (s.forceRel p).net = s.net ∧ (s.forceRel p).run = s.run ∧ (s.forceRel p).mem = s.mem ∧
    (s.forceRel p).pending = s.pending := by
  unfold State.forceRel; dsimp only; (repeat' split) <;> simp

@[simp] theorem State.forceRelAll_keeps (p : Fin 4) (s : State) :
    (s.forceRelAll p).now = s.now ∧ (s.forceRelAll p).free = s.free ∧ (s.forceRelAll p).sys = s.sys ∧
    (s.forceRelAll p).fs = s.fs ∧ (s.forceRelAll p).rtc = s.rtc ∧ (s.forceRelAll p).pwr = s.pwr ∧
    (s.forceRelAll p).twin = s.twin ∧ (s.forceRelAll p).pairs = s.pairs ∧ (s.forceRelAll p).fab = s.fab ∧
    (s.forceRelAll p).acc = s.acc ∧ (s.forceRelAll p).se = s.se ∧ (s.forceRelAll p).loops = s.loops ∧
    (s.forceRelAll p).plan = s.plan ∧ (s.forceRelAll p).mtr = s.mtr ∧ (s.forceRelAll p).can = s.can ∧
    (s.forceRelAll p).dio = s.dio ∧ (s.forceRelAll p).key = s.key ∧ (s.forceRelAll p).net = s.net ∧
    (s.forceRelAll p).run = s.run ∧ (s.forceRelAll p).mem = s.mem ∧ (s.forceRelAll p).pending = s.pending := by
  unfold State.forceRelAll; split <;> simp

@[simp] theorem State.forceCmd_keeps (w : Initiator) (cmd : Nat) (p : Fin 4) (s : State) :
    (s.forceCmd w cmd p).now = s.now ∧ (s.forceCmd w cmd p).free = s.free ∧ (s.forceCmd w cmd p).sys = s.sys ∧
    (s.forceCmd w cmd p).fs = s.fs ∧ (s.forceCmd w cmd p).rtc = s.rtc ∧ (s.forceCmd w cmd p).pwr = s.pwr ∧
    (s.forceCmd w cmd p).twin = s.twin ∧ (s.forceCmd w cmd p).pairs = s.pairs ∧ (s.forceCmd w cmd p).fab = s.fab ∧
    (s.forceCmd w cmd p).acc = s.acc ∧ (s.forceCmd w cmd p).se = s.se ∧ (s.forceCmd w cmd p).loops = s.loops ∧
    (s.forceCmd w cmd p).plan = s.plan ∧ (s.forceCmd w cmd p).mtr = s.mtr ∧ (s.forceCmd w cmd p).can = s.can ∧
    (s.forceCmd w cmd p).dio = s.dio ∧ (s.forceCmd w cmd p).key = s.key ∧ (s.forceCmd w cmd p).net = s.net ∧
    (s.forceCmd w cmd p).run = s.run ∧ (s.forceCmd w cmd p).mem = s.mem ∧
    (s.forceCmd w cmd p).pending = s.pending := by
  simp only [State.forceCmd, State.guardWrite]; (repeat' split) <;> simp

@[simp] theorem State.reconcile_keeps (p : Fin 4) (old new : List Byte) (s : State) :
    (s.reconcile p old new).pairs = s.pairs ∧ (s.reconcile p old new).key = s.key ∧
    (s.reconcile p old new).run = s.run ∧ (s.reconcile p old new).mem = s.mem ∧
    (s.reconcile p old new).pending = s.pending := by
  simp [State.reconcile, foldl_keeps_pairs, foldl_keeps_key, foldl_keeps_run, foldl_keeps_mem, foldl_keeps_pending]

@[simp] theorem State.runSwitch_keeps (p : Fin 4) (g : Package) (s0 : State) :
    (s0.runSwitch p g).key = s0.key ∧ (s0.runSwitch p g).run = s0.run ∧ (s0.runSwitch p g).pending = s0.pending := by
  unfold State.runSwitch; (repeat' split) <;> simp

@[simp] theorem State.progWrite_keeps (s : State) (w : Initiator) (ofs v : Nat) :
    (s.progWrite w ofs v).now = s.now ∧ (s.progWrite w ofs v).free = s.free ∧ (s.progWrite w ofs v).sys = s.sys ∧
    (s.progWrite w ofs v).fs = s.fs ∧ (s.progWrite w ofs v).rtc = s.rtc ∧ (s.progWrite w ofs v).pwr = s.pwr ∧
    (s.progWrite w ofs v).twin = s.twin ∧ (s.progWrite w ofs v).pairs = s.pairs ∧ (s.progWrite w ofs v).fab = s.fab ∧
    (s.progWrite w ofs v).acc = s.acc ∧ (s.progWrite w ofs v).se = s.se ∧ (s.progWrite w ofs v).loops = s.loops ∧
    (s.progWrite w ofs v).plan = s.plan ∧ (s.progWrite w ofs v).mtr = s.mtr ∧ (s.progWrite w ofs v).can = s.can ∧
    (s.progWrite w ofs v).dio = s.dio ∧ (s.progWrite w ofs v).key = s.key ∧ (s.progWrite w ofs v).net = s.net ∧
    (s.progWrite w ofs v).run = s.run ∧ (s.progWrite w ofs v).mem = s.mem ∧
    (s.progWrite w ofs v).pending = s.pending := by
  unfold State.progWrite; split
  · simp
  · split
    · simp
    · unfold State.guardWrite; split <;> simp

@[simp] theorem State.canRaise_keeps (n : Fin 8) (i : Nat) (s : State) :
    (s.canRaise n i).now = s.now ∧ (s.canRaise n i).free = s.free ∧ (s.canRaise n i).sys = s.sys ∧
    (s.canRaise n i).fs = s.fs ∧ (s.canRaise n i).rtc = s.rtc ∧ (s.canRaise n i).pwr = s.pwr ∧
    (s.canRaise n i).sil = s.sil ∧ (s.canRaise n i).twin = s.twin ∧ (s.canRaise n i).pairs = s.pairs ∧
    (s.canRaise n i).fab = s.fab ∧ (s.canRaise n i).acc = s.acc ∧ (s.canRaise n i).se = s.se ∧
    (s.canRaise n i).loops = s.loops ∧ (s.canRaise n i).plan = s.plan ∧ (s.canRaise n i).prog = s.prog ∧
    (s.canRaise n i).mtr = s.mtr ∧ (s.canRaise n i).can = s.can ∧ (s.canRaise n i).dio = s.dio ∧
    (s.canRaise n i).key = s.key ∧ (s.canRaise n i).net = s.net ∧ (s.canRaise n i).run = s.run ∧
    (s.canRaise n i).mem = s.mem ∧ (s.canRaise n i).setBits = s.setBits ∧ (s.canRaise n i).pending = s.pending := by
  simp [State.canRaise]

@[simp] theorem State.canErr_keeps (n : Fin 8) (i : Nat) (s : State) :
    (s.canErr n i).now = s.now ∧ (s.canErr n i).free = s.free ∧ (s.canErr n i).sys = s.sys ∧ (s.canErr n i).fs = s.fs ∧
    (s.canErr n i).hub = s.hub ∧ (s.canErr n i).rtc = s.rtc ∧ (s.canErr n i).pwr = s.pwr ∧ (s.canErr n i).sil = s.sil ∧
    (s.canErr n i).twin = s.twin ∧ (s.canErr n i).pairs = s.pairs ∧ (s.canErr n i).fab = s.fab ∧
    (s.canErr n i).acc = s.acc ∧ (s.canErr n i).se = s.se ∧ (s.canErr n i).loops = s.loops ∧
    (s.canErr n i).plan = s.plan ∧ (s.canErr n i).prog = s.prog ∧ (s.canErr n i).mtr = s.mtr ∧
    (s.canErr n i).dio = s.dio ∧ (s.canErr n i).key = s.key ∧ (s.canErr n i).net = s.net ∧ (s.canErr n i).run = s.run ∧
    (s.canErr n i).mem = s.mem ∧ (s.canErr n i).pending = s.pending := by
  simp [State.canErr]

@[simp] theorem State.canFlag_keeps (n : Fin 8) (i : Nat) (s : State) :
    (s.canFlag n i).now = s.now ∧ (s.canFlag n i).free = s.free ∧ (s.canFlag n i).sys = s.sys ∧
    (s.canFlag n i).fs = s.fs ∧ (s.canFlag n i).rtc = s.rtc ∧ (s.canFlag n i).pwr = s.pwr ∧
    (s.canFlag n i).sil = s.sil ∧ (s.canFlag n i).twin = s.twin ∧ (s.canFlag n i).pairs = s.pairs ∧
    (s.canFlag n i).fab = s.fab ∧ (s.canFlag n i).acc = s.acc ∧ (s.canFlag n i).se = s.se ∧
    (s.canFlag n i).loops = s.loops ∧ (s.canFlag n i).plan = s.plan ∧ (s.canFlag n i).prog = s.prog ∧
    (s.canFlag n i).mtr = s.mtr ∧ (s.canFlag n i).dio = s.dio ∧ (s.canFlag n i).key = s.key ∧
    (s.canFlag n i).net = s.net ∧ (s.canFlag n i).run = s.run ∧ (s.canFlag n i).mem = s.mem ∧
    (s.canFlag n i).pending = s.pending := by
  simp [State.canFlag]

@[simp] theorem State.mbInfo_keeps (n : Fin 8) (k i : Nat) (f : MsgBuf → MsgBuf) (s : State) :
    (s.mbInfo n k i f).now = s.now ∧ (s.mbInfo n k i f).free = s.free ∧ (s.mbInfo n k i f).sys = s.sys ∧
    (s.mbInfo n k i f).fs = s.fs ∧ (s.mbInfo n k i f).hub = s.hub ∧ (s.mbInfo n k i f).rtc = s.rtc ∧
    (s.mbInfo n k i f).pwr = s.pwr ∧ (s.mbInfo n k i f).sil = s.sil ∧ (s.mbInfo n k i f).twin = s.twin ∧
    (s.mbInfo n k i f).pairs = s.pairs ∧ (s.mbInfo n k i f).fab = s.fab ∧ (s.mbInfo n k i f).acc = s.acc ∧
    (s.mbInfo n k i f).se = s.se ∧ (s.mbInfo n k i f).loops = s.loops ∧ (s.mbInfo n k i f).plan = s.plan ∧
    (s.mbInfo n k i f).prog = s.prog ∧ (s.mbInfo n k i f).mtr = s.mtr ∧ (s.mbInfo n k i f).dio = s.dio ∧
    (s.mbInfo n k i f).key = s.key ∧ (s.mbInfo n k i f).net = s.net ∧ (s.mbInfo n k i f).run = s.run ∧
    (s.mbInfo n k i f).mem = s.mem ∧ (s.mbInfo n k i f).pending = s.pending := by
  simp [State.mbInfo]

@[simp] theorem State.mbFail_keeps (n : Fin 8) (k : Nat) (s : State) :
    (s.mbFail n k).now = s.now ∧ (s.mbFail n k).free = s.free ∧ (s.mbFail n k).sys = s.sys ∧ (s.mbFail n k).fs = s.fs ∧
    (s.mbFail n k).rtc = s.rtc ∧ (s.mbFail n k).pwr = s.pwr ∧ (s.mbFail n k).sil = s.sil ∧
    (s.mbFail n k).twin = s.twin ∧ (s.mbFail n k).pairs = s.pairs ∧ (s.mbFail n k).fab = s.fab ∧
    (s.mbFail n k).acc = s.acc ∧ (s.mbFail n k).se = s.se ∧ (s.mbFail n k).loops = s.loops ∧
    (s.mbFail n k).plan = s.plan ∧ (s.mbFail n k).prog = s.prog ∧ (s.mbFail n k).mtr = s.mtr ∧
    (s.mbFail n k).dio = s.dio ∧ (s.mbFail n k).key = s.key ∧ (s.mbFail n k).net = s.net ∧ (s.mbFail n k).run = s.run ∧
    (s.mbFail n k).mem = s.mem ∧ (s.mbFail n k).pending = s.pending := by
  simp [State.mbFail]

@[simp] theorem State.busOff_keeps (n : Fin 8) (s : State) :
    (s.busOff n).now = s.now ∧ (s.busOff n).free = s.free ∧ (s.busOff n).sys = s.sys ∧ (s.busOff n).fs = s.fs ∧
    (s.busOff n).rtc = s.rtc ∧ (s.busOff n).pwr = s.pwr ∧ (s.busOff n).sil = s.sil ∧ (s.busOff n).twin = s.twin ∧
    (s.busOff n).pairs = s.pairs ∧ (s.busOff n).fab = s.fab ∧ (s.busOff n).acc = s.acc ∧ (s.busOff n).se = s.se ∧
    (s.busOff n).loops = s.loops ∧ (s.busOff n).plan = s.plan ∧ (s.busOff n).prog = s.prog ∧ (s.busOff n).mtr = s.mtr ∧
    (s.busOff n).dio = s.dio ∧ (s.busOff n).key = s.key ∧ (s.busOff n).net = s.net ∧ (s.busOff n).run = s.run ∧
    (s.busOff n).mem = s.mem ∧ (s.busOff n).pending = s.pending := by
  simp [State.busOff, foldl_keeps_now, foldl_keeps_free, foldl_keeps_sys, foldl_keeps_fs, foldl_keeps_rtc,
    foldl_keeps_pwr, foldl_keeps_sil, foldl_keeps_twin, foldl_keeps_pairs, foldl_keeps_fab, foldl_keeps_acc,
    foldl_keeps_se, foldl_keeps_loops, foldl_keeps_plan, foldl_keeps_prog, foldl_keeps_mtr, foldl_keeps_dio,
    foldl_keeps_key, foldl_keeps_net, foldl_keeps_run, foldl_keeps_mem, foldl_keeps_pending]

@[simp] theorem State.errState_keeps (n : Fin 8) (s : State) :
    (s.errState n).now = s.now ∧ (s.errState n).free = s.free ∧ (s.errState n).sys = s.sys ∧ (s.errState n).fs = s.fs ∧
    (s.errState n).rtc = s.rtc ∧ (s.errState n).pwr = s.pwr ∧ (s.errState n).sil = s.sil ∧
    (s.errState n).twin = s.twin ∧ (s.errState n).pairs = s.pairs ∧ (s.errState n).fab = s.fab ∧
    (s.errState n).acc = s.acc ∧ (s.errState n).se = s.se ∧ (s.errState n).loops = s.loops ∧
    (s.errState n).plan = s.plan ∧ (s.errState n).prog = s.prog ∧ (s.errState n).mtr = s.mtr ∧
    (s.errState n).dio = s.dio ∧ (s.errState n).key = s.key ∧ (s.errState n).net = s.net ∧ (s.errState n).run = s.run ∧
    (s.errState n).mem = s.mem ∧ (s.errState n).pending = s.pending := by
  unfold State.errState; dsimp only; (repeat' split) <;> simp

@[simp] theorem State.busError_keeps (n : Fin 8) (e : CanErr) (s : State) :
    (s.busError n e).now = s.now ∧ (s.busError n e).free = s.free ∧ (s.busError n e).sys = s.sys ∧
    (s.busError n e).fs = s.fs ∧ (s.busError n e).rtc = s.rtc ∧ (s.busError n e).pwr = s.pwr ∧
    (s.busError n e).sil = s.sil ∧ (s.busError n e).twin = s.twin ∧ (s.busError n e).pairs = s.pairs ∧
    (s.busError n e).fab = s.fab ∧ (s.busError n e).acc = s.acc ∧ (s.busError n e).se = s.se ∧
    (s.busError n e).loops = s.loops ∧ (s.busError n e).plan = s.plan ∧ (s.busError n e).prog = s.prog ∧
    (s.busError n e).mtr = s.mtr ∧ (s.busError n e).dio = s.dio ∧ (s.busError n e).key = s.key ∧
    (s.busError n e).net = s.net ∧ (s.busError n e).run = s.run ∧ (s.busError n e).mem = s.mem ∧
    (s.busError n e).pending = s.pending := by
  unfold State.busError; (repeat' split) <;> simp

@[simp] theorem State.rxFrame_keeps (n : Fin 8) (s : State) :
    (s.rxFrame n).now = s.now ∧ (s.rxFrame n).free = s.free ∧ (s.rxFrame n).sys = s.sys ∧ (s.rxFrame n).fs = s.fs ∧
    (s.rxFrame n).rtc = s.rtc ∧ (s.rxFrame n).pwr = s.pwr ∧ (s.rxFrame n).sil = s.sil ∧ (s.rxFrame n).twin = s.twin ∧
    (s.rxFrame n).pairs = s.pairs ∧ (s.rxFrame n).fab = s.fab ∧ (s.rxFrame n).acc = s.acc ∧ (s.rxFrame n).se = s.se ∧
    (s.rxFrame n).loops = s.loops ∧ (s.rxFrame n).plan = s.plan ∧ (s.rxFrame n).prog = s.prog ∧
    (s.rxFrame n).mtr = s.mtr ∧ (s.rxFrame n).dio = s.dio ∧ (s.rxFrame n).key = s.key ∧ (s.rxFrame n).net = s.net ∧
    (s.rxFrame n).run = s.run ∧ (s.rxFrame n).mem = s.mem ∧ (s.rxFrame n).pending = s.pending := by
  unfold State.rxFrame; (repeat' split) <;> simp

@[simp] theorem State.canRecover_keeps (n : Fin 8) (s : State) :
    (s.canRecover n).now = s.now ∧ (s.canRecover n).free = s.free ∧ (s.canRecover n).sys = s.sys ∧
    (s.canRecover n).fs = s.fs ∧ (s.canRecover n).rtc = s.rtc ∧ (s.canRecover n).pwr = s.pwr ∧
    (s.canRecover n).sil = s.sil ∧ (s.canRecover n).twin = s.twin ∧ (s.canRecover n).pairs = s.pairs ∧
    (s.canRecover n).fab = s.fab ∧ (s.canRecover n).acc = s.acc ∧ (s.canRecover n).se = s.se ∧
    (s.canRecover n).loops = s.loops ∧ (s.canRecover n).plan = s.plan ∧ (s.canRecover n).prog = s.prog ∧
    (s.canRecover n).mtr = s.mtr ∧ (s.canRecover n).dio = s.dio ∧ (s.canRecover n).key = s.key ∧
    (s.canRecover n).net = s.net ∧ (s.canRecover n).run = s.run ∧ (s.canRecover n).mem = s.mem ∧
    (s.canRecover n).pending = s.pending := by
  unfold State.canRecover; (repeat' split) <;> simp

@[simp] theorem State.canCmd_keeps (n : Fin 8) (listen : Bool) (s : State) :
    (s.canCmd n listen).now = s.now ∧ (s.canCmd n listen).free = s.free ∧ (s.canCmd n listen).sys = s.sys ∧
    (s.canCmd n listen).fs = s.fs ∧ (s.canCmd n listen).hub = s.hub ∧ (s.canCmd n listen).rtc = s.rtc ∧
    (s.canCmd n listen).pwr = s.pwr ∧ (s.canCmd n listen).sil = s.sil ∧ (s.canCmd n listen).twin = s.twin ∧
    (s.canCmd n listen).pairs = s.pairs ∧ (s.canCmd n listen).fab = s.fab ∧ (s.canCmd n listen).acc = s.acc ∧
    (s.canCmd n listen).se = s.se ∧ (s.canCmd n listen).loops = s.loops ∧ (s.canCmd n listen).plan = s.plan ∧
    (s.canCmd n listen).prog = s.prog ∧ (s.canCmd n listen).mtr = s.mtr ∧ (s.canCmd n listen).dio = s.dio ∧
    (s.canCmd n listen).key = s.key ∧ (s.canCmd n listen).net = s.net ∧ (s.canCmd n listen).run = s.run ∧
    (s.canCmd n listen).mem = s.mem ∧ (s.canCmd n listen).pending = s.pending := by
  unfold State.canCmd; split <;> simp

@[simp] theorem State.mbReceive_keeps (n : Fin 8) (k : Nat) (f : CanFrame) (s : State) :
    (s.mbReceive n k f).pairs = s.pairs ∧ (s.mbReceive n k f).key = s.key ∧ (s.mbReceive n k f).run = s.run ∧
    (s.mbReceive n k f).pending = s.pending := by
  unfold State.mbReceive; dsimp only; (repeat' split) <;> simp

@[simp] theorem State.mbRelease_keeps (n : Fin 8) (k : Nat) (s : State) :
    (s.mbRelease n k).now = s.now ∧ (s.mbRelease n k).free = s.free ∧ (s.mbRelease n k).sys = s.sys ∧
    (s.mbRelease n k).fs = s.fs ∧ (s.mbRelease n k).hub = s.hub ∧ (s.mbRelease n k).rtc = s.rtc ∧
    (s.mbRelease n k).pwr = s.pwr ∧ (s.mbRelease n k).sil = s.sil ∧ (s.mbRelease n k).twin = s.twin ∧
    (s.mbRelease n k).pairs = s.pairs ∧ (s.mbRelease n k).fab = s.fab ∧ (s.mbRelease n k).acc = s.acc ∧
    (s.mbRelease n k).se = s.se ∧ (s.mbRelease n k).loops = s.loops ∧ (s.mbRelease n k).plan = s.plan ∧
    (s.mbRelease n k).prog = s.prog ∧ (s.mbRelease n k).mtr = s.mtr ∧ (s.mbRelease n k).dio = s.dio ∧
    (s.mbRelease n k).key = s.key ∧ (s.mbRelease n k).net = s.net ∧ (s.mbRelease n k).run = s.run ∧
    (s.mbRelease n k).mem = s.mem ∧ (s.mbRelease n k).setBits = s.setBits ∧
    (s.mbRelease n k).pending = s.pending := by
  simp [State.mbRelease]

@[simp] theorem State.mbRequest_keeps (n : Fin 8) (k : Nat) (s : State) :
    (s.mbRequest n k).now = s.now ∧ (s.mbRequest n k).free = s.free ∧ (s.mbRequest n k).sys = s.sys ∧
    (s.mbRequest n k).fs = s.fs ∧ (s.mbRequest n k).hub = s.hub ∧ (s.mbRequest n k).rtc = s.rtc ∧
    (s.mbRequest n k).pwr = s.pwr ∧ (s.mbRequest n k).sil = s.sil ∧ (s.mbRequest n k).twin = s.twin ∧
    (s.mbRequest n k).pairs = s.pairs ∧ (s.mbRequest n k).fab = s.fab ∧ (s.mbRequest n k).acc = s.acc ∧
    (s.mbRequest n k).se = s.se ∧ (s.mbRequest n k).loops = s.loops ∧ (s.mbRequest n k).plan = s.plan ∧
    (s.mbRequest n k).prog = s.prog ∧ (s.mbRequest n k).mtr = s.mtr ∧ (s.mbRequest n k).dio = s.dio ∧
    (s.mbRequest n k).key = s.key ∧ (s.mbRequest n k).net = s.net ∧ (s.mbRequest n k).run = s.run ∧
    (s.mbRequest n k).mem = s.mem ∧ (s.mbRequest n k).setBits = s.setBits ∧
    (s.mbRequest n k).pending = s.pending := by
  unfold State.mbRequest; dsimp only; (repeat' split) <;> simp

@[simp] theorem State.mbAbort_keeps (n : Fin 8) (k : Nat) (s : State) :
    (s.mbAbort n k).now = s.now ∧ (s.mbAbort n k).free = s.free ∧ (s.mbAbort n k).sys = s.sys ∧
    (s.mbAbort n k).fs = s.fs ∧ (s.mbAbort n k).rtc = s.rtc ∧ (s.mbAbort n k).pwr = s.pwr ∧
    (s.mbAbort n k).sil = s.sil ∧ (s.mbAbort n k).twin = s.twin ∧ (s.mbAbort n k).pairs = s.pairs ∧
    (s.mbAbort n k).fab = s.fab ∧ (s.mbAbort n k).acc = s.acc ∧ (s.mbAbort n k).se = s.se ∧
    (s.mbAbort n k).loops = s.loops ∧ (s.mbAbort n k).plan = s.plan ∧ (s.mbAbort n k).prog = s.prog ∧
    (s.mbAbort n k).mtr = s.mtr ∧ (s.mbAbort n k).dio = s.dio ∧ (s.mbAbort n k).key = s.key ∧
    (s.mbAbort n k).net = s.net ∧ (s.mbAbort n k).run = s.run ∧ (s.mbAbort n k).mem = s.mem ∧
    (s.mbAbort n k).pending = s.pending := by
  unfold State.mbAbort; split <;> simp

@[simp] theorem State.outSent_keeps (n : Fin 8) (i : Nat) (s : State) :
    (s.outSent n i).now = s.now ∧ (s.outSent n i).free = s.free ∧ (s.outSent n i).sys = s.sys ∧
    (s.outSent n i).fs = s.fs ∧ (s.outSent n i).rtc = s.rtc ∧ (s.outSent n i).pwr = s.pwr ∧
    (s.outSent n i).sil = s.sil ∧ (s.outSent n i).twin = s.twin ∧ (s.outSent n i).pairs = s.pairs ∧
    (s.outSent n i).fab = s.fab ∧ (s.outSent n i).acc = s.acc ∧ (s.outSent n i).se = s.se ∧
    (s.outSent n i).loops = s.loops ∧ (s.outSent n i).plan = s.plan ∧ (s.outSent n i).prog = s.prog ∧
    (s.outSent n i).mtr = s.mtr ∧ (s.outSent n i).dio = s.dio ∧ (s.outSent n i).key = s.key ∧
    (s.outSent n i).net = s.net ∧ (s.outSent n i).run = s.run ∧ (s.outSent n i).mem = s.mem ∧
    (s.outSent n i).pending = s.pending := by
  unfold State.outSent; dsimp only; (repeat' split) <;> simp

@[simp] theorem State.outError_keeps (n : Fin 8) (i : Nat) (s : State) :
    (s.outError n i).now = s.now ∧ (s.outError n i).free = s.free ∧ (s.outError n i).sys = s.sys ∧
    (s.outError n i).fs = s.fs ∧ (s.outError n i).rtc = s.rtc ∧ (s.outError n i).pwr = s.pwr ∧
    (s.outError n i).sil = s.sil ∧ (s.outError n i).twin = s.twin ∧ (s.outError n i).pairs = s.pairs ∧
    (s.outError n i).fab = s.fab ∧ (s.outError n i).acc = s.acc ∧ (s.outError n i).se = s.se ∧
    (s.outError n i).loops = s.loops ∧ (s.outError n i).plan = s.plan ∧ (s.outError n i).prog = s.prog ∧
    (s.outError n i).mtr = s.mtr ∧ (s.outError n i).dio = s.dio ∧ (s.outError n i).key = s.key ∧
    (s.outError n i).net = s.net ∧ (s.outError n i).run = s.run ∧ (s.outError n i).mem = s.mem ∧
    (s.outError n i).pending = s.pending := by
  unfold State.outError; dsimp only; (repeat' split) <;> simp

@[simp] theorem State.mbExpire_keeps (n : Fin 8) (s : State) :
    (s.mbExpire n).sil = s.sil ∧ (s.mbExpire n).pairs = s.pairs ∧ (s.mbExpire n).key = s.key ∧
    (s.mbExpire n).run = s.run ∧ (s.mbExpire n).mem = s.mem ∧ (s.mbExpire n).pending = s.pending := by
  simp only [State.mbExpire]; (repeat' split) <;> simp [foldl_keeps_sil,
    foldl_keeps_pairs, foldl_keeps_key, foldl_keeps_run, foldl_keeps_mem, foldl_keeps_pending]

@[simp] theorem State.txEnd_keeps (n : Fin 8) (x : Nat ⊕ Nat) (ok : Bool) (sof : Nat) (s : State) :
    (s.txEnd n x ok sof).now = s.now ∧ (s.txEnd n x ok sof).free = s.free ∧ (s.txEnd n x ok sof).sys = s.sys ∧
    (s.txEnd n x ok sof).fs = s.fs ∧ (s.txEnd n x ok sof).rtc = s.rtc ∧ (s.txEnd n x ok sof).pwr = s.pwr ∧
    (s.txEnd n x ok sof).sil = s.sil ∧ (s.txEnd n x ok sof).twin = s.twin ∧ (s.txEnd n x ok sof).pairs = s.pairs ∧
    (s.txEnd n x ok sof).fab = s.fab ∧ (s.txEnd n x ok sof).acc = s.acc ∧ (s.txEnd n x ok sof).se = s.se ∧
    (s.txEnd n x ok sof).loops = s.loops ∧ (s.txEnd n x ok sof).plan = s.plan ∧ (s.txEnd n x ok sof).prog = s.prog ∧
    (s.txEnd n x ok sof).mtr = s.mtr ∧ (s.txEnd n x ok sof).dio = s.dio ∧ (s.txEnd n x ok sof).key = s.key ∧
    (s.txEnd n x ok sof).net = s.net ∧ (s.txEnd n x ok sof).run = s.run ∧ (s.txEnd n x ok sof).mem = s.mem ∧
    (s.txEnd n x ok sof).pending = s.pending := by
  unfold State.txEnd; dsimp only; (repeat' split) <;> simp

@[simp] theorem State.mbConfig_keeps (n : Fin 8) (k r v : Nat) (s : State) :
    (s.mbConfig n k r v).now = s.now ∧ (s.mbConfig n k r v).free = s.free ∧ (s.mbConfig n k r v).sys = s.sys ∧
    (s.mbConfig n k r v).fs = s.fs ∧ (s.mbConfig n k r v).hub = s.hub ∧ (s.mbConfig n k r v).rtc = s.rtc ∧
    (s.mbConfig n k r v).pwr = s.pwr ∧ (s.mbConfig n k r v).sil = s.sil ∧ (s.mbConfig n k r v).twin = s.twin ∧
    (s.mbConfig n k r v).pairs = s.pairs ∧ (s.mbConfig n k r v).fab = s.fab ∧ (s.mbConfig n k r v).acc = s.acc ∧
    (s.mbConfig n k r v).se = s.se ∧ (s.mbConfig n k r v).loops = s.loops ∧ (s.mbConfig n k r v).plan = s.plan ∧
    (s.mbConfig n k r v).prog = s.prog ∧ (s.mbConfig n k r v).mtr = s.mtr ∧ (s.mbConfig n k r v).dio = s.dio ∧
    (s.mbConfig n k r v).key = s.key ∧ (s.mbConfig n k r v).net = s.net ∧ (s.mbConfig n k r v).run = s.run ∧
    (s.mbConfig n k r v).mem = s.mem ∧ (s.mbConfig n k r v).setBits = s.setBits ∧
    (s.mbConfig n k r v).pending = s.pending := by
  unfold State.mbConfig; (repeat' split) <;> simp

@[simp] theorem State.stnIncomplete_keeps (n : Fin 8) (s : State) :
    (s.stnIncomplete n).now = s.now ∧ (s.stnIncomplete n).free = s.free ∧ (s.stnIncomplete n).sys = s.sys ∧
    (s.stnIncomplete n).fs = s.fs ∧ (s.stnIncomplete n).rtc = s.rtc ∧ (s.stnIncomplete n).pwr = s.pwr ∧
    (s.stnIncomplete n).sil = s.sil ∧ (s.stnIncomplete n).twin = s.twin ∧ (s.stnIncomplete n).pairs = s.pairs ∧
    (s.stnIncomplete n).fab = s.fab ∧ (s.stnIncomplete n).acc = s.acc ∧ (s.stnIncomplete n).se = s.se ∧
    (s.stnIncomplete n).loops = s.loops ∧ (s.stnIncomplete n).plan = s.plan ∧ (s.stnIncomplete n).prog = s.prog ∧
    (s.stnIncomplete n).mtr = s.mtr ∧ (s.stnIncomplete n).dio = s.dio ∧ (s.stnIncomplete n).key = s.key ∧
    (s.stnIncomplete n).net = s.net ∧ (s.stnIncomplete n).run = s.run ∧ (s.stnIncomplete n).mem = s.mem ∧
    (s.stnIncomplete n).pending = s.pending := by
  simp [State.stnIncomplete]

@[simp] theorem State.stnDiscard_keeps (n : Fin 8) (s : State) :
    (s.stnDiscard n).now = s.now ∧ (s.stnDiscard n).free = s.free ∧ (s.stnDiscard n).sys = s.sys ∧
    (s.stnDiscard n).fs = s.fs ∧ (s.stnDiscard n).hub = s.hub ∧ (s.stnDiscard n).rtc = s.rtc ∧
    (s.stnDiscard n).pwr = s.pwr ∧ (s.stnDiscard n).sil = s.sil ∧ (s.stnDiscard n).twin = s.twin ∧
    (s.stnDiscard n).pairs = s.pairs ∧ (s.stnDiscard n).fab = s.fab ∧ (s.stnDiscard n).acc = s.acc ∧
    (s.stnDiscard n).se = s.se ∧ (s.stnDiscard n).loops = s.loops ∧ (s.stnDiscard n).plan = s.plan ∧
    (s.stnDiscard n).prog = s.prog ∧ (s.stnDiscard n).mtr = s.mtr ∧ (s.stnDiscard n).dio = s.dio ∧
    (s.stnDiscard n).key = s.key ∧ (s.stnDiscard n).net = s.net ∧ (s.stnDiscard n).run = s.run ∧
    (s.stnDiscard n).mem = s.mem ∧ (s.stnDiscard n).setBits = s.setBits ∧ (s.stnDiscard n).pending = s.pending := by
  simp [State.stnDiscard]

@[simp] theorem State.putBlock_keeps (n : Fin 8) (i : Nat) (second : Bool) (blk : List Byte) (s : State) :
    (s.putBlock n i second blk).now = s.now ∧ (s.putBlock n i second blk).free = s.free ∧ (s.putBlock n i second
    blk).sys = s.sys ∧ (s.putBlock n i second blk).fs = s.fs ∧ (s.putBlock n i second blk).hub = s.hub ∧ (s.putBlock
    n i second blk).rtc = s.rtc ∧ (s.putBlock n i second blk).pwr = s.pwr ∧ (s.putBlock n i second blk).sil = s.sil ∧
    (s.putBlock n i second blk).twin = s.twin ∧ (s.putBlock n i second blk).pairs = s.pairs ∧ (s.putBlock n i second
    blk).acc = s.acc ∧ (s.putBlock n i second blk).loops = s.loops ∧ (s.putBlock n i second blk).plan = s.plan ∧
    (s.putBlock n i second blk).prog = s.prog ∧ (s.putBlock n i second blk).mtr = s.mtr ∧ (s.putBlock n i second
    blk).can = s.can ∧ (s.putBlock n i second blk).dio = s.dio ∧ (s.putBlock n i second blk).key = s.key ∧
    (s.putBlock n i second blk).net = s.net ∧ (s.putBlock n i second blk).run = s.run ∧ (s.putBlock n i second
    blk).setBits = s.setBits ∧ (s.putBlock n i second blk).pending = s.pending := by
  unfold State.putBlock; (try dsimp only); (repeat' split) <;> simp -implicitDefEqProofs

@[simp] theorem State.acceptBlock_keeps (n : Fin 8) (i : Nat) (sof : Nat) (seq : Option Nat) (blk : List Byte) (s : State) :
    (s.acceptBlock n i sof seq blk).now = s.now ∧ (s.acceptBlock n i sof seq blk).free = s.free ∧ (s.acceptBlock n i
    sof seq blk).sys = s.sys ∧ (s.acceptBlock n i sof seq blk).fs = s.fs ∧ (s.acceptBlock n i sof seq blk).hub =
    s.hub ∧ (s.acceptBlock n i sof seq blk).rtc = s.rtc ∧ (s.acceptBlock n i sof seq blk).pwr = s.pwr ∧
    (s.acceptBlock n i sof seq blk).sil = s.sil ∧ (s.acceptBlock n i sof seq blk).twin = s.twin ∧ (s.acceptBlock n i
    sof seq blk).pairs = s.pairs ∧ (s.acceptBlock n i sof seq blk).acc = s.acc ∧ (s.acceptBlock n i sof seq
    blk).loops = s.loops ∧ (s.acceptBlock n i sof seq blk).plan = s.plan ∧ (s.acceptBlock n i sof seq blk).prog =
    s.prog ∧ (s.acceptBlock n i sof seq blk).mtr = s.mtr ∧ (s.acceptBlock n i sof seq blk).dio = s.dio ∧
    (s.acceptBlock n i sof seq blk).key = s.key ∧ (s.acceptBlock n i sof seq blk).net = s.net ∧ (s.acceptBlock n i
    sof seq blk).run = s.run ∧ (s.acceptBlock n i sof seq blk).setBits = s.setBits ∧ (s.acceptBlock n i sof seq
    blk).pending = s.pending := by
  unfold State.acceptBlock; (repeat' split) <;> simp

@[simp] theorem State.inputFrame_keeps (n : Fin 8) (c : StnCfg) (second : Bool) (f : CanFrame) (s : State) :
    (s.inputFrame n c second f).now = s.now ∧ (s.inputFrame n c second f).free = s.free ∧ (s.inputFrame n c second
    f).sys = s.sys ∧ (s.inputFrame n c second f).fs = s.fs ∧ (s.inputFrame n c second f).rtc = s.rtc ∧ (s.inputFrame
    n c second f).pwr = s.pwr ∧ (s.inputFrame n c second f).sil = s.sil ∧ (s.inputFrame n c second f).twin = s.twin ∧
    (s.inputFrame n c second f).pairs = s.pairs ∧ (s.inputFrame n c second f).acc = s.acc ∧ (s.inputFrame n c second
    f).loops = s.loops ∧ (s.inputFrame n c second f).plan = s.plan ∧ (s.inputFrame n c second f).prog = s.prog ∧
    (s.inputFrame n c second f).mtr = s.mtr ∧ (s.inputFrame n c second f).dio = s.dio ∧ (s.inputFrame n c second
    f).key = s.key ∧ (s.inputFrame n c second f).net = s.net ∧ (s.inputFrame n c second f).run = s.run ∧
    (s.inputFrame n c second f).pending = s.pending := by
  unfold State.inputFrame; (try dsimp only); (repeat' split) <;> simp -implicitDefEqProofs

@[simp] theorem State.loseStation_keeps (n : Fin 8) (i : Nat) (s : State) :
    (s.loseStation n i).sil = s.sil ∧ (s.loseStation n i).pairs = s.pairs ∧ (s.loseStation n i).key = s.key ∧
    (s.loseStation n i).run = s.run ∧ (s.loseStation n i).mem = s.mem ∧ (s.loseStation n i).pending = s.pending := by
  simp [State.loseStation]

@[simp] theorem State.canLatch_keeps (s : State) (n : Fin 8) :
    (s.canLatch n).sil = s.sil ∧ (s.canLatch n).pairs = s.pairs ∧ (s.canLatch n).key = s.key ∧
    (s.canLatch n).run = s.run ∧ (s.canLatch n).mem = s.mem ∧ (s.canLatch n).pending = s.pending := by
  unfold State.canLatch; dsimp only; (repeat' split) <;> simp

@[simp] theorem State.queueOut_keeps (n : Fin 8) (c : StnCfg) (refresh : Bool) (s : State) :
    (s.queueOut n c refresh).now = s.now ∧ (s.queueOut n c refresh).free = s.free ∧
    (s.queueOut n c refresh).sys = s.sys ∧ (s.queueOut n c refresh).fs = s.fs ∧ (s.queueOut n c refresh).rtc = s.rtc ∧
    (s.queueOut n c refresh).pwr = s.pwr ∧ (s.queueOut n c refresh).sil = s.sil ∧
    (s.queueOut n c refresh).twin = s.twin ∧ (s.queueOut n c refresh).pairs = s.pairs ∧
    (s.queueOut n c refresh).fab = s.fab ∧ (s.queueOut n c refresh).acc = s.acc ∧ (s.queueOut n c refresh).se = s.se ∧
    (s.queueOut n c refresh).loops = s.loops ∧ (s.queueOut n c refresh).plan = s.plan ∧
    (s.queueOut n c refresh).prog = s.prog ∧ (s.queueOut n c refresh).mtr = s.mtr ∧
    (s.queueOut n c refresh).dio = s.dio ∧ (s.queueOut n c refresh).key = s.key ∧ (s.queueOut n c refresh).net = s.net ∧
    (s.queueOut n c refresh).run = s.run ∧ (s.queueOut n c refresh).mem = s.mem ∧
    (s.queueOut n c refresh).pending = s.pending := by
  unfold State.queueOut; dsimp only; (repeat' split) <;> simp

@[simp] theorem State.outStation_keeps (n : Fin 8) (s : State) (c : StnCfg) :
    (s.outStation n c).now = s.now ∧ (s.outStation n c).free = s.free ∧ (s.outStation n c).sys = s.sys ∧
    (s.outStation n c).fs = s.fs ∧ (s.outStation n c).rtc = s.rtc ∧ (s.outStation n c).pwr = s.pwr ∧
    (s.outStation n c).sil = s.sil ∧ (s.outStation n c).pairs = s.pairs ∧ (s.outStation n c).fab = s.fab ∧
    (s.outStation n c).acc = s.acc ∧ (s.outStation n c).se = s.se ∧ (s.outStation n c).plan = s.plan ∧
    (s.outStation n c).key = s.key ∧ (s.outStation n c).run = s.run ∧ (s.outStation n c).mem = s.mem ∧
    (s.outStation n c).pending = s.pending := by
  unfold State.outStation; (repeat' split) <;> simp

@[simp] theorem State.withdrawOut_keeps (n : Fin 8) (s : State) (c : StnCfg) :
    (s.withdrawOut n c).now = s.now ∧ (s.withdrawOut n c).free = s.free ∧ (s.withdrawOut n c).sys = s.sys ∧
    (s.withdrawOut n c).fs = s.fs ∧ (s.withdrawOut n c).rtc = s.rtc ∧ (s.withdrawOut n c).pwr = s.pwr ∧
    (s.withdrawOut n c).sil = s.sil ∧ (s.withdrawOut n c).twin = s.twin ∧ (s.withdrawOut n c).pairs = s.pairs ∧
    (s.withdrawOut n c).fab = s.fab ∧ (s.withdrawOut n c).acc = s.acc ∧ (s.withdrawOut n c).se = s.se ∧
    (s.withdrawOut n c).loops = s.loops ∧ (s.withdrawOut n c).plan = s.plan ∧ (s.withdrawOut n c).prog = s.prog ∧
    (s.withdrawOut n c).mtr = s.mtr ∧ (s.withdrawOut n c).dio = s.dio ∧ (s.withdrawOut n c).key = s.key ∧
    (s.withdrawOut n c).net = s.net ∧ (s.withdrawOut n c).run = s.run ∧ (s.withdrawOut n c).mem = s.mem ∧
    (s.withdrawOut n c).pending = s.pending := by
  unfold State.withdrawOut; (try dsimp only); (repeat' split) <;> simp -implicitDefEqProofs

@[simp] theorem State.canOutputs_keeps (s : State) (n : Fin 8) :
    (s.canOutputs n).now = s.now ∧ (s.canOutputs n).free = s.free ∧ (s.canOutputs n).sys = s.sys ∧ (s.canOutputs
    n).fs = s.fs ∧ (s.canOutputs n).rtc = s.rtc ∧ (s.canOutputs n).pwr = s.pwr ∧ (s.canOutputs n).sil = s.sil ∧
    (s.canOutputs n).pairs = s.pairs ∧ (s.canOutputs n).fab = s.fab ∧ (s.canOutputs n).acc = s.acc ∧ (s.canOutputs
    n).se = s.se ∧ (s.canOutputs n).plan = s.plan ∧ (s.canOutputs n).key = s.key ∧ (s.canOutputs n).run = s.run ∧
    (s.canOutputs n).mem = s.mem ∧ (s.canOutputs n).pending = s.pending := by
  unfold State.canOutputs; (repeat' split) <;> simp [foldl_keeps_now, foldl_keeps_free, foldl_keeps_sys,
    foldl_keeps_fs, foldl_keeps_rtc, foldl_keeps_pwr, foldl_keeps_sil, foldl_keeps_pairs, foldl_keeps_fab,
    foldl_keeps_acc, foldl_keeps_se, foldl_keeps_plan, foldl_keeps_key, foldl_keeps_run, foldl_keeps_mem,
    foldl_keeps_pending]

@[simp] theorem State.fillTestImage_keeps (s : State) :
    s.fillTestImage.now = s.now ∧ s.fillTestImage.free = s.free ∧ s.fillTestImage.fs = s.fs ∧
    s.fillTestImage.rtc = s.rtc ∧ s.fillTestImage.pwr = s.pwr ∧ s.fillTestImage.sil = s.sil ∧
    s.fillTestImage.twin = s.twin ∧ s.fillTestImage.pairs = s.pairs ∧ s.fillTestImage.acc = s.acc ∧
    s.fillTestImage.loops = s.loops ∧ s.fillTestImage.plan = s.plan ∧ s.fillTestImage.mtr = s.mtr ∧
    s.fillTestImage.dio = s.dio ∧ s.fillTestImage.key = s.key ∧ s.fillTestImage.net = s.net ∧
    s.fillTestImage.run = s.run ∧ s.fillTestImage.pending = s.pending := by
  simp [State.fillTestImage]

@[simp] theorem State.canTouch_keeps (s : State) (n : Fin 8) (ofs : Nat) :
    (s.canTouch n ofs).sil = s.sil ∧ (s.canTouch n ofs).pairs = s.pairs ∧ (s.canTouch n ofs).key = s.key ∧
    (s.canTouch n ofs).run = s.run ∧ (s.canTouch n ofs).mem = s.mem ∧ (s.canTouch n ofs).pending = s.pending := by
  unfold State.canTouch; split <;> simp

@[simp] theorem State.canCtrl_keeps (w : Initiator) (n : Fin 8) (v : Nat) (s : State) :
    (s.canCtrl w n v).now = s.now ∧ (s.canCtrl w n v).free = s.free ∧ (s.canCtrl w n v).sys = s.sys ∧
    (s.canCtrl w n v).fs = s.fs ∧ (s.canCtrl w n v).rtc = s.rtc ∧ (s.canCtrl w n v).pwr = s.pwr ∧
    (s.canCtrl w n v).twin = s.twin ∧ (s.canCtrl w n v).pairs = s.pairs ∧ (s.canCtrl w n v).fab = s.fab ∧
    (s.canCtrl w n v).acc = s.acc ∧ (s.canCtrl w n v).se = s.se ∧ (s.canCtrl w n v).loops = s.loops ∧
    (s.canCtrl w n v).plan = s.plan ∧ (s.canCtrl w n v).prog = s.prog ∧ (s.canCtrl w n v).mtr = s.mtr ∧
    (s.canCtrl w n v).dio = s.dio ∧ (s.canCtrl w n v).key = s.key ∧ (s.canCtrl w n v).net = s.net ∧
    (s.canCtrl w n v).run = s.run ∧ (s.canCtrl w n v).mem = s.mem ∧ (s.canCtrl w n v).pending = s.pending := by
  simp only [State.canCtrl, State.rwlWrite]; (repeat' split) <;> simp

@[simp] theorem State.canCommand_keeps (w : Initiator) (n : Fin 8) (cmd : Nat) (s : State) :
    (s.canCommand w n cmd).now = s.now ∧ (s.canCommand w n cmd).free = s.free ∧ (s.canCommand w n cmd).sys = s.sys ∧
    (s.canCommand w n cmd).fs = s.fs ∧ (s.canCommand w n cmd).rtc = s.rtc ∧ (s.canCommand w n cmd).pwr = s.pwr ∧
    (s.canCommand w n cmd).twin = s.twin ∧ (s.canCommand w n cmd).pairs = s.pairs ∧ (s.canCommand w n cmd).fab = s.fab ∧
    (s.canCommand w n cmd).acc = s.acc ∧ (s.canCommand w n cmd).se = s.se ∧ (s.canCommand w n cmd).loops = s.loops ∧
    (s.canCommand w n cmd).plan = s.plan ∧ (s.canCommand w n cmd).prog = s.prog ∧ (s.canCommand w n cmd).mtr = s.mtr ∧
    (s.canCommand w n cmd).dio = s.dio ∧ (s.canCommand w n cmd).key = s.key ∧ (s.canCommand w n cmd).net = s.net ∧
    (s.canCommand w n cmd).run = s.run ∧ (s.canCommand w n cmd).mem = s.mem ∧
    (s.canCommand w n cmd).pending = s.pending := by
  simp only [State.canCommand, State.guardWrite]; (repeat' split) <;> simp

@[simp] theorem State.mbData_keeps (n : Fin 8) (k o v : Nat) (s : State) :
    (s.mbData n k o v).sil = s.sil ∧ (s.mbData n k o v).pairs = s.pairs ∧ (s.mbData n k o v).key = s.key ∧
    (s.mbData n k o v).run = s.run ∧ (s.mbData n k o v).mem = s.mem ∧ (s.mbData n k o v).pending = s.pending := by
  unfold State.mbData; dsimp only; (repeat' split) <;> simp

@[simp] theorem State.mbWrite_keeps (n : Fin 8) (k o v : Nat) (s : State) :
    (s.mbWrite n k o v).pairs = s.pairs ∧ (s.mbWrite n k o v).key = s.key ∧ (s.mbWrite n k o v).run = s.run ∧
    (s.mbWrite n k o v).pending = s.pending := by
  unfold State.mbWrite; (repeat' split) <;> simp

@[simp] theorem State.canWrite_keeps (s : State) (w : Initiator) (n : Fin 8) (ofs v : Nat) :
    (s.canWrite w n ofs v).pairs = s.pairs ∧ (s.canWrite w n ofs v).key = s.key ∧ (s.canWrite w n ofs v).run = s.run ∧
    (s.canWrite w n ofs v).pending = s.pending := by
  simp only [State.canWrite, State.guardWrite, State.rwlWrite]; (repeat' split) <;> simp

@[simp] theorem State.dioFault_keeps (ch : Fin 48) (f : DioFault) (on : Bool) (s : State) :
    (s.dioFault ch f on).now = s.now ∧ (s.dioFault ch f on).free = s.free ∧ (s.dioFault ch f on).sys = s.sys ∧
    (s.dioFault ch f on).fs = s.fs ∧ (s.dioFault ch f on).rtc = s.rtc ∧ (s.dioFault ch f on).pwr = s.pwr ∧
    (s.dioFault ch f on).twin = s.twin ∧ (s.dioFault ch f on).pairs = s.pairs ∧ (s.dioFault ch f on).fab = s.fab ∧
    (s.dioFault ch f on).acc = s.acc ∧ (s.dioFault ch f on).se = s.se ∧ (s.dioFault ch f on).plan = s.plan ∧
    (s.dioFault ch f on).prog = s.prog ∧ (s.dioFault ch f on).mtr = s.mtr ∧ (s.dioFault ch f on).can = s.can ∧
    (s.dioFault ch f on).key = s.key ∧ (s.dioFault ch f on).net = s.net ∧ (s.dioFault ch f on).run = s.run ∧
    (s.dioFault ch f on).mem = s.mem ∧ (s.dioFault ch f on).pending = s.pending := by
  unfold State.dioFault; dsimp only; (repeat' split) <;> simp

@[simp] theorem State.requeue_keeps (b : Fin 6) (s : State) :
    (s.requeue b).sil = s.sil ∧ (s.requeue b).pairs = s.pairs ∧ (s.requeue b).run = s.run ∧ (s.requeue b).mem = s.mem ∧
    (s.requeue b).pending = s.pending := by
  simp (disch := (intros; (repeat' split) <;> simp)) [State.requeue, foldl_keeps_sil, foldl_keeps_pairs,
    foldl_keeps_run, foldl_keeps_mem, foldl_keeps_pending]

@[simp] theorem State.latchCh_keeps (s : State) (fault : Bool) (c : Fin 48) :
    (s.latchCh fault c).sil = s.sil ∧ (s.latchCh fault c).pairs = s.pairs ∧ (s.latchCh fault c).key = s.key ∧
    (s.latchCh fault c).run = s.run ∧ (s.latchCh fault c).mem = s.mem ∧ (s.latchCh fault c).pending = s.pending := by
  unfold State.latchCh; split <;> simp

@[simp] theorem State.latchBank_keeps (s : State) (b : Fin 6) :
    (s.latchBank b).sil = s.sil ∧ (s.latchBank b).pairs = s.pairs ∧ (s.latchBank b).key = s.key ∧
    (s.latchBank b).run = s.run ∧ (s.latchBank b).mem = s.mem ∧ (s.latchBank b).pending = s.pending := by
  unfold State.latchBank; dsimp only; (repeat' split) <;> simp [foldl_keeps_sil, foldl_keeps_pairs, foldl_keeps_key,
    foldl_keeps_run, foldl_keeps_mem, foldl_keeps_pending]

@[simp] theorem State.dioLatch_keeps (s : State) :
    s.dioLatch.sil = s.sil ∧ s.dioLatch.pairs = s.pairs ∧ s.dioLatch.key = s.key ∧ s.dioLatch.run = s.run ∧
    s.dioLatch.mem = s.mem ∧ s.dioLatch.pending = s.pending := by
  simp only [State.dioLatch]; (repeat' split) <;> simp [foldl_keeps_sil,
    foldl_keeps_pairs, foldl_keeps_key, foldl_keeps_run, foldl_keeps_mem, foldl_keeps_pending]

@[simp] theorem State.setSafe_keeps (on : Bool) (s : State) :
    (s.setSafe on).now = s.now ∧ (s.setSafe on).free = s.free ∧ (s.setSafe on).sys = s.sys ∧ (s.setSafe on).fs = s.fs ∧
    (s.setSafe on).rtc = s.rtc ∧ (s.setSafe on).pwr = s.pwr ∧ (s.setSafe on).sil = s.sil ∧
    (s.setSafe on).twin = s.twin ∧ (s.setSafe on).pairs = s.pairs ∧ (s.setSafe on).fab = s.fab ∧
    (s.setSafe on).acc = s.acc ∧ (s.setSafe on).se = s.se ∧ (s.setSafe on).loops = s.loops ∧
    (s.setSafe on).plan = s.plan ∧ (s.setSafe on).prog = s.prog ∧ (s.setSafe on).mtr = s.mtr ∧
    (s.setSafe on).can = s.can ∧ (s.setSafe on).key = s.key ∧ (s.setSafe on).net = s.net ∧ (s.setSafe on).run = s.run ∧
    (s.setSafe on).mem = s.mem ∧ (s.setSafe on).setBits = s.setBits ∧ (s.setSafe on).pending = s.pending := by
  unfold State.setSafe; split <;> simp

@[simp] theorem State.dioSafeNow_keeps (s : State) :
    s.dioSafeNow.now = s.now ∧ s.dioSafeNow.free = s.free ∧ s.dioSafeNow.sys = s.sys ∧ s.dioSafeNow.fs = s.fs ∧
    s.dioSafeNow.rtc = s.rtc ∧ s.dioSafeNow.pwr = s.pwr ∧ s.dioSafeNow.sil = s.sil ∧ s.dioSafeNow.twin = s.twin ∧
    s.dioSafeNow.pairs = s.pairs ∧ s.dioSafeNow.fab = s.fab ∧ s.dioSafeNow.acc = s.acc ∧ s.dioSafeNow.se = s.se ∧
    s.dioSafeNow.loops = s.loops ∧ s.dioSafeNow.plan = s.plan ∧ s.dioSafeNow.prog = s.prog ∧ s.dioSafeNow.mtr = s.mtr ∧
    s.dioSafeNow.can = s.can ∧ s.dioSafeNow.key = s.key ∧ s.dioSafeNow.net = s.net ∧ s.dioSafeNow.run = s.run ∧
    s.dioSafeNow.mem = s.mem ∧ s.dioSafeNow.setBits = s.setBits ∧ s.dioSafeNow.pending = s.pending := by
  simp [State.dioSafeNow]

@[simp] theorem State.dioOutputs_keeps (s : State) :
    s.dioOutputs.now = s.now ∧ s.dioOutputs.free = s.free ∧ s.dioOutputs.sys = s.sys ∧ s.dioOutputs.fs = s.fs ∧
    s.dioOutputs.rtc = s.rtc ∧ s.dioOutputs.pwr = s.pwr ∧ s.dioOutputs.sil = s.sil ∧ s.dioOutputs.pairs = s.pairs ∧
    s.dioOutputs.fab = s.fab ∧ s.dioOutputs.acc = s.acc ∧ s.dioOutputs.se = s.se ∧ s.dioOutputs.plan = s.plan ∧
    s.dioOutputs.key = s.key ∧ s.dioOutputs.run = s.run ∧ s.dioOutputs.mem = s.mem ∧
    s.dioOutputs.pending = s.pending := by
  simp [State.dioOutputs]

@[simp] theorem State.dioWrite_keeps (s : State) (w : Initiator) (ofs v : Nat) :
    (s.dioWrite w ofs v).pairs = s.pairs ∧ (s.dioWrite w ofs v).key = s.key ∧ (s.dioWrite w ofs v).run = s.run ∧
    (s.dioWrite w ofs v).mem = s.mem ∧ (s.dioWrite w ofs v).pending = s.pending := by
  simp only [State.dioWrite, State.guardWrite, State.rwlWrite]; (repeat' split) <;> simp

@[simp] theorem State.mtrRaise_keeps (i : Nat) (s : State) :
    (s.mtrRaise i).now = s.now ∧ (s.mtrRaise i).free = s.free ∧ (s.mtrRaise i).sys = s.sys ∧ (s.mtrRaise i).fs = s.fs ∧
    (s.mtrRaise i).rtc = s.rtc ∧ (s.mtrRaise i).pwr = s.pwr ∧ (s.mtrRaise i).sil = s.sil ∧
    (s.mtrRaise i).twin = s.twin ∧ (s.mtrRaise i).pairs = s.pairs ∧ (s.mtrRaise i).fab = s.fab ∧
    (s.mtrRaise i).acc = s.acc ∧ (s.mtrRaise i).se = s.se ∧ (s.mtrRaise i).loops = s.loops ∧
    (s.mtrRaise i).plan = s.plan ∧ (s.mtrRaise i).prog = s.prog ∧ (s.mtrRaise i).mtr = s.mtr ∧
    (s.mtrRaise i).can = s.can ∧ (s.mtrRaise i).dio = s.dio ∧ (s.mtrRaise i).key = s.key ∧ (s.mtrRaise i).net = s.net ∧
    (s.mtrRaise i).run = s.run ∧ (s.mtrRaise i).mem = s.mem ∧ (s.mtrRaise i).setBits = s.setBits ∧
    (s.mtrRaise i).pending = s.pending := by
  simp [State.mtrRaise]

@[simp] theorem State.decimate_keeps (bits : List (Fin 96 × List Bool)) (s : State) (c : ChanCfg) :
    (s.decimate bits c).sil = s.sil ∧ (s.decimate bits c).pairs = s.pairs ∧ (s.decimate bits c).key = s.key ∧
    (s.decimate bits c).run = s.run ∧ (s.decimate bits c).mem = s.mem ∧ (s.decimate bits c).pending = s.pending := by
  unfold State.decimate; dsimp only; (repeat' split) <;> simp

@[simp] theorem State.closeWindow_keeps (s : State) (k : Nat) :
    (s.closeWindow k).now = s.now ∧ (s.closeWindow k).free = s.free ∧ (s.closeWindow k).sys = s.sys ∧
    (s.closeWindow k).fs = s.fs ∧ (s.closeWindow k).rtc = s.rtc ∧ (s.closeWindow k).pwr = s.pwr ∧
    (s.closeWindow k).sil = s.sil ∧ (s.closeWindow k).twin = s.twin ∧ (s.closeWindow k).pairs = s.pairs ∧
    (s.closeWindow k).fab = s.fab ∧ (s.closeWindow k).acc = s.acc ∧ (s.closeWindow k).se = s.se ∧
    (s.closeWindow k).loops = s.loops ∧ (s.closeWindow k).plan = s.plan ∧ (s.closeWindow k).prog = s.prog ∧
    (s.closeWindow k).can = s.can ∧ (s.closeWindow k).dio = s.dio ∧ (s.closeWindow k).key = s.key ∧
    (s.closeWindow k).net = s.net ∧ (s.closeWindow k).run = s.run ∧ (s.closeWindow k).mem = s.mem ∧
    (s.closeWindow k).setBits = s.setBits ∧ (s.closeWindow k).pending = s.pending := by
  unfold State.closeWindow; dsimp only; (repeat' split) <;> simp

@[simp] theorem State.closeWindows_keeps (s : State) :
    s.closeWindows.now = s.now ∧ s.closeWindows.free = s.free ∧ s.closeWindows.sys = s.sys ∧ s.closeWindows.fs = s.fs ∧
    s.closeWindows.rtc = s.rtc ∧ s.closeWindows.pwr = s.pwr ∧ s.closeWindows.sil = s.sil ∧
    s.closeWindows.twin = s.twin ∧ s.closeWindows.pairs = s.pairs ∧ s.closeWindows.fab = s.fab ∧
    s.closeWindows.acc = s.acc ∧ s.closeWindows.se = s.se ∧ s.closeWindows.loops = s.loops ∧
    s.closeWindows.plan = s.plan ∧ s.closeWindows.prog = s.prog ∧ s.closeWindows.can = s.can ∧
    s.closeWindows.dio = s.dio ∧ s.closeWindows.key = s.key ∧ s.closeWindows.net = s.net ∧ s.closeWindows.run = s.run ∧
    s.closeWindows.mem = s.mem ∧ s.closeWindows.setBits = s.setBits ∧ s.closeWindows.pending = s.pending := by
  simp only [State.closeWindows]; (repeat' split) <;> simp [foldl_keeps_now,
    foldl_keeps_free, foldl_keeps_sys, foldl_keeps_fs, foldl_keeps_rtc, foldl_keeps_pwr, foldl_keeps_sil,
    foldl_keeps_twin, foldl_keeps_pairs, foldl_keeps_fab, foldl_keeps_acc, foldl_keeps_se, foldl_keeps_loops,
    foldl_keeps_plan, foldl_keeps_prog, foldl_keeps_can, foldl_keeps_dio, foldl_keeps_key, foldl_keeps_net,
    foldl_keeps_run, foldl_keeps_mem, foldl_keeps_setBits, foldl_keeps_pending]

@[simp] theorem State.driveMclk_keeps (s : State) :
    s.driveMclk.sil = s.sil ∧ s.driveMclk.pairs = s.pairs ∧ s.driveMclk.key = s.key ∧ s.driveMclk.run = s.run ∧
    s.driveMclk.mem = s.mem ∧ s.driveMclk.pending = s.pending := by
  unfold State.driveMclk; (repeat' split) <;> simp

@[simp] theorem State.mtrTemperature_keeps (temp : Nat) (val : Nat → Nat → Int × Quality) (s : State) :
    (s.mtrTemperature temp val).sil = s.sil ∧ (s.mtrTemperature temp val).pairs = s.pairs ∧
    (s.mtrTemperature temp val).key = s.key ∧ (s.mtrTemperature temp val).run = s.run ∧
    (s.mtrTemperature temp val).mem = s.mem ∧ (s.mtrTemperature temp val).pending = s.pending := by
  unfold State.mtrTemperature; dsimp only; (repeat' split) <;> simp

@[simp] theorem State.thermPublish_keeps (s : State) :
    s.thermPublish.now = s.now ∧ s.thermPublish.free = s.free ∧ s.thermPublish.sys = s.sys ∧ s.thermPublish.fs = s.fs ∧
    s.thermPublish.rtc = s.rtc ∧ s.thermPublish.pwr = s.pwr ∧ s.thermPublish.sil = s.sil ∧
    s.thermPublish.twin = s.twin ∧ s.thermPublish.pairs = s.pairs ∧ s.thermPublish.fab = s.fab ∧
    s.thermPublish.acc = s.acc ∧ s.thermPublish.se = s.se ∧ s.thermPublish.loops = s.loops ∧
    s.thermPublish.plan = s.plan ∧ s.thermPublish.prog = s.prog ∧ s.thermPublish.can = s.can ∧
    s.thermPublish.dio = s.dio ∧ s.thermPublish.key = s.key ∧ s.thermPublish.net = s.net ∧ s.thermPublish.run = s.run ∧
    s.thermPublish.mem = s.mem ∧ s.thermPublish.setBits = s.setBits ∧ s.thermPublish.pending = s.pending := by
  unfold State.thermPublish; dsimp only; (repeat' split) <;> simp

@[simp] theorem State.mtrOpen_keeps (w : Initiator) (ofs v : Nat) (s : State) :
    (s.mtrOpen w ofs v).now = s.now ∧ (s.mtrOpen w ofs v).free = s.free ∧ (s.mtrOpen w ofs v).sys = s.sys ∧
    (s.mtrOpen w ofs v).fs = s.fs ∧ (s.mtrOpen w ofs v).hub = s.hub ∧ (s.mtrOpen w ofs v).rtc = s.rtc ∧
    (s.mtrOpen w ofs v).pwr = s.pwr ∧ (s.mtrOpen w ofs v).sil = s.sil ∧ (s.mtrOpen w ofs v).twin = s.twin ∧
    (s.mtrOpen w ofs v).pairs = s.pairs ∧ (s.mtrOpen w ofs v).fab = s.fab ∧ (s.mtrOpen w ofs v).acc = s.acc ∧
    (s.mtrOpen w ofs v).se = s.se ∧ (s.mtrOpen w ofs v).loops = s.loops ∧ (s.mtrOpen w ofs v).plan = s.plan ∧
    (s.mtrOpen w ofs v).prog = s.prog ∧ (s.mtrOpen w ofs v).can = s.can ∧ (s.mtrOpen w ofs v).dio = s.dio ∧
    (s.mtrOpen w ofs v).key = s.key ∧ (s.mtrOpen w ofs v).net = s.net ∧ (s.mtrOpen w ofs v).run = s.run ∧
    (s.mtrOpen w ofs v).mem = s.mem ∧ (s.mtrOpen w ofs v).setBits = s.setBits ∧
    (s.mtrOpen w ofs v).pending = s.pending := by
  simp [State.mtrOpen]

@[simp] theorem State.mtrCloseRead_keeps (w : Initiator) (ofs : Nat) (s : State) :
    (s.mtrCloseRead w ofs).now = s.now ∧ (s.mtrCloseRead w ofs).free = s.free ∧ (s.mtrCloseRead w ofs).sys = s.sys ∧
    (s.mtrCloseRead w ofs).fs = s.fs ∧ (s.mtrCloseRead w ofs).hub = s.hub ∧ (s.mtrCloseRead w ofs).rtc = s.rtc ∧
    (s.mtrCloseRead w ofs).pwr = s.pwr ∧ (s.mtrCloseRead w ofs).sil = s.sil ∧ (s.mtrCloseRead w ofs).twin = s.twin ∧
    (s.mtrCloseRead w ofs).pairs = s.pairs ∧ (s.mtrCloseRead w ofs).fab = s.fab ∧ (s.mtrCloseRead w ofs).acc = s.acc ∧
    (s.mtrCloseRead w ofs).se = s.se ∧ (s.mtrCloseRead w ofs).loops = s.loops ∧ (s.mtrCloseRead w ofs).plan = s.plan ∧
    (s.mtrCloseRead w ofs).prog = s.prog ∧ (s.mtrCloseRead w ofs).can = s.can ∧ (s.mtrCloseRead w ofs).dio = s.dio ∧
    (s.mtrCloseRead w ofs).key = s.key ∧ (s.mtrCloseRead w ofs).net = s.net ∧ (s.mtrCloseRead w ofs).run = s.run ∧
    (s.mtrCloseRead w ofs).mem = s.mem ∧ (s.mtrCloseRead w ofs).setBits = s.setBits ∧
    (s.mtrCloseRead w ofs).pending = s.pending := by
  simp [State.mtrCloseRead]

@[simp] theorem State.pulseSnapshot_keeps (s : State) :
    s.pulseSnapshot.sil = s.sil ∧ s.pulseSnapshot.pairs = s.pairs ∧ s.pulseSnapshot.key = s.key ∧
    s.pulseSnapshot.run = s.run ∧ s.pulseSnapshot.mem = s.mem ∧ s.pulseSnapshot.pending = s.pending := by
  unfold State.pulseSnapshot; dsimp only; (repeat' split) <;> simp (disch := (intros; (repeat' split) <;> simp)) [State.asAt,
    foldl_keeps_sil, foldl_keeps_pairs, foldl_keeps_key, foldl_keeps_run, foldl_keeps_mem, foldl_keeps_pending]

@[simp] theorem State.pulseStarts_keeps (s : State) :
    s.pulseStarts.now = s.now ∧ s.pulseStarts.free = s.free ∧ s.pulseStarts.sys = s.sys ∧ s.pulseStarts.fs = s.fs ∧
    s.pulseStarts.rtc = s.rtc ∧ s.pulseStarts.pwr = s.pwr ∧ s.pulseStarts.sil = s.sil ∧ s.pulseStarts.pairs = s.pairs ∧
    s.pulseStarts.fab = s.fab ∧ s.pulseStarts.acc = s.acc ∧ s.pulseStarts.se = s.se ∧ s.pulseStarts.plan = s.plan ∧
    s.pulseStarts.key = s.key ∧ s.pulseStarts.run = s.run ∧ s.pulseStarts.mem = s.mem ∧
    s.pulseStarts.pending = s.pending := by
  simp [State.pulseStarts]

@[simp] theorem State.cutPulses_keeps (s : State) :
    s.cutPulses.sil = s.sil ∧ s.cutPulses.pairs = s.pairs ∧ s.cutPulses.key = s.key ∧ s.cutPulses.run = s.run ∧
    s.cutPulses.mem = s.mem ∧ s.cutPulses.pending = s.pending := by
  simp [State.cutPulses]

@[simp] theorem State.mirrorPut_keeps (second valid : Bool) (r : MtrRecord) (s : State) :
    (s.mirrorPut second valid r).now = s.now ∧ (s.mirrorPut second valid r).free = s.free ∧ (s.mirrorPut second valid
    r).sys = s.sys ∧ (s.mirrorPut second valid r).fs = s.fs ∧ (s.mirrorPut second valid r).hub = s.hub ∧ (s.mirrorPut
    second valid r).rtc = s.rtc ∧ (s.mirrorPut second valid r).pwr = s.pwr ∧ (s.mirrorPut second valid r).sil = s.sil
    ∧ (s.mirrorPut second valid r).twin = s.twin ∧ (s.mirrorPut second valid r).pairs = s.pairs ∧ (s.mirrorPut second
    valid r).acc = s.acc ∧ (s.mirrorPut second valid r).loops = s.loops ∧ (s.mirrorPut second valid r).plan = s.plan
    ∧ (s.mirrorPut second valid r).prog = s.prog ∧ (s.mirrorPut second valid r).mtr = s.mtr ∧ (s.mirrorPut second
    valid r).can = s.can ∧ (s.mirrorPut second valid r).dio = s.dio ∧ (s.mirrorPut second valid r).key = s.key ∧
    (s.mirrorPut second valid r).net = s.net ∧ (s.mirrorPut second valid r).run = s.run ∧ (s.mirrorPut second valid
    r).setBits = s.setBits ∧ (s.mirrorPut second valid r).pending = s.pending := by
  unfold State.mirrorPut; (try dsimp only); (repeat' split) <;> simp -implicitDefEqProofs

@[simp] theorem State.settleMirror_keeps (now_ : Bool) (s : State) :
    (s.settleMirror now_).now = s.now ∧ (s.settleMirror now_).free = s.free ∧ (s.settleMirror now_).sys = s.sys ∧
    (s.settleMirror now_).fs = s.fs ∧ (s.settleMirror now_).hub = s.hub ∧ (s.settleMirror now_).rtc = s.rtc ∧
    (s.settleMirror now_).pwr = s.pwr ∧ (s.settleMirror now_).sil = s.sil ∧ (s.settleMirror now_).twin = s.twin ∧
    (s.settleMirror now_).pairs = s.pairs ∧ (s.settleMirror now_).acc = s.acc ∧ (s.settleMirror now_).loops = s.loops
    ∧ (s.settleMirror now_).plan = s.plan ∧ (s.settleMirror now_).prog = s.prog ∧ (s.settleMirror now_).can = s.can ∧
    (s.settleMirror now_).dio = s.dio ∧ (s.settleMirror now_).key = s.key ∧ (s.settleMirror now_).net = s.net ∧
    (s.settleMirror now_).run = s.run ∧ (s.settleMirror now_).setBits = s.setBits ∧ (s.settleMirror now_).pending =
    s.pending := by
  unfold State.settleMirror; (repeat' split) <;> simp

@[simp] theorem State.writeMirror_keeps (r : MtrRecord) (s0 : State) :
    (s0.writeMirror r).now = s0.now ∧ (s0.writeMirror r).free = s0.free ∧ (s0.writeMirror r).sys = s0.sys ∧
    (s0.writeMirror r).fs = s0.fs ∧ (s0.writeMirror r).rtc = s0.rtc ∧ (s0.writeMirror r).pwr = s0.pwr ∧
    (s0.writeMirror r).twin = s0.twin ∧ (s0.writeMirror r).pairs = s0.pairs ∧ (s0.writeMirror r).acc = s0.acc ∧
    (s0.writeMirror r).loops = s0.loops ∧ (s0.writeMirror r).plan = s0.plan ∧ (s0.writeMirror r).prog = s0.prog ∧
    (s0.writeMirror r).can = s0.can ∧ (s0.writeMirror r).dio = s0.dio ∧ (s0.writeMirror r).key = s0.key ∧
    (s0.writeMirror r).net = s0.net ∧ (s0.writeMirror r).run = s0.run ∧ (s0.writeMirror r).pending = s0.pending := by
  unfold State.writeMirror; (try dsimp only); (repeat' split) <;> simp -implicitDefEqProofs

@[simp] theorem State.mtrCapture_keeps (s : State) :
    s.mtrCapture.now = s.now ∧ s.mtrCapture.free = s.free ∧ s.mtrCapture.sys = s.sys ∧ s.mtrCapture.fs = s.fs ∧
    s.mtrCapture.hub = s.hub ∧ s.mtrCapture.rtc = s.rtc ∧ s.mtrCapture.pwr = s.pwr ∧ s.mtrCapture.sil = s.sil ∧
    s.mtrCapture.twin = s.twin ∧ s.mtrCapture.pairs = s.pairs ∧ s.mtrCapture.fab = s.fab ∧ s.mtrCapture.acc = s.acc ∧
    s.mtrCapture.se = s.se ∧ s.mtrCapture.loops = s.loops ∧ s.mtrCapture.plan = s.plan ∧ s.mtrCapture.prog = s.prog ∧
    s.mtrCapture.can = s.can ∧ s.mtrCapture.dio = s.dio ∧ s.mtrCapture.key = s.key ∧ s.mtrCapture.net = s.net ∧
    s.mtrCapture.run = s.run ∧ s.mtrCapture.mem = s.mem ∧ s.mtrCapture.pending = s.pending := by
  unfold State.mtrCapture; (repeat' split) <;> simp

@[simp] theorem State.mtrCtrl_keeps (w : Initiator) (v : Nat) (s : State) :
    (s.mtrCtrl w v).now = s.now ∧ (s.mtrCtrl w v).free = s.free ∧ (s.mtrCtrl w v).sys = s.sys ∧
    (s.mtrCtrl w v).fs = s.fs ∧ (s.mtrCtrl w v).rtc = s.rtc ∧ (s.mtrCtrl w v).pwr = s.pwr ∧
    (s.mtrCtrl w v).twin = s.twin ∧ (s.mtrCtrl w v).pairs = s.pairs ∧ (s.mtrCtrl w v).fab = s.fab ∧
    (s.mtrCtrl w v).acc = s.acc ∧ (s.mtrCtrl w v).se = s.se ∧ (s.mtrCtrl w v).loops = s.loops ∧
    (s.mtrCtrl w v).plan = s.plan ∧ (s.mtrCtrl w v).prog = s.prog ∧ (s.mtrCtrl w v).can = s.can ∧
    (s.mtrCtrl w v).dio = s.dio ∧ (s.mtrCtrl w v).key = s.key ∧ (s.mtrCtrl w v).net = s.net ∧
    (s.mtrCtrl w v).run = s.run ∧ (s.mtrCtrl w v).mem = s.mem ∧ (s.mtrCtrl w v).pending = s.pending := by
  unfold State.mtrCtrl State.guardWrite; dsimp only; (repeat' split) <;> simp

@[simp] theorem State.finishMtr_keeps (s : State) :
    s.finishMtr.now = s.now ∧ s.finishMtr.free = s.free ∧ s.finishMtr.sys = s.sys ∧ s.finishMtr.fs = s.fs ∧
    s.finishMtr.rtc = s.rtc ∧ s.finishMtr.pwr = s.pwr ∧ s.finishMtr.twin = s.twin ∧ s.finishMtr.pairs = s.pairs ∧
    s.finishMtr.acc = s.acc ∧ s.finishMtr.loops = s.loops ∧ s.finishMtr.plan = s.plan ∧ s.finishMtr.prog = s.prog ∧
    s.finishMtr.can = s.can ∧ s.finishMtr.dio = s.dio ∧ s.finishMtr.key = s.key ∧ s.finishMtr.net = s.net ∧
    s.finishMtr.run = s.run ∧ s.finishMtr.pending = s.pending := by
  simp -implicitDefEqProofs [State.finishMtr]

@[simp] theorem State.mtrRestore_keeps (s : State) :
    s.mtrRestore.now = s.now ∧ s.mtrRestore.free = s.free ∧ s.mtrRestore.rtc = s.rtc ∧ s.mtrRestore.pairs = s.pairs ∧
    s.mtrRestore.key = s.key ∧ s.mtrRestore.run = s.run ∧ s.mtrRestore.mem = s.mem ∧
    s.mtrRestore.pending = s.pending := by
  unfold State.mtrRestore; (repeat' split) <;> simp

@[simp] theorem State.mtrSnapshot_keeps (s0 : State) :
    s0.mtrSnapshot.now = s0.now ∧ s0.mtrSnapshot.free = s0.free ∧ s0.mtrSnapshot.sys = s0.sys ∧ s0.mtrSnapshot.fs =
    s0.fs ∧ s0.mtrSnapshot.rtc = s0.rtc ∧ s0.mtrSnapshot.pwr = s0.pwr ∧ s0.mtrSnapshot.sil = s0.sil ∧
    s0.mtrSnapshot.twin = s0.twin ∧ s0.mtrSnapshot.pairs = s0.pairs ∧ s0.mtrSnapshot.acc = s0.acc ∧
    s0.mtrSnapshot.loops = s0.loops ∧ s0.mtrSnapshot.plan = s0.plan ∧ s0.mtrSnapshot.prog = s0.prog ∧
    s0.mtrSnapshot.can = s0.can ∧ s0.mtrSnapshot.dio = s0.dio ∧ s0.mtrSnapshot.key = s0.key ∧ s0.mtrSnapshot.net =
    s0.net ∧ s0.mtrSnapshot.run = s0.run ∧ s0.mtrSnapshot.setBits = s0.setBits ∧ s0.mtrSnapshot.pending = s0.pending := by
  unfold State.mtrSnapshot; (try dsimp only); (repeat' split) <;> simp -implicitDefEqProofs

@[simp] theorem State.mtrTouch_keeps (s : State) (w : Initiator) (ofs : Nat) :
    (s.mtrTouch w ofs).sil = s.sil ∧ (s.mtrTouch w ofs).pairs = s.pairs ∧ (s.mtrTouch w ofs).key = s.key ∧
    (s.mtrTouch w ofs).run = s.run ∧ (s.mtrTouch w ofs).mem = s.mem ∧ (s.mtrTouch w ofs).pending = s.pending := by
  unfold State.mtrTouch; (repeat' split) <;> simp

@[simp] theorem State.mtrWrite_keeps (s : State) (w : Initiator) (ofs v : Nat) :
    (s.mtrWrite w ofs v).pairs = s.pairs ∧ (s.mtrWrite w ofs v).key = s.key ∧ (s.mtrWrite w ofs v).run = s.run ∧
    (s.mtrWrite w ofs v).mem = s.mem ∧ (s.mtrWrite w ofs v).pending = s.pending := by
  unfold State.mtrWrite State.guardWrite; (repeat' split) <;> simp

@[simp] theorem State.latchEntry_keeps (s : State) (b : Nat × Nat × Src) :
    (s.latchEntry b).now = s.now ∧ (s.latchEntry b).free = s.free ∧ (s.latchEntry b).sys = s.sys ∧
    (s.latchEntry b).fs = s.fs ∧ (s.latchEntry b).hub = s.hub ∧ (s.latchEntry b).rtc = s.rtc ∧
    (s.latchEntry b).pwr = s.pwr ∧ (s.latchEntry b).sil = s.sil ∧ (s.latchEntry b).twin = s.twin ∧
    (s.latchEntry b).pairs = s.pairs ∧ (s.latchEntry b).fab = s.fab ∧ (s.latchEntry b).acc = s.acc ∧
    (s.latchEntry b).se = s.se ∧ (s.latchEntry b).plan = s.plan ∧ (s.latchEntry b).mtr = s.mtr ∧
    (s.latchEntry b).can = s.can ∧ (s.latchEntry b).dio = s.dio ∧ (s.latchEntry b).key = s.key ∧
    (s.latchEntry b).net = s.net ∧ (s.latchEntry b).run = s.run ∧ (s.latchEntry b).mem = s.mem ∧
    (s.latchEntry b).setBits = s.setBits ∧ (s.latchEntry b).pending = s.pending := by
  unfold State.latchEntry; (repeat' split) <;> simp (disch := (intros; (repeat' split) <;> simp)) [foldl_keeps_now,
    foldl_keeps_free, foldl_keeps_sys, foldl_keeps_fs, foldl_keeps_hub, foldl_keeps_rtc, foldl_keeps_pwr,
    foldl_keeps_sil, foldl_keeps_twin, foldl_keeps_pairs, foldl_keeps_fab, foldl_keeps_acc, foldl_keeps_se,
    foldl_keeps_plan, foldl_keeps_mtr, foldl_keeps_can, foldl_keeps_dio, foldl_keeps_key, foldl_keeps_net,
    foldl_keeps_run, foldl_keeps_mem, foldl_keeps_setBits, foldl_keeps_pending]

@[simp] theorem State.latchPart_keeps (s : State) (p : Fin 4) :
    (s.latchPart p).now = s.now ∧ (s.latchPart p).free = s.free ∧ (s.latchPart p).sys = s.sys ∧
    (s.latchPart p).fs = s.fs ∧ (s.latchPart p).hub = s.hub ∧ (s.latchPart p).rtc = s.rtc ∧
    (s.latchPart p).pwr = s.pwr ∧ (s.latchPart p).sil = s.sil ∧ (s.latchPart p).twin = s.twin ∧
    (s.latchPart p).pairs = s.pairs ∧ (s.latchPart p).fab = s.fab ∧ (s.latchPart p).acc = s.acc ∧
    (s.latchPart p).se = s.se ∧ (s.latchPart p).plan = s.plan ∧ (s.latchPart p).mtr = s.mtr ∧
    (s.latchPart p).can = s.can ∧ (s.latchPart p).dio = s.dio ∧ (s.latchPart p).key = s.key ∧
    (s.latchPart p).net = s.net ∧ (s.latchPart p).run = s.run ∧ (s.latchPart p).mem = s.mem ∧
    (s.latchPart p).setBits = s.setBits ∧ (s.latchPart p).pending = s.pending := by
  unfold State.latchPart; split
  · simp -implicitDefEqProofs (disch := (first | (intros; (try dsimp only); (repeat' split) <;> simp -implicitDefEqProofs; done) | fail)) [foldl_keeps_now,
    foldl_keeps_free, foldl_keeps_sys, foldl_keeps_fs, foldl_keeps_hub, foldl_keeps_rtc, foldl_keeps_pwr,
    foldl_keeps_sil, foldl_keeps_twin, foldl_keeps_pairs, foldl_keeps_fab, foldl_keeps_acc, foldl_keeps_se,
    foldl_keeps_plan, foldl_keeps_mtr, foldl_keeps_can, foldl_keeps_dio, foldl_keeps_key, foldl_keeps_net,
    foldl_keeps_run, foldl_keeps_mem, foldl_keeps_setBits, foldl_keeps_pending]
  · simp

@[simp] theorem State.latchInputs_keeps (s : State) :
    s.latchInputs.now = s.now ∧ s.latchInputs.free = s.free ∧ s.latchInputs.sys = s.sys ∧ s.latchInputs.fs = s.fs ∧
    s.latchInputs.hub = s.hub ∧ s.latchInputs.rtc = s.rtc ∧ s.latchInputs.pwr = s.pwr ∧ s.latchInputs.sil = s.sil ∧
    s.latchInputs.twin = s.twin ∧ s.latchInputs.pairs = s.pairs ∧ s.latchInputs.fab = s.fab ∧
    s.latchInputs.acc = s.acc ∧ s.latchInputs.se = s.se ∧ s.latchInputs.plan = s.plan ∧ s.latchInputs.mtr = s.mtr ∧
    s.latchInputs.can = s.can ∧ s.latchInputs.dio = s.dio ∧ s.latchInputs.key = s.key ∧ s.latchInputs.net = s.net ∧
    s.latchInputs.run = s.run ∧ s.latchInputs.mem = s.mem ∧ s.latchInputs.setBits = s.setBits ∧
    s.latchInputs.pending = s.pending := by
  unfold State.latchInputs; (repeat' split) <;> simp [foldl_keeps_now, foldl_keeps_free, foldl_keeps_sys,
    foldl_keeps_fs, foldl_keeps_hub, foldl_keeps_rtc, foldl_keeps_pwr, foldl_keeps_sil, foldl_keeps_twin,
    foldl_keeps_pairs, foldl_keeps_fab, foldl_keeps_acc, foldl_keeps_se, foldl_keeps_plan, foldl_keeps_mtr,
    foldl_keeps_can, foldl_keeps_dio, foldl_keeps_key, foldl_keeps_net, foldl_keeps_run, foldl_keeps_mem,
    foldl_keeps_setBits, foldl_keeps_pending]

@[simp] theorem State.latchModbus_keeps (s : State) :
    s.latchModbus.sil = s.sil ∧ s.latchModbus.pairs = s.pairs ∧ s.latchModbus.key = s.key ∧ s.latchModbus.run = s.run ∧
    s.latchModbus.mem = s.mem ∧ s.latchModbus.pending = s.pending := by
  simp [State.latchModbus]

@[simp] theorem State.headroom_keeps (s : State) (n : Fin 4) (id : Nat) (vals : List Int) (extra : Nat) :
    (s.headroom n id vals extra).sil = s.sil ∧ (s.headroom n id vals extra).pairs = s.pairs ∧
    (s.headroom n id vals extra).key = s.key ∧ (s.headroom n id vals extra).run = s.run ∧
    (s.headroom n id vals extra).pending = s.pending := by
  unfold State.headroom; split <;> simp

@[simp] theorem State.gatherWrite_keeps (s : State) (n : Fin 4) (vals : List Int) :
    (s.gatherWrite n vals).now = s.now ∧ (s.gatherWrite n vals).free = s.free ∧ (s.gatherWrite n vals).sys = s.sys ∧
    (s.gatherWrite n vals).fs = s.fs ∧ (s.gatherWrite n vals).hub = s.hub ∧ (s.gatherWrite n vals).rtc = s.rtc ∧
    (s.gatherWrite n vals).pwr = s.pwr ∧ (s.gatherWrite n vals).sil = s.sil ∧ (s.gatherWrite n vals).twin = s.twin ∧
    (s.gatherWrite n vals).pairs = s.pairs ∧ (s.gatherWrite n vals).fab = s.fab ∧ (s.gatherWrite n vals).acc = s.acc ∧
    (s.gatherWrite n vals).se = s.se ∧ (s.gatherWrite n vals).loops = s.loops ∧ (s.gatherWrite n vals).plan = s.plan ∧
    (s.gatherWrite n vals).prog = s.prog ∧ (s.gatherWrite n vals).mtr = s.mtr ∧ (s.gatherWrite n vals).can = s.can ∧
    (s.gatherWrite n vals).dio = s.dio ∧ (s.gatherWrite n vals).key = s.key ∧ (s.gatherWrite n vals).net = s.net ∧
    (s.gatherWrite n vals).run = s.run ∧ (s.gatherWrite n vals).setBits = s.setBits ∧
    (s.gatherWrite n vals).pending = s.pending := by
  simp [State.gatherWrite]

@[simp] theorem State.readView_keeps (s : State) (old : List (Nat × Byte)) :
    (s.readView old).sil = s.sil ∧ (s.readView old).pairs = s.pairs ∧ (s.readView old).key = s.key ∧
    (s.readView old).run = s.run ∧ (s.readView old).pending = s.pending := by
  simp [State.readView]

@[simp] theorem State.cancelQueue_keeps (n : Fin 4) (from_ : Nat) (s : State) :
    (s.cancelQueue n from_).now = s.now ∧ (s.cancelQueue n from_).free = s.free ∧ (s.cancelQueue n from_).sys = s.sys ∧
    (s.cancelQueue n from_).fs = s.fs ∧ (s.cancelQueue n from_).hub = s.hub ∧ (s.cancelQueue n from_).rtc = s.rtc ∧
    (s.cancelQueue n from_).pwr = s.pwr ∧ (s.cancelQueue n from_).sil = s.sil ∧ (s.cancelQueue n from_).twin = s.twin ∧
    (s.cancelQueue n from_).pairs = s.pairs ∧ (s.cancelQueue n from_).fab = s.fab ∧
    (s.cancelQueue n from_).acc = s.acc ∧ (s.cancelQueue n from_).loops = s.loops ∧
    (s.cancelQueue n from_).plan = s.plan ∧ (s.cancelQueue n from_).prog = s.prog ∧
    (s.cancelQueue n from_).mtr = s.mtr ∧ (s.cancelQueue n from_).can = s.can ∧ (s.cancelQueue n from_).dio = s.dio ∧
    (s.cancelQueue n from_).key = s.key ∧ (s.cancelQueue n from_).net = s.net ∧ (s.cancelQueue n from_).run = s.run ∧
    (s.cancelQueue n from_).mem = s.mem ∧ (s.cancelQueue n from_).setBits = s.setBits ∧
    (s.cancelQueue n from_).pending = s.pending := by
  simp [State.cancelQueue]

@[simp] theorem State.seRaise_keeps (n : Fin 4) (i : Nat) (s : State) :
    (s.seRaise n i).now = s.now ∧ (s.seRaise n i).free = s.free ∧ (s.seRaise n i).sys = s.sys ∧
    (s.seRaise n i).fs = s.fs ∧ (s.seRaise n i).rtc = s.rtc ∧ (s.seRaise n i).pwr = s.pwr ∧
    (s.seRaise n i).sil = s.sil ∧ (s.seRaise n i).twin = s.twin ∧ (s.seRaise n i).pairs = s.pairs ∧
    (s.seRaise n i).fab = s.fab ∧ (s.seRaise n i).acc = s.acc ∧ (s.seRaise n i).se = s.se ∧
    (s.seRaise n i).loops = s.loops ∧ (s.seRaise n i).plan = s.plan ∧ (s.seRaise n i).prog = s.prog ∧
    (s.seRaise n i).mtr = s.mtr ∧ (s.seRaise n i).can = s.can ∧ (s.seRaise n i).dio = s.dio ∧
    (s.seRaise n i).key = s.key ∧ (s.seRaise n i).net = s.net ∧ (s.seRaise n i).run = s.run ∧
    (s.seRaise n i).mem = s.mem ∧ (s.seRaise n i).setBits = s.setBits ∧ (s.seRaise n i).pending = s.pending := by
  simp [State.seRaise]

@[simp] theorem State.submit_keeps (w : Initiator) (n : Fin 4) (v : Nat) (s : State) :
    (s.submit w n v).now = s.now ∧ (s.submit w n v).free = s.free ∧ (s.submit w n v).sys = s.sys ∧
    (s.submit w n v).fs = s.fs ∧ (s.submit w n v).rtc = s.rtc ∧ (s.submit w n v).pwr = s.pwr ∧
    (s.submit w n v).twin = s.twin ∧ (s.submit w n v).pairs = s.pairs ∧ (s.submit w n v).fab = s.fab ∧
    (s.submit w n v).acc = s.acc ∧ (s.submit w n v).loops = s.loops ∧ (s.submit w n v).plan = s.plan ∧
    (s.submit w n v).prog = s.prog ∧ (s.submit w n v).mtr = s.mtr ∧ (s.submit w n v).can = s.can ∧
    (s.submit w n v).dio = s.dio ∧ (s.submit w n v).key = s.key ∧ (s.submit w n v).net = s.net ∧
    (s.submit w n v).run = s.run ∧ (s.submit w n v).mem = s.mem ∧ (s.submit w n v).pending = s.pending := by
  unfold State.submit State.guardWrite; dsimp only; (repeat' split) <;> simp

@[simp] theorem State.shiftSlot_keeps (s : State) (n : Fin 4) (d : Desc) :
    (s.shiftSlot n d).sil = s.sil ∧ (s.shiftSlot n d).pairs = s.pairs ∧ (s.shiftSlot n d).key = s.key ∧
    (s.shiftSlot n d).run = s.run ∧ (s.shiftSlot n d).pending = s.pending := by
  simp [State.shiftSlot]

@[simp] theorem State.saveWarm_keeps (s : State) (n : Fin 4) (d : Desc) (words : List Int) :
    (s.saveWarm n d words).now = s.now ∧ (s.saveWarm n d words).free = s.free ∧ (s.saveWarm n d words).sys = s.sys ∧
    (s.saveWarm n d words).fs = s.fs ∧ (s.saveWarm n d words).hub = s.hub ∧ (s.saveWarm n d words).rtc = s.rtc ∧
    (s.saveWarm n d words).pwr = s.pwr ∧ (s.saveWarm n d words).sil = s.sil ∧ (s.saveWarm n d words).twin = s.twin ∧
    (s.saveWarm n d words).pairs = s.pairs ∧ (s.saveWarm n d words).acc = s.acc ∧
    (s.saveWarm n d words).loops = s.loops ∧ (s.saveWarm n d words).plan = s.plan ∧
    (s.saveWarm n d words).prog = s.prog ∧ (s.saveWarm n d words).mtr = s.mtr ∧ (s.saveWarm n d words).can = s.can ∧
    (s.saveWarm n d words).dio = s.dio ∧ (s.saveWarm n d words).key = s.key ∧ (s.saveWarm n d words).net = s.net ∧
    (s.saveWarm n d words).run = s.run ∧ (s.saveWarm n d words).setBits = s.setBits ∧
    (s.saveWarm n d words).pending = s.pending := by
  simp [State.saveWarm]

@[simp] theorem State.closeJob_keeps (n : Fin 4) (j : Job) (status : Nat) (r : Ret) (s : State) :
    (s.closeJob n j status r).now = s.now ∧ (s.closeJob n j status r).free = s.free ∧
    (s.closeJob n j status r).sys = s.sys ∧ (s.closeJob n j status r).fs = s.fs ∧
    (s.closeJob n j status r).hub = s.hub ∧ (s.closeJob n j status r).rtc = s.rtc ∧
    (s.closeJob n j status r).pwr = s.pwr ∧ (s.closeJob n j status r).sil = s.sil ∧
    (s.closeJob n j status r).twin = s.twin ∧ (s.closeJob n j status r).pairs = s.pairs ∧
    (s.closeJob n j status r).acc = s.acc ∧ (s.closeJob n j status r).loops = s.loops ∧
    (s.closeJob n j status r).plan = s.plan ∧ (s.closeJob n j status r).prog = s.prog ∧
    (s.closeJob n j status r).mtr = s.mtr ∧ (s.closeJob n j status r).can = s.can ∧
    (s.closeJob n j status r).dio = s.dio ∧ (s.closeJob n j status r).key = s.key ∧
    (s.closeJob n j status r).net = s.net ∧ (s.closeJob n j status r).run = s.run ∧
    (s.closeJob n j status r).setBits = s.setBits ∧ (s.closeJob n j status r).pending = s.pending := by
  unfold State.closeJob; dsimp only; (repeat' split) <;> simp

@[simp] theorem State.rangeFault_keeps (n : Fin 4) (j : Job) (s : State) :
    (s.rangeFault n j).now = s.now ∧ (s.rangeFault n j).free = s.free ∧ (s.rangeFault n j).sys = s.sys ∧
    (s.rangeFault n j).fs = s.fs ∧ (s.rangeFault n j).rtc = s.rtc ∧ (s.rangeFault n j).pwr = s.pwr ∧
    (s.rangeFault n j).twin = s.twin ∧ (s.rangeFault n j).pairs = s.pairs ∧ (s.rangeFault n j).acc = s.acc ∧
    (s.rangeFault n j).loops = s.loops ∧ (s.rangeFault n j).plan = s.plan ∧ (s.rangeFault n j).prog = s.prog ∧
    (s.rangeFault n j).mtr = s.mtr ∧ (s.rangeFault n j).can = s.can ∧ (s.rangeFault n j).dio = s.dio ∧
    (s.rangeFault n j).key = s.key ∧ (s.rangeFault n j).net = s.net ∧ (s.rangeFault n j).run = s.run ∧
    (s.rangeFault n j).pending = s.pending := by
  simp only [State.rangeFault]; (repeat' split) <;> simp

@[simp] theorem State.dmaIn_keeps (s : State) (n : Fin 4) (p : Nat) (ptr : Nat) (b : Option Nat) :
    (s.dmaIn n p ptr b).now = s.now ∧ (s.dmaIn n p ptr b).free = s.free ∧ (s.dmaIn n p ptr b).sys = s.sys ∧
    (s.dmaIn n p ptr b).fs = s.fs ∧ (s.dmaIn n p ptr b).hub = s.hub ∧ (s.dmaIn n p ptr b).rtc = s.rtc ∧
    (s.dmaIn n p ptr b).pwr = s.pwr ∧ (s.dmaIn n p ptr b).sil = s.sil ∧ (s.dmaIn n p ptr b).twin = s.twin ∧
    (s.dmaIn n p ptr b).pairs = s.pairs ∧ (s.dmaIn n p ptr b).fab = s.fab ∧ (s.dmaIn n p ptr b).acc = s.acc ∧
    (s.dmaIn n p ptr b).se = s.se ∧ (s.dmaIn n p ptr b).loops = s.loops ∧ (s.dmaIn n p ptr b).plan = s.plan ∧
    (s.dmaIn n p ptr b).prog = s.prog ∧ (s.dmaIn n p ptr b).mtr = s.mtr ∧ (s.dmaIn n p ptr b).can = s.can ∧
    (s.dmaIn n p ptr b).dio = s.dio ∧ (s.dmaIn n p ptr b).key = s.key ∧ (s.dmaIn n p ptr b).net = s.net ∧
    (s.dmaIn n p ptr b).run = s.run ∧ (s.dmaIn n p ptr b).setBits = s.setBits ∧
    (s.dmaIn n p ptr b).pending = s.pending := by
  unfold State.dmaIn; (repeat' split) <;> simp

@[simp] theorem State.solveWrite_keeps (n : Fin 4) (s : State) (r : AmdRecord) :
    (s.solveWrite n r).now = s.now ∧ (s.solveWrite n r).free = s.free ∧ (s.solveWrite n r).sys = s.sys ∧
    (s.solveWrite n r).fs = s.fs ∧ (s.solveWrite n r).hub = s.hub ∧ (s.solveWrite n r).rtc = s.rtc ∧
    (s.solveWrite n r).pwr = s.pwr ∧ (s.solveWrite n r).sil = s.sil ∧ (s.solveWrite n r).twin = s.twin ∧
    (s.solveWrite n r).pairs = s.pairs ∧ (s.solveWrite n r).fab = s.fab ∧ (s.solveWrite n r).acc = s.acc ∧
    (s.solveWrite n r).loops = s.loops ∧ (s.solveWrite n r).plan = s.plan ∧ (s.solveWrite n r).prog = s.prog ∧
    (s.solveWrite n r).mtr = s.mtr ∧ (s.solveWrite n r).can = s.can ∧ (s.solveWrite n r).dio = s.dio ∧
    (s.solveWrite n r).key = s.key ∧ (s.solveWrite n r).net = s.net ∧ (s.solveWrite n r).run = s.run ∧
    (s.solveWrite n r).setBits = s.setBits ∧ (s.solveWrite n r).pending = s.pending := by
  simp [State.solveWrite]

@[simp] theorem State.solveAmends_keeps (n : Fin 4) (s : State) :
    (s.solveAmends n).now = s.now ∧ (s.solveAmends n).free = s.free ∧ (s.solveAmends n).sys = s.sys ∧
    (s.solveAmends n).fs = s.fs ∧ (s.solveAmends n).hub = s.hub ∧ (s.solveAmends n).rtc = s.rtc ∧
    (s.solveAmends n).pwr = s.pwr ∧ (s.solveAmends n).sil = s.sil ∧ (s.solveAmends n).twin = s.twin ∧
    (s.solveAmends n).pairs = s.pairs ∧ (s.solveAmends n).fab = s.fab ∧ (s.solveAmends n).acc = s.acc ∧
    (s.solveAmends n).loops = s.loops ∧ (s.solveAmends n).plan = s.plan ∧ (s.solveAmends n).prog = s.prog ∧
    (s.solveAmends n).mtr = s.mtr ∧ (s.solveAmends n).can = s.can ∧ (s.solveAmends n).dio = s.dio ∧
    (s.solveAmends n).key = s.key ∧ (s.solveAmends n).net = s.net ∧ (s.solveAmends n).run = s.run ∧
    (s.solveAmends n).setBits = s.setBits ∧ (s.solveAmends n).pending = s.pending := by
  simp (disch := (intros; (repeat' split) <;> simp)) [State.solveAmends, foldl_keeps_now, foldl_keeps_free,
    foldl_keeps_sys, foldl_keeps_fs, foldl_keeps_hub, foldl_keeps_rtc, foldl_keeps_pwr, foldl_keeps_sil,
    foldl_keeps_twin, foldl_keeps_pairs, foldl_keeps_fab, foldl_keeps_acc, foldl_keeps_loops, foldl_keeps_plan,
    foldl_keeps_prog, foldl_keeps_mtr, foldl_keeps_can, foldl_keeps_dio, foldl_keeps_key, foldl_keeps_net,
    foldl_keeps_run, foldl_keeps_setBits, foldl_keeps_pending]

@[simp] theorem State.coopGiveUp_keeps (d : Desc) (t : Nat) (s : State) (m : Fin 4) :
    (s.coopGiveUp d t m).sil = s.sil ∧ (s.coopGiveUp d t m).pairs = s.pairs ∧ (s.coopGiveUp d t m).key = s.key ∧
    (s.coopGiveUp d t m).run = s.run ∧ (s.coopGiveUp d t m).mem = s.mem ∧
    (s.coopGiveUp d t m).pending = s.pending := by
  unfold State.coopGiveUp; dsimp only; (repeat' split) <;> simp

@[simp] theorem State.setJob_keeps (n : Fin 4) (j : Job) (s : State) :
    (s.setJob n j).now = s.now ∧ (s.setJob n j).free = s.free ∧ (s.setJob n j).sys = s.sys ∧ (s.setJob n j).fs = s.fs ∧
    (s.setJob n j).hub = s.hub ∧ (s.setJob n j).rtc = s.rtc ∧ (s.setJob n j).pwr = s.pwr ∧ (s.setJob n j).sil = s.sil ∧
    (s.setJob n j).twin = s.twin ∧ (s.setJob n j).pairs = s.pairs ∧ (s.setJob n j).fab = s.fab ∧
    (s.setJob n j).acc = s.acc ∧ (s.setJob n j).loops = s.loops ∧ (s.setJob n j).plan = s.plan ∧
    (s.setJob n j).prog = s.prog ∧ (s.setJob n j).mtr = s.mtr ∧ (s.setJob n j).can = s.can ∧
    (s.setJob n j).dio = s.dio ∧ (s.setJob n j).key = s.key ∧ (s.setJob n j).net = s.net ∧ (s.setJob n j).run = s.run ∧
    (s.setJob n j).mem = s.mem ∧ (s.setJob n j).setBits = s.setBits ∧ (s.setJob n j).pending = s.pending := by
  simp [State.setJob]

@[simp] theorem State.modParty_keeps (f : Job → Job) (l : List (Fin 4)) (s : State) :
    (s.modParty f l).now = s.now ∧ (s.modParty f l).free = s.free ∧ (s.modParty f l).sys = s.sys ∧
    (s.modParty f l).fs = s.fs ∧ (s.modParty f l).hub = s.hub ∧ (s.modParty f l).rtc = s.rtc ∧
    (s.modParty f l).pwr = s.pwr ∧ (s.modParty f l).sil = s.sil ∧ (s.modParty f l).twin = s.twin ∧
    (s.modParty f l).pairs = s.pairs ∧ (s.modParty f l).fab = s.fab ∧ (s.modParty f l).acc = s.acc ∧
    (s.modParty f l).loops = s.loops ∧ (s.modParty f l).plan = s.plan ∧ (s.modParty f l).prog = s.prog ∧
    (s.modParty f l).mtr = s.mtr ∧ (s.modParty f l).can = s.can ∧ (s.modParty f l).dio = s.dio ∧
    (s.modParty f l).key = s.key ∧ (s.modParty f l).net = s.net ∧ (s.modParty f l).run = s.run ∧
    (s.modParty f l).mem = s.mem ∧ (s.modParty f l).setBits = s.setBits ∧ (s.modParty f l).pending = s.pending := by
  simp (disch := (intros; (repeat' split) <;> simp -implicitDefEqProofs)) [State.modParty, foldl_keeps_now,
    foldl_keeps_free, foldl_keeps_sys, foldl_keeps_fs, foldl_keeps_hub, foldl_keeps_rtc, foldl_keeps_pwr,
    foldl_keeps_sil, foldl_keeps_twin, foldl_keeps_pairs, foldl_keeps_fab, foldl_keeps_acc, foldl_keeps_loops,
    foldl_keeps_plan, foldl_keeps_prog, foldl_keeps_mtr, foldl_keeps_can, foldl_keeps_dio, foldl_keeps_key,
    foldl_keeps_net, foldl_keeps_run, foldl_keeps_mem, foldl_keeps_setBits, foldl_keeps_pending]

@[simp] theorem State.overrun_keeps (n : Fin 4) (j : Job) (s : State) :
    (s.overrun n j).now = s.now ∧ (s.overrun n j).free = s.free ∧ (s.overrun n j).sys = s.sys ∧
    (s.overrun n j).fs = s.fs ∧ (s.overrun n j).rtc = s.rtc ∧ (s.overrun n j).pwr = s.pwr ∧
    (s.overrun n j).twin = s.twin ∧ (s.overrun n j).pairs = s.pairs ∧ (s.overrun n j).acc = s.acc ∧
    (s.overrun n j).loops = s.loops ∧ (s.overrun n j).plan = s.plan ∧ (s.overrun n j).prog = s.prog ∧
    (s.overrun n j).mtr = s.mtr ∧ (s.overrun n j).can = s.can ∧ (s.overrun n j).dio = s.dio ∧
    (s.overrun n j).key = s.key ∧ (s.overrun n j).net = s.net ∧ (s.overrun n j).run = s.run ∧
    (s.overrun n j).pending = s.pending := by
  unfold State.overrun; (repeat' split) <;> simp (disch := (intros; (repeat' split) <;> simp)) [foldl_keeps_now,
    foldl_keeps_free, foldl_keeps_sys, foldl_keeps_fs, foldl_keeps_rtc, foldl_keeps_pwr, foldl_keeps_twin,
    foldl_keeps_pairs, foldl_keeps_acc, foldl_keeps_loops, foldl_keeps_plan, foldl_keeps_prog, foldl_keeps_mtr,
    foldl_keeps_can, foldl_keeps_dio, foldl_keeps_key, foldl_keeps_net, foldl_keeps_run, foldl_keeps_pending]

@[simp] theorem State.reuse_keeps (n : Fin 4) (s : State) :
    (s.reuse n).sil = s.sil ∧ (s.reuse n).pairs = s.pairs ∧ (s.reuse n).key = s.key ∧ (s.reuse n).run = s.run ∧
    (s.reuse n).mem = s.mem ∧ (s.reuse n).pending = s.pending := by
  simp (disch := (intros; (repeat' split) <;> simp)) [State.reuse, foldl_keeps_sil, foldl_keeps_pairs, foldl_keeps_key,
    foldl_keeps_run, foldl_keeps_mem, foldl_keeps_pending]

@[simp] theorem State.testSat_keeps (n : Fin 4) (j : Job) (s : State) :
    (s.testSat n j).now = s.now ∧ (s.testSat n j).free = s.free ∧ (s.testSat n j).sys = s.sys ∧
    (s.testSat n j).fs = s.fs ∧ (s.testSat n j).rtc = s.rtc ∧ (s.testSat n j).pwr = s.pwr ∧
    (s.testSat n j).twin = s.twin ∧ (s.testSat n j).pairs = s.pairs ∧ (s.testSat n j).acc = s.acc ∧
    (s.testSat n j).loops = s.loops ∧ (s.testSat n j).plan = s.plan ∧ (s.testSat n j).prog = s.prog ∧
    (s.testSat n j).mtr = s.mtr ∧ (s.testSat n j).can = s.can ∧ (s.testSat n j).dio = s.dio ∧
    (s.testSat n j).key = s.key ∧ (s.testSat n j).net = s.net ∧ (s.testSat n j).run = s.run ∧
    (s.testSat n j).pending = s.pending := by
  unfold State.testSat; (repeat' split) <;> simp

@[simp] theorem State.endParty_keeps (l : List (Fin 4)) (status : Nat) (b : Bound) (at_ : Nat) (s : State) :
    (s.endParty l status b at_).sil = s.sil ∧ (s.endParty l status b at_).pairs = s.pairs ∧
    (s.endParty l status b at_).key = s.key ∧ (s.endParty l status b at_).run = s.run ∧
    (s.endParty l status b at_).pending = s.pending := by
  simp (disch := (intros; (repeat' split) <;> simp)) [State.endParty, foldl_keeps_sil, foldl_keeps_pairs,
    foldl_keeps_key, foldl_keeps_run, foldl_keeps_pending]

@[simp] theorem State.clearHeadroom_keeps (n : Fin 4) (s : State) :
    (s.clearHeadroom n).now = s.now ∧ (s.clearHeadroom n).free = s.free ∧ (s.clearHeadroom n).sys = s.sys ∧
    (s.clearHeadroom n).fs = s.fs ∧ (s.clearHeadroom n).hub = s.hub ∧ (s.clearHeadroom n).rtc = s.rtc ∧
    (s.clearHeadroom n).pwr = s.pwr ∧ (s.clearHeadroom n).sil = s.sil ∧ (s.clearHeadroom n).twin = s.twin ∧
    (s.clearHeadroom n).pairs = s.pairs ∧ (s.clearHeadroom n).fab = s.fab ∧ (s.clearHeadroom n).acc = s.acc ∧
    (s.clearHeadroom n).loops = s.loops ∧ (s.clearHeadroom n).plan = s.plan ∧ (s.clearHeadroom n).prog = s.prog ∧
    (s.clearHeadroom n).mtr = s.mtr ∧ (s.clearHeadroom n).can = s.can ∧ (s.clearHeadroom n).dio = s.dio ∧
    (s.clearHeadroom n).key = s.key ∧ (s.clearHeadroom n).net = s.net ∧ (s.clearHeadroom n).run = s.run ∧
    (s.clearHeadroom n).setBits = s.setBits ∧ (s.clearHeadroom n).pending = s.pending := by
  simp [State.clearHeadroom]

@[simp] theorem State.handRec_keeps (s : State) (n : Fin 4) :
    (s.handRec n).sil = s.sil ∧ (s.handRec n).pairs = s.pairs ∧ (s.handRec n).key = s.key ∧ (s.handRec n).run = s.run
    ∧ (s.handRec n).pending = s.pending := by
  unfold State.handRec; dsimp only; (repeat' split) <;> simp

@[simp] theorem State.hrClear_keeps (n : Fin 4) (s : State) :
    (s.hrClear n).now = s.now ∧ (s.hrClear n).free = s.free ∧ (s.hrClear n).sys = s.sys ∧ (s.hrClear n).fs = s.fs ∧
    (s.hrClear n).hub = s.hub ∧ (s.hrClear n).rtc = s.rtc ∧ (s.hrClear n).pwr = s.pwr ∧ (s.hrClear n).sil = s.sil ∧
    (s.hrClear n).twin = s.twin ∧ (s.hrClear n).pairs = s.pairs ∧ (s.hrClear n).fab = s.fab ∧
    (s.hrClear n).acc = s.acc ∧ (s.hrClear n).loops = s.loops ∧ (s.hrClear n).plan = s.plan ∧
    (s.hrClear n).prog = s.prog ∧ (s.hrClear n).mtr = s.mtr ∧ (s.hrClear n).can = s.can ∧ (s.hrClear n).dio = s.dio ∧
    (s.hrClear n).key = s.key ∧ (s.hrClear n).net = s.net ∧ (s.hrClear n).run = s.run ∧
    (s.hrClear n).pending = s.pending := by
  unfold State.hrClear; split <;> simp

@[simp] theorem State.cancelJob_keeps (n : Fin 4) (s : State) :
    (s.cancelJob n).now = s.now ∧ (s.cancelJob n).free = s.free ∧ (s.cancelJob n).sys = s.sys ∧ (s.cancelJob n).fs =
    s.fs ∧ (s.cancelJob n).rtc = s.rtc ∧ (s.cancelJob n).pwr = s.pwr ∧ (s.cancelJob n).twin = s.twin ∧ (s.cancelJob
    n).pairs = s.pairs ∧ (s.cancelJob n).acc = s.acc ∧ (s.cancelJob n).loops = s.loops ∧ (s.cancelJob n).plan =
    s.plan ∧ (s.cancelJob n).prog = s.prog ∧ (s.cancelJob n).mtr = s.mtr ∧ (s.cancelJob n).can = s.can ∧ (s.cancelJob
    n).dio = s.dio ∧ (s.cancelJob n).key = s.key ∧ (s.cancelJob n).net = s.net ∧ (s.cancelJob n).run = s.run ∧
    (s.cancelJob n).pending = s.pending := by
  unfold State.cancelJob; (repeat' split) <;> simp (disch := (intros; (repeat' split) <;> simp)) [State.asAt,
    foldl_keeps_now, foldl_keeps_free, foldl_keeps_sys, foldl_keeps_fs, foldl_keeps_rtc, foldl_keeps_pwr,
    foldl_keeps_twin, foldl_keeps_pairs, foldl_keeps_acc, foldl_keeps_loops, foldl_keeps_plan, foldl_keeps_prog,
    foldl_keeps_mtr, foldl_keeps_can, foldl_keeps_dio, foldl_keeps_key, foldl_keeps_net, foldl_keeps_run,
    foldl_keeps_pending]

@[simp] theorem State.withdraw_keeps (w : Initiator) (n : Fin 4) (v : Nat) (s : State) :
    (s.withdraw w n v).now = s.now ∧ (s.withdraw w n v).free = s.free ∧ (s.withdraw w n v).sys = s.sys ∧
    (s.withdraw w n v).fs = s.fs ∧ (s.withdraw w n v).rtc = s.rtc ∧ (s.withdraw w n v).pwr = s.pwr ∧
    (s.withdraw w n v).twin = s.twin ∧ (s.withdraw w n v).pairs = s.pairs ∧ (s.withdraw w n v).acc = s.acc ∧
    (s.withdraw w n v).loops = s.loops ∧ (s.withdraw w n v).plan = s.plan ∧ (s.withdraw w n v).prog = s.prog ∧
    (s.withdraw w n v).mtr = s.mtr ∧ (s.withdraw w n v).can = s.can ∧ (s.withdraw w n v).dio = s.dio ∧
    (s.withdraw w n v).key = s.key ∧ (s.withdraw w n v).net = s.net ∧ (s.withdraw w n v).run = s.run ∧
    (s.withdraw w n v).pending = s.pending := by
  unfold State.withdraw State.guardWrite; dsimp only; (repeat' split) <;> simp

@[simp] theorem State.refuseLate_keeps (n : Fin 4) (s : State) :
    (s.refuseLate n).now = s.now ∧ (s.refuseLate n).free = s.free ∧ (s.refuseLate n).sys = s.sys ∧
    (s.refuseLate n).fs = s.fs ∧ (s.refuseLate n).rtc = s.rtc ∧ (s.refuseLate n).pwr = s.pwr ∧
    (s.refuseLate n).sil = s.sil ∧ (s.refuseLate n).twin = s.twin ∧ (s.refuseLate n).pairs = s.pairs ∧
    (s.refuseLate n).acc = s.acc ∧ (s.refuseLate n).loops = s.loops ∧ (s.refuseLate n).plan = s.plan ∧
    (s.refuseLate n).prog = s.prog ∧ (s.refuseLate n).mtr = s.mtr ∧ (s.refuseLate n).can = s.can ∧
    (s.refuseLate n).dio = s.dio ∧ (s.refuseLate n).key = s.key ∧ (s.refuseLate n).net = s.net ∧
    (s.refuseLate n).run = s.run ∧ (s.refuseLate n).mem = s.mem ∧ (s.refuseLate n).pending = s.pending := by
  simp (disch := (intros; (repeat' split) <;> simp)) [State.refuseLate, foldl_keeps_now, foldl_keeps_free,
    foldl_keeps_sys, foldl_keeps_fs, foldl_keeps_rtc, foldl_keeps_pwr, foldl_keeps_sil, foldl_keeps_twin,
    foldl_keeps_pairs, foldl_keeps_acc, foldl_keeps_loops, foldl_keeps_plan, foldl_keeps_prog, foldl_keeps_mtr,
    foldl_keeps_can, foldl_keeps_dio, foldl_keeps_key, foldl_keeps_net, foldl_keeps_run, foldl_keeps_mem,
    foldl_keeps_pending]

@[simp] theorem State.disableSe_keeps (n : Fin 4) (s : State) :
    (s.disableSe n).now = s.now ∧ (s.disableSe n).free = s.free ∧ (s.disableSe n).sys = s.sys ∧ (s.disableSe n).fs =
    s.fs ∧ (s.disableSe n).rtc = s.rtc ∧ (s.disableSe n).pwr = s.pwr ∧ (s.disableSe n).twin = s.twin ∧ (s.disableSe
    n).pairs = s.pairs ∧ (s.disableSe n).acc = s.acc ∧ (s.disableSe n).loops = s.loops ∧ (s.disableSe n).plan =
    s.plan ∧ (s.disableSe n).prog = s.prog ∧ (s.disableSe n).mtr = s.mtr ∧ (s.disableSe n).can = s.can ∧ (s.disableSe
    n).dio = s.dio ∧ (s.disableSe n).key = s.key ∧ (s.disableSe n).net = s.net ∧ (s.disableSe n).run = s.run ∧
    (s.disableSe n).pending = s.pending := by
  unfold State.disableSe; dsimp only; (repeat' split) <;> simp

@[simp] theorem State.cancelAll_keeps (s : State) (n : Fin 4) :
    (s.cancelAll n).pairs = s.pairs ∧ (s.cancelAll n).key = s.key ∧ (s.cancelAll n).run = s.run ∧ (s.cancelAll
    n).pending = s.pending := by
  simp only [State.cancelAll]; (repeat' split) <;> simp [foldl_keeps_pairs, foldl_keeps_key, foldl_keeps_run,
    foldl_keeps_pending]

@[simp] theorem State.seCtrl_keeps (n : Fin 4) (v : Nat) (s : State) :
    (s.seCtrl n v).pairs = s.pairs ∧ (s.seCtrl n v).key = s.key ∧ (s.seCtrl n v).run = s.run ∧ (s.seCtrl n v).pending
    = s.pending := by
  unfold State.seCtrl; dsimp only; (repeat' split) <;> simp

@[simp] theorem State.seWrite_keeps (s : State) (w : Initiator) (n : Fin 4) (ofs v : Nat) :
    (s.seWrite w n ofs v).pairs = s.pairs ∧ (s.seWrite w n ofs v).key = s.key ∧ (s.seWrite w n ofs v).run = s.run ∧
    (s.seWrite w n ofs v).pending = s.pending := by
  unfold State.seWrite State.guardWrite; dsimp only; (repeat' split) <;> simp

@[simp] theorem State.putBlk_keeps (s : State) (j : JobCfg) (pos : Nat) (ws : List Int) :
    (s.putBlk j pos ws).now = s.now ∧ (s.putBlk j pos ws).free = s.free ∧ (s.putBlk j pos ws).sys = s.sys ∧
    (s.putBlk j pos ws).fs = s.fs ∧ (s.putBlk j pos ws).hub = s.hub ∧ (s.putBlk j pos ws).rtc = s.rtc ∧
    (s.putBlk j pos ws).pwr = s.pwr ∧ (s.putBlk j pos ws).sil = s.sil ∧ (s.putBlk j pos ws).twin = s.twin ∧
    (s.putBlk j pos ws).pairs = s.pairs ∧ (s.putBlk j pos ws).acc = s.acc ∧ (s.putBlk j pos ws).loops = s.loops ∧
    (s.putBlk j pos ws).plan = s.plan ∧ (s.putBlk j pos ws).prog = s.prog ∧ (s.putBlk j pos ws).mtr = s.mtr ∧
    (s.putBlk j pos ws).can = s.can ∧ (s.putBlk j pos ws).dio = s.dio ∧ (s.putBlk j pos ws).key = s.key ∧
    (s.putBlk j pos ws).net = s.net ∧ (s.putBlk j pos ws).run = s.run ∧ (s.putBlk j pos ws).setBits = s.setBits ∧
    (s.putBlk j pos ws).pending = s.pending := by
  simp [State.putBlk]

@[simp] theorem State.putBlocks_keeps (n : Fin 4) (bs : List (Nat × List Int)) (s : State) :
    (s.putBlocks n bs).now = s.now ∧ (s.putBlocks n bs).free = s.free ∧ (s.putBlocks n bs).sys = s.sys ∧
    (s.putBlocks n bs).fs = s.fs ∧ (s.putBlocks n bs).hub = s.hub ∧ (s.putBlocks n bs).rtc = s.rtc ∧
    (s.putBlocks n bs).pwr = s.pwr ∧ (s.putBlocks n bs).sil = s.sil ∧ (s.putBlocks n bs).twin = s.twin ∧
    (s.putBlocks n bs).pairs = s.pairs ∧ (s.putBlocks n bs).acc = s.acc ∧ (s.putBlocks n bs).loops = s.loops ∧
    (s.putBlocks n bs).plan = s.plan ∧ (s.putBlocks n bs).prog = s.prog ∧ (s.putBlocks n bs).mtr = s.mtr ∧
    (s.putBlocks n bs).can = s.can ∧ (s.putBlocks n bs).dio = s.dio ∧ (s.putBlocks n bs).key = s.key ∧
    (s.putBlocks n bs).net = s.net ∧ (s.putBlocks n bs).run = s.run ∧ (s.putBlocks n bs).setBits = s.setBits ∧
    (s.putBlocks n bs).pending = s.pending := by
  simp [State.putBlocks, foldl_keeps_now, foldl_keeps_free, foldl_keeps_sys, foldl_keeps_fs, foldl_keeps_hub,
    foldl_keeps_rtc, foldl_keeps_pwr, foldl_keeps_sil, foldl_keeps_twin, foldl_keeps_pairs, foldl_keeps_acc,
    foldl_keeps_loops, foldl_keeps_plan, foldl_keeps_prog, foldl_keeps_mtr, foldl_keeps_can, foldl_keeps_dio,
    foldl_keeps_key, foldl_keeps_net, foldl_keeps_run, foldl_keeps_setBits, foldl_keeps_pending]

@[simp] theorem State.sendJob_keeps (j : JobCfg) (cap deadline flags : Nat) (sel urgent : Bool) (s : State) :
    (s.sendJob j cap deadline flags sel urgent).now = s.now ∧
    (s.sendJob j cap deadline flags sel urgent).free = s.free ∧
    (s.sendJob j cap deadline flags sel urgent).sys = s.sys ∧ (s.sendJob j cap deadline flags sel urgent).fs = s.fs ∧
    (s.sendJob j cap deadline flags sel urgent).rtc = s.rtc ∧ (s.sendJob j cap deadline flags sel urgent).pwr = s.pwr ∧
    (s.sendJob j cap deadline flags sel urgent).twin = s.twin ∧
    (s.sendJob j cap deadline flags sel urgent).pairs = s.pairs ∧
    (s.sendJob j cap deadline flags sel urgent).acc = s.acc ∧
    (s.sendJob j cap deadline flags sel urgent).loops = s.loops ∧
    (s.sendJob j cap deadline flags sel urgent).plan = s.plan ∧
    (s.sendJob j cap deadline flags sel urgent).prog = s.prog ∧
    (s.sendJob j cap deadline flags sel urgent).mtr = s.mtr ∧ (s.sendJob j cap deadline flags sel urgent).can = s.can ∧
    (s.sendJob j cap deadline flags sel urgent).dio = s.dio ∧ (s.sendJob j cap deadline flags sel urgent).key = s.key ∧
    (s.sendJob j cap deadline flags sel urgent).net = s.net ∧ (s.sendJob j cap deadline flags sel urgent).run = s.run ∧
    (s.sendJob j cap deadline flags sel urgent).pending = s.pending := by
  simp [State.sendJob]

@[simp] theorem State.netInputs_keeps (s : State) (k : NetCfg) (x : NetState) :
    (s.netInputs k x).sys = s.sys ∧ (s.netInputs k x).fs = s.fs ∧ (s.netInputs k x).rtc = s.rtc ∧
    (s.netInputs k x).pwr = s.pwr ∧ (s.netInputs k x).sil = s.sil ∧ (s.netInputs k x).twin = s.twin ∧
    (s.netInputs k x).pairs = s.pairs ∧ (s.netInputs k x).acc = s.acc ∧ (s.netInputs k x).loops = s.loops ∧
    (s.netInputs k x).prog = s.prog ∧ (s.netInputs k x).mtr = s.mtr ∧ (s.netInputs k x).can = s.can ∧
    (s.netInputs k x).dio = s.dio ∧ (s.netInputs k x).key = s.key ∧ (s.netInputs k x).run = s.run ∧
    (s.netInputs k x).pending = s.pending := by
  simp [State.netInputs]

@[simp] theorem State.segInputs_keeps (s : State) (k : NetCfg) (x : NetState) :
    (s.segInputs k x).now = s.now ∧ (s.segInputs k x).free = s.free ∧ (s.segInputs k x).sys = s.sys ∧
    (s.segInputs k x).fs = s.fs ∧ (s.segInputs k x).rtc = s.rtc ∧ (s.segInputs k x).pwr = s.pwr ∧
    (s.segInputs k x).sil = s.sil ∧ (s.segInputs k x).twin = s.twin ∧ (s.segInputs k x).pairs = s.pairs ∧
    (s.segInputs k x).acc = s.acc ∧ (s.segInputs k x).loops = s.loops ∧ (s.segInputs k x).plan = s.plan ∧
    (s.segInputs k x).prog = s.prog ∧ (s.segInputs k x).mtr = s.mtr ∧ (s.segInputs k x).can = s.can ∧
    (s.segInputs k x).dio = s.dio ∧ (s.segInputs k x).key = s.key ∧ (s.segInputs k x).net = s.net ∧
    (s.segInputs k x).run = s.run ∧ (s.segInputs k x).pending = s.pending := by
  simp [State.segInputs]

@[simp] theorem State.acdDone_keeps (c : AcdCmd) (e : AcdErr) (s : State) :
    (s.acdDone c e).now = s.now ∧ (s.acdDone c e).free = s.free ∧ (s.acdDone c e).sys = s.sys ∧
    (s.acdDone c e).fs = s.fs ∧ (s.acdDone c e).rtc = s.rtc ∧ (s.acdDone c e).pwr = s.pwr ∧
    (s.acdDone c e).sil = s.sil ∧ (s.acdDone c e).twin = s.twin ∧ (s.acdDone c e).pairs = s.pairs ∧
    (s.acdDone c e).fab = s.fab ∧ (s.acdDone c e).se = s.se ∧ (s.acdDone c e).loops = s.loops ∧
    (s.acdDone c e).plan = s.plan ∧ (s.acdDone c e).prog = s.prog ∧ (s.acdDone c e).mtr = s.mtr ∧
    (s.acdDone c e).can = s.can ∧ (s.acdDone c e).dio = s.dio ∧ (s.acdDone c e).key = s.key ∧
    (s.acdDone c e).net = s.net ∧ (s.acdDone c e).run = s.run ∧ (s.acdDone c e).mem = s.mem ∧
    (s.acdDone c e).setBits = s.setBits ∧ (s.acdDone c e).pending = s.pending := by
  simp [State.acdDone]

@[simp] theorem State.endWork_keeps (w : AcdWork) (s : State) :
    (s.endWork w).now = s.now ∧ (s.endWork w).free = s.free ∧ (s.endWork w).sys = s.sys ∧ (s.endWork w).fs = s.fs ∧
    (s.endWork w).rtc = s.rtc ∧ (s.endWork w).pwr = s.pwr ∧ (s.endWork w).sil = s.sil ∧ (s.endWork w).twin = s.twin ∧
    (s.endWork w).pairs = s.pairs ∧ (s.endWork w).fab = s.fab ∧ (s.endWork w).se = s.se ∧
    (s.endWork w).loops = s.loops ∧ (s.endWork w).plan = s.plan ∧ (s.endWork w).prog = s.prog ∧
    (s.endWork w).mtr = s.mtr ∧ (s.endWork w).can = s.can ∧ (s.endWork w).dio = s.dio ∧ (s.endWork w).net = s.net ∧
    (s.endWork w).run = s.run ∧ (s.endWork w).mem = s.mem ∧ (s.endWork w).setBits = s.setBits ∧
    (s.endWork w).pending = s.pending := by
  unfold State.endWork; (repeat' split) <;> simp

@[simp] theorem State.settleAcd_keeps (s : State) :
    s.settleAcd.now = s.now ∧ s.settleAcd.free = s.free ∧ s.settleAcd.sys = s.sys ∧ s.settleAcd.fs = s.fs ∧
    s.settleAcd.rtc = s.rtc ∧ s.settleAcd.pwr = s.pwr ∧ s.settleAcd.sil = s.sil ∧ s.settleAcd.twin = s.twin ∧
    s.settleAcd.pairs = s.pairs ∧ s.settleAcd.fab = s.fab ∧ s.settleAcd.se = s.se ∧ s.settleAcd.loops = s.loops ∧
    s.settleAcd.plan = s.plan ∧ s.settleAcd.prog = s.prog ∧ s.settleAcd.mtr = s.mtr ∧ s.settleAcd.can = s.can ∧
    s.settleAcd.dio = s.dio ∧ s.settleAcd.net = s.net ∧ s.settleAcd.run = s.run ∧ s.settleAcd.mem = s.mem ∧
    s.settleAcd.setBits = s.setBits ∧ s.settleAcd.pending = s.pending := by
  unfold State.settleAcd; (repeat' split) <;> simp

@[simp] theorem State.dropWork_keeps (s : State) :
    s.dropWork.now = s.now ∧ s.dropWork.sys = s.sys ∧ s.dropWork.fs = s.fs ∧ s.dropWork.hub = s.hub ∧
    s.dropWork.rtc = s.rtc ∧ s.dropWork.pwr = s.pwr ∧ s.dropWork.sil = s.sil ∧ s.dropWork.twin = s.twin ∧
    s.dropWork.pairs = s.pairs ∧ s.dropWork.fab = s.fab ∧ s.dropWork.se = s.se ∧ s.dropWork.loops = s.loops ∧
    s.dropWork.plan = s.plan ∧ s.dropWork.prog = s.prog ∧ s.dropWork.mtr = s.mtr ∧ s.dropWork.can = s.can ∧
    s.dropWork.dio = s.dio ∧ s.dropWork.net = s.net ∧ s.dropWork.run = s.run ∧ s.dropWork.mem = s.mem ∧
    s.dropWork.setBits = s.setBits ∧ s.dropWork.pending = s.pending := by
  unfold State.dropWork; (repeat' split) <;> simp

@[simp] theorem State.acdLoad_keeps (bad : Option BadRead) (s : State) :
    (s.acdLoad bad).now = s.now ∧ (s.acdLoad bad).sys = s.sys ∧ (s.acdLoad bad).fs = s.fs ∧
    (s.acdLoad bad).rtc = s.rtc ∧ (s.acdLoad bad).pwr = s.pwr ∧ (s.acdLoad bad).sil = s.sil ∧
    (s.acdLoad bad).twin = s.twin ∧ (s.acdLoad bad).pairs = s.pairs ∧ (s.acdLoad bad).fab = s.fab ∧
    (s.acdLoad bad).se = s.se ∧ (s.acdLoad bad).loops = s.loops ∧ (s.acdLoad bad).plan = s.plan ∧
    (s.acdLoad bad).prog = s.prog ∧ (s.acdLoad bad).mtr = s.mtr ∧ (s.acdLoad bad).can = s.can ∧
    (s.acdLoad bad).dio = s.dio ∧ (s.acdLoad bad).key = s.key ∧ (s.acdLoad bad).net = s.net ∧
    (s.acdLoad bad).run = s.run ∧ (s.acdLoad bad).mem = s.mem ∧ (s.acdLoad bad).pending = s.pending := by
  unfold State.acdLoad; dsimp only; (repeat' split) <;> simp

@[simp] theorem State.acdErase_keeps (x : Slot) (s : State) :
    (s.acdErase x).now = s.now ∧ (s.acdErase x).sys = s.sys ∧ (s.acdErase x).fs = s.fs ∧ (s.acdErase x).rtc = s.rtc ∧
    (s.acdErase x).pwr = s.pwr ∧ (s.acdErase x).sil = s.sil ∧ (s.acdErase x).twin = s.twin ∧
    (s.acdErase x).pairs = s.pairs ∧ (s.acdErase x).fab = s.fab ∧ (s.acdErase x).se = s.se ∧
    (s.acdErase x).loops = s.loops ∧ (s.acdErase x).plan = s.plan ∧ (s.acdErase x).prog = s.prog ∧
    (s.acdErase x).mtr = s.mtr ∧ (s.acdErase x).can = s.can ∧ (s.acdErase x).dio = s.dio ∧ (s.acdErase x).key = s.key ∧
    (s.acdErase x).net = s.net ∧ (s.acdErase x).run = s.run ∧ (s.acdErase x).mem = s.mem ∧
    (s.acdErase x).pending = s.pending := by
  unfold State.acdErase; split <;> simp

@[simp] theorem State.acdRollback_keeps (s : State) :
    s.acdRollback.now = s.now ∧ s.acdRollback.sys = s.sys ∧ s.acdRollback.fs = s.fs ∧ s.acdRollback.rtc = s.rtc ∧
    s.acdRollback.pwr = s.pwr ∧ s.acdRollback.sil = s.sil ∧ s.acdRollback.twin = s.twin ∧
    s.acdRollback.pairs = s.pairs ∧ s.acdRollback.fab = s.fab ∧ s.acdRollback.se = s.se ∧
    s.acdRollback.loops = s.loops ∧ s.acdRollback.plan = s.plan ∧ s.acdRollback.prog = s.prog ∧
    s.acdRollback.mtr = s.mtr ∧ s.acdRollback.can = s.can ∧ s.acdRollback.dio = s.dio ∧ s.acdRollback.key = s.key ∧
    s.acdRollback.net = s.net ∧ s.acdRollback.run = s.run ∧ s.acdRollback.mem = s.mem ∧
    s.acdRollback.pending = s.pending := by
  unfold State.acdRollback; dsimp only; (repeat' split) <;> simp

@[simp] theorem State.acdConfigure_keeps (x : Slot) (bad : Option BadRead) (s : State) :
    (s.acdConfigure x bad).now = s.now ∧ (s.acdConfigure x bad).sys = s.sys ∧ (s.acdConfigure x bad).fs = s.fs ∧
    (s.acdConfigure x bad).rtc = s.rtc ∧ (s.acdConfigure x bad).pwr = s.pwr ∧ (s.acdConfigure x bad).sil = s.sil ∧
    (s.acdConfigure x bad).twin = s.twin ∧ (s.acdConfigure x bad).pairs = s.pairs ∧ (s.acdConfigure x bad).fab = s.fab ∧
    (s.acdConfigure x bad).se = s.se ∧ (s.acdConfigure x bad).loops = s.loops ∧ (s.acdConfigure x bad).plan = s.plan ∧
    (s.acdConfigure x bad).prog = s.prog ∧ (s.acdConfigure x bad).mtr = s.mtr ∧ (s.acdConfigure x bad).can = s.can ∧
    (s.acdConfigure x bad).dio = s.dio ∧ (s.acdConfigure x bad).key = s.key ∧ (s.acdConfigure x bad).net = s.net ∧
    (s.acdConfigure x bad).run = s.run ∧ (s.acdConfigure x bad).mem = s.mem ∧
    (s.acdConfigure x bad).pending = s.pending := by
  unfold State.acdConfigure; (repeat' split) <;> simp

@[simp] theorem State.acdAmend_keeps (s : State) :
    s.acdAmend.now = s.now ∧ s.acdAmend.sys = s.sys ∧ s.acdAmend.fs = s.fs ∧ s.acdAmend.rtc = s.rtc ∧
    s.acdAmend.pwr = s.pwr ∧ s.acdAmend.sil = s.sil ∧ s.acdAmend.twin = s.twin ∧ s.acdAmend.pairs = s.pairs ∧
    s.acdAmend.fab = s.fab ∧ s.acdAmend.se = s.se ∧ s.acdAmend.loops = s.loops ∧ s.acdAmend.plan = s.plan ∧
    s.acdAmend.prog = s.prog ∧ s.acdAmend.mtr = s.mtr ∧ s.acdAmend.can = s.can ∧ s.acdAmend.dio = s.dio ∧
    s.acdAmend.key = s.key ∧ s.acdAmend.net = s.net ∧ s.acdAmend.run = s.run ∧ s.acdAmend.mem = s.mem := by
  unfold State.acdAmend; dsimp only; (repeat' split) <;> simp

@[simp] theorem State.amdLog_keeps (number effective result : Nat) (s : State) :
    (s.amdLog number effective result).now = s.now ∧ (s.amdLog number effective result).free = s.free ∧
    (s.amdLog number effective result).sys = s.sys ∧ (s.amdLog number effective result).fs = s.fs ∧
    (s.amdLog number effective result).rtc = s.rtc ∧ (s.amdLog number effective result).pwr = s.pwr ∧
    (s.amdLog number effective result).twin = s.twin ∧ (s.amdLog number effective result).pairs = s.pairs ∧
    (s.amdLog number effective result).fab = s.fab ∧ (s.amdLog number effective result).acc = s.acc ∧
    (s.amdLog number effective result).se = s.se ∧ (s.amdLog number effective result).loops = s.loops ∧
    (s.amdLog number effective result).plan = s.plan ∧ (s.amdLog number effective result).prog = s.prog ∧
    (s.amdLog number effective result).mtr = s.mtr ∧ (s.amdLog number effective result).can = s.can ∧
    (s.amdLog number effective result).dio = s.dio ∧ (s.amdLog number effective result).key = s.key ∧
    (s.amdLog number effective result).net = s.net ∧ (s.amdLog number effective result).run = s.run ∧
    (s.amdLog number effective result).mem = s.mem ∧ (s.amdLog number effective result).pending = s.pending := by
  simp [State.amdLog]

@[simp] theorem State.discardAmds_keeps (reset : Bool) (s : State) :
    (s.discardAmds reset).now = s.now ∧ (s.discardAmds reset).free = s.free ∧ (s.discardAmds reset).sys = s.sys ∧
    (s.discardAmds reset).fs = s.fs ∧ (s.discardAmds reset).rtc = s.rtc ∧ (s.discardAmds reset).pwr = s.pwr ∧
    (s.discardAmds reset).twin = s.twin ∧ (s.discardAmds reset).pairs = s.pairs ∧ (s.discardAmds reset).fab = s.fab ∧
    (s.discardAmds reset).se = s.se ∧ (s.discardAmds reset).loops = s.loops ∧ (s.discardAmds reset).plan = s.plan ∧
    (s.discardAmds reset).prog = s.prog ∧ (s.discardAmds reset).mtr = s.mtr ∧ (s.discardAmds reset).can = s.can ∧
    (s.discardAmds reset).dio = s.dio ∧ (s.discardAmds reset).key = s.key ∧ (s.discardAmds reset).net = s.net ∧
    (s.discardAmds reset).run = s.run ∧ (s.discardAmds reset).mem = s.mem := by
  simp [State.discardAmds, foldl_keeps_now, foldl_keeps_free, foldl_keeps_sys, foldl_keeps_fs, foldl_keeps_rtc,
    foldl_keeps_pwr, foldl_keeps_twin, foldl_keeps_pairs, foldl_keeps_fab, foldl_keeps_se, foldl_keeps_loops,
    foldl_keeps_plan, foldl_keeps_prog, foldl_keeps_mtr, foldl_keeps_can, foldl_keeps_dio, foldl_keeps_key,
    foldl_keeps_net, foldl_keeps_run, foldl_keeps_mem]

@[simp] theorem State.dropWeights_keeps (old : DistrictCfg) (r : AmdRecord) (s : State) :
    (s.dropWeights old r).now = s.now ∧ (s.dropWeights old r).free = s.free ∧ (s.dropWeights old r).sys = s.sys ∧
    (s.dropWeights old r).fs = s.fs ∧ (s.dropWeights old r).hub = s.hub ∧ (s.dropWeights old r).rtc = s.rtc ∧
    (s.dropWeights old r).pwr = s.pwr ∧ (s.dropWeights old r).sil = s.sil ∧ (s.dropWeights old r).twin = s.twin ∧
    (s.dropWeights old r).pairs = s.pairs ∧ (s.dropWeights old r).fab = s.fab ∧ (s.dropWeights old r).acc = s.acc ∧
    (s.dropWeights old r).loops = s.loops ∧ (s.dropWeights old r).plan = s.plan ∧ (s.dropWeights old r).prog = s.prog
    ∧ (s.dropWeights old r).mtr = s.mtr ∧ (s.dropWeights old r).can = s.can ∧ (s.dropWeights old r).dio = s.dio ∧
    (s.dropWeights old r).key = s.key ∧ (s.dropWeights old r).net = s.net ∧ (s.dropWeights old r).run = s.run ∧
    (s.dropWeights old r).mem = s.mem ∧ (s.dropWeights old r).setBits = s.setBits ∧ (s.dropWeights old r).pending =
    s.pending := by
  unfold State.dropWeights; (try dsimp only); (repeat' split) <;> simp -implicitDefEqProofs

@[simp] theorem State.amdRecord_keeps (s : State) (r : AmdRecord) :
    (s.amdRecord r).free = s.free ∧ (s.amdRecord r).sys = s.sys ∧ (s.amdRecord r).fs = s.fs ∧ (s.amdRecord r).rtc =
    s.rtc ∧ (s.amdRecord r).pwr = s.pwr ∧ (s.amdRecord r).sil = s.sil ∧ (s.amdRecord r).twin = s.twin ∧ (s.amdRecord
    r).pairs = s.pairs ∧ (s.amdRecord r).fab = s.fab ∧ (s.amdRecord r).plan = s.plan ∧ (s.amdRecord r).mtr = s.mtr ∧
    (s.amdRecord r).can = s.can ∧ (s.amdRecord r).dio = s.dio ∧ (s.amdRecord r).key = s.key ∧ (s.amdRecord r).net =
    s.net ∧ (s.amdRecord r).mem = s.mem ∧ (s.amdRecord r).pending = s.pending := by
  unfold State.amdRecord; (repeat' split) <;> simp

@[simp] theorem State.amdProg_keeps (s : State) (l : List AmdRecord) :
    (s.amdProg l).now = s.now ∧ (s.amdProg l).free = s.free ∧ (s.amdProg l).sys = s.sys ∧ (s.amdProg l).fs = s.fs ∧
    (s.amdProg l).hub = s.hub ∧ (s.amdProg l).rtc = s.rtc ∧ (s.amdProg l).pwr = s.pwr ∧ (s.amdProg l).sil = s.sil ∧
    (s.amdProg l).twin = s.twin ∧ (s.amdProg l).pairs = s.pairs ∧ (s.amdProg l).fab = s.fab ∧ (s.amdProg l).acc =
    s.acc ∧ (s.amdProg l).se = s.se ∧ (s.amdProg l).loops = s.loops ∧ (s.amdProg l).plan = s.plan ∧ (s.amdProg l).mtr
    = s.mtr ∧ (s.amdProg l).can = s.can ∧ (s.amdProg l).dio = s.dio ∧ (s.amdProg l).key = s.key ∧ (s.amdProg l).net =
    s.net ∧ (s.amdProg l).run = s.run ∧ (s.amdProg l).mem = s.mem ∧ (s.amdProg l).setBits = s.setBits ∧ (s.amdProg
    l).pending = s.pending := by
  unfold State.amdProg; (try dsimp only); (repeat' split) <;> simp -implicitDefEqProofs

@[simp] theorem State.applyAmd_keeps (s : State) (m : Amendment) :
    (s.applyAmd m).free = s.free ∧ (s.applyAmd m).sys = s.sys ∧ (s.applyAmd m).fs = s.fs ∧ (s.applyAmd m).rtc = s.rtc
    ∧ (s.applyAmd m).pwr = s.pwr ∧ (s.applyAmd m).twin = s.twin ∧ (s.applyAmd m).pairs = s.pairs ∧ (s.applyAmd m).fab
    = s.fab ∧ (s.applyAmd m).plan = s.plan ∧ (s.applyAmd m).mtr = s.mtr ∧ (s.applyAmd m).can = s.can ∧ (s.applyAmd
    m).dio = s.dio ∧ (s.applyAmd m).key = s.key ∧ (s.applyAmd m).net = s.net ∧ (s.applyAmd m).mem = s.mem := by
  simp [State.applyAmd, foldl_keeps_free, foldl_keeps_sys, foldl_keeps_fs, foldl_keeps_rtc, foldl_keeps_pwr,
    foldl_keeps_twin, foldl_keeps_pairs, foldl_keeps_fab, foldl_keeps_plan, foldl_keeps_mtr, foldl_keeps_can,
    foldl_keeps_dio, foldl_keeps_key, foldl_keeps_net, foldl_keeps_mem]

@[simp] theorem State.applyDue_keeps (s : State) :
    s.applyDue.free = s.free ∧ s.applyDue.sys = s.sys ∧ s.applyDue.fs = s.fs ∧ s.applyDue.rtc = s.rtc ∧
    s.applyDue.pwr = s.pwr ∧ s.applyDue.twin = s.twin ∧ s.applyDue.pairs = s.pairs ∧ s.applyDue.fab = s.fab ∧
    s.applyDue.plan = s.plan ∧ s.applyDue.mtr = s.mtr ∧ s.applyDue.can = s.can ∧ s.applyDue.dio = s.dio ∧
    s.applyDue.key = s.key ∧ s.applyDue.net = s.net ∧ s.applyDue.mem = s.mem := by
  unfold State.applyDue; (repeat' split) <;> simp [foldl_keeps_free, foldl_keeps_sys, foldl_keeps_fs, foldl_keeps_rtc,
    foldl_keeps_pwr, foldl_keeps_twin, foldl_keeps_pairs, foldl_keeps_fab, foldl_keeps_plan, foldl_keeps_mtr,
    foldl_keeps_can, foldl_keeps_dio, foldl_keeps_key, foldl_keeps_net, foldl_keeps_mem]

@[simp] theorem State.replay_keeps (l : List (List Byte)) (n : Nat) (s : State) :
    (State.replay l n s).now = s.now ∧ (State.replay l n s).free = s.free ∧ (State.replay l n s).sys = s.sys ∧
    (State.replay l n s).fs = s.fs ∧ (State.replay l n s).rtc = s.rtc ∧ (State.replay l n s).pwr = s.pwr ∧
    (State.replay l n s).twin = s.twin ∧ (State.replay l n s).pairs = s.pairs ∧ (State.replay l n s).fab = s.fab ∧
    (State.replay l n s).se = s.se ∧ (State.replay l n s).loops = s.loops ∧ (State.replay l n s).plan = s.plan ∧
    (State.replay l n s).prog = s.prog ∧ (State.replay l n s).mtr = s.mtr ∧ (State.replay l n s).can = s.can ∧
    (State.replay l n s).dio = s.dio ∧ (State.replay l n s).key = s.key ∧ (State.replay l n s).net = s.net ∧
    (State.replay l n s).mem = s.mem ∧ (State.replay l n s).pending = s.pending := by
  induction l generalizing n s with
  | nil => simp [State.replay]
  | cons b l ih =>
    unfold State.replay; (repeat' split) <;> simp (disch := (intros; simp)) [ih, foldl_keeps_now, foldl_keeps_free,
      foldl_keeps_sys, foldl_keeps_fs, foldl_keeps_rtc, foldl_keeps_pwr, foldl_keeps_twin, foldl_keeps_pairs,
      foldl_keeps_fab, foldl_keeps_se, foldl_keeps_loops, foldl_keeps_plan, foldl_keeps_prog, foldl_keeps_mtr,
      foldl_keeps_can, foldl_keeps_dio, foldl_keeps_key, foldl_keeps_net, foldl_keeps_mem, foldl_keeps_pending]

@[simp] theorem State.replayLog_keeps (x : Slot) (s : State) :
    (s.replayLog x).now = s.now ∧ (s.replayLog x).free = s.free ∧ (s.replayLog x).sys = s.sys ∧
    (s.replayLog x).fs = s.fs ∧ (s.replayLog x).rtc = s.rtc ∧ (s.replayLog x).pwr = s.pwr ∧
    (s.replayLog x).twin = s.twin ∧ (s.replayLog x).pairs = s.pairs ∧ (s.replayLog x).fab = s.fab ∧
    (s.replayLog x).se = s.se ∧ (s.replayLog x).loops = s.loops ∧ (s.replayLog x).plan = s.plan ∧
    (s.replayLog x).prog = s.prog ∧ (s.replayLog x).mtr = s.mtr ∧ (s.replayLog x).can = s.can ∧
    (s.replayLog x).dio = s.dio ∧ (s.replayLog x).key = s.key ∧ (s.replayLog x).net = s.net ∧
    (s.replayLog x).mem = s.mem ∧ (s.replayLog x).pending = s.pending := by
  simp -implicitDefEqProofs [State.replayLog]

@[simp] theorem State.acdCtrl_keeps (w : Initiator) (v : Nat) (bad : Option BadRead) (s0 : State) :
    (s0.acdCtrl w v bad).now = s0.now ∧ (s0.acdCtrl w v bad).sys = s0.sys ∧ (s0.acdCtrl w v bad).fs = s0.fs ∧
    (s0.acdCtrl w v bad).rtc = s0.rtc ∧ (s0.acdCtrl w v bad).pwr = s0.pwr ∧ (s0.acdCtrl w v bad).twin = s0.twin ∧
    (s0.acdCtrl w v bad).pairs = s0.pairs ∧ (s0.acdCtrl w v bad).fab = s0.fab ∧ (s0.acdCtrl w v bad).se = s0.se ∧
    (s0.acdCtrl w v bad).loops = s0.loops ∧ (s0.acdCtrl w v bad).plan = s0.plan ∧ (s0.acdCtrl w v bad).prog = s0.prog ∧
    (s0.acdCtrl w v bad).mtr = s0.mtr ∧ (s0.acdCtrl w v bad).can = s0.can ∧ (s0.acdCtrl w v bad).dio = s0.dio ∧
    (s0.acdCtrl w v bad).net = s0.net ∧ (s0.acdCtrl w v bad).run = s0.run ∧ (s0.acdCtrl w v bad).mem = s0.mem := by
  simp only [State.acdCtrl, State.guardWrite]; (repeat' split) <;> simp

@[simp] theorem State.acdWrite_keeps (s : State) (w : Initiator) (ofs v : Nat) :
    (s.acdWrite w ofs v).now = s.now ∧ (s.acdWrite w ofs v).sys = s.sys ∧ (s.acdWrite w ofs v).fs = s.fs ∧
    (s.acdWrite w ofs v).rtc = s.rtc ∧ (s.acdWrite w ofs v).pwr = s.pwr ∧ (s.acdWrite w ofs v).twin = s.twin ∧
    (s.acdWrite w ofs v).pairs = s.pairs ∧ (s.acdWrite w ofs v).fab = s.fab ∧ (s.acdWrite w ofs v).se = s.se ∧
    (s.acdWrite w ofs v).loops = s.loops ∧ (s.acdWrite w ofs v).plan = s.plan ∧ (s.acdWrite w ofs v).prog = s.prog ∧
    (s.acdWrite w ofs v).mtr = s.mtr ∧ (s.acdWrite w ofs v).can = s.can ∧ (s.acdWrite w ofs v).dio = s.dio ∧
    (s.acdWrite w ofs v).net = s.net ∧ (s.acdWrite w ofs v).run = s.run ∧ (s.acdWrite w ofs v).mem = s.mem := by
  unfold State.acdWrite State.guardWrite; dsimp only; (repeat' split) <;> simp

@[simp] theorem State.releaseRings_keeps (s : State) :
    s.releaseRings.sys = s.sys ∧ s.releaseRings.fs = s.fs ∧ s.releaseRings.rtc = s.rtc ∧ s.releaseRings.pwr = s.pwr ∧
    s.releaseRings.sil = s.sil ∧ s.releaseRings.twin = s.twin ∧ s.releaseRings.pairs = s.pairs ∧
    s.releaseRings.acc = s.acc ∧ s.releaseRings.loops = s.loops ∧ s.releaseRings.prog = s.prog ∧
    s.releaseRings.mtr = s.mtr ∧ s.releaseRings.can = s.can ∧ s.releaseRings.dio = s.dio ∧ s.releaseRings.mem = s.mem ∧
    s.releaseRings.pending = s.pending := by
  simp (disch := (intros; (repeat' split) <;> simp)) [State.releaseRings, foldl_keeps_sys, foldl_keeps_fs,
    foldl_keeps_rtc, foldl_keeps_pwr, foldl_keeps_sil, foldl_keeps_twin, foldl_keeps_pairs, foldl_keeps_acc,
    foldl_keeps_loops, foldl_keeps_prog, foldl_keeps_mtr, foldl_keeps_can, foldl_keeps_dio, foldl_keeps_mem,
    foldl_keeps_pending]

@[simp] theorem State.planLog_keeps (i cls : Nat) (payload : List Byte) (s : State) :
    (s.planLog i cls payload).now = s.now ∧ (s.planLog i cls payload).free = s.free ∧
    (s.planLog i cls payload).sys = s.sys ∧ (s.planLog i cls payload).fs = s.fs ∧
    (s.planLog i cls payload).rtc = s.rtc ∧ (s.planLog i cls payload).pwr = s.pwr ∧
    (s.planLog i cls payload).twin = s.twin ∧ (s.planLog i cls payload).pairs = s.pairs ∧
    (s.planLog i cls payload).fab = s.fab ∧ (s.planLog i cls payload).acc = s.acc ∧
    (s.planLog i cls payload).se = s.se ∧ (s.planLog i cls payload).loops = s.loops ∧
    (s.planLog i cls payload).plan = s.plan ∧ (s.planLog i cls payload).prog = s.prog ∧
    (s.planLog i cls payload).mtr = s.mtr ∧ (s.planLog i cls payload).can = s.can ∧
    (s.planLog i cls payload).dio = s.dio ∧ (s.planLog i cls payload).key = s.key ∧
    (s.planLog i cls payload).net = s.net ∧ (s.planLog i cls payload).run = s.run ∧
    (s.planLog i cls payload).mem = s.mem ∧ (s.planLog i cls payload).pending = s.pending := by
  simp [State.planLog]

@[simp] theorem State.harvest_keeps (c : DispatchCfg) (s : State) :
    (s.harvest c).sys = s.sys ∧ (s.harvest c).fs = s.fs ∧ (s.harvest c).rtc = s.rtc ∧ (s.harvest c).pwr = s.pwr ∧
    (s.harvest c).sil = s.sil ∧ (s.harvest c).twin = s.twin ∧ (s.harvest c).pairs = s.pairs ∧
    (s.harvest c).acc = s.acc ∧ (s.harvest c).loops = s.loops ∧ (s.harvest c).prog = s.prog ∧
    (s.harvest c).mtr = s.mtr ∧ (s.harvest c).can = s.can ∧ (s.harvest c).dio = s.dio ∧ (s.harvest c).key = s.key ∧
    (s.harvest c).run = s.run ∧ (s.harvest c).mem = s.mem ∧ (s.harvest c).pending = s.pending := by
  unfold State.harvest; (repeat' split) <;> simp

@[simp] theorem State.startNet_keeps (s : State) (k : Nat × NetCfg) :
    (s.startNet k).sys = s.sys ∧ (s.startNet k).fs = s.fs ∧ (s.startNet k).rtc = s.rtc ∧ (s.startNet k).pwr = s.pwr ∧
    (s.startNet k).twin = s.twin ∧ (s.startNet k).pairs = s.pairs ∧ (s.startNet k).acc = s.acc ∧
    (s.startNet k).loops = s.loops ∧ (s.startNet k).prog = s.prog ∧ (s.startNet k).mtr = s.mtr ∧
    (s.startNet k).can = s.can ∧ (s.startNet k).dio = s.dio ∧ (s.startNet k).key = s.key ∧ (s.startNet k).run = s.run ∧
    (s.startNet k).pending = s.pending := by
  simp [State.startNet]

@[simp] theorem State.gather_keeps (s : State) :
    s.gather.now = s.now ∧ s.gather.free = s.free ∧ s.gather.sys = s.sys ∧ s.gather.fs = s.fs ∧ s.gather.hub = s.hub ∧
    s.gather.rtc = s.rtc ∧ s.gather.pwr = s.pwr ∧ s.gather.sil = s.sil ∧ s.gather.twin = s.twin ∧
    s.gather.pairs = s.pairs ∧ s.gather.fab = s.fab ∧ s.gather.acc = s.acc ∧ s.gather.se = s.se ∧
    s.gather.loops = s.loops ∧ s.gather.prog = s.prog ∧ s.gather.mtr = s.mtr ∧ s.gather.can = s.can ∧
    s.gather.dio = s.dio ∧ s.gather.key = s.key ∧ s.gather.net = s.net ∧ s.gather.run = s.run ∧ s.gather.mem = s.mem ∧
    s.gather.setBits = s.setBits ∧ s.gather.pending = s.pending := by
  simp [State.gather]

@[simp] theorem State.sendAdapt_keeps (a : AdaptCfg) (s : State) :
    (s.sendAdapt a).sys = s.sys ∧ (s.sendAdapt a).fs = s.fs ∧ (s.sendAdapt a).rtc = s.rtc ∧
    (s.sendAdapt a).pwr = s.pwr ∧ (s.sendAdapt a).twin = s.twin ∧ (s.sendAdapt a).pairs = s.pairs ∧
    (s.sendAdapt a).acc = s.acc ∧ (s.sendAdapt a).loops = s.loops ∧ (s.sendAdapt a).prog = s.prog ∧
    (s.sendAdapt a).mtr = s.mtr ∧ (s.sendAdapt a).can = s.can ∧ (s.sendAdapt a).dio = s.dio ∧
    (s.sendAdapt a).key = s.key ∧ (s.sendAdapt a).run = s.run ∧ (s.sendAdapt a).pending = s.pending := by
  simp [State.sendAdapt]

@[simp] theorem State.closeSums_keeps (s : State) :
    s.closeSums.sys = s.sys ∧ s.closeSums.fs = s.fs ∧ s.closeSums.rtc = s.rtc ∧ s.closeSums.pwr = s.pwr ∧
    s.closeSums.sil = s.sil ∧ s.closeSums.twin = s.twin ∧ s.closeSums.pairs = s.pairs ∧ s.closeSums.acc = s.acc ∧
    s.closeSums.loops = s.loops ∧ s.closeSums.prog = s.prog ∧ s.closeSums.mtr = s.mtr ∧ s.closeSums.can = s.can ∧
    s.closeSums.dio = s.dio ∧ s.closeSums.key = s.key ∧ s.closeSums.run = s.run ∧ s.closeSums.mem = s.mem ∧
    s.closeSums.pending = s.pending := by
  simp [State.closeSums]

@[simp] theorem State.adapt_keeps (c : DispatchCfg) (s : State) :
    (s.adapt c).pairs = s.pairs ∧ (s.adapt c).key = s.key ∧ (s.adapt c).run = s.run ∧ (s.adapt c).mem = s.mem ∧
    (s.adapt c).pending = s.pending := by
  unfold State.adapt; dsimp only; (repeat' split) <;> simp

@[simp] theorem State.logPivots_keeps (tag : Nat) (s : State) (j : JobCfg) :
    (s.logPivots tag j).now = s.now ∧ (s.logPivots tag j).free = s.free ∧ (s.logPivots tag j).sys = s.sys ∧
    (s.logPivots tag j).fs = s.fs ∧ (s.logPivots tag j).rtc = s.rtc ∧ (s.logPivots tag j).pwr = s.pwr ∧ (s.logPivots
    tag j).twin = s.twin ∧ (s.logPivots tag j).pairs = s.pairs ∧ (s.logPivots tag j).fab = s.fab ∧ (s.logPivots tag
    j).acc = s.acc ∧ (s.logPivots tag j).se = s.se ∧ (s.logPivots tag j).loops = s.loops ∧ (s.logPivots tag j).plan =
    s.plan ∧ (s.logPivots tag j).prog = s.prog ∧ (s.logPivots tag j).mtr = s.mtr ∧ (s.logPivots tag j).can = s.can ∧
    (s.logPivots tag j).dio = s.dio ∧ (s.logPivots tag j).key = s.key ∧ (s.logPivots tag j).net = s.net ∧
    (s.logPivots tag j).run = s.run ∧ (s.logPivots tag j).mem = s.mem ∧ (s.logPivots tag j).pending = s.pending := by
  unfold State.logPivots; (try dsimp only); (repeat' split) <;> simp -implicitDefEqProofs

@[simp] theorem State.judgeNote_keeps (c : DispatchCfg) (s : State) :
    (s.judgeNote c).sys = s.sys ∧ (s.judgeNote c).fs = s.fs ∧ (s.judgeNote c).rtc = s.rtc ∧ (s.judgeNote c).pwr =
    s.pwr ∧ (s.judgeNote c).twin = s.twin ∧ (s.judgeNote c).pairs = s.pairs ∧ (s.judgeNote c).acc = s.acc ∧
    (s.judgeNote c).loops = s.loops ∧ (s.judgeNote c).prog = s.prog ∧ (s.judgeNote c).mtr = s.mtr ∧ (s.judgeNote
    c).can = s.can ∧ (s.judgeNote c).dio = s.dio ∧ (s.judgeNote c).key = s.key ∧ (s.judgeNote c).run = s.run ∧
    (s.judgeNote c).pending = s.pending := by
  unfold State.judgeNote; dsimp only; (repeat' split) <;> simp (disch := (intros; (repeat' split) <;> simp))
    [State.asAt, foldl_keeps_sys, foldl_keeps_fs, foldl_keeps_rtc, foldl_keeps_pwr, foldl_keeps_twin,
    foldl_keeps_pairs, foldl_keeps_acc, foldl_keeps_loops, foldl_keeps_prog, foldl_keeps_mtr, foldl_keeps_can,
    foldl_keeps_dio, foldl_keeps_key, foldl_keeps_run, foldl_keeps_pending]

@[simp] theorem State.planHeart_keeps (s : State) :
    s.planHeart.sys = s.sys ∧ s.planHeart.fs = s.fs ∧ s.planHeart.rtc = s.rtc ∧ s.planHeart.pwr = s.pwr ∧
    s.planHeart.twin = s.twin ∧ s.planHeart.pairs = s.pairs ∧ s.planHeart.acc = s.acc ∧ s.planHeart.loops = s.loops ∧
    s.planHeart.prog = s.prog ∧ s.planHeart.mtr = s.mtr ∧ s.planHeart.can = s.can ∧ s.planHeart.dio = s.dio ∧
    s.planHeart.pending = s.pending := by
  unfold State.planHeart; (repeat' split) <;> simp [foldl_keeps_sys, foldl_keeps_fs, foldl_keeps_rtc, foldl_keeps_pwr,
    foldl_keeps_twin, foldl_keeps_pairs, foldl_keeps_acc, foldl_keeps_loops, foldl_keeps_prog, foldl_keeps_mtr,
    foldl_keeps_can, foldl_keeps_dio, foldl_keeps_pending]

@[simp] theorem State.sendTransport_keeps (s : State) (k : Nat × NetCfg) :
    (s.sendTransport k).now = s.now ∧ (s.sendTransport k).free = s.free ∧ (s.sendTransport k).sys = s.sys ∧
    (s.sendTransport k).fs = s.fs ∧ (s.sendTransport k).rtc = s.rtc ∧ (s.sendTransport k).pwr = s.pwr ∧
    (s.sendTransport k).twin = s.twin ∧ (s.sendTransport k).pairs = s.pairs ∧ (s.sendTransport k).acc = s.acc ∧
    (s.sendTransport k).loops = s.loops ∧ (s.sendTransport k).plan = s.plan ∧ (s.sendTransport k).prog = s.prog ∧
    (s.sendTransport k).mtr = s.mtr ∧ (s.sendTransport k).can = s.can ∧ (s.sendTransport k).dio = s.dio ∧
    (s.sendTransport k).key = s.key ∧ (s.sendTransport k).net = s.net ∧ (s.sendTransport k).run = s.run ∧
    (s.sendTransport k).pending = s.pending := by
  simp [State.sendTransport]

@[simp] theorem State.acceptNet_keeps (s : State) (k : Nat × NetCfg) :
    (s.acceptNet k).pairs = s.pairs ∧ (s.acceptNet k).key = s.key ∧ (s.acceptNet k).run = s.run ∧
    (s.acceptNet k).pending = s.pending := by
  unfold State.acceptNet; dsimp only; (repeat' split) <;> simp

@[simp] theorem State.arriveNet_keeps (s : State) (k : Nat × NetCfg) :
    (s.arriveNet k).sil = s.sil ∧ (s.arriveNet k).pairs = s.pairs ∧ (s.arriveNet k).key = s.key ∧
    (s.arriveNet k).run = s.run ∧ (s.arriveNet k).mem = s.mem ∧ (s.arriveNet k).pending = s.pending := by
  simp [State.arriveNet]

@[simp] theorem State.dropSlot_keeps (s : State) (j : JobCfg) :
    (s.dropSlot j).sil = s.sil ∧ (s.dropSlot j).pairs = s.pairs ∧ (s.dropSlot j).key = s.key ∧
    (s.dropSlot j).run = s.run ∧ (s.dropSlot j).pending = s.pending := by
  simp [State.dropSlot]

@[simp] theorem State.buildQp_keeps (c : DispatchCfg) (s : State) :
    (s.buildQp c).sil = s.sil ∧ (s.buildQp c).pairs = s.pairs ∧ (s.buildQp c).key = s.key ∧ (s.buildQp c).run = s.run ∧
    (s.buildQp c).pending = s.pending := by
  simp (disch := (intros; (repeat' split) <;> simp)) [State.buildQp, foldl_keeps_sil, foldl_keeps_pairs,
    foldl_keeps_key, foldl_keeps_run, foldl_keeps_pending]

@[simp] theorem State.sendSegment_keeps (c : DispatchCfg) (s : State) :
    (s.sendSegment c).pairs = s.pairs ∧ (s.sendSegment c).key = s.key ∧ (s.sendSegment c).run = s.run ∧
    (s.sendSegment c).pending = s.pending := by
  unfold State.sendSegment; dsimp only; (repeat' split) <;> simp [foldl_keeps_pairs, foldl_keeps_key, foldl_keeps_run,
    foldl_keeps_pending]

@[simp] theorem State.sendProtection_keeps (c : DispatchCfg) (j : JobCfg) (trig : Nat) (inp : DispIn) (s : State) :
    (s.sendProtection c j trig inp).now = s.now ∧ (s.sendProtection c j trig inp).free = s.free ∧ (s.sendProtection c
    j trig inp).sys = s.sys ∧ (s.sendProtection c j trig inp).fs = s.fs ∧ (s.sendProtection c j trig inp).rtc = s.rtc
    ∧ (s.sendProtection c j trig inp).pwr = s.pwr ∧ (s.sendProtection c j trig inp).twin = s.twin ∧ (s.sendProtection
    c j trig inp).pairs = s.pairs ∧ (s.sendProtection c j trig inp).acc = s.acc ∧ (s.sendProtection c j trig
    inp).loops = s.loops ∧ (s.sendProtection c j trig inp).prog = s.prog ∧ (s.sendProtection c j trig inp).mtr =
    s.mtr ∧ (s.sendProtection c j trig inp).can = s.can ∧ (s.sendProtection c j trig inp).dio = s.dio ∧
    (s.sendProtection c j trig inp).key = s.key ∧ (s.sendProtection c j trig inp).net = s.net ∧ (s.sendProtection c j
    trig inp).run = s.run ∧ (s.sendProtection c j trig inp).pending = s.pending := by
  simp -implicitDefEqProofs [State.sendProtection]

@[simp] theorem State.takeImport_keeps (c : DispatchCfg) (s : State) :
    (s.takeImport c).sil = s.sil ∧ (s.takeImport c).pairs = s.pairs ∧ (s.takeImport c).key = s.key ∧
    (s.takeImport c).run = s.run ∧ (s.takeImport c).mem = s.mem ∧ (s.takeImport c).pending = s.pending := by
  unfold State.takeImport; split <;> simp

@[simp] theorem State.commitImage_keeps (c : DispatchCfg) (armed : Option Plan) (s : State) :
    (s.commitImage c armed).sil = s.sil ∧ (s.commitImage c armed).pairs = s.pairs ∧
    (s.commitImage c armed).key = s.key ∧ (s.commitImage c armed).run = s.run ∧ (s.commitImage c armed).mem = s.mem ∧
    (s.commitImage c armed).pending = s.pending := by
  unfold State.commitImage; dsimp only; (repeat' split) <;> simp

@[simp] theorem State.setShifts_keeps (c : DispatchCfg) (s : State) :
    (s.setShifts c).now = s.now ∧ (s.setShifts c).free = s.free ∧ (s.setShifts c).sys = s.sys ∧ (s.setShifts c).fs =
    s.fs ∧ (s.setShifts c).hub = s.hub ∧ (s.setShifts c).rtc = s.rtc ∧ (s.setShifts c).pwr = s.pwr ∧ (s.setShifts
    c).sil = s.sil ∧ (s.setShifts c).twin = s.twin ∧ (s.setShifts c).pairs = s.pairs ∧ (s.setShifts c).fab = s.fab ∧
    (s.setShifts c).acc = s.acc ∧ (s.setShifts c).se = s.se ∧ (s.setShifts c).loops = s.loops ∧ (s.setShifts c).prog
    = s.prog ∧ (s.setShifts c).mtr = s.mtr ∧ (s.setShifts c).can = s.can ∧ (s.setShifts c).dio = s.dio ∧ (s.setShifts
    c).key = s.key ∧ (s.setShifts c).net = s.net ∧ (s.setShifts c).run = s.run ∧ (s.setShifts c).mem = s.mem ∧
    (s.setShifts c).setBits = s.setBits ∧ (s.setShifts c).pending = s.pending := by
  simp -implicitDefEqProofs [State.setShifts]

@[simp] theorem State.commitProtection_keeps (s : State) :
    s.commitProtection.now = s.now ∧ s.commitProtection.free = s.free ∧ s.commitProtection.sys = s.sys ∧
    s.commitProtection.fs = s.fs ∧ s.commitProtection.hub = s.hub ∧ s.commitProtection.rtc = s.rtc ∧
    s.commitProtection.pwr = s.pwr ∧ s.commitProtection.sil = s.sil ∧ s.commitProtection.twin = s.twin ∧
    s.commitProtection.pairs = s.pairs ∧ s.commitProtection.fab = s.fab ∧ s.commitProtection.acc = s.acc ∧
    s.commitProtection.se = s.se ∧ s.commitProtection.loops = s.loops ∧ s.commitProtection.prog = s.prog ∧
    s.commitProtection.mtr = s.mtr ∧ s.commitProtection.can = s.can ∧ s.commitProtection.dio = s.dio ∧
    s.commitProtection.key = s.key ∧ s.commitProtection.net = s.net ∧ s.commitProtection.run = s.run ∧
    s.commitProtection.mem = s.mem ∧ s.commitProtection.setBits = s.setBits ∧ s.commitProtection.pending = s.pending := by
  unfold State.commitProtection; (try dsimp only); (repeat' split) <;> simp -implicitDefEqProofs

@[simp] theorem State.newBaseNote_keeps (c : DispatchCfg) (s : State) :
    (s.newBaseNote c).now = s.now ∧ (s.newBaseNote c).free = s.free ∧ (s.newBaseNote c).sys = s.sys ∧
    (s.newBaseNote c).fs = s.fs ∧ (s.newBaseNote c).hub = s.hub ∧ (s.newBaseNote c).rtc = s.rtc ∧
    (s.newBaseNote c).pwr = s.pwr ∧ (s.newBaseNote c).sil = s.sil ∧ (s.newBaseNote c).twin = s.twin ∧
    (s.newBaseNote c).pairs = s.pairs ∧ (s.newBaseNote c).fab = s.fab ∧ (s.newBaseNote c).acc = s.acc ∧
    (s.newBaseNote c).se = s.se ∧ (s.newBaseNote c).loops = s.loops ∧ (s.newBaseNote c).prog = s.prog ∧
    (s.newBaseNote c).mtr = s.mtr ∧ (s.newBaseNote c).can = s.can ∧ (s.newBaseNote c).dio = s.dio ∧
    (s.newBaseNote c).key = s.key ∧ (s.newBaseNote c).net = s.net ∧ (s.newBaseNote c).run = s.run ∧
    (s.newBaseNote c).mem = s.mem ∧ (s.newBaseNote c).setBits = s.setBits ∧
    (s.newBaseNote c).pending = s.pending := by
  unfold State.newBaseNote; (repeat' split) <;> simp

@[simp] theorem State.keepShifts_keeps (s : State) :
    s.keepShifts.now = s.now ∧ s.keepShifts.free = s.free ∧ s.keepShifts.sys = s.sys ∧ s.keepShifts.fs = s.fs ∧
    s.keepShifts.hub = s.hub ∧ s.keepShifts.rtc = s.rtc ∧ s.keepShifts.pwr = s.pwr ∧ s.keepShifts.sil = s.sil ∧
    s.keepShifts.twin = s.twin ∧ s.keepShifts.pairs = s.pairs ∧ s.keepShifts.fab = s.fab ∧ s.keepShifts.acc = s.acc ∧
    s.keepShifts.se = s.se ∧ s.keepShifts.loops = s.loops ∧ s.keepShifts.prog = s.prog ∧ s.keepShifts.mtr = s.mtr ∧
    s.keepShifts.can = s.can ∧ s.keepShifts.dio = s.dio ∧ s.keepShifts.key = s.key ∧ s.keepShifts.net = s.net ∧
    s.keepShifts.run = s.run ∧ s.keepShifts.mem = s.mem ∧ s.keepShifts.setBits = s.setBits ∧ s.keepShifts.pending =
    s.pending := by
  unfold State.keepShifts; (try dsimp only); (repeat' split) <;> simp -implicitDefEqProofs

@[simp] theorem State.writeStatus_keeps (c : DispatchCfg) (s : State) :
    (s.writeStatus c).now = s.now ∧ (s.writeStatus c).free = s.free ∧ (s.writeStatus c).sys = s.sys ∧ (s.writeStatus
    c).fs = s.fs ∧ (s.writeStatus c).hub = s.hub ∧ (s.writeStatus c).rtc = s.rtc ∧ (s.writeStatus c).pwr = s.pwr ∧
    (s.writeStatus c).sil = s.sil ∧ (s.writeStatus c).twin = s.twin ∧ (s.writeStatus c).pairs = s.pairs ∧
    (s.writeStatus c).acc = s.acc ∧ (s.writeStatus c).loops = s.loops ∧ (s.writeStatus c).plan = s.plan ∧
    (s.writeStatus c).prog = s.prog ∧ (s.writeStatus c).mtr = s.mtr ∧ (s.writeStatus c).can = s.can ∧ (s.writeStatus
    c).dio = s.dio ∧ (s.writeStatus c).key = s.key ∧ (s.writeStatus c).net = s.net ∧ (s.writeStatus c).run = s.run ∧
    (s.writeStatus c).setBits = s.setBits ∧ (s.writeStatus c).pending = s.pending := by
  unfold State.writeStatus; (try dsimp only); (repeat' split) <;> simp -implicitDefEqProofs

@[simp] theorem State.planBase_keeps (s : State) :
    s.planBase.pairs = s.pairs ∧ s.planBase.key = s.key ∧ s.planBase.run = s.run ∧ s.planBase.pending = s.pending := by
  unfold State.planBase; dsimp only; (repeat' split) <;> simp

@[simp] theorem State.planVerdict_keeps (s : State) :
    s.planVerdict.sil = s.sil ∧ s.planVerdict.pairs = s.pairs ∧ s.planVerdict.key = s.key ∧ s.planVerdict.run = s.run
    ∧ s.planVerdict.mem = s.mem ∧ s.planVerdict.pending = s.pending := by
  unfold State.planVerdict; (try dsimp only); (repeat' split) <;> simp -implicitDefEqProofs

@[simp] theorem State.resendNets_keeps (s : State) :
    s.resendNets.now = s.now ∧ s.resendNets.free = s.free ∧ s.resendNets.sys = s.sys ∧ s.resendNets.fs = s.fs ∧
    s.resendNets.rtc = s.rtc ∧ s.resendNets.pwr = s.pwr ∧ s.resendNets.twin = s.twin ∧ s.resendNets.pairs = s.pairs ∧
    s.resendNets.acc = s.acc ∧ s.resendNets.loops = s.loops ∧ s.resendNets.plan = s.plan ∧ s.resendNets.prog = s.prog
    ∧ s.resendNets.mtr = s.mtr ∧ s.resendNets.can = s.can ∧ s.resendNets.dio = s.dio ∧ s.resendNets.key = s.key ∧
    s.resendNets.net = s.net ∧ s.resendNets.run = s.run ∧ s.resendNets.pending = s.pending := by
  unfold State.resendNets; (try dsimp only); (repeat' split) <;> simp -implicitDefEqProofs
    (disch := (first | (intros; (try dsimp only); (repeat' split) <;> simp -implicitDefEqProofs; done) | fail))
    [State.asAt, foldl_keeps_now, foldl_keeps_free, foldl_keeps_sys, foldl_keeps_fs, foldl_keeps_rtc,
    foldl_keeps_pwr, foldl_keeps_twin, foldl_keeps_pairs, foldl_keeps_acc, foldl_keeps_loops, foldl_keeps_plan,
    foldl_keeps_prog, foldl_keeps_mtr, foldl_keeps_can, foldl_keeps_dio, foldl_keeps_key, foldl_keeps_net,
    foldl_keeps_run, foldl_keeps_pending]

@[simp] theorem State.resendDispatch_keeps (c : DispatchCfg) (s0 s : State) :
    (State.resendDispatch c s0 s).now = s.now ∧ (State.resendDispatch c s0 s).free = s.free ∧ (State.resendDispatch c
    s0 s).sys = s.sys ∧ (State.resendDispatch c s0 s).fs = s.fs ∧ (State.resendDispatch c s0 s).rtc = s.rtc ∧
    (State.resendDispatch c s0 s).pwr = s.pwr ∧ (State.resendDispatch c s0 s).twin = s.twin ∧ (State.resendDispatch c
    s0 s).pairs = s.pairs ∧ (State.resendDispatch c s0 s).acc = s.acc ∧ (State.resendDispatch c s0 s).loops = s.loops
    ∧ (State.resendDispatch c s0 s).plan = s.plan ∧ (State.resendDispatch c s0 s).prog = s.prog ∧
    (State.resendDispatch c s0 s).mtr = s.mtr ∧ (State.resendDispatch c s0 s).can = s.can ∧ (State.resendDispatch c
    s0 s).dio = s.dio ∧ (State.resendDispatch c s0 s).key = s.key ∧ (State.resendDispatch c s0 s).net = s.net ∧
    (State.resendDispatch c s0 s).run = s.run ∧ (State.resendDispatch c s0 s).pending = s.pending := by
  unfold State.resendDispatch; (try dsimp only); (repeat' split) <;> simp -implicitDefEqProofs
    (disch := (first | (intros; (try dsimp only); (repeat' split) <;> simp -implicitDefEqProofs; done) | fail))
    [State.asAt, foldl_keeps_now, foldl_keeps_free, foldl_keeps_sys, foldl_keeps_fs, foldl_keeps_rtc,
    foldl_keeps_pwr, foldl_keeps_twin, foldl_keeps_pairs, foldl_keeps_acc, foldl_keeps_loops, foldl_keeps_plan,
    foldl_keeps_prog, foldl_keeps_mtr, foldl_keeps_can, foldl_keeps_dio, foldl_keeps_key, foldl_keeps_net,
    foldl_keeps_run, foldl_keeps_pending]

@[simp] theorem State.reissue_keeps (s : State) :
    s.reissue.sys = s.sys ∧ s.reissue.fs = s.fs ∧ s.reissue.rtc = s.rtc ∧ s.reissue.pwr = s.pwr ∧ s.reissue.twin =
    s.twin ∧ s.reissue.pairs = s.pairs ∧ s.reissue.acc = s.acc ∧ s.reissue.loops = s.loops ∧ s.reissue.mtr = s.mtr ∧
    s.reissue.can = s.can ∧ s.reissue.dio = s.dio ∧ s.reissue.pending = s.pending := by
  unfold State.reissue; dsimp only; (repeat' split) <;> simp (disch := (intros; (repeat' split) <;> simp))
    [State.asAt, foldl_keeps_sys, foldl_keeps_fs, foldl_keeps_rtc, foldl_keeps_pwr, foldl_keeps_twin,
    foldl_keeps_pairs, foldl_keeps_acc, foldl_keeps_loops, foldl_keeps_mtr, foldl_keeps_can, foldl_keeps_dio,
    foldl_keeps_pending]

@[simp] theorem State.loadMasters_keeps (v3 : List Byte) (s : State) :
    (s.loadMasters v3).now = s.now ∧ (s.loadMasters v3).free = s.free ∧ (s.loadMasters v3).rtc = s.rtc ∧
    (s.loadMasters v3).sil = s.sil ∧ (s.loadMasters v3).pairs = s.pairs ∧ (s.loadMasters v3).key = s.key ∧
    (s.loadMasters v3).run = s.run ∧ (s.loadMasters v3).pending = s.pending := by
  simp [State.loadMasters]

@[simp] theorem State.loadRoutes_keeps (v3 : List Byte) (s : State) :
    (s.loadRoutes v3).now = s.now ∧ (s.loadRoutes v3).free = s.free ∧ (s.loadRoutes v3).rtc = s.rtc ∧
    (s.loadRoutes v3).sil = s.sil ∧ (s.loadRoutes v3).pairs = s.pairs ∧ (s.loadRoutes v3).key = s.key ∧
    (s.loadRoutes v3).run = s.run ∧ (s.loadRoutes v3).mem = s.mem ∧ (s.loadRoutes v3).pending = s.pending := by
  simp (disch := (intros; (repeat' split) <;> simp)) [State.loadRoutes, foldl_keeps_now, foldl_keeps_free,
    foldl_keeps_rtc, foldl_keeps_sil, foldl_keeps_pairs, foldl_keeps_key, foldl_keeps_run, foldl_keeps_mem,
    foldl_keeps_pending]

@[simp] theorem State.loadFabric_keeps (v4 : List Byte) (s : State) :
    (s.loadFabric v4).now = s.now ∧ (s.loadFabric v4).free = s.free ∧ (s.loadFabric v4).rtc = s.rtc ∧
    (s.loadFabric v4).sil = s.sil ∧ (s.loadFabric v4).pairs = s.pairs ∧ (s.loadFabric v4).key = s.key ∧
    (s.loadFabric v4).run = s.run ∧ (s.loadFabric v4).mem = s.mem ∧ (s.loadFabric v4).pending = s.pending := by
  simp [State.loadFabric]

@[simp] theorem State.clearWarm_keeps (s : State) (p : ProblemCfg) :
    (s.clearWarm p).now = s.now ∧ (s.clearWarm p).free = s.free ∧ (s.clearWarm p).rtc = s.rtc ∧
    (s.clearWarm p).sil = s.sil ∧ (s.clearWarm p).pairs = s.pairs ∧ (s.clearWarm p).key = s.key ∧
    (s.clearWarm p).run = s.run ∧ (s.clearWarm p).pending = s.pending := by
  unfold State.clearWarm; split <;> simp

@[simp] theorem State.loadSolvers_keeps (s : State) :
    s.loadSolvers.now = s.now ∧ s.loadSolvers.free = s.free ∧ s.loadSolvers.rtc = s.rtc ∧ s.loadSolvers.sil = s.sil ∧
    s.loadSolvers.pairs = s.pairs ∧ s.loadSolvers.key = s.key ∧ s.loadSolvers.run = s.run ∧
    s.loadSolvers.pending = s.pending := by
  simp [State.loadSolvers, foldl_keeps_now, foldl_keeps_free, foldl_keeps_rtc, foldl_keeps_sil, foldl_keeps_pairs,
    foldl_keeps_key, foldl_keeps_run, foldl_keeps_pending]

@[simp] theorem State.loadLoops_keeps (s : State) :
    s.loadLoops.now = s.now ∧ s.loadLoops.free = s.free ∧ s.loadLoops.rtc = s.rtc ∧ s.loadLoops.sil = s.sil ∧
    s.loadLoops.pairs = s.pairs ∧ s.loadLoops.key = s.key ∧ s.loadLoops.run = s.run ∧ s.loadLoops.mem = s.mem ∧
    s.loadLoops.pending = s.pending := by
  simp [State.loadLoops]

@[simp] theorem State.loadPrograms_keeps (cfg : Bool) (s : State) :
    (s.loadPrograms cfg).now = s.now ∧ (s.loadPrograms cfg).free = s.free ∧ (s.loadPrograms cfg).rtc = s.rtc ∧
    (s.loadPrograms cfg).key = s.key ∧ (s.loadPrograms cfg).run = s.run ∧
    (s.loadPrograms cfg).pending = s.pending := by
  simp (disch := (intros; (repeat' split) <;> simp)) [State.loadPrograms, foldl_keeps_now, foldl_keeps_free,
    foldl_keeps_rtc, foldl_keeps_key, foldl_keeps_run, foldl_keeps_pending]

@[simp] theorem State.loadCan_keeps (s : State) :
    s.loadCan.now = s.now ∧ s.loadCan.free = s.free ∧ s.loadCan.rtc = s.rtc ∧ s.loadCan.sil = s.sil ∧
    s.loadCan.pairs = s.pairs ∧ s.loadCan.key = s.key ∧ s.loadCan.run = s.run ∧ s.loadCan.mem = s.mem ∧
    s.loadCan.pending = s.pending := by
  simp [State.loadCan]

@[simp] theorem State.loadDio_keeps (s : State) :
    s.loadDio.now = s.now ∧ s.loadDio.free = s.free ∧ s.loadDio.rtc = s.rtc ∧ s.loadDio.sil = s.sil ∧
    s.loadDio.pairs = s.pairs ∧ s.loadDio.key = s.key ∧ s.loadDio.run = s.run ∧ s.loadDio.mem = s.mem ∧
    s.loadDio.pending = s.pending := by
  simp [State.loadDio]

@[simp] theorem State.logPoints_keeps (old : MeterCfg) (s : State) :
    (s.logPoints old).now = s.now ∧ (s.logPoints old).free = s.free ∧ (s.logPoints old).rtc = s.rtc ∧
    (s.logPoints old).pairs = s.pairs ∧ (s.logPoints old).key = s.key ∧ (s.logPoints old).run = s.run ∧
    (s.logPoints old).mem = s.mem ∧ (s.logPoints old).pending = s.pending := by
  simp -implicitDefEqProofs (disch := (first | (intros; (try dsimp only); (repeat' split) <;> simp -implicitDefEqProofs; done) | fail)) [State.logPoints,
    foldl_keeps_now, foldl_keeps_free, foldl_keeps_rtc, foldl_keeps_pairs, foldl_keeps_key, foldl_keeps_run,
    foldl_keeps_mem, foldl_keeps_pending]

@[simp] theorem State.applyAccord_keeps (x : Slot) (cfg : Bool) (s : State) :
    (s.applyAccord x cfg).now = s.now ∧ (s.applyAccord x cfg).free = s.free ∧ (s.applyAccord x cfg).rtc = s.rtc ∧
    (s.applyAccord x cfg).key = s.key ∧ (s.applyAccord x cfg).pending = s.pending := by
  unfold State.applyAccord; dsimp only; (repeat' split) <;> simp

@[simp] theorem State.bootUse_keeps (x : Slot) (c : RunCfg) (fallback : Bool) (s : State) :
    (s.bootUse x c fallback).now = s.now ∧ (s.bootUse x c fallback).free = s.free ∧ (s.bootUse x c fallback).fs = s.fs ∧
    (s.bootUse x c fallback).rtc = s.rtc ∧ (s.bootUse x c fallback).pwr = s.pwr ∧
    (s.bootUse x c fallback).twin = s.twin ∧ (s.bootUse x c fallback).pairs = s.pairs ∧
    (s.bootUse x c fallback).fab = s.fab ∧ (s.bootUse x c fallback).se = s.se ∧
    (s.bootUse x c fallback).loops = s.loops ∧ (s.bootUse x c fallback).plan = s.plan ∧
    (s.bootUse x c fallback).prog = s.prog ∧ (s.bootUse x c fallback).mtr = s.mtr ∧
    (s.bootUse x c fallback).can = s.can ∧ (s.bootUse x c fallback).dio = s.dio ∧ (s.bootUse x c fallback).key = s.key ∧
    (s.bootUse x c fallback).net = s.net ∧ (s.bootUse x c fallback).mem = s.mem ∧
    (s.bootUse x c fallback).pending = s.pending := by
  simp [State.bootUse]

@[simp] theorem State.haltTasks_keeps (s : State) :
    s.haltTasks.now = s.now ∧ s.haltTasks.free = s.free ∧ s.haltTasks.sys = s.sys ∧ s.haltTasks.fs = s.fs ∧
    s.haltTasks.hub = s.hub ∧ s.haltTasks.rtc = s.rtc ∧ s.haltTasks.pwr = s.pwr ∧ s.haltTasks.sil = s.sil ∧
    s.haltTasks.twin = s.twin ∧ s.haltTasks.pairs = s.pairs ∧ s.haltTasks.fab = s.fab ∧ s.haltTasks.acc = s.acc ∧
    s.haltTasks.se = s.se ∧ s.haltTasks.loops = s.loops ∧ s.haltTasks.plan = s.plan ∧ s.haltTasks.mtr = s.mtr ∧
    s.haltTasks.can = s.can ∧ s.haltTasks.dio = s.dio ∧ s.haltTasks.key = s.key ∧ s.haltTasks.net = s.net ∧
    s.haltTasks.run = s.run ∧ s.haltTasks.mem = s.mem ∧ s.haltTasks.setBits = s.setBits ∧
    s.haltTasks.pending = s.pending := by
  simp [State.haltTasks]

@[simp] theorem State.finishCkpts_keeps (st : Nat) (s : State) :
    (s.finishCkpts st).now = s.now ∧ (s.finishCkpts st).free = s.free ∧ (s.finishCkpts st).sys = s.sys ∧
    (s.finishCkpts st).fs = s.fs ∧ (s.finishCkpts st).rtc = s.rtc ∧ (s.finishCkpts st).pwr = s.pwr ∧
    (s.finishCkpts st).twin = s.twin ∧ (s.finishCkpts st).fab = s.fab ∧ (s.finishCkpts st).acc = s.acc ∧
    (s.finishCkpts st).se = s.se ∧ (s.finishCkpts st).loops = s.loops ∧ (s.finishCkpts st).plan = s.plan ∧
    (s.finishCkpts st).mtr = s.mtr ∧ (s.finishCkpts st).can = s.can ∧ (s.finishCkpts st).dio = s.dio ∧
    (s.finishCkpts st).key = s.key ∧ (s.finishCkpts st).net = s.net ∧ (s.finishCkpts st).run = s.run ∧
    (s.finishCkpts st).pending = s.pending := by
  simp (disch := (intros; (repeat' split) <;> simp)) [State.finishCkpts, foldl_keeps_now, foldl_keeps_free,
    foldl_keeps_sys, foldl_keeps_fs, foldl_keeps_rtc, foldl_keeps_pwr, foldl_keeps_twin, foldl_keeps_fab,
    foldl_keeps_acc, foldl_keeps_se, foldl_keeps_loops, foldl_keeps_plan, foldl_keeps_mtr, foldl_keeps_can,
    foldl_keeps_dio, foldl_keeps_key, foldl_keeps_net, foldl_keeps_run, foldl_keeps_pending]

@[simp] theorem State.configureStop_keeps (s : State) :
    s.configureStop.key = s.key ∧ s.configureStop.run = s.run ∧ s.configureStop.pending = s.pending := by
  simp -implicitDefEqProofs (disch := (intros; (try dsimp only); (repeat' split) <;> simp -implicitDefEqProofs)) [State.configureStop,
    foldl_keeps_key, foldl_keeps_run, foldl_keeps_pending]

@[simp] theorem State.rebaseTx_keeps (s : State) :
    s.rebaseTx.now = s.now ∧ s.rebaseTx.free = s.free ∧ s.rebaseTx.sys = s.sys ∧ s.rebaseTx.fs = s.fs ∧
    s.rebaseTx.hub = s.hub ∧ s.rebaseTx.rtc = s.rtc ∧ s.rebaseTx.pwr = s.pwr ∧ s.rebaseTx.sil = s.sil ∧
    s.rebaseTx.twin = s.twin ∧ s.rebaseTx.pairs = s.pairs ∧ s.rebaseTx.fab = s.fab ∧ s.rebaseTx.acc = s.acc ∧
    s.rebaseTx.se = s.se ∧ s.rebaseTx.loops = s.loops ∧ s.rebaseTx.plan = s.plan ∧ s.rebaseTx.prog = s.prog ∧
    s.rebaseTx.mtr = s.mtr ∧ s.rebaseTx.dio = s.dio ∧ s.rebaseTx.key = s.key ∧ s.rebaseTx.net = s.net ∧
    s.rebaseTx.run = s.run ∧ s.rebaseTx.mem = s.mem ∧ s.rebaseTx.setBits = s.setBits ∧ s.rebaseTx.pending = s.pending := by
  simp -implicitDefEqProofs [State.rebaseTx]

@[simp] theorem State.configureEnter_keeps (x : Slot) (s : State) :
    (s.configureEnter x).now = s.now ∧ (s.configureEnter x).free = s.free ∧ (s.configureEnter x).rtc = s.rtc ∧
    (s.configureEnter x).pairs = s.pairs ∧ (s.configureEnter x).key = s.key ∧ (s.configureEnter x).run = s.run ∧
    (s.configureEnter x).mem = s.mem := by
  simp [State.configureEnter]

@[simp] theorem State.configureGo_keeps (x : Slot) (s : State) :
    (s.configureGo x).now = s.now ∧ (s.configureGo x).free = s.free ∧ (s.configureGo x).rtc = s.rtc ∧
    (s.configureGo x).key = s.key := by
  unfold State.configureGo; (repeat' split) <;> simp

@[simp] theorem State.enterStart_keeps (s : State) :
    s.enterStart.pairs = s.pairs ∧ s.enterStart.key = s.key ∧ s.enterStart.run = s.run ∧ s.enterStart.mem = s.mem ∧
    s.enterStart.pending = s.pending := by
  unfold State.enterStart; dsimp only; (repeat' split) <;> simp

@[simp] theorem State.drydownStop_keeps (s : State) :
    s.drydownStop.pairs = s.pairs ∧ s.drydownStop.mem = s.mem := by
  unfold State.drydownStop; (repeat' split) <;> simp

@[simp] theorem State.ddRecord_keeps (c : DdCause) (d : DrydownRun) (s : State) :
    (s.ddRecord c d).sil = s.sil ∧ (s.ddRecord c d).pairs = s.pairs ∧ (s.ddRecord c d).key = s.key ∧
    (s.ddRecord c d).run = s.run ∧ (s.ddRecord c d).mem = s.mem ∧ (s.ddRecord c d).pending = s.pending := by
  simp [State.ddRecord]

@[simp] theorem State.halt_keeps (cmd : Bool) (s : State) :
    (s.halt cmd).now = s.now ∧ (s.halt cmd).free = s.free ∧ (s.halt cmd).sys = s.sys ∧ (s.halt cmd).fs = s.fs ∧
    (s.halt cmd).hub = s.hub ∧ (s.halt cmd).rtc = s.rtc ∧ (s.halt cmd).sil = s.sil ∧ (s.halt cmd).twin = s.twin ∧
    (s.halt cmd).pairs = s.pairs ∧ (s.halt cmd).fab = s.fab ∧ (s.halt cmd).acc = s.acc ∧ (s.halt cmd).se = s.se ∧
    (s.halt cmd).loops = s.loops ∧ (s.halt cmd).plan = s.plan ∧ (s.halt cmd).prog = s.prog ∧ (s.halt cmd).mtr = s.mtr ∧
    (s.halt cmd).can = s.can ∧ (s.halt cmd).key = s.key ∧ (s.halt cmd).net = s.net ∧ (s.halt cmd).run = s.run ∧
    (s.halt cmd).mem = s.mem ∧ (s.halt cmd).setBits = s.setBits ∧ (s.halt cmd).pending = s.pending := by
  simp [State.halt]

@[simp] theorem State.unpower_keeps (s : State) :
    s.unpower.now = s.now ∧ s.unpower.sys = s.sys ∧ s.unpower.fs = s.fs ∧ s.unpower.hub = s.hub ∧
    s.unpower.rtc = s.rtc ∧ s.unpower.sil = s.sil ∧ s.unpower.pairs = s.pairs ∧ s.unpower.fab = s.fab ∧
    s.unpower.se = s.se ∧ s.unpower.loops = s.loops ∧ s.unpower.plan = s.plan ∧ s.unpower.prog = s.prog ∧
    s.unpower.mtr = s.mtr ∧ s.unpower.can = s.can ∧ s.unpower.net = s.net ∧ s.unpower.run = s.run ∧
    s.unpower.mem = s.mem ∧ s.unpower.setBits = s.setBits ∧ s.unpower.pending = s.pending := by
  simp [State.unpower]

@[simp] theorem State.pwrRaise_keeps (i : Nat) (s : State) :
    (s.pwrRaise i).now = s.now ∧ (s.pwrRaise i).free = s.free ∧ (s.pwrRaise i).sys = s.sys ∧ (s.pwrRaise i).fs = s.fs ∧
    (s.pwrRaise i).rtc = s.rtc ∧ (s.pwrRaise i).pwr = s.pwr ∧ (s.pwrRaise i).sil = s.sil ∧
    (s.pwrRaise i).twin = s.twin ∧ (s.pwrRaise i).pairs = s.pairs ∧ (s.pwrRaise i).fab = s.fab ∧
    (s.pwrRaise i).acc = s.acc ∧ (s.pwrRaise i).se = s.se ∧ (s.pwrRaise i).loops = s.loops ∧
    (s.pwrRaise i).plan = s.plan ∧ (s.pwrRaise i).prog = s.prog ∧ (s.pwrRaise i).mtr = s.mtr ∧
    (s.pwrRaise i).can = s.can ∧ (s.pwrRaise i).dio = s.dio ∧ (s.pwrRaise i).key = s.key ∧ (s.pwrRaise i).net = s.net ∧
    (s.pwrRaise i).run = s.run ∧ (s.pwrRaise i).mem = s.mem ∧ (s.pwrRaise i).setBits = s.setBits ∧
    (s.pwrRaise i).pending = s.pending := by
  simp [State.pwrRaise]

@[simp] theorem State.vinEvent_keeps (b : Bool) (s : State) :
    (s.vinEvent b).now = s.now ∧ (s.vinEvent b).free = s.free ∧ (s.vinEvent b).sys = s.sys ∧ (s.vinEvent b).fs = s.fs ∧
    (s.vinEvent b).rtc = s.rtc ∧ (s.vinEvent b).pwr = s.pwr ∧ (s.vinEvent b).twin = s.twin ∧
    (s.vinEvent b).pairs = s.pairs ∧ (s.vinEvent b).fab = s.fab ∧ (s.vinEvent b).acc = s.acc ∧
    (s.vinEvent b).se = s.se ∧ (s.vinEvent b).loops = s.loops ∧ (s.vinEvent b).plan = s.plan ∧
    (s.vinEvent b).prog = s.prog ∧ (s.vinEvent b).mtr = s.mtr ∧ (s.vinEvent b).can = s.can ∧
    (s.vinEvent b).dio = s.dio ∧ (s.vinEvent b).key = s.key ∧ (s.vinEvent b).net = s.net ∧ (s.vinEvent b).run = s.run ∧
    (s.vinEvent b).mem = s.mem ∧ (s.vinEvent b).pending = s.pending := by
  unfold State.vinEvent; split <;> simp

@[simp] theorem State.wdtKick_keeps (w : Initiator) (v : Nat) (s : State) :
    (s.wdtKick w v).now = s.now ∧ (s.wdtKick w v).free = s.free ∧ (s.wdtKick w v).sys = s.sys ∧
    (s.wdtKick w v).fs = s.fs ∧ (s.wdtKick w v).rtc = s.rtc ∧ (s.wdtKick w v).twin = s.twin ∧
    (s.wdtKick w v).pairs = s.pairs ∧ (s.wdtKick w v).fab = s.fab ∧ (s.wdtKick w v).acc = s.acc ∧
    (s.wdtKick w v).se = s.se ∧ (s.wdtKick w v).loops = s.loops ∧ (s.wdtKick w v).plan = s.plan ∧
    (s.wdtKick w v).prog = s.prog ∧ (s.wdtKick w v).mtr = s.mtr ∧ (s.wdtKick w v).can = s.can ∧
    (s.wdtKick w v).dio = s.dio ∧ (s.wdtKick w v).key = s.key ∧ (s.wdtKick w v).net = s.net ∧
    (s.wdtKick w v).run = s.run ∧ (s.wdtKick w v).mem = s.mem ∧ (s.wdtKick w v).pending = s.pending := by
  unfold State.wdtKick State.guardWrite; dsimp only; (repeat' split) <;> simp

@[simp] theorem State.wdtPause_keeps (s : State) :
    s.wdtPause.sil = s.sil ∧ s.wdtPause.pairs = s.pairs ∧ s.wdtPause.key = s.key ∧ s.wdtPause.run = s.run ∧
    s.wdtPause.mem = s.mem ∧ s.wdtPause.pending = s.pending := by
  unfold State.wdtPause; dsimp only; (repeat' split) <;> simp

@[simp] theorem State.modeReq_keeps (w : Initiator) (v : Nat) (s : State) :
    (s.modeReq w v).now = s.now ∧ (s.modeReq w v).free = s.free ∧ (s.modeReq w v).fs = s.fs ∧
    (s.modeReq w v).rtc = s.rtc ∧ (s.modeReq w v).pwr = s.pwr ∧ (s.modeReq w v).twin = s.twin ∧
    (s.modeReq w v).pairs = s.pairs ∧ (s.modeReq w v).fab = s.fab ∧ (s.modeReq w v).acc = s.acc ∧
    (s.modeReq w v).se = s.se ∧ (s.modeReq w v).loops = s.loops ∧ (s.modeReq w v).plan = s.plan ∧
    (s.modeReq w v).prog = s.prog ∧ (s.modeReq w v).mtr = s.mtr ∧ (s.modeReq w v).can = s.can ∧
    (s.modeReq w v).dio = s.dio ∧ (s.modeReq w v).net = s.net ∧ (s.modeReq w v).run = s.run ∧
    (s.modeReq w v).mem = s.mem ∧ (s.modeReq w v).pending = s.pending := by
  unfold State.modeReq State.guardWrite; (repeat' split) <;> simp

@[simp] theorem State.twinFlag_keeps (gap : Bool) (s : State) :
    (s.twinFlag gap).now = s.now ∧ (s.twinFlag gap).free = s.free ∧ (s.twinFlag gap).sys = s.sys ∧
    (s.twinFlag gap).fs = s.fs ∧ (s.twinFlag gap).rtc = s.rtc ∧ (s.twinFlag gap).pwr = s.pwr ∧
    (s.twinFlag gap).sil = s.sil ∧ (s.twinFlag gap).pairs = s.pairs ∧ (s.twinFlag gap).fab = s.fab ∧
    (s.twinFlag gap).acc = s.acc ∧ (s.twinFlag gap).se = s.se ∧ (s.twinFlag gap).loops = s.loops ∧
    (s.twinFlag gap).plan = s.plan ∧ (s.twinFlag gap).prog = s.prog ∧ (s.twinFlag gap).mtr = s.mtr ∧
    (s.twinFlag gap).can = s.can ∧ (s.twinFlag gap).dio = s.dio ∧ (s.twinFlag gap).key = s.key ∧
    (s.twinFlag gap).net = s.net ∧ (s.twinFlag gap).run = s.run ∧ (s.twinFlag gap).mem = s.mem ∧
    (s.twinFlag gap).pending = s.pending := by
  unfold State.twinFlag; dsimp only; (repeat' split) <;> simp

@[simp] theorem State.twinGap_keeps (s : State) :
    s.twinGap.now = s.now ∧ s.twinGap.free = s.free ∧ s.twinGap.sys = s.sys ∧ s.twinGap.fs = s.fs ∧
    s.twinGap.rtc = s.rtc ∧ s.twinGap.pwr = s.pwr ∧ s.twinGap.sil = s.sil ∧ s.twinGap.pairs = s.pairs ∧
    s.twinGap.fab = s.fab ∧ s.twinGap.acc = s.acc ∧ s.twinGap.se = s.se ∧ s.twinGap.loops = s.loops ∧
    s.twinGap.prog = s.prog ∧ s.twinGap.mtr = s.mtr ∧ s.twinGap.can = s.can ∧ s.twinGap.dio = s.dio ∧
    s.twinGap.key = s.key ∧ s.twinGap.net = s.net ∧ s.twinGap.run = s.run ∧ s.twinGap.mem = s.mem ∧
    s.twinGap.pending = s.pending := by
  unfold State.twinGap; dsimp only; (repeat' split) <;> simp

@[simp] theorem State.twinSeq_keeps (seq : Nat) (s : State) :
    (s.twinSeq seq).sil = s.sil ∧ (s.twinSeq seq).pairs = s.pairs ∧ (s.twinSeq seq).key = s.key ∧
    (s.twinSeq seq).run = s.run ∧ (s.twinSeq seq).mem = s.mem ∧ (s.twinSeq seq).pending = s.pending := by
  simp only [State.twinSeq]; (repeat' split) <;> simp

@[simp] theorem State.backOff_keeps (s : State) :
    s.backOff.sil = s.sil ∧ s.backOff.pairs = s.pairs ∧ s.backOff.key = s.key ∧ s.backOff.run = s.run ∧
    s.backOff.mem = s.mem ∧ s.backOff.pending = s.pending := by
  unfold State.backOff; split <;> simp

@[simp] theorem State.twinBeat_keeps (s : State) :
    s.twinBeat.now = s.now ∧ s.twinBeat.free = s.free ∧ s.twinBeat.sys = s.sys ∧ s.twinBeat.fs = s.fs ∧
    s.twinBeat.rtc = s.rtc ∧ s.twinBeat.pwr = s.pwr ∧ s.twinBeat.sil = s.sil ∧ s.twinBeat.pairs = s.pairs ∧
    s.twinBeat.fab = s.fab ∧ s.twinBeat.acc = s.acc ∧ s.twinBeat.se = s.se ∧ s.twinBeat.plan = s.plan ∧
    s.twinBeat.key = s.key ∧ s.twinBeat.run = s.run ∧ s.twinBeat.mem = s.mem ∧ s.twinBeat.pending = s.pending := by
  unfold State.twinBeat; split <;> simp

@[simp] theorem State.claimRise_keeps (s : State) :
    s.claimRise.sil = s.sil ∧ s.claimRise.pairs = s.pairs ∧ s.claimRise.key = s.key ∧ s.claimRise.run = s.run ∧
    s.claimRise.mem = s.mem ∧ s.claimRise.pending = s.pending := by
  unfold State.claimRise; dsimp only; (repeat' split) <;> simp

@[simp] theorem State.openGate_keeps (s : State) :
    s.openGate.pairs = s.pairs ∧ s.openGate.key = s.key ∧ s.openGate.run = s.run ∧ s.openGate.mem = s.mem ∧
    s.openGate.pending = s.pending := by
  unfold State.openGate; dsimp only; (repeat' split) <;> simp

@[simp] theorem State.applyCommit_keeps (p : Fin 4) (c : MirrorCommit) (whole : Bool) (s : State) :
    (s.applyCommit p c whole).sil = s.sil ∧ (s.applyCommit p c whole).key = s.key ∧
    (s.applyCommit p c whole).run = s.run ∧ (s.applyCommit p c whole).pending = s.pending := by
  unfold State.applyCommit; simp (disch := (intros; simp -implicitDefEqProofs)) [foldl_keeps_sil, foldl_keeps_key,
    foldl_keeps_run, foldl_keeps_pending]

@[simp] theorem State.deltaIn_keeps (p : Fin 4) (f : TwinIn) (s : State) :
    (s.deltaIn p f).sil = s.sil ∧ (s.deltaIn p f).key = s.key ∧ (s.deltaIn p f).run = s.run ∧
    (s.deltaIn p f).pending = s.pending := by
  simp only [State.deltaIn]; (repeat' split) <;> simp

@[simp] theorem State.sendAreas_keeps (s : State) :
    s.sendAreas.sil = s.sil ∧ s.sendAreas.pairs = s.pairs ∧ s.sendAreas.key = s.key ∧ s.sendAreas.run = s.run ∧
    s.sendAreas.mem = s.mem ∧ s.sendAreas.pending = s.pending := by
  simp
    (disch := (first
      | (intros; (try dsimp only); (repeat' split) <;>
          simp -implicitDefEqProofs
            (disch := (first | (intros; (try dsimp only); (repeat' split) <;> simp -implicitDefEqProofs; done) | fail))
            [foldl_keeps_sil, foldl_keeps_pairs, foldl_keeps_key, foldl_keeps_run, foldl_keeps_mem,
              foldl_keeps_pending]; done)
      | fail))
    [State.sendAreas, foldl_keeps_sil, foldl_keeps_pairs, foldl_keeps_key, foldl_keeps_run, foldl_keeps_mem,
      foldl_keeps_pending]

@[simp] theorem State.twinBaseOut_keeps (s : State) :
    s.twinBaseOut.sil = s.sil ∧ s.twinBaseOut.pairs = s.pairs ∧ s.twinBaseOut.key = s.key ∧ s.twinBaseOut.run = s.run ∧
    s.twinBaseOut.mem = s.mem ∧ s.twinBaseOut.pending = s.pending := by
  unfold State.twinBaseOut; (repeat' split) <;> simp

@[simp] theorem State.twinCheck_keeps (s : State) :
    s.twinCheck.sil = s.sil ∧ s.twinCheck.pairs = s.pairs ∧ s.twinCheck.key = s.key ∧ s.twinCheck.run = s.run ∧
    s.twinCheck.mem = s.mem ∧ s.twinCheck.pending = s.pending := by
  unfold State.twinCheck; dsimp only; (repeat' split) <;> simp

@[simp] theorem State.twinHeart_keeps (s : State) :
    s.twinHeart.sil = s.sil ∧ s.twinHeart.pairs = s.pairs ∧ s.twinHeart.key = s.key ∧ s.twinHeart.run = s.run ∧
    s.twinHeart.mem = s.mem ∧ s.twinHeart.pending = s.pending := by
  unfold State.twinHeart; dsimp only; (repeat' split) <;> simp

@[simp] theorem State.twinCtrl_keeps (w : Initiator) (v : Nat) (s : State) :
    (s.twinCtrl w v).now = s.now ∧ (s.twinCtrl w v).free = s.free ∧ (s.twinCtrl w v).sys = s.sys ∧
    (s.twinCtrl w v).fs = s.fs ∧ (s.twinCtrl w v).rtc = s.rtc ∧ (s.twinCtrl w v).pwr = s.pwr ∧
    (s.twinCtrl w v).pairs = s.pairs ∧ (s.twinCtrl w v).fab = s.fab ∧ (s.twinCtrl w v).acc = s.acc ∧
    (s.twinCtrl w v).se = s.se ∧ (s.twinCtrl w v).loops = s.loops ∧ (s.twinCtrl w v).plan = s.plan ∧
    (s.twinCtrl w v).prog = s.prog ∧ (s.twinCtrl w v).mtr = s.mtr ∧ (s.twinCtrl w v).can = s.can ∧
    (s.twinCtrl w v).dio = s.dio ∧ (s.twinCtrl w v).key = s.key ∧ (s.twinCtrl w v).net = s.net ∧
    (s.twinCtrl w v).run = s.run ∧ (s.twinCtrl w v).mem = s.mem ∧ (s.twinCtrl w v).pending = s.pending := by
  unfold State.twinCtrl State.guardWrite; dsimp only; (repeat' split) <;> simp

@[simp] theorem State.takeCan_keeps (s : State) :
    s.takeCan.now = s.now ∧ s.takeCan.free = s.free ∧ s.takeCan.sys = s.sys ∧ s.takeCan.fs = s.fs ∧
    s.takeCan.rtc = s.rtc ∧ s.takeCan.pwr = s.pwr ∧ s.takeCan.sil = s.sil ∧ s.takeCan.pairs = s.pairs ∧
    s.takeCan.fab = s.fab ∧ s.takeCan.acc = s.acc ∧ s.takeCan.se = s.se ∧ s.takeCan.plan = s.plan ∧
    s.takeCan.key = s.key ∧ s.takeCan.run = s.run ∧ s.takeCan.mem = s.mem ∧ s.takeCan.pending = s.pending := by
  unfold State.takeCan; split <;> simp

@[simp] theorem State.takeLoops_keeps (s : State) :
    s.takeLoops.sil = s.sil ∧ s.takeLoops.pairs = s.pairs ∧ s.takeLoops.key = s.key ∧ s.takeLoops.run = s.run ∧
    s.takeLoops.mem = s.mem ∧ s.takeLoops.pending = s.pending := by
  unfold State.takeLoops; (repeat' split) <;> simp
    (disch := (first
      | (intros; (try dsimp only); (repeat' split) <;>
          simp -implicitDefEqProofs
            (disch := (first | (intros; (try dsimp only); (repeat' split) <;> simp -implicitDefEqProofs; done) | fail))
            [foldl_keeps_sil, foldl_keeps_pairs, foldl_keeps_key, foldl_keeps_run, foldl_keeps_mem,
              foldl_keeps_pending]; done)
      | fail))
    [foldl_keeps_sil, foldl_keeps_pairs, foldl_keeps_key, foldl_keeps_run, foldl_keeps_mem, foldl_keeps_pending]

@[simp] theorem State.takePart_keeps (s : State) (p : Fin 4) :
    (s.takePart p).key = s.key ∧ (s.takePart p).run = s.run ∧ (s.takePart p).pending = s.pending := by
  unfold State.takePart; (repeat' split) <;> simp

@[simp] theorem State.takePlan_keeps (s : State) :
    s.takePlan.sil = s.sil ∧ s.takePlan.pairs = s.pairs ∧ s.takePlan.key = s.key ∧ s.takePlan.run = s.run ∧
    s.takePlan.mem = s.mem ∧ s.takePlan.pending = s.pending := by
  unfold State.takePlan; split <;> simp

@[simp] theorem State.twinWrite_keeps (s : State) (w : Initiator) (ofs v : Nat) :
    (s.twinWrite w ofs v).pairs = s.pairs ∧ (s.twinWrite w ofs v).key = s.key ∧ (s.twinWrite w ofs v).run = s.run ∧
    (s.twinWrite w ofs v).mem = s.mem ∧ (s.twinWrite w ofs v).pending = s.pending := by
  unfold State.twinWrite State.guardWrite; (repeat' split) <;> simp

@[simp] theorem State.sysWrite_keeps (s : State) (w : Initiator) (ofs v : Nat) :
    (s.sysWrite w ofs v).pairs = s.pairs ∧ (s.sysWrite w ofs v).run = s.run ∧ (s.sysWrite w ofs v).mem = s.mem := by
  unfold State.sysWrite; (repeat' split) <;> simp

@[simp] theorem State.periTouch_keeps (s : State) (w : Initiator) (addr : Nat) :
    (s.periTouch w addr).sil = s.sil ∧ (s.periTouch w addr).pairs = s.pairs ∧ (s.periTouch w addr).key = s.key ∧
    (s.periTouch w addr).run = s.run ∧ (s.periTouch w addr).mem = s.mem ∧
    (s.periTouch w addr).pending = s.pending := by
  unfold State.periTouch; dsimp only; (repeat' split) <;> simp

@[simp] theorem State.dtcmStore_keeps (p : Fin 9) (o : Nat) (bs : List Byte) (s : State) :
    (s.dtcmStore p o bs).now = s.now ∧ (s.dtcmStore p o bs).free = s.free ∧ (s.dtcmStore p o bs).sys = s.sys ∧
    (s.dtcmStore p o bs).fs = s.fs ∧ (s.dtcmStore p o bs).hub = s.hub ∧ (s.dtcmStore p o bs).rtc = s.rtc ∧
    (s.dtcmStore p o bs).pwr = s.pwr ∧ (s.dtcmStore p o bs).sil = s.sil ∧ (s.dtcmStore p o bs).twin = s.twin ∧
    (s.dtcmStore p o bs).fab = s.fab ∧ (s.dtcmStore p o bs).acc = s.acc ∧ (s.dtcmStore p o bs).se = s.se ∧
    (s.dtcmStore p o bs).loops = s.loops ∧ (s.dtcmStore p o bs).plan = s.plan ∧ (s.dtcmStore p o bs).prog = s.prog ∧
    (s.dtcmStore p o bs).mtr = s.mtr ∧ (s.dtcmStore p o bs).can = s.can ∧ (s.dtcmStore p o bs).dio = s.dio ∧
    (s.dtcmStore p o bs).key = s.key ∧ (s.dtcmStore p o bs).net = s.net ∧ (s.dtcmStore p o bs).run = s.run ∧
    (s.dtcmStore p o bs).mem = s.mem ∧ (s.dtcmStore p o bs).setBits = s.setBits ∧
    (s.dtcmStore p o bs).pending = s.pending := by
  simp [State.dtcmStore]

@[simp] theorem State.fabError_keeps (w : Initiator) (q : FabReq) (cause pos : Nat) (s : State) :
    (s.fabError w q cause pos).now = s.now ∧ (s.fabError w q cause pos).free = s.free ∧
    (s.fabError w q cause pos).sys = s.sys ∧ (s.fabError w q cause pos).fs = s.fs ∧
    (s.fabError w q cause pos).rtc = s.rtc ∧ (s.fabError w q cause pos).pwr = s.pwr ∧
    (s.fabError w q cause pos).twin = s.twin ∧ (s.fabError w q cause pos).pairs = s.pairs ∧
    (s.fabError w q cause pos).acc = s.acc ∧ (s.fabError w q cause pos).se = s.se ∧
    (s.fabError w q cause pos).loops = s.loops ∧ (s.fabError w q cause pos).plan = s.plan ∧
    (s.fabError w q cause pos).prog = s.prog ∧ (s.fabError w q cause pos).mtr = s.mtr ∧
    (s.fabError w q cause pos).can = s.can ∧ (s.fabError w q cause pos).dio = s.dio ∧
    (s.fabError w q cause pos).key = s.key ∧ (s.fabError w q cause pos).net = s.net ∧
    (s.fabError w q cause pos).run = s.run ∧ (s.fabError w q cause pos).mem = s.mem ∧
    (s.fabError w q cause pos).pending = s.pending := by
  simp [State.fabError]

@[simp] theorem State.fabStore_keeps (w : Initiator) (a : Nat) (bs : List Byte) (s : State) :
    (s.fabStore w a bs).now = s.now ∧ (s.fabStore w a bs).free = s.free ∧ (s.fabStore w a bs).sys = s.sys ∧
    (s.fabStore w a bs).fs = s.fs ∧ (s.fabStore w a bs).hub = s.hub ∧ (s.fabStore w a bs).rtc = s.rtc ∧
    (s.fabStore w a bs).pwr = s.pwr ∧ (s.fabStore w a bs).sil = s.sil ∧ (s.fabStore w a bs).twin = s.twin ∧
    (s.fabStore w a bs).pairs = s.pairs ∧ (s.fabStore w a bs).acc = s.acc ∧ (s.fabStore w a bs).loops = s.loops ∧
    (s.fabStore w a bs).plan = s.plan ∧ (s.fabStore w a bs).prog = s.prog ∧ (s.fabStore w a bs).mtr = s.mtr ∧
    (s.fabStore w a bs).can = s.can ∧ (s.fabStore w a bs).dio = s.dio ∧ (s.fabStore w a bs).key = s.key ∧
    (s.fabStore w a bs).net = s.net ∧ (s.fabStore w a bs).run = s.run ∧ (s.fabStore w a bs).setBits = s.setBits ∧
    (s.fabStore w a bs).pending = s.pending := by
  simp [State.fabStore]

@[simp] theorem State.fabEcc_keeps (q : FabReq) (s : State) :
    (s.fabEcc q).sil = s.sil ∧ (s.fabEcc q).pairs = s.pairs ∧ (s.fabEcc q).key = s.key ∧ (s.fabEcc q).run = s.run ∧
    (s.fabEcc q).mem = s.mem ∧ (s.fabEcc q).pending = s.pending := by
  unfold State.fabEcc; (repeat' split) <;> simp

@[simp] theorem State.retire_keeps (p : Fin 9) (pc : DWord) (cyc : Nat) (f : Core → Core) (s : State) :
    (s.retire p pc cyc f).now = s.now ∧ (s.retire p pc cyc f).free = s.free ∧ (s.retire p pc cyc f).sys = s.sys ∧
    (s.retire p pc cyc f).fs = s.fs ∧ (s.retire p pc cyc f).hub = s.hub ∧ (s.retire p pc cyc f).rtc = s.rtc ∧
    (s.retire p pc cyc f).pwr = s.pwr ∧ (s.retire p pc cyc f).sil = s.sil ∧ (s.retire p pc cyc f).twin = s.twin ∧
    (s.retire p pc cyc f).fab = s.fab ∧ (s.retire p pc cyc f).acc = s.acc ∧ (s.retire p pc cyc f).se = s.se ∧
    (s.retire p pc cyc f).loops = s.loops ∧ (s.retire p pc cyc f).plan = s.plan ∧ (s.retire p pc cyc f).prog = s.prog ∧
    (s.retire p pc cyc f).mtr = s.mtr ∧ (s.retire p pc cyc f).can = s.can ∧ (s.retire p pc cyc f).dio = s.dio ∧
    (s.retire p pc cyc f).key = s.key ∧ (s.retire p pc cyc f).net = s.net ∧ (s.retire p pc cyc f).run = s.run ∧
    (s.retire p pc cyc f).mem = s.mem ∧ (s.retire p pc cyc f).setBits = s.setBits ∧
    (s.retire p pc cyc f).pending = s.pending := by
  simp [State.retire]

@[simp] theorem State.except_keeps (p : Fin 9) (code : Nat) (tval : DWord) (s : State) :
    (s.except p code tval).now = s.now ∧ (s.except p code tval).free = s.free ∧ (s.except p code tval).sys = s.sys ∧
    (s.except p code tval).fs = s.fs ∧ (s.except p code tval).hub = s.hub ∧ (s.except p code tval).rtc = s.rtc ∧
    (s.except p code tval).pwr = s.pwr ∧ (s.except p code tval).sil = s.sil ∧ (s.except p code tval).twin = s.twin ∧
    (s.except p code tval).fab = s.fab ∧ (s.except p code tval).acc = s.acc ∧ (s.except p code tval).se = s.se ∧
    (s.except p code tval).loops = s.loops ∧ (s.except p code tval).plan = s.plan ∧
    (s.except p code tval).prog = s.prog ∧ (s.except p code tval).mtr = s.mtr ∧ (s.except p code tval).can = s.can ∧
    (s.except p code tval).dio = s.dio ∧ (s.except p code tval).key = s.key ∧ (s.except p code tval).net = s.net ∧
    (s.except p code tval).run = s.run ∧ (s.except p code tval).mem = s.mem ∧
    (s.except p code tval).setBits = s.setBits ∧ (s.except p code tval).pending = s.pending := by
  unfold State.except; (repeat' split) <;> simp

@[simp] theorem State.tcmEcc_keeps (e : Ecc) (s : State) :
    (s.tcmEcc e).now = s.now ∧ (s.tcmEcc e).free = s.free ∧ (s.tcmEcc e).sys = s.sys ∧ (s.tcmEcc e).fs = s.fs ∧
    (s.tcmEcc e).rtc = s.rtc ∧ (s.tcmEcc e).pwr = s.pwr ∧ (s.tcmEcc e).sil = s.sil ∧ (s.tcmEcc e).twin = s.twin ∧
    (s.tcmEcc e).pairs = s.pairs ∧ (s.tcmEcc e).acc = s.acc ∧ (s.tcmEcc e).se = s.se ∧ (s.tcmEcc e).loops = s.loops ∧
    (s.tcmEcc e).plan = s.plan ∧ (s.tcmEcc e).prog = s.prog ∧ (s.tcmEcc e).mtr = s.mtr ∧ (s.tcmEcc e).can = s.can ∧
    (s.tcmEcc e).dio = s.dio ∧ (s.tcmEcc e).key = s.key ∧ (s.tcmEcc e).net = s.net ∧ (s.tcmEcc e).run = s.run ∧
    (s.tcmEcc e).mem = s.mem ∧ (s.tcmEcc e).setBits = s.setBits ∧ (s.tcmEcc e).pending = s.pending := by
  unfold State.tcmEcc; split <;> simp

@[simp] theorem State.csrWrite_keeps (p : Fin 9) (n : Nat) (v : DWord) (s : State) :
    (s.csrWrite p n v).now = s.now ∧ (s.csrWrite p n v).free = s.free ∧ (s.csrWrite p n v).sys = s.sys ∧
    (s.csrWrite p n v).fs = s.fs ∧ (s.csrWrite p n v).rtc = s.rtc ∧ (s.csrWrite p n v).pwr = s.pwr ∧
    (s.csrWrite p n v).twin = s.twin ∧ (s.csrWrite p n v).fab = s.fab ∧ (s.csrWrite p n v).acc = s.acc ∧
    (s.csrWrite p n v).se = s.se ∧ (s.csrWrite p n v).loops = s.loops ∧ (s.csrWrite p n v).plan = s.plan ∧
    (s.csrWrite p n v).mtr = s.mtr ∧ (s.csrWrite p n v).can = s.can ∧ (s.csrWrite p n v).dio = s.dio ∧
    (s.csrWrite p n v).key = s.key ∧ (s.csrWrite p n v).net = s.net ∧ (s.csrWrite p n v).run = s.run ∧
    (s.csrWrite p n v).pending = s.pending := by
  unfold State.csrWrite; (repeat' split) <;> simp

@[simp] theorem State.csrInstr_keeps (p : Fin 9) (next : DWord) (op : CsrOp) (rd : Fin 32) (n : Nat) (x : DWord) (write : Bool) (s : State) :
    (s.csrInstr p next op rd n x write).now = s.now ∧ (s.csrInstr p next op rd n x write).free = s.free ∧
    (s.csrInstr p next op rd n x write).sys = s.sys ∧ (s.csrInstr p next op rd n x write).fs = s.fs ∧
    (s.csrInstr p next op rd n x write).rtc = s.rtc ∧ (s.csrInstr p next op rd n x write).pwr = s.pwr ∧
    (s.csrInstr p next op rd n x write).twin = s.twin ∧ (s.csrInstr p next op rd n x write).fab = s.fab ∧
    (s.csrInstr p next op rd n x write).acc = s.acc ∧ (s.csrInstr p next op rd n x write).se = s.se ∧
    (s.csrInstr p next op rd n x write).loops = s.loops ∧ (s.csrInstr p next op rd n x write).plan = s.plan ∧
    (s.csrInstr p next op rd n x write).mtr = s.mtr ∧ (s.csrInstr p next op rd n x write).can = s.can ∧
    (s.csrInstr p next op rd n x write).dio = s.dio ∧ (s.csrInstr p next op rd n x write).key = s.key ∧
    (s.csrInstr p next op rd n x write).net = s.net ∧ (s.csrInstr p next op rd n x write).run = s.run ∧
    (s.csrInstr p next op rd n x write).pending = s.pending := by
  unfold State.csrInstr; dsimp only; (repeat' split) <;> simp

@[simp] theorem State.retireFree_keeps (p : Fin 9) (pc : DWord) (f : Core → Core) (s : State) :
    (s.retireFree p pc f).now = s.now ∧ (s.retireFree p pc f).sys = s.sys ∧ (s.retireFree p pc f).fs = s.fs ∧
    (s.retireFree p pc f).hub = s.hub ∧ (s.retireFree p pc f).rtc = s.rtc ∧ (s.retireFree p pc f).pwr = s.pwr ∧
    (s.retireFree p pc f).sil = s.sil ∧ (s.retireFree p pc f).twin = s.twin ∧ (s.retireFree p pc f).fab = s.fab ∧
    (s.retireFree p pc f).acc = s.acc ∧ (s.retireFree p pc f).se = s.se ∧ (s.retireFree p pc f).loops = s.loops ∧
    (s.retireFree p pc f).plan = s.plan ∧ (s.retireFree p pc f).prog = s.prog ∧ (s.retireFree p pc f).mtr = s.mtr ∧
    (s.retireFree p pc f).can = s.can ∧ (s.retireFree p pc f).dio = s.dio ∧ (s.retireFree p pc f).key = s.key ∧
    (s.retireFree p pc f).net = s.net ∧ (s.retireFree p pc f).run = s.run ∧ (s.retireFree p pc f).mem = s.mem ∧
    (s.retireFree p pc f).setBits = s.setBits ∧ (s.retireFree p pc f).pending = s.pending := by
  unfold State.retireFree; (repeat' split) <;> simp

@[simp] theorem State.fence_keeps (p : Fin 9) (pc : DWord) (s : State) :
    (s.fence p pc).sys = s.sys ∧ (s.fence p pc).fs = s.fs ∧ (s.fence p pc).hub = s.hub ∧ (s.fence p pc).rtc = s.rtc ∧
    (s.fence p pc).pwr = s.pwr ∧ (s.fence p pc).sil = s.sil ∧ (s.fence p pc).twin = s.twin ∧
    (s.fence p pc).fab = s.fab ∧ (s.fence p pc).acc = s.acc ∧ (s.fence p pc).se = s.se ∧
    (s.fence p pc).loops = s.loops ∧ (s.fence p pc).plan = s.plan ∧ (s.fence p pc).prog = s.prog ∧
    (s.fence p pc).mtr = s.mtr ∧ (s.fence p pc).can = s.can ∧ (s.fence p pc).dio = s.dio ∧ (s.fence p pc).key = s.key ∧
    (s.fence p pc).net = s.net ∧ (s.fence p pc).run = s.run ∧ (s.fence p pc).mem = s.mem ∧
    (s.fence p pc).setBits = s.setBits ∧ (s.fence p pc).pending = s.pending := by
  simp [State.fence]

@[simp] theorem State.resumeWork_keeps (r : Fin 7) (s : State) :
    (s.resumeWork r).sys = s.sys ∧ (s.resumeWork r).fs = s.fs ∧ (s.resumeWork r).rtc = s.rtc ∧
    (s.resumeWork r).pwr = s.pwr ∧ (s.resumeWork r).twin = s.twin ∧ (s.resumeWork r).pairs = s.pairs ∧
    (s.resumeWork r).acc = s.acc ∧ (s.resumeWork r).loops = s.loops ∧ (s.resumeWork r).mtr = s.mtr ∧
    (s.resumeWork r).can = s.can ∧ (s.resumeWork r).dio = s.dio ∧ (s.resumeWork r).pending = s.pending := by
  unfold State.resumeWork; (repeat' split) <;> simp

@[simp] theorem State.mbSweep_keeps (s : State) :
    s.mbSweep.now = s.now ∧ s.mbSweep.free = s.free ∧ s.mbSweep.sys = s.sys ∧ s.mbSweep.fs = s.fs ∧
    s.mbSweep.hub = s.hub ∧ s.mbSweep.rtc = s.rtc ∧ s.mbSweep.pwr = s.pwr ∧ s.mbSweep.sil = s.sil ∧
    s.mbSweep.twin = s.twin ∧ s.mbSweep.pairs = s.pairs ∧ s.mbSweep.fab = s.fab ∧ s.mbSweep.acc = s.acc ∧
    s.mbSweep.se = s.se ∧ s.mbSweep.loops = s.loops ∧ s.mbSweep.plan = s.plan ∧ s.mbSweep.prog = s.prog ∧
    s.mbSweep.mtr = s.mtr ∧ s.mbSweep.can = s.can ∧ s.mbSweep.dio = s.dio ∧ s.mbSweep.key = s.key ∧
    s.mbSweep.run = s.run ∧ s.mbSweep.mem = s.mem ∧ s.mbSweep.setBits = s.setBits ∧
    s.mbSweep.pending = s.pending := by
  simp [State.mbSweep]

@[simp] theorem State.svcClear_keeps (x : Fin 2) (s : State) :
    (s.svcClear x).now = s.now ∧ (s.svcClear x).free = s.free ∧ (s.svcClear x).sys = s.sys ∧ (s.svcClear x).fs = s.fs ∧
    (s.svcClear x).rtc = s.rtc ∧ (s.svcClear x).pwr = s.pwr ∧ (s.svcClear x).twin = s.twin ∧
    (s.svcClear x).pairs = s.pairs ∧ (s.svcClear x).fab = s.fab ∧ (s.svcClear x).acc = s.acc ∧
    (s.svcClear x).se = s.se ∧ (s.svcClear x).loops = s.loops ∧ (s.svcClear x).plan = s.plan ∧
    (s.svcClear x).prog = s.prog ∧ (s.svcClear x).mtr = s.mtr ∧ (s.svcClear x).can = s.can ∧
    (s.svcClear x).dio = s.dio ∧ (s.svcClear x).run = s.run ∧ (s.svcClear x).mem = s.mem ∧
    (s.svcClear x).pending = s.pending := by
  simp [State.svcClear]

@[simp] theorem State.modSvc_keeps (x : Fin 2) (f : SvcSess → Option SvcSess) (s : State) :
    (s.modSvc x f).now = s.now ∧ (s.modSvc x f).free = s.free ∧ (s.modSvc x f).sys = s.sys ∧ (s.modSvc x f).fs = s.fs ∧
    (s.modSvc x f).hub = s.hub ∧ (s.modSvc x f).rtc = s.rtc ∧ (s.modSvc x f).pwr = s.pwr ∧ (s.modSvc x f).sil = s.sil ∧
    (s.modSvc x f).twin = s.twin ∧ (s.modSvc x f).pairs = s.pairs ∧ (s.modSvc x f).fab = s.fab ∧
    (s.modSvc x f).acc = s.acc ∧ (s.modSvc x f).se = s.se ∧ (s.modSvc x f).loops = s.loops ∧
    (s.modSvc x f).plan = s.plan ∧ (s.modSvc x f).prog = s.prog ∧ (s.modSvc x f).mtr = s.mtr ∧
    (s.modSvc x f).can = s.can ∧ (s.modSvc x f).dio = s.dio ∧ (s.modSvc x f).key = s.key ∧ (s.modSvc x f).run = s.run ∧
    (s.modSvc x f).mem = s.mem ∧ (s.modSvc x f).setBits = s.setBits ∧ (s.modSvc x f).pending = s.pending := by
  simp [State.modSvc]

@[simp] theorem State.svcSend_keeps (x : Fin 2) (type : Nat) (payload : List Byte) (s : State) :
    (s.svcSend x type payload).now = s.now ∧ (s.svcSend x type payload).free = s.free ∧
    (s.svcSend x type payload).sys = s.sys ∧ (s.svcSend x type payload).fs = s.fs ∧
    (s.svcSend x type payload).hub = s.hub ∧ (s.svcSend x type payload).rtc = s.rtc ∧
    (s.svcSend x type payload).pwr = s.pwr ∧ (s.svcSend x type payload).sil = s.sil ∧
    (s.svcSend x type payload).twin = s.twin ∧ (s.svcSend x type payload).pairs = s.pairs ∧
    (s.svcSend x type payload).fab = s.fab ∧ (s.svcSend x type payload).acc = s.acc ∧
    (s.svcSend x type payload).se = s.se ∧ (s.svcSend x type payload).loops = s.loops ∧
    (s.svcSend x type payload).plan = s.plan ∧ (s.svcSend x type payload).prog = s.prog ∧
    (s.svcSend x type payload).mtr = s.mtr ∧ (s.svcSend x type payload).can = s.can ∧
    (s.svcSend x type payload).dio = s.dio ∧ (s.svcSend x type payload).key = s.key ∧
    (s.svcSend x type payload).run = s.run ∧ (s.svcSend x type payload).mem = s.mem ∧
    (s.svcSend x type payload).setBits = s.setBits ∧ (s.svcSend x type payload).pending = s.pending := by
  unfold State.svcSend; (repeat' split) <;> simp

@[simp] theorem State.svcError_keeps (x : Fin 2) (code seq : Nat) (s : State) :
    (s.svcError x code seq).now = s.now ∧ (s.svcError x code seq).free = s.free ∧ (s.svcError x code seq).sys = s.sys ∧
    (s.svcError x code seq).fs = s.fs ∧ (s.svcError x code seq).hub = s.hub ∧ (s.svcError x code seq).rtc = s.rtc ∧
    (s.svcError x code seq).pwr = s.pwr ∧ (s.svcError x code seq).sil = s.sil ∧ (s.svcError x code seq).twin = s.twin ∧
    (s.svcError x code seq).pairs = s.pairs ∧ (s.svcError x code seq).fab = s.fab ∧
    (s.svcError x code seq).acc = s.acc ∧ (s.svcError x code seq).se = s.se ∧ (s.svcError x code seq).loops = s.loops ∧
    (s.svcError x code seq).plan = s.plan ∧ (s.svcError x code seq).prog = s.prog ∧
    (s.svcError x code seq).mtr = s.mtr ∧ (s.svcError x code seq).can = s.can ∧ (s.svcError x code seq).dio = s.dio ∧
    (s.svcError x code seq).key = s.key ∧ (s.svcError x code seq).run = s.run ∧ (s.svcError x code seq).mem = s.mem ∧
    (s.svcError x code seq).setBits = s.setBits ∧ (s.svcError x code seq).pending = s.pending := by
  simp only [State.svcError]; (repeat' split) <;> simp

@[simp] theorem State.svcClose_keeps (x : Fin 2) (s : State) :
    (s.svcClose x).now = s.now ∧ (s.svcClose x).free = s.free ∧ (s.svcClose x).sys = s.sys ∧ (s.svcClose x).fs = s.fs ∧
    (s.svcClose x).hub = s.hub ∧ (s.svcClose x).rtc = s.rtc ∧ (s.svcClose x).pwr = s.pwr ∧
    (s.svcClose x).twin = s.twin ∧ (s.svcClose x).pairs = s.pairs ∧ (s.svcClose x).fab = s.fab ∧
    (s.svcClose x).acc = s.acc ∧ (s.svcClose x).se = s.se ∧ (s.svcClose x).loops = s.loops ∧
    (s.svcClose x).plan = s.plan ∧ (s.svcClose x).prog = s.prog ∧ (s.svcClose x).mtr = s.mtr ∧
    (s.svcClose x).can = s.can ∧ (s.svcClose x).dio = s.dio ∧ (s.svcClose x).key = s.key ∧ (s.svcClose x).run = s.run ∧
    (s.svcClose x).mem = s.mem ∧ (s.svcClose x).setBits = s.setBits ∧ (s.svcClose x).pending = s.pending := by
  unfold State.svcClose; (repeat' split) <;> simp

@[simp] theorem State.svcSendAll_keeps (x : Fin 2) (type n : Nat) (b : List Byte) (s : State) :
    (State.svcSendAll x type n b s).now = s.now ∧ (State.svcSendAll x type n b s).free = s.free ∧
    (State.svcSendAll x type n b s).sys = s.sys ∧ (State.svcSendAll x type n b s).fs = s.fs ∧
    (State.svcSendAll x type n b s).rtc = s.rtc ∧ (State.svcSendAll x type n b s).pwr = s.pwr ∧
    (State.svcSendAll x type n b s).twin = s.twin ∧ (State.svcSendAll x type n b s).pairs = s.pairs ∧
    (State.svcSendAll x type n b s).fab = s.fab ∧ (State.svcSendAll x type n b s).acc = s.acc ∧
    (State.svcSendAll x type n b s).se = s.se ∧ (State.svcSendAll x type n b s).loops = s.loops ∧
    (State.svcSendAll x type n b s).plan = s.plan ∧ (State.svcSendAll x type n b s).prog = s.prog ∧
    (State.svcSendAll x type n b s).mtr = s.mtr ∧ (State.svcSendAll x type n b s).can = s.can ∧
    (State.svcSendAll x type n b s).dio = s.dio ∧ (State.svcSendAll x type n b s).key = s.key ∧
    (State.svcSendAll x type n b s).run = s.run ∧ (State.svcSendAll x type n b s).mem = s.mem ∧
    (State.svcSendAll x type n b s).setBits = s.setBits ∧ (State.svcSendAll x type n b s).pending = s.pending := by
  induction n generalizing b s with
  | zero => simp [State.svcSendAll]
  | succ n ih => unfold State.svcSendAll; split <;> simp [ih]

@[simp] theorem State.settleExport_keeps (s : State) :
    s.settleExport.now = s.now ∧ s.settleExport.free = s.free ∧ s.settleExport.sys = s.sys ∧ s.settleExport.fs = s.fs ∧
    s.settleExport.rtc = s.rtc ∧ s.settleExport.pwr = s.pwr ∧ s.settleExport.twin = s.twin ∧
    s.settleExport.pairs = s.pairs ∧ s.settleExport.fab = s.fab ∧ s.settleExport.acc = s.acc ∧
    s.settleExport.se = s.se ∧ s.settleExport.loops = s.loops ∧ s.settleExport.plan = s.plan ∧
    s.settleExport.prog = s.prog ∧ s.settleExport.mtr = s.mtr ∧ s.settleExport.can = s.can ∧
    s.settleExport.dio = s.dio ∧ s.settleExport.key = s.key ∧ s.settleExport.run = s.run ∧ s.settleExport.mem = s.mem ∧
    s.settleExport.setBits = s.setBits ∧ s.settleExport.pending = s.pending := by
  unfold State.settleExport; (repeat' split) <;> simp

@[simp] theorem State.svcAccord_keeps (v : Nat) (src : Option (Nat × Nat)) (bad : Option BadRead) (s : State) :
    (s.svcAccord v src bad).sys = s.sys ∧ (s.svcAccord v src bad).fs = s.fs ∧ (s.svcAccord v src bad).rtc = s.rtc ∧
    (s.svcAccord v src bad).pwr = s.pwr ∧ (s.svcAccord v src bad).twin = s.twin ∧
    (s.svcAccord v src bad).pairs = s.pairs ∧ (s.svcAccord v src bad).fab = s.fab ∧ (s.svcAccord v src bad).se = s.se ∧
    (s.svcAccord v src bad).loops = s.loops ∧ (s.svcAccord v src bad).plan = s.plan ∧
    (s.svcAccord v src bad).prog = s.prog ∧ (s.svcAccord v src bad).mtr = s.mtr ∧ (s.svcAccord v src bad).can = s.can ∧
    (s.svcAccord v src bad).dio = s.dio ∧ (s.svcAccord v src bad).net = s.net ∧ (s.svcAccord v src bad).run = s.run ∧
    (s.svcAccord v src bad).mem = s.mem := by
  unfold State.svcAccord; dsimp only; (repeat' split) <;> simp

@[simp] theorem State.svcStage_keeps (a part : Nat) (s : State) :
    (s.svcStage a part).pairs = s.pairs ∧ (s.svcStage a part).key = s.key ∧ (s.svcStage a part).run = s.run ∧
    (s.svcStage a part).mem = s.mem ∧ (s.svcStage a part).pending = s.pending := by
  simp [State.svcStage]

@[simp] theorem State.modHist_keeps (f : Hist → Hist) (s : State) :
    (s.modHist f).now = s.now ∧ (s.modHist f).free = s.free ∧ (s.modHist f).sys = s.sys ∧ (s.modHist f).fs = s.fs ∧
    (s.modHist f).hub = s.hub ∧ (s.modHist f).rtc = s.rtc ∧ (s.modHist f).pwr = s.pwr ∧ (s.modHist f).sil = s.sil ∧
    (s.modHist f).twin = s.twin ∧ (s.modHist f).pairs = s.pairs ∧ (s.modHist f).fab = s.fab ∧
    (s.modHist f).acc = s.acc ∧ (s.modHist f).se = s.se ∧ (s.modHist f).loops = s.loops ∧ (s.modHist f).plan = s.plan ∧
    (s.modHist f).prog = s.prog ∧ (s.modHist f).mtr = s.mtr ∧ (s.modHist f).can = s.can ∧ (s.modHist f).dio = s.dio ∧
    (s.modHist f).key = s.key ∧ (s.modHist f).run = s.run ∧ (s.modHist f).mem = s.mem ∧
    (s.modHist f).setBits = s.setBits ∧ (s.modHist f).pending = s.pending := by
  simp [State.modHist]

@[simp] theorem State.histHeart_keeps (s : State) :
    s.histHeart.sil = s.sil ∧ s.histHeart.pairs = s.pairs ∧ s.histHeart.key = s.key ∧ s.histHeart.run = s.run ∧
    s.histHeart.mem = s.mem ∧ s.histHeart.pending = s.pending := by
  unfold State.histHeart; split <;> simp

@[simp] theorem State.histBase_keeps (s : State) :
    s.histBase.sil = s.sil ∧ s.histBase.pairs = s.pairs ∧ s.histBase.key = s.key ∧ s.histBase.run = s.run ∧
    s.histBase.mem = s.mem ∧ s.histBase.pending = s.pending := by
  unfold State.histBase; split <;> simp

@[simp] theorem State.tickCounters_keeps (s : State) :
    s.tickCounters.pairs = s.pairs ∧ s.tickCounters.run = s.run ∧ s.tickCounters.mem = s.mem ∧
    s.tickCounters.pending = s.pending := by
  simp [State.tickCounters]

@[simp] theorem State.enterTest_keeps (s : State) :
    s.enterTest.now = s.now ∧ s.enterTest.free = s.free ∧ s.enterTest.fs = s.fs ∧ s.enterTest.rtc = s.rtc ∧
    s.enterTest.pwr = s.pwr ∧ s.enterTest.sil = s.sil ∧ s.enterTest.twin = s.twin ∧ s.enterTest.pairs = s.pairs ∧
    s.enterTest.acc = s.acc ∧ s.enterTest.loops = s.loops ∧ s.enterTest.plan = s.plan ∧ s.enterTest.mtr = s.mtr ∧
    s.enterTest.dio = s.dio ∧ s.enterTest.key = s.key ∧ s.enterTest.net = s.net ∧ s.enterTest.run = s.run ∧
    s.enterTest.pending = s.pending := by
  simp -implicitDefEqProofs [State.enterTest]

@[simp] theorem State.leaveTest_keeps (s : State) :
    s.leaveTest.now = s.now ∧ s.leaveTest.free = s.free ∧ s.leaveTest.sys = s.sys ∧ s.leaveTest.fs = s.fs ∧
    s.leaveTest.hub = s.hub ∧ s.leaveTest.rtc = s.rtc ∧ s.leaveTest.pwr = s.pwr ∧ s.leaveTest.sil = s.sil ∧
    s.leaveTest.twin = s.twin ∧ s.leaveTest.pairs = s.pairs ∧ s.leaveTest.fab = s.fab ∧ s.leaveTest.acc = s.acc ∧
    s.leaveTest.se = s.se ∧ s.leaveTest.loops = s.loops ∧ s.leaveTest.plan = s.plan ∧ s.leaveTest.mtr = s.mtr ∧
    s.leaveTest.can = s.can ∧ s.leaveTest.dio = s.dio ∧ s.leaveTest.key = s.key ∧ s.leaveTest.net = s.net ∧
    s.leaveTest.run = s.run ∧ s.leaveTest.mem = s.mem ∧ s.leaveTest.setBits = s.setBits ∧ s.leaveTest.pending =
    s.pending := by
  simp -implicitDefEqProofs [State.leaveTest]

@[simp] theorem State.setMode_keeps (m : OpMode) (s : State) :
    (s.setMode m).now = s.now ∧ (s.setMode m).free = s.free ∧ (s.setMode m).fs = s.fs ∧ (s.setMode m).rtc = s.rtc ∧
    (s.setMode m).pwr = s.pwr ∧ (s.setMode m).twin = s.twin ∧ (s.setMode m).pairs = s.pairs ∧ (s.setMode m).acc =
    s.acc ∧ (s.setMode m).loops = s.loops ∧ (s.setMode m).plan = s.plan ∧ (s.setMode m).mtr = s.mtr ∧ (s.setMode
    m).dio = s.dio ∧ (s.setMode m).key = s.key ∧ (s.setMode m).net = s.net ∧ (s.setMode m).run = s.run ∧ (s.setMode
    m).pending = s.pending := by
  unfold State.setMode; (repeat' split) <;> simp

@[simp] theorem State.modeTick_keeps (s : State) :
    s.modeTick.now = s.now ∧ s.modeTick.free = s.free ∧ s.modeTick.fs = s.fs ∧ s.modeTick.rtc = s.rtc ∧
    s.modeTick.pwr = s.pwr ∧ s.modeTick.twin = s.twin ∧ s.modeTick.pairs = s.pairs ∧ s.modeTick.acc = s.acc ∧
    s.modeTick.loops = s.loops ∧ s.modeTick.plan = s.plan ∧ s.modeTick.mtr = s.mtr ∧ s.modeTick.dio = s.dio ∧
    s.modeTick.net = s.net ∧ s.modeTick.run = s.run ∧ s.modeTick.pending = s.pending := by
  unfold State.modeTick; (repeat' split) <;> simp

@[simp] theorem State.tickImages_keeps (s : State) :
    s.tickImages.key = s.key ∧ s.tickImages.run = s.run ∧ s.tickImages.pending = s.pending := by
  simp [State.tickImages, foldl_keeps_key, foldl_keeps_run, foldl_keeps_pending]

@[simp] theorem State.tickLatch_keeps (s : State) :
    s.tickLatch.sil = s.sil ∧ s.tickLatch.pairs = s.pairs ∧ s.tickLatch.key = s.key ∧ s.tickLatch.run = s.run ∧
    s.tickLatch.pending = s.pending := by
  unfold State.tickLatch; dsimp only; (repeat' split) <;> simp (disch := (intros; (repeat' split) <;> simp))
    [State.asAt, foldl_keeps_sil, foldl_keeps_pairs, foldl_keeps_key, foldl_keeps_run, foldl_keeps_pending]

@[simp] theorem State.tickSaves_keeps (s : State) :
    s.tickSaves.key = s.key ∧ s.tickSaves.run = s.run ∧ s.tickSaves.pending = s.pending := by
  unfold State.tickSaves; dsimp only; (repeat' split) <;> simp [foldl_keeps_key, foldl_keeps_run, foldl_keeps_pending]

@[simp] theorem State.firstTick_keeps (s : State) :
    s.firstTick.pairs = s.pairs ∧ s.firstTick.mem = s.mem ∧ s.firstTick.pending = s.pending := by
  unfold State.firstTick; (repeat' split) <;> simp

@[simp] theorem State.thermLatch_keeps (s : State) :
    s.thermLatch.sil = s.sil ∧ s.thermLatch.pairs = s.pairs ∧ s.thermLatch.key = s.key ∧ s.thermLatch.run = s.run ∧
    s.thermLatch.mem = s.mem ∧ s.thermLatch.pending = s.pending := by
  unfold State.thermLatch; split <;> simp

@[simp] theorem State.testStagger_keeps (s : State) :
    s.testStagger.now = s.now ∧ s.testStagger.free = s.free ∧ s.testStagger.sys = s.sys ∧ s.testStagger.fs = s.fs ∧
    s.testStagger.hub = s.hub ∧ s.testStagger.rtc = s.rtc ∧ s.testStagger.pwr = s.pwr ∧ s.testStagger.sil = s.sil ∧
    s.testStagger.twin = s.twin ∧ s.testStagger.pairs = s.pairs ∧ s.testStagger.fab = s.fab ∧ s.testStagger.acc =
    s.acc ∧ s.testStagger.se = s.se ∧ s.testStagger.loops = s.loops ∧ s.testStagger.plan = s.plan ∧ s.testStagger.mtr
    = s.mtr ∧ s.testStagger.can = s.can ∧ s.testStagger.dio = s.dio ∧ s.testStagger.key = s.key ∧ s.testStagger.net =
    s.net ∧ s.testStagger.run = s.run ∧ s.testStagger.mem = s.mem ∧ s.testStagger.setBits = s.setBits ∧
    s.testStagger.pending = s.pending := by
  unfold State.testStagger; (try dsimp only); (repeat' split) <;> simp -implicitDefEqProofs

@[simp] theorem State.applyOutputs_keeps (s : State) :
    s.applyOutputs.now = s.now ∧ s.applyOutputs.free = s.free ∧ s.applyOutputs.sys = s.sys ∧ s.applyOutputs.fs = s.fs
    ∧ s.applyOutputs.rtc = s.rtc ∧ s.applyOutputs.pwr = s.pwr ∧ s.applyOutputs.sil = s.sil ∧ s.applyOutputs.pairs =
    s.pairs ∧ s.applyOutputs.fab = s.fab ∧ s.applyOutputs.acc = s.acc ∧ s.applyOutputs.se = s.se ∧
    s.applyOutputs.plan = s.plan ∧ s.applyOutputs.key = s.key ∧ s.applyOutputs.run = s.run ∧ s.applyOutputs.mem =
    s.mem ∧ s.applyOutputs.pending = s.pending := by
  simp only [State.applyOutputs]; (repeat' split) <;> simp [foldl_keeps_now, foldl_keeps_free, foldl_keeps_sys,
    foldl_keeps_fs, foldl_keeps_rtc, foldl_keeps_pwr, foldl_keeps_sil, foldl_keeps_pairs, foldl_keeps_fab,
    foldl_keeps_acc, foldl_keeps_se, foldl_keeps_plan, foldl_keeps_key, foldl_keeps_run, foldl_keeps_mem,
    foldl_keeps_pending]

@[simp] theorem State.withFetchWord_keeps (s : State) (nbits w : Nat) :
    (s.withFetchWord nbits w).sil = s.sil ∧ (s.withFetchWord nbits w).pairs = s.pairs ∧
    (s.withFetchWord nbits w).key = s.key ∧ (s.withFetchWord nbits w).run = s.run ∧
    (s.withFetchWord nbits w).mem = s.mem := by
  unfold State.withFetchWord; (repeat' split) <;> simp (disch := (intros; (try dsimp only); (repeat' split) <;> simp -implicitDefEqProofs)) [foldl_keeps_sil,
    foldl_keeps_pairs, foldl_keeps_key, foldl_keeps_run, foldl_keeps_mem]

end Sys2Proof.Machine
end

