-- ==== Sys2Proof/Laws/Memory.lean ====
section
/-! SUPPORT. The laws of byte memories: every operation keeps the canonical form, a read after a write answers the byte written, and
a write leaves every other byte alone. -/

namespace Sys2Proof.Machine

/-! ### The canonical form -/

/-- The canonical form says two things: addresses strictly rising, and no listed byte equal to an unlisted one. -/
theorem Mem.wf_iff (m : Mem) : Mem.wf m = true ↔ m.Pairwise (fun p q => p.1 < q.1) ∧ ∀ p ∈ m, p.2 ≠ Mem.blank := by
  induction m with
  | nil => simp [Mem.wf]
  | cons p t ih =>
    cases t with
    | nil => simp [Mem.wf]
    | cons q u =>
      obtain ⟨j, b⟩ := p
      obtain ⟨k, c⟩ := q
      simp only [Mem.wf, Bool.and_eq_true, bne_iff_ne, decide_eq_true_eq, ih]
      constructor
      · rintro ⟨⟨hb, hjk⟩, hp, hn⟩
        refine ⟨List.pairwise_cons.2 ⟨?_, hp⟩, ?_⟩
        · intro x hx
          rcases List.mem_cons.1 hx with rfl | hx
          · exact hjk
          · exact lt_trans hjk ((List.pairwise_cons.1 hp).1 x hx)
        · intro x hx
          rcases List.mem_cons.1 hx with rfl | hx
          · exact hb
          · exact hn x hx
      · rintro ⟨hp, hn⟩
        obtain ⟨h1, h2⟩ := List.pairwise_cons.1 hp
        exact ⟨⟨hn (j, b) (by simp), h1 (k, c) (by simp)⟩, h2, fun x hx => hn x (List.mem_cons_of_mem _ hx)⟩

/-- Every address of a byte written is the one written or an old one. -/
theorem Mem.mem_write {a : Nat} {x : Byte} {m : Mem} {p : Nat × Byte} (h : p ∈ Mem.write a x m) :
    (p = (a, x) ∧ x ≠ Mem.blank) ∨ p ∈ m := by
  induction m with
  | nil =>
    simp only [Mem.write] at h
    split at h
    · simp at h
    · left; simp_all
  | cons q t ih =>
    obtain ⟨j, b⟩ := q
    simp only [Mem.write] at h
    split at h
    · split at h
      · right; exact List.mem_cons_of_mem _ h
      · rcases List.mem_cons.1 h with h | h
        · left; exact ⟨h, ‹_›⟩
        · right; exact List.mem_cons_of_mem _ h
    · split at h
      · split at h
        · right; exact h
        · rcases List.mem_cons.1 h with h | h
          · left; exact ⟨h, ‹_›⟩
          · right; exact h
      · rcases List.mem_cons.1 h with h | h
        · right; exact h ▸ List.mem_cons_self
        · rcases ih h with h | h
          · left; exact h
          · right; exact List.mem_cons_of_mem _ h

/-- Writing a byte keeps the canonical form. -/
theorem Mem.wf_write {m : Mem} (a : Nat) (x : Byte) (h : Mem.wf m = true) : Mem.wf (Mem.write a x m) = true := by
  rw [Mem.wf_iff] at h ⊢
  refine ⟨?_, fun p hp => (Mem.mem_write hp).elim (fun e => e.1 ▸ e.2) (h.2 p)⟩
  obtain ⟨h, -⟩ := h
  induction m with
  | nil => simp only [Mem.write]; split <;> simp
  | cons q t ih =>
    obtain ⟨j, b⟩ := q
    obtain ⟨h1, h2⟩ := List.pairwise_cons.1 h
    simp only [Mem.write]
    split
    · subst j
      split
      · exact h2
      · exact List.pairwise_cons.2 ⟨h1, h2⟩
    · split
      · split
        · exact h
        · refine List.pairwise_cons.2 ⟨fun p hp => ?_, h⟩
          rcases List.mem_cons.1 hp with rfl | hp
          · assumption
          · exact lt_trans ‹_› (h1 p hp)
      · refine List.pairwise_cons.2 ⟨fun p hp => ?_, ih h2⟩
        rcases Mem.mem_write hp with ⟨rfl, -⟩ | hp
        · show j < a
          omega
        · exact h1 p hp

/-- Writing a byte string keeps the canonical form. -/
theorem Mem.wf_writeN {m : Mem} (a : Nat) (l : List Byte) (h : Mem.wf m = true) : Mem.wf (Mem.writeN m a l) = true := by
  induction l generalizing m a with
  | nil => exact h
  | cons b t ih => exact ih (a + 1) (Mem.wf_write a b h)

/-- Writing signed words keeps the canonical form. -/
theorem Mem.wf_putS32s {m : Mem} (a : Nat) (l : List Int) (h : Mem.wf m = true) : Mem.wf (Mem.putS32s m a l) = true := by
  induction l generalizing m a with
  | nil => exact h
  | cons x t ih => exact ih (a + 4) (Mem.wf_writeN a _ h)

/-- Keeping some addresses keeps the canonical form. -/
theorem Mem.wf_filter {m : Mem} (f : Nat × Byte → Bool) (h : Mem.wf m = true) : Mem.wf (m.filter f) = true := by
  rw [Mem.wf_iff] at h ⊢
  exact ⟨h.1.sublist List.filter_sublist, fun p hp => h.2 p (List.mem_filter.1 hp).1⟩

/-- Clearing a range keeps the canonical form. -/
theorem Mem.wf_erase {m : Mem} (a n : Nat) (h : Mem.wf m = true) : Mem.wf (Mem.erase m a n) = true := Mem.wf_filter _ h

/-- What a reset leaves keeps the canonical form. -/
theorem Mem.wf_onReset {m : Mem} (k : ResetKind) (subst : Nat) (h : Mem.wf m = true) : Mem.wf (Mem.onReset k subst m) = true := by
  simp only [Mem.onReset]
  split
  · exact Mem.wf_filter _ h
  · exact Mem.wf_erase _ _ (Mem.wf_erase _ _ h)

/-- A window of a memory is in the canonical form. -/
theorem Mem.wf_window {m : Mem} (a n : Nat) (h : Mem.wf m = true) : Mem.wf (Mem.window m a n) = true := by
  rw [Mem.wf_iff] at h ⊢
  have hm : ∀ p ∈ m.filter (fun p => decide (a ≤ p.1) && decide (p.1 < a + n)), a ≤ p.1 := fun p hp => by
    have hq := (List.mem_filter.1 hp).2
    simp only [Bool.and_eq_true, decide_eq_true_eq] at hq
    exact hq.1
  simp only [Mem.window]
  refine ⟨?_, ?_⟩
  · rw [List.pairwise_map]
    refine (h.1.sublist List.filter_sublist).imp_of_mem fun {p q} hp hq hpq => ?_
    have := hm p hp
    have := hm q hq
    show p.1 - a < q.1 - a
    omega
  · intro p hp
    obtain ⟨q, hq, rfl⟩ := List.mem_map.1 hp
    exact h.2 q (List.mem_filter.1 hq).1

/-- A sequence of writes keeps the canonical form when each of them does. -/
theorem Mem.wf_foldl {α : Type} {m : Mem} (f : Mem → α → Mem) (l : List α) (h : Mem.wf m = true)
    (hf : ∀ m x, Mem.wf m = true → Mem.wf (f m x) = true) : Mem.wf (l.foldl f m) = true := by
  induction l generalizing m with
  | nil => exact h
  | cons x t ih => exact ih (hf m x h)

/-! ### Reads after writes -/

/-- An address that no entry lists reads as an unlisted one. -/
theorem Mem.read_unlisted {m : Mem} {a : Nat} (h : ∀ p ∈ m, p.1 ≠ a) : Mem.read a m = Mem.blank := by
  induction m with
  | nil => rfl
  | cons p t ih =>
    simp only [Mem.read, if_neg (h p (by simp))]
    exact ih fun q hq => h q (List.mem_cons_of_mem _ hq)

/-- A write leaves every other address alone. -/
theorem Mem.read_write_other {m : Mem} {a b : Nat} {x : Byte} (h : b ≠ a) : Mem.read b (Mem.write a x m) = Mem.read b m := by
  induction m with
  | nil => simp only [Mem.write]; split <;> simp [Mem.read, Ne.symm h]
  | cons p t ih =>
    obtain ⟨j, c⟩ := p
    simp only [Mem.write]
    split
    · subst j
      split <;> simp [Mem.read, Ne.symm h]
    · split
      · split <;> simp [Mem.read, Ne.symm h]
      · simp only [Mem.read]; rw [ih]

/-- A read after a write to the same address answers the byte written. -/
theorem Mem.read_write_same {m : Mem} (a : Nat) (x : Byte) (h : Mem.wf m = true) : Mem.read a (Mem.write a x m) = x := by
  rw [Mem.wf_iff] at h
  obtain ⟨h, -⟩ := h
  induction m with
  | nil =>
    simp only [Mem.write]
    split
    · simp [Mem.read, *]
    · simp [Mem.read]
  | cons p t ih =>
    obtain ⟨j, c⟩ := p
    obtain ⟨h1, h2⟩ := List.pairwise_cons.1 h
    simp only [Mem.write]
    split
    · subst j
      split
      · subst x
        exact Mem.read_unlisted fun q hq => (h1 q hq).ne'
      · simp [Mem.read]
    · split
      · split
        · subst x
          refine Mem.read_unlisted fun q hq => ?_
          rcases List.mem_cons.1 hq with rfl | hq
          · assumption
          · have := h1 q hq
            show q.1 ≠ a
            simp only at this
            omega
        · simp [Mem.read]
      · simp only [Mem.read, if_neg ‹¬j = a›]
        exact ih h2

/-- A byte string leaves every address outside it alone. -/
theorem Mem.read_writeN_other {m : Mem} {a b : Nat} {l : List Byte} (h : b < a ∨ a + l.length ≤ b) :
    Mem.read b (Mem.writeN m a l) = Mem.read b m := by
  induction l generalizing m a with
  | nil => rfl
  | cons x t ih =>
    simp only [List.length_cons] at h
    simp only [Mem.writeN]
    rw [ih (by omega), Mem.read_write_other (by omega)]

/-- A read after a byte string was written answers its bytes. -/
theorem Mem.readN_writeN_same {m : Mem} (a : Nat) (l : List Byte) (h : Mem.wf m = true) :
    Mem.readN (Mem.writeN m a l) a l.length = l := by
  induction l generalizing m a with
  | nil => rfl
  | cons x t ih =>
    simp only [Mem.writeN, List.length_cons, Mem.readN]
    rw [ih (a + 1) (Mem.wf_write a x h), Mem.read_writeN_other (by omega), Mem.read_write_same a x h]

/-- Reads of a range depend on its bytes alone. -/
theorem Mem.readN_congr {m m' : Mem} {a n : Nat} (h : ∀ i, i < n → Mem.read (a + i) m' = Mem.read (a + i) m) :
    Mem.readN m' a n = Mem.readN m a n := by
  induction n generalizing a with
  | zero => rfl
  | succ n ih =>
    simp only [Mem.readN]
    rw [show Mem.read a m' = Mem.read a m from h 0 (by omega), ih fun i hi => ?_]
    have := h (i + 1) (by omega)
    rwa [show a + (i + 1) = a + 1 + i by omega] at this

/-- A range that a byte string does not touch reads as before. -/
theorem Mem.readN_writeN_other {m : Mem} {a b n : Nat} {l : List Byte} (h : b + n ≤ a ∨ a + l.length ≤ b) :
    Mem.readN (Mem.writeN m a l) b n = Mem.readN m b n :=
  Mem.readN_congr fun i hi => Mem.read_writeN_other (by omega)

@[simp] theorem Mem.readN_length (m : Mem) (a n : Nat) : (Mem.readN m a n).length = n := by
  induction n generalizing a with
  | zero => rfl
  | succ n ih => simp [Mem.readN, ih]

/-- A byte of what a filter keeps. -/
theorem Mem.read_filter {m : Mem} {a : Nat} (f : Nat × Byte → Bool) (g : Nat → Bool) (hf : ∀ p, f p = g p.1) :
    Mem.read a (m.filter f) = if g a then Mem.read a m else Mem.blank := by
  induction m with
  | nil => simp [Mem.read]
  | cons p t ih =>
    obtain ⟨j, c⟩ := p
    simp only [List.filter_cons, hf]
    by_cases hj : j = a
    · subst j
      by_cases hg : g a
      · simp [hg, Mem.read]
      · simp only [hg]
        rw [if_neg (by simp), ih]
        simp [hg]
    · split
      · simp only [Mem.read, if_neg hj]; exact ih
      · simp only [Mem.read, if_neg hj]; exact ih

/-- A cleared range reads as unlisted, and every other address as before. -/
theorem Mem.read_erase {m : Mem} (a n b : Nat) :
    Mem.read b (Mem.erase m a n) = if a ≤ b ∧ b < a + n then Mem.blank else Mem.read b m := by
  have h := Mem.read_filter (m := m) (a := b) (fun p => decide (p.1 < a) || decide (a + n ≤ p.1))
    (fun x => decide (x < a) || decide (a + n ≤ x)) fun _ => rfl
  simp only [Mem.erase]
  rw [h]
  by_cases hc : a ≤ b ∧ b < a + n
  · rw [if_pos hc, if_neg (by simp; omega)]
  · rw [if_neg hc, if_pos (by simp; omega)]

/-- A byte of a window is the byte at its place. -/
theorem Mem.read_window {m : Mem} {a n o : Nat} (h : o < n) : Mem.read o (Mem.window m a n) = Mem.read (a + o) m := by
  induction m with
  | nil => rfl
  | cons p t ih =>
    obtain ⟨j, c⟩ := p
    simp only [Mem.window, List.filter_cons] at ih ⊢
    by_cases hk : (decide (a ≤ j) && decide (j < a + n)) = true
    · rw [if_pos hk]
      simp only [Bool.and_eq_true, decide_eq_true_eq] at hk
      simp only [List.map_cons, Mem.read]
      by_cases hj : j = a + o
      · rw [if_pos (by omega), if_pos hj]
      · rw [if_neg (by omega), if_neg hj]; exact ih
    · rw [if_neg hk]
      simp only [Bool.and_eq_true, decide_eq_true_eq] at hk
      rw [ih]
      simp only [Mem.read]
      rw [if_neg (by omega)]

/-! ### Little-endian values -/

/-- The bytes of a value give the value back. -/
theorem leNat_toLe (n v : Nat) (h : v < 256 ^ n) : leNat (toLe n v) = v := by
  induction n generalizing v with
  | zero => simp [toLe, leNat] at *; omega
  | succ n ih =>
    simp only [toLe, leNat]
    rw [ih (v / 256) (by rw [Nat.div_lt_iff_lt_mul (by norm_num)]; rwa [pow_succ] at h)]
    simp
    omega

@[simp] theorem toLe_length (n v : Nat) : (toLe n v).length = n := by
  induction n generalizing v with
  | zero => rfl
  | succ n ih => simp [toLe, ih]

/-- A value written little-endian is read back. -/
theorem Mem.le_writeN_toLe {m : Mem} (a n v : Nat) (h : Mem.wf m = true) (hv : v < 256 ^ n) :
    Mem.le (Mem.writeN m a (toLe n v)) a n = v := by
  have := Mem.readN_writeN_same (m := m) a (toLe n v) h
  rw [toLe_length] at this
  rw [Mem.le, this, leNat_toLe n v hv]

/-! ### Tables -/

/-- A table answers the entry just set. -/
@[simp] theorem Tbl.get?_set_same {α : Type} (k : Nat) (x : α) (t : List (Nat × α)) : Tbl.get? k (Tbl.set k x t) = some x := by
  induction t with
  | nil => simp [Tbl.set, Tbl.get?]
  | cons p t ih =>
    obtain ⟨j, y⟩ := p
    simp only [Tbl.set]
    split
    · simp [Tbl.get?]
    · split
      · simp [Tbl.get?]
      · simp only [Tbl.get?, if_neg ‹¬j = k›]; exact ih

/-- Setting one entry leaves every other alone. -/
theorem Tbl.get?_set_other {α : Type} {k j : Nat} (x : α) (t : List (Nat × α)) (h : j ≠ k) :
    Tbl.get? j (Tbl.set k x t) = Tbl.get? j t := by
  induction t with
  | nil => simp [Tbl.set, Tbl.get?, Ne.symm h]
  | cons p t ih =>
    obtain ⟨i, y⟩ := p
    simp only [Tbl.set]
    split
    · subst i; simp [Tbl.get?, Ne.symm h]
    · split
      · simp [Tbl.get?, Ne.symm h]
      · simp only [Tbl.get?]; rw [ih]

/-- A deleted entry is gone. -/
@[simp] theorem Tbl.get?_del_same {α : Type} (k : Nat) (t : List (Nat × α)) : Tbl.get? k (Tbl.del k t) = none := by
  induction t with
  | nil => rfl
  | cons p t ih =>
    obtain ⟨j, y⟩ := p
    simp only [Tbl.del, List.filter_cons] at ih ⊢
    by_cases h : j = k
    · simp [h, ih]
    · simp [h, Tbl.get?, ih]

/-- Deleting one entry leaves every other alone. -/
theorem Tbl.get?_del_other {α : Type} {k j : Nat} (t : List (Nat × α)) (h : j ≠ k) : Tbl.get? j (Tbl.del k t) = Tbl.get? j t := by
  induction t with
  | nil => rfl
  | cons p t ih =>
    obtain ⟨i, y⟩ := p
    simp only [Tbl.del, List.filter_cons] at ih ⊢
    by_cases hi : i = k
    · simp [hi, Tbl.get?, Ne.symm h, ih]
    · simp [hi, Tbl.get?, ih]

/-- A changed entry reads as the change of what it held, or of the table's default. -/
@[simp] theorem Tbl.get?_upd_same {α : Type} (t : List (Nat × α)) (k : Nat) (d : α) (f : α → α) :
    Tbl.get? k (Tbl.upd t k d f) = some (f (Tbl.getD t k d)) := Tbl.get?_set_same _ _ _

theorem Tbl.get?_upd_other {α : Type} (t : List (Nat × α)) {k j : Nat} (d : α) (f : α → α) (h : j ≠ k) :
    Tbl.get? j (Tbl.upd t k d f) = Tbl.get? j t := Tbl.get?_set_other _ _ h

@[simp] theorem Tbl.getD_set_same {α : Type} (k : Nat) (x d : α) (t : List (Nat × α)) : Tbl.getD (Tbl.set k x t) k d = x := by
  simp [Tbl.getD]

theorem Tbl.getD_set_other {α : Type} {k j : Nat} (x d : α) (t : List (Nat × α)) (h : j ≠ k) :
    Tbl.getD (Tbl.set k x t) j d = Tbl.getD t j d := by
  simp [Tbl.getD, Tbl.get?_set_other x t h]

end Sys2Proof.Machine
end

