-- ==== Sys2Proof/Laws/SolverFrame.lean ====
section
/-! SUPPORT. What every operation of a solver job leaves alone, also of those that answer a state beside other results. -/

namespace Sys2Proof.Machine

theorem foldl_preserves {α β : Type} (P : β → Prop) (g : β → α → β) (l : List α) (b : β) (h0 : P b)
    (h : ∀ b a, P b → P (g b a)) : P (l.foldl g b) := by
  induction l generalizing b with
  | nil => exact h0
  | cons a l ih => exact ih _ (h _ _ h0)

/-- What no solver operation touches: the core pairs, the key store, the accord in use and the queue. -/
def SolverFrame (s t : State) : Prop := t.pairs = s.pairs ∧ t.key = s.key ∧ t.run = s.run ∧ t.pending = s.pending

theorem SolverFrame.refl (s : State) : SolverFrame s s := ⟨rfl, rfl, rfl, rfl⟩

theorem SolverFrame.trans {s t u : State} (h : SolverFrame s t) (k : SolverFrame t u) : SolverFrame s u := by
  simp [SolverFrame] at *; simp [h, k]

theorem State.corrected_frame (s : State) (cor : Nat) : SolverFrame s (s.corrected cor) := by
  simp [SolverFrame]

theorem State.setJob_frame (s : State) (n : Fin 4) (j : Job) : SolverFrame s (s.setJob n j) := by
  simp [SolverFrame]

theorem State.reuse_frame (s : State) (n : Fin 4) : SolverFrame s (s.reuse n) := by
  simp [SolverFrame]

theorem State.overrun_frame (s : State) (n : Fin 4) (j : Job) : SolverFrame s (s.overrun n j) := by
  simp [SolverFrame]

theorem State.testSat_frame (s : State) (n : Fin 4) (j : Job) : SolverFrame s (s.testSat n j) := by
  simp [SolverFrame]

theorem State.rangeFault_frame (s : State) (n : Fin 4) (j : Job) : SolverFrame s (s.rangeFault n j) := by
  simp [SolverFrame]

theorem State.closeJob_frame (s : State) (n : Fin 4) (j : Job) (status : Nat) (r : Ret) :
    SolverFrame s (s.closeJob n j status r) := by
  simp [SolverFrame]

theorem State.to_frame (s : State) (t : Nat) : SolverFrame s (s.to t) := ⟨rfl, rfl, rfl, rfl⟩

theorem State.putAt_frame (s : State) (n : Fin 4) (id addr : Nat) (vals : List Int) (extra : Nat) :
    SolverFrame s (s.putAt n id addr vals extra).1 := by
  simp [SolverFrame, State.putAt, State.headroom]; split <;> simp

theorem State.gatherWrite_frame (s : State) (n : Fin 4) (vals : List Int) : SolverFrame s (s.gatherWrite n vals) := by
  simp [SolverFrame]

theorem State.writeBack_frame (s : State) (n : Fin 4) (gather : Bool) (b : Blk) (vals : List Int) (extra : Nat) :
    SolverFrame s (s.writeBack n gather b vals extra).1 := by
  have h := s.putAt_frame n b.id b.base vals extra
  simp only [State.writeBack]; split
  · exact h.trans (by simp [SolverFrame])
  · exact h

theorem State.runOp_frame (s : State) (n : Fin 4) (prob : Nat) (op : SolverOp) (old : List (Nat × Byte)) :
    SolverFrame s (s.runOp n prob op old).1 := by
  have h := foldl_preserves (fun a : State × Nat => SolverFrame s a.1)
    (fun a (dv : Nat × List Int × Nat) =>
      let x := a.1.writeBack n ((s.problem n prob).gather.contains dv.1) (a.1.blk n prob dv.1) dv.2.1 dv.2.2
      (x.1, a.2 + x.2)) ((s.readView old).opResult n prob op).1 (s, 0) (.refl s)
    fun a dv ha => ha.trans (State.writeBack_frame ..)
  simp only [State.runOp]; split
  · next x => exact h.trans (State.gatherWrite_frame _ n ((s.readView old).words ((s.readView old).blk n prob x)))
  · exact h

theorem State.residualOp_frame (n : Fin 4) (p : Nat) (a : State × Nat × Nat) (op : SolverOp) :
    SolverFrame a.1 (State.residualOp n p a op).1 := by
  unfold State.residualOp; dsimp only
  split
  · exact (State.gatherWrite_frame ..).trans (State.runOp_frame ..)
  · exact State.runOp_frame ..

theorem State.loadStart_frame (s : State) (n : Fin 4) (p : Nat) (words : List Int) :
    SolverFrame s (s.loadStart n p words) :=
  foldl_preserves (fun a : State × List Int => SolverFrame s a.1) _ _ _ (.refl s)
    fun _ _ ha => ha.trans (State.writeBack_frame ..)

theorem State.retStart_frame (s : State) (n : Fin 4) (j : Job) : SolverFrame s (s.retStart n j).1 := by
  have h := foldl_preserves (fun a : State × Nat × Nat => SolverFrame s a.1) (State.residualOp n j.d.problem)
    (wired (romResidual j.d.program) (s.problem n j.d.problem).wireRes) (s.loadStart n j.d.problem j.start, 0, 0)
    (State.loadStart_frame ..) fun _ _ ha => ha.trans (State.residualOp_frame ..)
  unfold State.retStart; dsimp only; (repeat' split) <;> first | exact .refl s | exact h

theorem State.receive_frame (v : State) (m k : Fin 4) (dst : Nat) (a : State × Nat) :
    SolverFrame a.1 (v.receive m k dst a).1 := by
  unfold State.receive; split
  · exact State.writeBack_frame ..
  · exact .refl _

theorem State.exchangeOf_frame (v : State) (l : List (Fin 4)) (m : Fin 4) (s : State) :
    SolverFrame s (v.exchangeOf l m s).1 := by
  unfold State.exchangeOf; dsimp only; (repeat' split)
  · exact (State.receive_frame ..).trans (State.receive_frame ..)
  · exact State.receive_frame ..
  · exact State.receive_frame ..
  · exact .refl s
  · exact .refl s

theorem FactRun.column_frame (a : FactArgs) (x : SuperNode) (f : FactRun) (k : Nat) :
    SolverFrame f.s (FactRun.column a x f k).s := by
  unfold FactRun.column; dsimp only; (repeat' split) <;> first | exact .refl _ | exact State.putAt_frame ..

theorem FactRun.node_frame (a : FactArgs) (f : FactRun) (x : SuperNode) : SolverFrame f.s (FactRun.node a f x).s := by
  have h := foldl_preserves (fun g : FactRun => SolverFrame f.s g.s) (FactRun.column a x) (List.range x.cols) f (.refl _)
    fun _ _ hg => hg.trans (FactRun.column_frame ..)
  unfold FactRun.node; dsimp only; (repeat' split) <;> exact h

theorem State.factRun_frame (s : State) (n : Fin 4) (j : Job) (mat st : Nat) (cap : Option Nat) :
    SolverFrame s (s.factRun n j mat st cap).s :=
  foldl_preserves (fun g : FactRun => SolverFrame s g.s) _ _ _ (.refl s) fun _ _ hg => hg.trans (FactRun.node_frame ..)

theorem State.stageDone_frame (n : Fin 4) (j : Job) (st : Nat) (s : State) : SolverFrame s (s.stageDone n j st).2 := by
  unfold State.stageDone; dsimp only; (repeat' split) <;> simp [SolverFrame]

theorem SolverFrame.setFree {s t : State} (h : SolverFrame s t) (k : Nat) : SolverFrame s { t with free := k } := h

theorem State.dropFact_frame (s : State) (m : Fin 4) (j : Job) (c : Nat) : SolverFrame s (s.dropFact m j c).1 := by
  unfold State.dropFact; dsimp only; (repeat' split)
  · exact State.factRun_frame ..
  · exact .refl s
  · exact .refl s

theorem State.dropFacts_frame (n : Fin 4) (c : Nat) (s : State) : SolverFrame s (s.dropFacts n c) := by
  refine foldl_preserves (fun t => SolverFrame s t) _ _ _ (.refl s) fun t m ht => ?_
  split
  · split
    · exact (ht.trans (State.dropFact_frame ..)).trans (State.setJob_frame ..)
    · exact ht
  · exact ht

theorem State.cutFact_frame (s : State) (m : Fin 4) (j : Job) : SolverFrame s (s.cutFact m j).1 := by
  unfold State.cutFact; dsimp only; split
  · next mat st _ _ =>
    generalize hf : s.factRun m j mat st _ = f
    have k : SolverFrame s f.s := by rw [← hf]; exact State.factRun_frame ..
    split
    · split
      · exact k.trans (State.stageDone_frame ..)
      · exact k
    · exact .refl s
  · exact .refl s

theorem State.runFact_frame (n : Fin 4) (j : Job) (mat st : Nat) (s : State) : SolverFrame s (s.runFact n j mat st) := by
  unfold State.runFact; dsimp only
  generalize hf : s.factRun n j mat st none = f
  have k : SolverFrame s f.s := by rw [← hf]; exact State.factRun_frame ..
  split
  · exact .refl s
  · split
    · exact ((k.trans (State.to_frame ..)).trans (State.stageDone_frame ..)).trans (State.setJob_frame ..)
    · split
      · exact .refl s
      · split
        · split
          · exact (((k.trans (State.to_frame ..)).trans (State.setJob_frame ..)).trans (State.dropFacts_frame ..)).trans
              (State.reuse_frame ..)
          · exact .refl s
        · exact (k.trans (State.to_frame ..)).trans (State.overrun_frame ..)

theorem State.runXchg_frame (n : Fin 4) (s : State) : SolverFrame s (s.runXchg n) := by
  unfold State.runXchg; dsimp only; split
  · refine foldl_preserves (fun t => SolverFrame s t) _ _ _ (.refl s) fun t m ht => ?_
    split
    · generalize hr : s.exchangeOf _ m t = r
      have k : SolverFrame s r.1 := by rw [← hr]; exact ht.trans (State.exchangeOf_frame ..)
      exact ((k.setFree _).trans (State.to_frame ..)).trans (State.testSat_frame ..)
    · exact ht
  · exact .refl s

theorem State.runNext_frame (n : Fin 4) (j : Job) (cor : Nat) (s : State) : SolverFrame s (s.runNext n j cor) := by
  unfold State.runNext; split
  · exact .refl s
  · exact (State.runFact_frame ..).trans (State.corrected_frame ..)
  · exact (State.runXchg_frame ..).trans (State.corrected_frame ..)
  · next op _ _ _ _ =>
    generalize hr : s.runOp n j.d.problem op j.old = r
    have k : SolverFrame s r.1 := by rw [← hr]; exact State.runOp_frame ..
    dsimp only; split
    · exact ((k.trans (State.to_frame ..)).trans (State.testSat_frame ..)).trans (State.corrected_frame ..)
    · exact .refl s

theorem State.evalRes_frame (l : List (Fin 4)) (s : State) : SolverFrame s (s.evalRes l) := by
  refine foldl_preserves (fun t => SolverFrame s t) _ _ _ (.refl s) fun t m ht => ?_
  split
  · next j _ =>
    split
    · have h := foldl_preserves (fun a : State × Nat × Nat => SolverFrame s a.1) (State.residualOp m j.d.problem)
        (wired (romResidual 4) (t.problem m j.d.problem).wireRes) (t, 0, 0) ht fun _ _ ha => ha.trans (State.residualOp_frame ..)
      exact h.trans (State.setJob_frame ..)
    · exact ht
  · exact ht

theorem State.endParty_frame (l : List (Fin 4)) (status : Nat) (b : Bound) (at_ : Nat) (s : State) :
    SolverFrame s (s.endParty l status b at_) := by
  simp [SolverFrame]

theorem State.boundary_frame (n : Fin 4) (lead : Job) (s : State) : SolverFrame s (s.boundary n lead) := by
  unfold State.boundary; dsimp only
  generalize hr : s.evalRes (s.party n) = r
  have k : SolverFrame s r := by rw [← hr]; exact State.evalRes_frame ..
  split
  · exact .refl s
  · have q := k.trans (State.to_frame r (lead.cycleAt (r.boundCycle n (r.bound n lead (s.party n)))))
    split
    · refine foldl_preserves (fun t => SolverFrame s t) _ _ _ q fun t m ht => ?_
      split
      · exact ht.trans (State.rangeFault_frame ..)
      · exact ht
    · split
      · exact q.trans (State.endParty_frame ..)
      · refine foldl_preserves (fun t => SolverFrame s t) _ _ _ q fun t m ht => ?_
        split
        · exact ht.trans (State.setJob_frame ..)
        · exact ht

theorem State.stopRet_frame (range : Bool) (a : State × List (Fin 4 × Job × Ret)) (m : Fin 4) :
    SolverFrame a.1 (State.stopRet range a m).1 := by
  unfold State.stopRet; split
  · exact .refl a.1
  · next j _ =>
    dsimp only
    generalize hf : a.1.cutFact m j = f
    have k : SolverFrame a.1 f.1 := by rw [← hf]; exact State.cutFact_frame ..
    split
    · exact k
    · exact k.trans (State.retStart_frame ..)

theorem State.stopParty_frame (cancel range : Bool) (l : List (Fin 4)) (s : State) :
    SolverFrame s (s.stopParty cancel range l) := by
  unfold State.stopParty; dsimp only
  have k := foldl_preserves (fun a : State × List (Fin 4 × Job × Ret) => SolverFrame s a.1) (State.stopRet range) l (s, [])
    (.refl s) fun _ _ ha => ha.trans (State.stopRet_frame ..)
  refine foldl_preserves (fun t => SolverFrame s t) _ _ _ k fun t x ht => ?_
  split
  · exact ht.trans (State.rangeFault_frame ..)
  · exact ht.trans (State.closeJob_frame ..)

end Sys2Proof.Machine
end

