-- ==== Sys2Proof/WellFormed.lean ====
section
/-! DEFINITION. Well-formed commands: the ranges that the rules give the operands that their types do not already bound. -/

namespace Sys2Proof

/-- Bytes of a frame by its data length code: up to 8, and on to 64 in an FD frame (R345, R363). -/
def canLen (fdf : Bool) (dlc : Nat) : Nat :=
  if dlc ≤ 8 then dlc
  else if fdf then [12, 16, 20, 24, 32, 48, 64].getD (dlc - 9) 64
  else 8

/-- A CAN frame: an 11-bit identifier unless IDE is set, no remote FD frame, and the data its length code says (R345). -/
def canFrameWf (f : CanFrame) : Bool :=
  (f.ide || decide (f.id.toNat < 2048)) && !(f.fdf && f.rtr) && f.data.length == (if f.rtr then 0 else canLen f.fdf f.dlc.val)

/-- A fabric request: 1 to 64 bytes within one line of 64, and written data of that size (R93). -/
def fabReqWf (q : FabReq) : Bool :=
  decide (1 ≤ q.size) && decide (q.addr.toNat % 64 + q.size ≤ 64) && match q.kind with
    | .write | .sc | .amo _ => q.data.length == q.size
    | .read | .lr | .fetch => q.data.length == 0

/-- A twin frame: header fields within their widths and a 16-byte tag (R533). -/
def twinInWf (f : TwinIn) : Bool :=
  decide (f.seq < 2 ^ 32) && decide (f.part < 256) && decide (f.commit < 2 ^ 64) && f.tag.length == 16

/-- A frame of the service channel: header fields within their widths and a 16-byte tag (R401). -/
def svcInWf (f : SvcIn) : Bool :=
  decide (f.flags < 65536) && decide (f.seq < 2 ^ 32) && decide (f.len < 2 ^ 32) && f.tag.length == 16

/-- A telegram: a 16-byte source address and a UDP port (R387). -/
def xsxInWf (t : XsxIn) : Bool := t.addr.length == 16 && decide (t.port < 65536)

/-- A received Ethernet frame: a 12-bit VID (R380). -/
def ethInWf (f : EthIn) : Bool := decide (f.vid < 4096)

/-- A PTP message: fields within their widths (R384). -/
def ptpMsgWf (m : PtpMsg) : Bool :=
  decide (m.type < 16) && decide (m.seq < 65536) && decide (m.domain < 256) && m.source.length == 10

/-- No entry of a list is named twice. -/
def noRepeat (l : List Nat) : Bool := decide l.Nodup

/-- A drydown run: at most six steps, in time order, and bits of different channels (R337, R511). -/
def drydownWf (d : DrydownRun) : Bool :=
  decide (d.times.length ≤ 6) && decide (d.times.Pairwise (· ≤ ·)) && noRepeat (d.edge.map (·.1.val))

/-- Well-formed commands. -/
def Instr.wf : Instr → Bool
  | .fabricRequest _ q => fabReqWf q
  | .lockstepFailure ps => !ps.isEmpty && noRepeat (ps.map (·.val))
  | .eventAssertion l => noRepeat (l.map (·.val))
  | .firmwareVerify bist => noRepeat (bist.map (·.val))
  | .loopPass mism ecc => noRepeat (mism.map (·.val)) && noRepeat (ecc.map (·.val))
  | .meterDecimation bits => noRepeat (bits.map (·.1.val))
  | .canMbRxFrame _ f => canFrameWf f
  | .stationInputFrame _ f => canFrameWf f
  | .stationHeartbeat _ f => canFrameWf f
  | .ethRxFrame _ f => ethInWf f
  | .ptpTimestamp _ m => ptpMsgWf m
  | .xsxReport t => xsxInWf t
  | .modbusConnect addr => addr.length == 16
  | .hello _ f => svcInWf f
  | .prove _ f => svcInWf f
  | .serviceStatus _ f => svcInWf f
  | .scadaRead _ f => svcInWf f
  | .histRead _ f => svcInWf f
  | .sillageExport _ f => svcInWf f
  | .putData _ f => svcInWf f
  | .commit _ f _ => svcInWf f
  | .force _ f => svcInWf f
  | .accordCmd _ f _ => svcInWf f
  | .serviceClose _ f => svcInWf f
  | .twinHeartbeat f => twinInWf f
  | .delta f => twinInWf f
  | .twinLoops f => twinInWf f
  | .twinBase f => twinInWf f
  | .resync f => twinInWf f
  | .uartOpenCr _ _ resp => resp.length == 32
  | .uartOpenPw _ pw => decide (pw.length ≤ 64)
  | .provision v => v.length == 32
  | .drydownTrigger d => drydownWf d
  | .drydown _ d => drydownWf d
  | .drydownHalt _ d => drydownWf d
  | .registerWrite _ _ _ | .coreInstruction _ _ _ _ | .mirrorConsistencyPoint _ | .mirrorApply _ | .migrationCommand _ _
  | .migration | .migrationResume _ | .collectorSweep | .fabColRelease _ _ | .topTick | .heartTick _ | .baseTick
  | .loopHardDeadline | .outputInstant | .secondPulseEdge _ | .disciplineHoldover | .clockFault
  | .fsShadowOpenRead _ _ | .fsShadowCloseRead _ _ | .fsSteerWrite _ _ | .load _ _ | .configure _ _ _ | .configureSwitch
  | .amend _ | .commitRollback _ | .erase _ _ | .amendmentApply | .amendmentFlashCopy
  | .bootAccordSelect _ _ | .configureComplete | .coalesceTimeout _ | .eventEntry _ | .evdone _ _ | .evhSwgen _ _
  | .evhCtrlWrite _ _ | .evhPendClear _ _ _ | .evhSourceConfigWrite _ _ _ _ | .pairRest _ | .rtcSecondsAdvance | .rtcSet _
  | .rtcSetApply | .rtcTrimCorrection _ | .rtcOscFail | .rtcBackupPowerOn | .rtcSupplyDip | .rtcShadowOpenRead _
  | .rtcShadowCloseRead _ | .rtcOscReturn | .powerOn _ | .vinLoss _ | .vinReturn _ | .powerOff | .holdReady | .holdFault
  | .holdReadyLoss | .vbatMeasure _ | .resetN _ | .swReset _ | .watchdogExpiry | .watchdogKick _ _ | .modeRequest _ _
  | .debugHalt _ _ | .sillageEntry | .silPut _ _ | .sillageCaptureRequest _ | .sillageCapture | .sillageHoldWrite _ _
  | .claimRequest | .twinGateOpen | .claimInChange _ | .twinBackoffExpiry | .switchover _ _ | .solverSubmit _ _ _
  | .descriptorFetch _ | .solverJobStart _ | .solverOperation _ _ | .iterationBoundary _ | .solverStopInstant _ _
  | .resultRecordHandover _ | .solverWithdraw _ _ _ | .solverCancel _ _ | .solverDisable _ _ | .headroomClear _ _
  | .solverMemoryFault _ | .coopJobStart _ | .coopTimeout _ | .solveAmendmentWrite _ | .loopEnable _ _ _ | .loopDisable _ _ _
  | .loopHold _ _ _ | .loopRelease _ _ _ | .loopRecordWrite _ _ _ | .loopTakeover | .loopEngineDisable _ _
  | .hydraulicAcceptance | .networkStatePublish | .protectionTrigger _ | .protectionAcceptance | .taskRelease _ _
  | .taskCommit _ _ _ _ | .taskOverrun _ _ | .partitionRecoveryEntry _ | .resume _ _ | .recover _ _ | .stage _ _
  | .olcStaged _ | .unstage _ _ | .olcSwitch _ | .checkpointWrite _ | .forceSet _ _ | .forceRelease _ _
  | .forceReleaseAll _ _ | .meterWindowEnd _ | .mclkClockLost _ | .mclkClockResume _ | .thermalPublish | .pulseEnd _
  | .mtrCaptureRequest _ | .meterCaptureDone | .mtrShadowOpenRead _ _ | .mtrShadowCloseRead _ _ | .frameSetExpiry _ _
  | .canMbTxreq _ _ _ | .canMbAbort _ _ _ | .canTxComplete _ _ _ | .canTxTimeout _ _ | .canMbRelease _ _ _
  | .canMbConfigWrite _ _ _ _ _ | .canError _ _ | .busOffRecovery _ | .canRecover _ _ | .canBusDominant _ | .dominantClear _
  | .listen _ _ | .normal _ _ | .heartbeatCheck _ _ | .dioFilterConfirm _ _ _ | .dioChannelFault _ _ | .dioFaultClear _ _
  | .dioLinkLoss _ | .dioLinkReturn _ | .keyCommandQueue _ _ | .derive | .generate | .importKey | .replace | .invalidate _ _
  | .invalidationEffect | .keyErase | .sign | .verify | .mac | .quote | .advance | .accNonce _ | .openCr _ _ | .openPw _ _
  | .accClose _ | .accessExpiry | .lockExpiry | .nonceExpiry | .uartNonce | .uartClose | .uartStatus | .uartKeyCmd _ _ _ _
  | .ethLinkChange _ _ | .ethCounterClear _ _ | .ptpSecondRollover | .ptpStep _ _ | .ptpAdjWrite _ _ | .ptpShadowOpenRead _ _
  | .ptpShadowCloseRead _ _ | .modbusIdleClose _ | .readCoils _ _ _ | .readDiscreteInputs _ _ _ | .readHoldingRegisters _ _ _
  | .readInputRegisters _ _ _ | .writeSingleCoil _ _ _ | .writeSingleRegister _ _ _ | .writeMultipleCoils _ _ _
  | .writeMultipleRegisters _ _ _ | .readWriteMultipleRegisters _ _ _ _ _ | .readDeviceIdentification _ _ _
  | .modbusUnknownFunction _ _ | .serviceSessionTimeout _ => true

end Sys2Proof
end

