-- ==== Sys2Proof/Tests/Slice0.lean ====
section
/-! SUPPORT. Own tests: ill-formed commands, worked examples of the manual, and for every statement with hypotheses a state and
operands that meet them, clause by clause. -/

open Sys2Proof Sys2Proof.Machine

namespace Sys2Proof.Tests

/-! ### States the tests share -/

/-- Every register block granted to the supervisor role and the security core pair. -/
def tGrants : List (Nat × Nat) := (List.range 0x78).flatMap fun b => [(b, 0), (b, 8)]

/-- A module in SERVICE with an accord that grants every register block and all of system SRAM to the supervisor role and the
security core pair, in top note 100. -/
def tRun : State :=
  { State.reset with
    sys := { State.reset.sys with state := .service, prev := .start }
    acc := { State.reset.acc with locked := true, active := some .a }
    fs := { State.reset.fs with started := true, tnc := 100, hpos := 1, bpos := 1 }
    run := { (default : RunCfg) with
      mem := { (default : MemoryCfg) with
        grants := tGrants
        regions := [{ base := 0x10000000, size := 0x800000, owner := 0, read := true, write := true },
                    { base := 0x10000000, size := 0x800000, owner := 8, read := true, write := true }] } } }

/-- A sillage entry. -/
def tEntry : SilEntry := { tb := 1, tnc := 2, block := 3, inst := 0, cls := 1, num := 0x141, payload := [7] }

/-- A state with another running accord. -/
def tCfg (f : RunCfg → RunCfg) (s : State) : State := { s with run := f s.run }

/-- A key store command that waits for its end, with its argument bytes in the command (DESIGN CHOICE, log entry 13). -/
def tKey (cmd aux slot : Nat) (b : Option (List Byte)) (x y : KeySlot) : KeyRun :=
  { req := { cmd := cmd, aux := aux, slot := slot, arg := 0, who := .security, uart := b }, slot := x, aux := y, at_ := 0,
    revoked := false }

/-- An active key. -/
def tSlot (t : KeyType) (policy : Nat) (mat : List Byte) : KeySlot :=
  { id := 1, parent := none, type := t, state := .active, policy := policy, depth := 0, gen := 1, mat := mat, kcv := [] }

/-- The module after reset with one command of the key store running. -/
def tKeyRun (u : KeyRun) : State := State.reset.modKey fun k => { k with run := some u }

/-- A station that has been heard. -/
def tGood : Station := { Station.start with state := .good }

/-- A CAN frame. -/
def tFrame (fdf : Bool) (id : BitVec 29) (d : List Byte) : CanFrame :=
  { ide := false, fdf := fdf, esi := false, rtr := false, id := id, dlc := 8, data := d, sof := 0 }

/-- A running module with one station on port 0, whose input block has a length, in a state of the port and the station. -/
def tStn (len : Nat) (p : CanPort → CanPort) (x : Station) : State :=
  (tCfg (fun c => { c with stns := [{ (default : StnCfg) with inLen := len, hbDiv := 10, missN := 1, setWin := 100 }] }) tRun).modCan 0
    fun q => p { q with state := .active, ctrl := 36, stns := [(0, x)] }

/-- A solver descriptor for problem 0 with a deadline and a cooperation mask. -/
def tDesc (deadline coop : Nat) : Desc :=
  { cls := 1, program := 7, problem := 0, deadline := deadline, margin := 0, iterCap := 5, satLimit := 10, tolP := 100, tolD := 0,
    warmSlot := 0xFF, flags := 0, epoch := 0, resultSlot := 0, dest := 0, coop := coop, inPtr := 0, outPtr := 0, auxPtr := 0,
    tag := 1, clean := true }

/-- A solver job. -/
def tJob (d : Desc) : Job :=
  { ofs := 0x5B0000, d := d, startAt := 0, iters := 0, held := none, start := [], warm := false, sat := 0, satBase := 0, piv := 0,
    pivCol := [], cycles := 0, reused := false, incomplete := false, cancel := none, rangePend := none, ops := [],
    keep := false, built := 0, boundAt := 0, old := [] }

/-- A running module whose SE0 and SE1 hold problem 0: program 7, class 1, a cooperation mask, three blocks of two words. -/
def tSolve (coop : Byte) (f : SolverEngine → SolverEngine) : State :=
  let dir : List Byte := [7, 2, 0, 0, 0, 0x10, 0, 0, 0, 0, 1, coop]
  let m := [0x20000000, 0x21000000].foldl (fun m b => Mem.writeN (Mem.writeN (Mem.writeN (Mem.writeN (Mem.writeN (Mem.writeN m
    b dir) (b + 0x1000) [0, 0x20, 0, 0, 0, 0, 0, 0, 2]) (b + 0x1020) [0, 0x21, 0, 0, 0, 0, 1, 0, 2])
    (b + 0x1040) [0, 0x22, 0, 0, 0, 0, 2, 0, 2]) (b + 0x2100) [5, 0, 0, 0, 7, 0, 0, 0]) (b + 0x2200) [6, 0, 0, 0, 15]) []
  ({ tRun with mem := m }).modSe 0 fun e => f { e with enable := true }

/-- A running module with one network, whose results go to a ring of one record in system SRAM. -/
def tNet (f : Planner → Planner) (b : List Byte) : State :=
  ({ tCfg (fun c => { c with
      mem := { c.mem with rings := [(0, 0x10600000, 1, 5)] }
      solve := { c.solve with hydDl := 1, trackTn := 1, hydHold := 2, protDl := 3 }
      dist := { c.dist with nets := [default] } }) tRun with mem := Mem.writeN [] 0x10600000 b }).modPlan
    fun p => f { p with nets := [NetState.start], judged := false, published := false }

/-- A running module with a dispatch that protects object 4. -/
def tProt (f : Planner → Planner) (b : List Byte) : State :=
  tCfg (fun c => { c with dist := { c.dist with disp := some { (default : DispatchCfg) with
    prot := some default, trip := [{ (default : TripCfg) with obj := 4 }] } } }) (tNet f b)

/-- A running module with an accord of an ESTATE module, an interface for SCADA and a Modbus map. -/
def tComms (f : CommsCfg → CommsCfg) : State :=
  tCfg (fun c => { c with hdr := { c.hdr with estate := true }, comms := f { c.comms with
    ifs := [{ (default : IfCfg) with roles := 2, vid := 5 }], allow := [([1, 2, 3, 4], 32)], svcKey := 9,
    mb := [{ (default : MapEntry) with table := 0, flags := 1, count := 4, type := 0, sub := 1 },
           { (default : MapEntry) with table := 1, count := 4, type := 0, sub := 1 },
           { (default : MapEntry) with table := 2, flags := 1, count := 4, type := 4, sub := 1 },
           { (default : MapEntry) with table := 3, count := 4, type := 4, sub := 1 }] } }) tRun

/-- The same module with a session of the service channel. -/
def tSvc (ready : Bool) : State :=
  (tComms id).modNet fun n => { n with svc := n.svc.set 0 (some
    { ready := ready, client := 0, nc := [], nm := [], key := [], seqIn := 0, seqOut := 0, used := 0 }) }

/-- A frame of that session with its tag. -/
def tSvcIn (type : Nat) (p : List Byte) : SvcIn :=
  { magic := true, flags := 0, seq := 0, len := p.length, payload := p, tag := svcTag [] (svcHeader type 0 0 p.length) p }

/-- The session of `tSvc`. -/
def tSess (ready : Bool) : SvcSess :=
  { ready := ready, client := 0, nc := [], nm := [], key := [], seqIn := 0, seqOut := 0, used := 0 }

/-- A module of a twin. -/
def tTwin (f : Twin → Twin) : State := (tCfg (fun c => { c with str := { c.str with twin := true } }) tRun).modTwin f

/-- A frame of its partner with the right tag. -/
def tTwinIn (type part commit : Nat) (p : List Byte) : TwinIn :=
  { seq := 1, part := part, commit := commit, payload := p,
    tag := twinTag (tTwin id).twinKey (twinHeader type 1 part commit p.length) p }

/-- Partition 1 with one task of two notes. -/
def tPartCfg : PartCfg :=
  { (default : PartCfg) with part := 1, tasks := [{ (default : TaskCfg) with period := 2, cCommit := 1, margin := 4096 }], forceMax := 1, major := 10 }

/-- A running module with partition 1. -/
def tPart (f : PartSt → PartSt) : State :=
  (tCfg (fun c => { c with prog := { c.prog with parts := [tPartCfg] }
                           mem := { c.mem with ckpt := [(1, 0x30000000, 0x30010000, 0)] } }) tRun).modPart 0
    fun x => f { x with symmap := [1, 0, 0, 0, 4, 4, 2, 0] ++ zeros 8 ++ [2, 0, 0, 0, 4, 0, 2, 0, 8] ++ zeros 7, dataLen := 64 }

/-- The task states of `tPart` with task 0 running. -/
def tTasks (x : PartSt) : Vector TaskSt 8 := x.tasks.set 0 { x.tasks[0] with running := true, rel := some 100 }

/-- No byte string equals itself with one more byte. -/
theorem tNe (l : List Byte) (h : l = l ++ [0]) : False := by
  have := congrArg List.length h
  simp at this

/-- The frame of an accord image whose fourteen sections are empty. -/
def tBare : List Byte :=
  zeros 8 ++ [176] ++ zeros 9 ++ [14] ++ zeros 45 ++ requiredTypes.flatMap fun t => [BitVec.ofNat 8 t, 0, 0, 0, 0, 0, 0, 0]

/-- A module with partition 1 whose image has a digest, and a package in DRAM of one bank and one run from its initial values. -/
def tStaged (y : ModState) (d : List Byte) : State :=
  { ((tPart fun x => { x with digest := d }).modSys fun z => { z with state := y }).modProg fun q => { q with olcSrc := 0x80000000 } with
    mem := Mem.writeN (Mem.writeN [] 0x80000000 [0x58, 0x4A, 0x50, 0x43, 1, 0, 1, 0, 64, 0, 0, 0, 64, 0, 0, 0, 1, 0, 0, 0, 0, 0, 0, 0, 64])
      0x800000E0 [1, 0, 0, 0, 0, 0, 0, 0, 0, 0, 0, 0, 64] }

/-- The engine SE0 of `tSolve` with a job that has operations still to run; problem 0 declares block 1 as its primal residual. -/
def tBusy (d : Desc) (ops : List SolverOp) (f : Job → Job) : State :=
  tCfg (fun c => { c with solve := { c.solve with problems := [{ (default : ProblemCfg) with sol := [0], primal := some 1 }] } })
    (tSolve 0 fun e => { e with job := some (f { tJob d with ops := ops }) })

/-- A record that waits for its hand-over. -/
def tOut : OutRec :=
  { post := { data := List.replicate 64 1, role := 0, epoch := 0 }, status := 2, flags := 1, piv := false, at_ := 0, ran := true,
    ofs := 0x5B0000 }

/-- A drydown of `n` steps. -/
def tDry (n : Nat) : DrydownRun :=
  { times := (List.range n).map (· + 1), holdStart := 0, holdEnd := 0, aBack := false, bBack := false, reset := false,
    clock := false, edge := [] }

/-- A module after reset with field access at SERVICE, and a change of its key store. -/
def tOpen (f : Keys → Keys) : State := State.reset.modKey fun k => f { k with level := 2, openEnd := 1000 }

/-! ### Well-formedness: each check refuses an ill-formed command -/

/-- A fabric request with one thing wrong at a time. -/
def tReq (kind : FabKind) (addr : Nat) (size : Nat) (data : List Byte) : Instr :=
  .fabricRequest .security { kind := kind, addr := BitVec.ofNat 40 addr, size := size, data := data, ecc := .ok, line := 0 }

/-- R93: no size 0, no request past the end of a line of 64 bytes, data for a write alone. -/
theorem test_wf_fabric_request :
    (tReq .read 0 0 []).wf = false ∧ (tReq .read 60 8 []).wf = false ∧ (tReq .write 0 8 [1]).wf = false ∧
    (tReq .read 0 8 [1]).wf = false ∧ (tReq .read 56 8 []).wf = true := by decide

/-- R345: an 11-bit identifier in a base frame, no remote FD frame, the data its length code says. -/
theorem test_wf_can_frame :
    canFrameWf { (tFrame false 2048 (zeros 8)) with ide := false } = false ∧
    canFrameWf { (tFrame true 5 (zeros 8)) with rtr := true } = false ∧ canFrameWf (tFrame false 5 (zeros 7)) = false ∧
    canFrameWf { (tFrame true 5 (zeros 12)) with dlc := 9 } = true ∧ canFrameWf (tFrame false 2047 (zeros 8)) = true := by decide

/-- The three commands of a received CAN frame check it. -/
theorem test_wf_can_commands :
    (Instr.canMbRxFrame 0 (tFrame false 2048 (zeros 8))).wf = false ∧
    (Instr.stationInputFrame 0 (tFrame false 2048 (zeros 8))).wf = false ∧
    (Instr.stationHeartbeat 0 (tFrame false 2048 (zeros 8))).wf = false := by decide

/-- R533, R401: header fields within their widths, a tag of 16 bytes. -/
theorem test_wf_frames_with_tags :
    (Instr.twinBase { seq := 2 ^ 32, part := 0, commit := 0, payload := [], tag := zeros 16 }).wf = false ∧
    (Instr.delta { seq := 0, part := 256, commit := 0, payload := [], tag := zeros 16 }).wf = false ∧
    (Instr.resync { seq := 0, part := 0, commit := 2 ^ 64, payload := [], tag := zeros 16 }).wf = false ∧
    (Instr.twinHeartbeat { seq := 0, part := 0, commit := 0, payload := [], tag := zeros 15 }).wf = false ∧
    (Instr.hello 0 { (tSvcIn 1 []) with flags := 65536 }).wf = false ∧
    (Instr.prove 0 { (tSvcIn 1 []) with seq := 2 ^ 32 }).wf = false ∧
    (Instr.putData 0 { (tSvcIn 1 []) with len := 2 ^ 32 }).wf = false ∧
    (Instr.force 0 { (tSvcIn 1 []) with tag := zeros 17 }).wf = false := by decide

/-- No pair fails twice in one command, no source and no channel is named twice. -/
theorem test_wf_no_repeats :
    (Instr.lockstepFailure []).wf = false ∧ (Instr.lockstepFailure [3, 3]).wf = false ∧
    (Instr.eventAssertion [7, 7]).wf = false ∧ (Instr.meterDecimation [(2, []), (2, [true])]).wf = false := by decide

/-- Addresses, ports, VIDs, responses, passwords and drydown times within their sizes. -/
theorem test_wf_lengths :
    (Instr.modbusConnect [1, 2, 3, 4]).wf = false ∧ (Instr.uartOpenCr 1 0 (zeros 31)).wf = false ∧
    (Instr.uartOpenPw 1 (zeros 65)).wf = false ∧ (Instr.provision (zeros 33)).wf = false ∧
    (Instr.ethRxFrame 0 { len := 64, fcsOk := true, vid := 4096, kind := .ptp, waiting := 0 }).wf = false ∧
    (Instr.drydownTrigger { tDry 2 with times := [2, 1] }).wf = false ∧
    (Instr.drydownTrigger (tDry 7)).wf = false := by decide

/-- No row of the table has bits, so no word spells a command, and nothing is put into the queue. -/
theorem test_no_word_spells_a_command :
    decodeTableWord 32 0x00000013 = none ∧ (State.reset.withFetchWord 32 0x13).pending = [] := by decide

/-! ### Worked examples of the manual -/

/-- The note that the sequencer forms under RATE 89,784 from a carried acc: its length and the acc it carries. -/
def tSteer (acc : Nat) : Nat × Nat :=
  let f := FrameSeq.newLength { tRun.fs with rate := 89784, acc := acc, period := 100000 }
  (f.noteLen, f.acc)

/-- The worked example of the steering rule, 02_notes_and_clocks: five top notes of a reference that runs 13.7 ppm fast. -/
theorem test_steering_example :
    tSteer 0 = (100001, 24248) ∧ tSteer 24248 = (100001, 48496) ∧ tSteer 48496 = (100002, 7208) ∧
    tSteer 7208 = (100001, 31456) ∧ tSteer 31456 = (100001, 55704) := by decide

/-- The PI controller of pump loop 7 (R246) with an upper limit. -/
def tPump (umax : Int) : Loop :=
  { (default : Loop) with
    secs := 2, integ := 2, uLast := 500000, umin := 0, umax := umax, outGain := 2 ^ 29,
    sect := (default : Loop).sect.set 1 { (default : LoopSection) with
      b0 := 273804165, b1 := -268435456, a1 := -536870912, s1 := 500000 * 2 ^ 29 } }

/-- R246, pump loop 7: the section writes 500,510 and would move s1 to 500,010. -/
theorem test_pump_loop_section :
    (tPump 500200).sect[1].run 1000 = (500510, 500010 * 2 ^ 29, 0, 0) := by decide

/-- R246, pump loop 7: the clamp writes 500,200 and freezes s1; with UMAX at 500,510, s1 advances by 10. -/
theorem test_pump_loop_conditional_integration :
    let run := fun m => let l := tPump m; let c := l.cascade 1000; let u := l.limit c.1; (u, (l.commit (c.1 - u) c.2.1).sect[1].s1)
    run 500200 = (500200, 500000 * 2 ^ 29) ∧ run 500510 = (500510, 500010 * 2 ^ 29) := by decide

/-- The node balance of 05_solver_engines: three products at scales 28 and 20, written at scale 20, with headroom 21. -/
theorem test_node_balance :
    shiftRnd (268435456 * 13107200 - 268435456 * 7602176 - 268435456 * 4980736) (28 + 20 - 20) = 524288 ∧
    2 ^ 19 = 524288 := by decide

/-- The descriptor of that example, byte by byte. -/
def tNodeDesc : List Byte :=
  [0x00, 0x01, 0x11, 0x00, 0xA8, 0xD0, 0x03, 0x00, 0x40, 0x00, 0x00, 0x00, 0x01, 0x00, 0x00, 0x00] ++ zeros 8 ++
    [0xFF, 0x00, 0x02, 0x00, 0x00, 0x05, 0x00, 0x00] ++ zeros 24 ++ [0x11, 0x0A, 0x00, 0x00, 0x00, 0x00, 0x00, 0x00]

/-- 05_solver_engines: what the engine reads in that descriptor. -/
theorem test_descriptor_example :
    let d := Desc.ofBytes tNodeDesc
    tNodeDesc.length = 64 ∧ d.cls = 0 ∧ d.program = 1 ∧ d.problem = 0x11 ∧ d.deadline = 0x3D0A8 ∧ d.margin = 64 ∧
    d.iterCap = 1 ∧ d.warmSlot = 0xFF ∧ d.epoch = 2 ∧ d.dest = 5 ∧ d.tag = 0xA11 ∧ d.clean = true := by decide

/-- 05_solver_engines: the record of that job, 64 bytes, at CONVERGED with one iteration and 143 cycles. -/
theorem test_record_example :
    recordBytes (Desc.ofBytes tNodeDesc) 0 0 1 0 0 0 0 0 143 [] =
      [0x00, 0x00, 0x11, 0x00, 0x02, 0x00, 0x01, 0x00] ++ zeros 24 ++ [0x8F, 0x00, 0x00, 0x00] ++ List.replicate 24 0xFF ++
        [0x11, 0x0A, 0x00, 0x00] := by decide

/-- The zero pivots of 06_solving_under_deadline: PIVMIN 1,024, PIVREG 4,096, reciprocals at scale 20. -/
theorem test_zero_pivots :
    regularise 1024 4096 0 = (4096, true) ∧ regularise 1024 4096 (-300) = (-4096, true) ∧
    regularise 1024 4096 1024 = (1024, false) ∧ recipAt 4096 20 20 = (268435456, false) ∧
    recipAt (-4096) 20 20 = (-268435456, false) ∧ recipAt 1024 20 20 = (1073741824, false) := by decide

/-- The FRAMES section of the bench accord of 03_accord. -/
theorem test_frames_section_example :
    FramesCfg.ofBytes [0xA0, 0x86, 0x01, 0x00, 0x64, 0x00, 0x32, 0x00, 0x02, 0x02, 0x04, 0x0A, 0xE8, 0x03, 0x00, 0x00] =
      { period := 100000, h := 100, b := 50, src := 2, kpShift := 2, kiShift := 4, lockWin := 10, glitchWin := 1000 } := by decide

/-- The report of 12_ethernet_and_exchange: RUN, flow 1.850 kg/s, supply 78.400 °C and return 41.250 °C, all GOOD. -/
theorem test_report_example :
    parseXsx ([0x01, 0x01, 0x05, 0x02, 0x2B, 0x1A, 0x00, 0x00, 0xD2, 0x04, 0x00, 0x00, 0x1B, 0x00, 0x00, 0x00,
        0x07, 0x04, 0xC9, 0x03, 0x1F, 0x5E, 0x01, 0x05, 0x00, 0x3A, 0x07, 0x00, 0x00, 0x02, 0x05, 0x00,
        0x40, 0x32, 0x01, 0x00, 0x03, 0x05, 0x00, 0x22, 0xA1, 0x00, 0x00] ++ zeros 16) =
      some [(7, [0xC9, 0x03, 0x1F, 0x5E]), (1, [0x00, 0x3A, 0x07, 0x00, 0x00]), (2, [0x00, 0x40, 0x32, 0x01, 0x00]),
        (3, [0x00, 0x22, 0xA1, 0x00, 0x00])] ∧
    leNat [0x3A, 0x07, 0x00, 0x00] = 1850 ∧ leNat [0x40, 0x32, 0x01, 0x00] = 78400 ∧ leNat [0x22, 0xA1, 0x00, 0x00] = 41250 ∧
    leNat [0x05, 0x02] = 517 ∧ leNat [0x2B, 0x1A, 0, 0] = 0x1A2B ∧ leNat [0xD2, 0x04, 0, 0] = 1234 := by
  decide

/-! ### One step each -/

/-- A command at the front of the queue leaves it, and the rest waits. -/
theorem test_step_takes_the_front :
    (match step { State.reset with pending := [.heartTick 0, .baseTick] } with
      | .next t => t.pending == [.baseTick]
      | _ => false) = true := by decide

/-- An idle step is one PERI cycle, 40 cycles of the VCO, and moves nothing but the clock (DESIGN CHOICE, log entry 1). -/
theorem test_idle_step : step State.reset = .next { State.reset with now := State.reset.now + 40 } := rfl

/-! ### Witnesses of the hypotheses of the statements -/

/-- Witnesses of the hypotheses of `Obligations.StepRunsTheFront`, one for each clause. -/
theorem witness_StepRunsTheFront :
    (∃ (s : State) (u : _), s.pending = [] ∧ s.pwr.powered = true ∧ s.pwr.halted = false ∧ u = { s with now := s.now + 40 } ∧
      u.settleAcc = u ∧ u.settleAcd = u ∧ u.settleFab = u ∧ u.settleLoops = u ∧ u.settleXsx = u ∧ u.settleExport = u) ∧
    (∃ (s : State), s.pending = [] ∧ (s.pwr.powered = false ∨ s.pwr.halted = true)) :=
  ⟨⟨State.reset, ({ State.reset with now := State.reset.now + 40 }), by decide, by decide, by decide, rfl, rfl, rfl, rfl, rfl,
    rfl, rfl⟩,
   ⟨tRun.modPwr fun p => { p with powered := false }, by decide⟩⟩

/-- Witnesses of the hypotheses of `Obligations.LostEntriesAreReported`, one for each clause. -/
theorem witness_LostEntriesAreReported :
    (∃ (s : State), 64 ≤ s.sil.queue.length) ∧
    (∃ (s : State) (e : SilEntry) (rest : List SilEntry), s.alive = true ∧ s.sil.queue = e :: rest ∧ s.sil.losses.1 = 0) ∧
    (∃ (s : State) (e : SilEntry) (rest : List SilEntry), s.alive = true ∧ s.sil.queue = e :: rest ∧ s.sil.losses.1 ≠ 0) :=
  ⟨⟨tRun.modSil fun l => { l with queue := List.replicate 64 tEntry }, by decide⟩,
   ⟨tRun.modSil fun l => { l with queue := [tEntry] }, tEntry, [], by decide⟩,
   ⟨tRun.modSil fun l => { l with queue := List.replicate 64 tEntry, losses := (2, 7) }, tEntry, List.replicate 63 tEntry,
     by decide⟩⟩

/-- Witnesses of the hypotheses of `Obligations.MasterCopiesAreClosed`, one for each clause. -/
theorem witness_MasterCopiesAreClosed :
    (∃ (s : State) (who : Initiator) (q : FabReq) (g : Nat), s.acts who = true ∧ (isBe who = false ∨ s.acc.locked = false) ∧
      s.grantAt who q s.now = some g) ∧
    (∃ (s : State) (t : State) (who : Initiator) (q : FabReq) (r : Answer) (g : Nat), s.serve who q g = (t, r) ∧ (0x10000000 ≤
      q.addr.toNat ∧ q.addr.toNat < 0x105B0000 ∨ 0x107C0000 ≤ q.addr.toNat ∧ q.addr.toNat < 0x10800000 ∧ kindWrites q.kind =
      true) ∧ s.fab.errValid = false) ∧
    (∃ (s : State) (t : State) (who : Initiator) (q : FabReq) (r : Answer) (g : Nat), s.serve who q g = (t, r) ∧ 0x107C0000 ≤
      q.addr.toNat ∧ q.addr.toNat + q.size ≤ 0x10800000 ∧ 1 ≤ q.size ∧ q.size ≤ 8 ∧ q.kind = .read ∧ q.ecc = .ok ∧ r.err =
      false) :=
  ⟨⟨State.reset, .security, { kind := .read, addr := 0x10600000, size := 8, data := [], ecc := .ok, line := 0 }, 0, by decide⟩,
   ⟨State.reset, _, .security,
     { kind := .write, addr := 0x107FFFF8, size := 8, data := List.replicate 8 1, ecc := .ok, line := 0 }, _, 0, rfl, by decide⟩,
   ⟨State.reset, _, .security, { kind := .read, addr := 0x107C0000, size := 8, data := [], ecc := .ok, line := 0 }, _, 0, rfl,
     by decide⟩⟩

set_option maxRecDepth 8000 in
/-- Witnesses of the hypotheses of `Obligations.CountersStartAtZero`, one for each clause. -/
theorem witness_CountersStartAtZero :
    (∃ (s : State) (s1 : State) (x : Slot) (bnc : Nat), s.alive = true ∧ s.running = true ∧ s.acc.target = some (x, bnc) ∧
      (s.acc.stopped = true ∨ s.acc.halted.any (fun a => decide (a ≤ s.now)) = true) ∧ s1 = (if s.acc.stopped then s else
      s.configureStop) ∧ s1.solversQuiet = true ∧ s1.mtr.capReq = false) ∧
    (∃ (s : State), s.tickReady = true ∧ s.fs.started = false ∧ s.fs.tnc = 0 ∧ s.fs.hpos = 0 ∧ s.fs.bpos = 0 ∧ s.fs.bnc = 0) ∧
    (∃ (s : State), s.notesRun = true ∧ s.fs.heartDue = true ∧ s.fs.tnc = 0) ∧
    (∃ (s : State), s.notesRun = true ∧ s.fs.baseDue = true ∧ s.fs.heartDue = false ∧ s.fs.tnc = 0) :=
  ⟨⟨(tRun.modFs fun f => { f with hpos := 0, bpos := 0, bnc := 1 }).modAcc fun a =>
    { a with target := some (.a, 0), stopped := true }, ((if ((tRun.modFs fun f =>
    { f with hpos := 0, bpos := 0, bnc := 1 }).modAcc fun a => { a with target := some (.a, 0), stopped := true }).acc.stopped
    then ((tRun.modFs fun f => { f with hpos := 0, bpos := 0, bnc := 1 }).modAcc fun a =>
    { a with target := some (.a, 0), stopped := true }) else ((tRun.modFs fun f =>
    { f with hpos := 0, bpos := 0, bnc := 1 }).modAcc fun a =>
    { a with target := some (.a, 0), stopped := true }).configureStop)), .a, 0, by decide, by decide, by decide, by decide, rfl,
    by decide⟩,
   ⟨(tRun.modSys fun y => { y with state := .start }).modFs fun f => { FrameSeq.reset with started := false }, by decide⟩,
   ⟨tRun.modFs fun f => { f with tnc := 0, heartDue := true }, by decide⟩,
   ⟨tRun.modFs fun f => { f with tnc := 0, baseDue := true }, by decide⟩⟩

/-- Witnesses of the hypotheses of `Obligations.MemoryStaysCanonical`. -/
theorem witness_MemoryStaysCanonical :
    ∃ (s : State) (t : State), Inv s ∧ step s = .next t :=
  ⟨tRun, tRun.idle, ⟨by decide, by decide⟩, rfl⟩

/-- Witnesses of the hypotheses of `Obligations.BuffersStayBounded`. -/
theorem witness_BuffersStayBounded :
    ∃ (s : State) (t : State), Bounded s ∧ step s = .next t :=
  ⟨tRun, tRun.idle, ⟨by decide, by decide, by decide⟩, rfl⟩

/-- Witnesses of the hypotheses of `Obligations.RollbackCountersNeverFall`. -/
theorem witness_RollbackCountersNeverFall :
    ∃ (s : State) (t : State), step s = .next t :=
  ⟨tRun, tRun.idle, rfl⟩

/-- Witnesses of the hypotheses of `Obligations.TopTick` (its part on top tick counts). -/
theorem witness_TopTick_TopTickCounts :
    ∃ (s : State) (n : Int) (a : _), s.tickReady = true ∧ s.fs.started = true ∧ s.fs.tnc + 1 < 2 ^ 64 ∧ n = ((s.fs.acc : Int) +
      s.fs.rate) / 65536 ∧ s.sys.reqMode ≠ some .test ∧ s.twin.takeover = [] ∧ (∀ r : Fin 7, s.pairs.log[r] = none) ∧ (∀ p : Fin
      4, s.prog.p[p].resumeNext = false ∧ s.prog.p[p].ckpt = none ∧ s.prog.p[p].sealedNote = false) ∧ (∀ b ∈
      [s.run.mem.mtrMirror.1, s.run.mem.mtrMirror.2], a < b ∨ b + 24576 ≤ a) :=
  ⟨tRun, 0, 0x30000000, by decide, by decide, by decide, rfl, by decide⟩

/-- Witnesses of the hypotheses of `Obligations.TopTick`, one for each clause (its part on top tick modes). -/
theorem witness_TopTick_TopTickModes :
    (∃ (s : State), s.tickReady = true ∧ s.fs.started = true ∧ s.serviceState = .service ∧ (∀ p : Fin 4, s.prog.p[p].recovery =
      false ∧ s.prog.p[p].recNext = none ∧ s.prog.p[p].resumeNext = false ∧ ∀ k : Fin 8, s.prog.p[p].tasks[k].running = false) ∧
      s.sys.state = .start ∧ s.fs.tnc = 0) ∧
    (∃ (s : State), s.tickReady = true ∧ s.fs.started = true ∧ s.serviceState = .service ∧ (∀ p : Fin 4, s.prog.p[p].recovery =
      false ∧ s.prog.p[p].recNext = none ∧ s.prog.p[p].resumeNext = false ∧ ∀ k : Fin 8, s.prog.p[p].tasks[k].running = false) ∧
      s.running = true ∧ (s.to s.nextTick).settleAcc.key.fell = false ∧ s.sys.reqMode = some .commissioning) ∧
    (∃ (s : State), s.tickReady = true ∧ s.fs.started = true ∧ s.serviceState = .service ∧ (∀ p : Fin 4, s.prog.p[p].recovery =
      false ∧ s.prog.p[p].recNext = none ∧ s.prog.p[p].resumeNext = false ∧ ∀ k : Fin 8, s.prog.p[p].tasks[k].running = false) ∧
      s.running = true ∧ s.key.fell = true ∧ s.sys.mode = .test) :=
  ⟨⟨(tRun.modSys fun y => { y with state := .start }).modFs fun f => { f with tnc := 0 }, by decide⟩,
   ⟨tRun.modSys fun y => { y with reqMode := some .commissioning }, by decide⟩,
   ⟨(tRun.modSys fun y => { y with state := .test, mode := .test }).modKey fun k => { k with fell := true }, by decide⟩⟩

/-- Witnesses of the hypotheses of `Obligations.HeartTicksAndOutputs`, one for each clause (its part on heart and base ticks).
-/
theorem witness_HeartTicksAndOutputs_HeartAndBaseTicks :
    (∃ (s : State), s.notesRun = true ∧ s.fs.heartDue = true ∧ s.fs.tnc ≠ 0) ∧
    (∃ (s : State), s.notesRun = true ∧ s.fs.baseDue = true ∧ s.fs.heartDue = false ∧ s.fs.tnc ≠ 0) :=
  ⟨⟨tRun.modFs fun f => { f with heartDue := true }, by decide⟩,
   ⟨tRun.modFs fun f => { f with baseDue := true }, by decide⟩⟩

/-- Witnesses of the hypotheses of `Obligations.HeartTicksAndOutputs`, one for each clause (its part on outputs take effect). -/
theorem witness_HeartTicksAndOutputs_OutputsTakeEffect :
    (∃ (s : State) (s1 : State) (d : OutDue) (rest : List OutDue), s.notesRun = true ∧ s.prog.outDue = d :: rest ∧ d.late = none
      ∧ s1 = (s.to d.at_).settleLoops ∧ d.at_ < s.nextTick) ∧
    (∃ (s : State) (s1 : State) (d : OutDue) (rest : List OutDue), s.notesRun = true ∧ s.prog.outDue = d :: rest ∧ d.late = none
      ∧ s1 = (s.to d.at_).settleLoops ∧ s.nextTick ≤ d.at_) :=
  ⟨⟨tRun.modProg fun p => { p with outDue := [{ at_ := 0, tnc := 0, hpos := 0, bpos := 0, bnc := 0, late := none }] }, _,
    { at_ := 0, tnc := 0, hpos := 0, bpos := 0, bnc := 0, late := none }, [], by decide, by decide, by decide, rfl, by decide⟩,
   ⟨tRun.modProg fun p => { p with outDue := [{ at_ := 4000000, tnc := 0, hpos := 0, bpos := 0, bnc := 0, late := none }] }, _,
     { at_ := 4000000, tnc := 0, hpos := 0, bpos := 0, bnc := 0, late := none }, [], by decide, by decide, by decide, rfl,
     by decide⟩⟩

/-- Witnesses of the hypotheses of `Obligations.FrameSequencer`, one for each clause (its part on discipline follows edges). -/
theorem witness_FrameSequencer_DisciplineFollowsEdges :
    (∃ (s : State) (dt : Nat) (c : Int) (e : Int) (step : Int), s.notesRun = true ∧ s.fs.started = true ∧ s.fs.dstate = .acquire
      ∧ s.fs.src = 1 ∧ dt < s.fs.noteLen ∧ c = (dt : Int) - 2 ∧ s.fs.isGlitch c = false ∧ e = s.fs.phase c ∧ step = Int.tdiv (e
      * 65536) ((100000000 / s.fs.period : Nat) : Int)) ∧
    (∃ (s : State) (dt : Nat) (c : Int), s.notesRun = true ∧ s.fs.started = true ∧ s.fs.dstate ≠ .free ∧ s.fs.src = 1 ∧ dt <
      s.fs.noteLen ∧ c = (dt : Int) - 2 ∧ s.fs.isGlitch c = true ∧ s.fs.discarded < 65535) ∧
    (∃ (s : State), s.notesRun = true ∧ (s.fs.dstate = .acquire ∨ s.fs.dstate = .locked) ∧ s.fs.missing < 65535 ∧
      s.fs.edgeMissing (((s.now - s.fs.tickAt) / 40 : Nat) : Int) = true) :=
  ⟨⟨tRun.modFs fun f => { f with dstate := .acquire, src := 1 }, 5, (((5) : Int) - 2), ((tRun.modFs fun f =>
    { f with dstate := .acquire, src := 1 }).fs.phase ((((5) : Int) - 2))), (Int.tdiv ((((tRun.modFs fun f =>
    { f with dstate := .acquire, src := 1 }).fs.phase ((((5) : Int) - 2)))) * 65536) ((100000000 / (tRun.modFs fun f =>
    { f with dstate := .acquire, src := 1 }).fs.period : Nat) : Int)), by decide, by decide, by decide, by decide, by decide,
    rfl, by decide, rfl, rfl⟩,
   ⟨tRun.modFs fun f => { f with dstate := .locked, src := 1, lastEdge := some (99, 0, 100000) }, 5, (((5) : Int) - 2),
     by decide, by decide, by decide, by decide, by decide, rfl, by decide⟩,
   ⟨tRun.modFs fun f => { f with dstate := .locked, tnc := 2001, lastEdge := some (0, 0, 100000) }, by decide⟩⟩

/-- Witnesses of the hypotheses of `Obligations.FrameSequencer`, one for each clause (its part on frame registers). -/
theorem witness_FrameSequencer_FrameRegisters :
    (∃ (s : State) (who : Initiator) (a : Nat) (b : Nat) (c : Nat), s.acts who = true ∧ (Tbl.getD s.fs.shadows who.code
      FsShadow.none).tnc = some (a, b, c)) ∧
    (∃ (s : State) (who : Initiator), s.acts who = true ∧ s.granted who 0 = true ∧ s.fs.dstate = .free) ∧
    (∃ (s : State) (who : Initiator), s.acts who = true ∧ s.granted who 0 = true ∧ s.fs.dstate ≠ .free) :=
  ⟨⟨tRun.modFs fun f => { f with shadows := [(8, { tnc := some (1, 2, 3), tb := none, tickTb := none })] }, .security, 1, 2, 3,
    by decide⟩,
   ⟨tRun, .security, by decide⟩,
   ⟨tRun.modFs fun f => { f with dstate := .holdover }, .security, by decide⟩⟩

/-- Witnesses of the hypotheses of `Obligations.SourcesAreCounted`, one for each clause (its part on source assertion counts).
-/
theorem witness_SourcesAreCounted_SourceAssertionCounts :
    (∃ (s : State) (k : Fin 320), s.alive = true ∧ (s.hub.route k.val).counter < 65535 ∧ (s.hub.route k.val).st = .inactive ∧
      (s.hub.route k.val).lastEdge ≠ some (periEdge s.now)) ∧
    (∃ (s : State) (who : Initiator), s.acts who = true ∧ s.granted who 1 = true) :=
  ⟨⟨State.reset, 5, by decide⟩,
   ⟨tRun, .security, by decide⟩⟩

/-- Witnesses of the hypotheses of `Obligations.SourcesAreCounted` (its part on coalesce timeout makes due). -/
theorem witness_SourcesAreCounted_CoalesceTimeoutMakesDue :
    ∃ (s : State) (k : Fin 320) (t0 : Nat), s.alive = true ∧ (s.hub.route k.val).time ≠ 0 ∧ 1 ≤ (s.hub.route k.val).counter ∧
      (s.hub.route k.val).first = some t0 ∧ (s.hub.route k.val).st = .inactive :=
  ⟨tRun.modHub fun h => { h with routes := [(319, { Route.reset with time := 3, counter := 1, first := some 40 })] }, 319, 40,
    by decide⟩

/-- Witnesses of the hypotheses of `Obligations.EntryAndCompletion`, one for each clause. -/
theorem witness_EntryAndCompletion :
    (∃ (s : State) (t : Fin 9) (src : Nat) (at_ : Nat) (p : Fin 9), s.alive = true ∧ s.hub.tgt[t].port = some (src, false, at_)
      ∧ s.pairOfTarget t = some p ∧ s.pairs.p[p].core.mie = true ∧ s.pairs.p[p].isolated = false ∧ s.pairs.p[p].debugHalt =
      false) ∧
    (∃ (s : State) (t : Fin 9) (src : Fin 512) (n : Nat) (rest : List Active), s.alive = true ∧ s.hub.tgt[t].stack =
      { src := src.val, second := false, count := n } :: rest ∧ (s.hub.route src.val).st = .active ∧ (s.hub.route
      src.val).laterCoal = none) ∧
    (∃ (s : State) (t : Fin 9) (src : Fin 512), s.alive = true ∧ (∀ a, s.hub.tgt[t].stack.head? = some a → a.src ≠ src.val) ∧
      s.sil.queue.length < 64) :=
  ⟨⟨(tRun.modHub fun h => { h with tgt := h.tgt.set 1 { Target.reset with port := some (5, false, 7) } }).modPairs fun q =>
    { q with p := q.p.set 1 { Pair.reset with core := { Core.reset with mie := true } } }, 1, 5, 7, 1, by decide⟩,
   ⟨tRun.modHub fun h =>
     { h with tgt := h.tgt.set 1 { Target.reset with stack := [{ src := 5, second := false, count := 2 }] }, routes := [(5,
              { Route.reset with st := .active })] }, 1, 5, 2, [], by decide⟩,
   ⟨tRun, 8, 511, by decide⟩⟩

/-- Witnesses of the hypotheses of `Obligations.HubRegistersAndRest`, one for each clause (its part on hub register writes). -/
theorem witness_HubRegistersAndRest_HubRegisterWrites :
    (∃ (s : State) (r : Fin 7) (k : Fin 10) (b : Fin 32) (v : Word), s.acts (.role r) = true ∧ s.granted (.role r) 1 = true ∧
      s.sil.queue.length < 64 ∧ v.getLsbD b = true ∧ (s.hub.route (32 * k.val + b.val)).target = r.val ∧ (s.hub.route (32 *
      k.val + b.val)).lastEdge ≠ some (periEdge s.now) ∧ s.setNow (0x40010100 + 4 * k.val) b.val = false) ∧
    (∃ (s : State) (who : Initiator) (k : Fin 320) (v : Word), s.acts who = true ∧ isSuperSec who = true ∧ (s.hub.route
      k.val).st = .inactive ∧ (v.extractLsb' 16 4 ≤ 8#4 ∨ v.extractLsb' 16 4 = 15#4)) ∧
    (∃ (s : State) (who : Initiator) (k : Fin 320) (v : Word), s.acts who = true ∧ isSuperSec who = true ∧ (s.hub.route
      k.val).st = .inactive ∧ v.extractLsb' 0 8 ≠ 0#8) :=
  ⟨⟨tRun.modHub fun h => { h with routes := [(319, { Route.reset with target := 0, st := .pending, counter := 1 })] }, 0, 9, 31,
    0x80000000, by decide⟩,
   ⟨tRun, .security, 319, 0x80080010, by decide⟩,
   ⟨tRun, .security, 319, 0x00070001, by decide⟩⟩

/-- Witnesses of the hypotheses of `Obligations.HubRegistersAndRest` (its part on pair rests). -/
theorem witness_HubRegistersAndRest_PairRests :
    ∃ (s : State) (t : Fin 9) (p : Fin 9), s.alive = true ∧ s.pairOfTarget t = some p ∧ s.pairs.p[p].core.wfi = true ∧
      s.hub.tgt[t].restEn = true ∧ s.hub.tgt[t].port = none ∧ s.anyPending t = false ∧ s.hub.tgt[t].held = false :=
  ⟨(tRun.modHub fun h => { h with tgt := h.tgt.set 1 { Target.reset with restEn := true } }).modPairs fun q =>
    { q with p := q.p.set 1 { Pair.reset with core := { Core.reset with wfi := true } } }, 1, 1, by decide⟩

/-- Witnesses of the hypotheses of `Obligations.ClockKeepsTime`, one for each clause (its part on clock advances). -/
theorem witness_ClockKeepsTime_ClockAdvances :
    (∃ (s : State), s.rtc.stopped = false ∧ s.rtc.t < 6311433600 ∧ (∀ a, s.rtc.setAt = some a → a + rtcV ≤ s.now)) ∧
    (∃ (s : State) (k : Fin 512) (sub : Nat), s.rtc.stopped = false ∧ k.val ≠ 0 ∧ s.rtc.corr ≤ k.val ∧ k.val < s.rtc.curVal ∧
      s.rtc.t < 6311433600 ∧ sub = s.rtcCount.rtc.sub) :=
  ⟨⟨tRun.modRtc fun r => { r with t := 6311433599 }, by decide⟩,
   ⟨tRun.modRtc fun r => { r with curVal := 511 }, 510, ((tRun.modRtc fun r => { r with curVal := 511 }).rtcCount.rtc.sub),
     by decide, by decide, by decide, by decide, by decide, rfl⟩⟩

/-- Witnesses of the hypotheses of `Obligations.ClockKeepsTime`, one for each clause (its part on clock is set). -/
theorem witness_ClockKeepsTime_ClockIsSet :
    (∃ (s : State) (who : Initiator), s.acts who = true ∧ isSuperSec who = true ∧ s.rtc.pend = none ∧ s.rtc.stage.ok = true) ∧
    (∃ (s : State) (who : Initiator), s.acts who = true ∧ isSuperSec who = true ∧ s.rtc.pend = none ∧ s.rtc.stage.ok = false) ∧
    (∃ (s : State) (c : Cal) (w : Nat), s.alive = true ∧ s.rtc.stopped = false ∧ s.rtc.pend = some (c, w) ∧ (0x40020000, 0) ∉
      s.setBits.2) :=
  ⟨⟨tRun.modRtc fun r => { r with stage := { hour := 23, min := 59, sec := 59, year := 199, month := 12, day := 31 } },
    .security, by decide⟩,
   ⟨tRun.modRtc fun r => { r with stage := { hour := 24, min := 59, sec := 59, year := 199, month := 12, day := 31 } },
     .security, by decide⟩,
   ⟨tRun.modRtc fun r => { r with pend := some (7, 5) }, 7, 5, by decide⟩⟩

/-- Witnesses of the hypotheses of `Obligations.ClockSupplyAndShadows` (its part on clock shadows). -/
theorem witness_ClockSupplyAndShadows_ClockShadows :
    ∃ (s : State) (who : Initiator) (a : Nat) (b : Nat) (c : Nat), s.acts who = true ∧ Tbl.get? who.code s.rtc.shadows = some
      (a, b, c) :=
  ⟨tRun.modRtc fun r => { r with shadows := [(8, (1, 2, 3))] }, .security, 1, 2, 3, by decide⟩

/-- Witnesses of the hypotheses of `Obligations.Sillage`, one for each clause (its part on entry is written). -/
theorem witness_Sillage_EntryIsWritten :
    (∃ (s : State) (e : SilEntry) (rest : List SilEntry), s.alive = true ∧ s.sil.queue = e :: rest ∧ s.sil.losses.1 = 0 ∧
      s.sil.running = none) ∧
    (∃ (s : State) (e : SilEntry) (rest : List SilEntry), s.alive = true ∧ s.sil.queue = e :: rest ∧ s.sil.losses.1 ≠ 0) :=
  ⟨⟨tRun.modSil fun l => { l with queue := [tEntry], head := 4294967295 }, tEntry, [], by decide⟩,
   ⟨tRun.modSil fun l => { l with queue := [tEntry], losses := (2, 7) }, tEntry, [], by decide⟩⟩

/-- Witnesses of the hypotheses of `Obligations.Sillage` (its part on firmware entry). -/
theorem witness_Sillage_FirmwareEntry :
    ∃ (s : State) (r : Fin 7), s.acts (.role r) = true ∧ s.granted (.role r) 0x60 = true ∧ s.sil.queue.length < 64 :=
  ⟨tRun, 0, by decide⟩

/-- Witnesses of the hypotheses of `Obligations.Sillage`, one for each clause (its part on captures of the sillage). -/
theorem witness_Sillage_CapturesOfTheSillage :
    (∃ (s : State) (who : Initiator) (j : Fin 8), s.acts who = true ∧ s.granted who 0x60 = true ∧ s.sil.running = none ∧
      s.sil.choose = some j) ∧
    (∃ (s : State) (j : Fin 8) (c : Capture), s.alive = true ∧ s.sil.running = some (j.val, c) ∧ s.pwr.deferred = none) :=
  ⟨⟨tRun.modSil fun l => { l with hold := 0x7F }, .security, 7, by decide⟩,
   ⟨tRun.modSil fun l => { l with running := some (7, Capture.blank) }, 7, Capture.blank, by decide⟩⟩

/-- Witnesses of the hypotheses of `Obligations.CollectorAndMirror`, one for each clause (its part on collector posts). -/
theorem witness_CollectorAndMirror_CollectorPosts :
    (∃ (s : State) (s1 : State) (k : Nat) (base : Nat) (len : Nat) (own : Nat) (r : Rec) (rest : List Rec) (a : _), s1 =
      s.settleLoops ∧ Inv s1 ∧ s.alive = true ∧ s.acc.locked = true ∧ k < 48 ∧ (∀ j, j < 48 → (s1.ready j = true ↔ j = k)) ∧
      s1.run.mem.ringOf k = some (base, len, own) ∧ (s1.fab.producer k).queue = r :: rest ∧ r.data.length = 64 ∧ r.role ≤ 6 ∧
      r.epoch = (s1.wait 10).epochNow r.role ∧ (a < base + 64 * (s1.fab.producer k).wr ∨ base + 64 * (s1.fab.producer k).wr + 64
      ≤ a)) ∧
    (∃ (s : State) (r : Fin 7) (v : Word) (base : Nat) (len : Nat), s.acts (.role r) = true ∧ s.run.mem.ringOf (v.extractLsb' 0
      6).toNat = some (base, len, r.val)) :=
  ⟨⟨(tCfg (fun c => { c with mem := { c.mem with rings := [(47, 0x10600000, 4, 0)] } }) tRun).modFab fun f =>
    { f with prod := [(47, { Producer.reset with queue := [{ data := List.replicate 64 1, role := 0, epoch := 0 }] })] },
    (((tCfg (fun c => { c with mem := { c.mem with rings := [(47, 0x10600000, 4, 0)] } }) tRun).modFab fun f =>
    { f with prod := [(47, { Producer.reset with queue := [{ data := List.replicate 64 1, role := 0,
                                                             epoch := 0 }] })] }).settleLoops), 47, 0x10600000, 4, 0,
    { data := List.replicate 64 1, role := 0, epoch := 0 }, [], 0x10600040, rfl, ⟨by decide, by decide⟩, by decide⟩,
   ⟨tCfg (fun c => { c with mem := { c.mem with rings := [(47, 0x10600000, 4, 6)] } }) tRun, 6, 47, 0x10600000, 4, by decide⟩⟩

/-- Witnesses of the hypotheses of `Obligations.CollectorAndMirror`, one for each clause (its part on image mirror). -/
theorem witness_CollectorAndMirror_ImageMirror :
    (∃ (s : State) (r : Fin 7) (p : Fin 9), s.alive = true ∧ s.acc.locked = true ∧ p = (s.pairs.place[r]).castSucc ∧
      s.pairs.p[p].isolated = false ∧ (s.pairs.running = true → s.pairs.migRole ≠ r.val) ∧ s.pairs.log[r] = none) ∧
    (∃ (s : State) (r : Fin 7) (lines : List (Nat × List Byte)) (l : _), Inv s ∧ s.alive = true ∧ s.pairs.log[r] = some lines ∧
      s.ckptRuns r = false ∧ (lines.map (·.1)).Nodup ∧ (∀ l ∈ lines, l.1 < 4096 ∧ l.2.length = 64) ∧ l ∈ lines) ∧
    (∃ (s : State) (r : Fin 7) (lines : List (Nat × List Byte)) (a : _), Inv s ∧ s.alive = true ∧ s.pairs.log[r] = some lines ∧
      s.ckptRuns r = false ∧ (lines.map (·.1)).Nodup ∧ (∀ l ∈ lines, l.1 < 4096 ∧ l.2.length = 64) ∧ (∀ l ∈ lines, a <
      0x10080000 + r.val * 0xD0000 + 64 * l.1 ∨ 0x10080000 + r.val * 0xD0000 + 64 * l.1 + 64 ≤ a)) :=
  ⟨⟨tRun, 0, 0, by decide, by decide, rfl, by decide⟩,
   ⟨tRun.modPairs fun q => { q with log := q.log.set 6 (some [(4095, List.replicate 64 1)]) }, 6, [(4095, List.replicate 64 1)],
     (4095, List.replicate 64 1), ⟨by decide, by decide⟩, by decide⟩,
   ⟨tRun.modPairs fun q => { q with log := q.log.set 0 (some [(0, List.replicate 64 1)]) }, 0, [(0, List.replicate 64 1)],
     0x10080040, ⟨by decide, by decide⟩, by decide⟩⟩

/-- Witnesses of the hypotheses of `Obligations.CoreExecution` (its part on core arithmetic). -/
theorem witness_CoreExecution_CoreArithmetic :
    ∃ (s : State) (p : Fin 9) (rs1 : Fin 32) (rs2 : Fin 32) (a : DWord) (b : DWord), s.alive = true ∧ s.pairs.p[p].isolated =
      false ∧ s.pairs.p[p].debugHalt = false ∧ (s.pairs.running = true → p.val ≠ s.pairs.spare.val) ∧ s.pairs.p[p].core.wfi =
      false ∧ a = s.pairs.p[p].core.get rs1 ∧ b = s.pairs.p[p].core.get rs2 :=
  ⟨tRun, 8, 31, 0, 0, 0, by decide, by decide, by decide, by decide, by decide, rfl, rfl⟩

/-- Witnesses of the hypotheses of `Obligations.CoreExecution`, one for each clause (its part on core loads and stores). -/
theorem witness_CoreExecution_CoreLoadsAndStores :
    (∃ (s : State) (p : Fin 9) (rs1 : Fin 32) (off : BitVec 12) (o : Nat) (a : _), Inv s ∧ s.alive = true ∧
      s.pairs.p[p].isolated = false ∧ s.pairs.p[p].debugHalt = false ∧ (s.pairs.running = true → p.val ≠ s.pairs.spare.val) ∧
      s.pairs.p[p].core.wfi = false ∧ (s.pairs.p[p].core.get rs1 + off.signExtend 64).toNat = 0x08100000 + o ∧ o < 0x40000 ∧ o %
      8 = 0 ∧ (a < o ∨ o + 8 ≤ a)) ∧
    (∃ (s : State) (p : Fin 9) (rs1 : Fin 32) (off : BitVec 12) (o : Nat) (q : Fin 9), Inv s ∧ s.alive = true ∧
      s.pairs.p[p].isolated = false ∧ s.pairs.p[p].debugHalt = false ∧ (s.pairs.running = true → p.val ≠ s.pairs.spare.val) ∧
      s.pairs.p[p].core.wfi = false ∧ (s.pairs.p[p].core.get rs1 + off.signExtend 64).toNat = 0x08100000 + o ∧ o < 0x40000 ∧ o %
      8 = 0 ∧ q ≠ p) :=
  ⟨⟨tRun.modPairs fun q =>
    { q with p := q.p.set 8 { Pair.reset with core := { Core.reset with x := Core.reset.x.set 31 0x0813FFF8 } } }, 8, 31, 0,
    0x3FFF8, 0, ⟨by decide, by decide⟩, by decide⟩,
   ⟨tRun.modPairs fun q =>
     { q with p := q.p.set 0 { Pair.reset with core := { Core.reset with x := Core.reset.x.set 31 0x08100008 } } }, 0, 31,
     0xFF8, 0, 1, ⟨by decide, by decide⟩, by decide⟩⟩

/-- Witnesses of the hypotheses of `Obligations.CoreTraps`, one for each clause. -/
theorem witness_CoreTraps :
    (∃ (s : State) (p : Fin 9) (c : Core) (i : _) (code : _) (tval : _), s.alive = true ∧ s.pairs.p[p].isolated = false ∧
      s.pairs.p[p].debugHalt = false ∧ (s.pairs.running = true → p.val ≠ s.pairs.spare.val) ∧ s.pairs.p[p].core = c ∧ c.wfi =
      false ∧ (i, code, tval) ∈ [(CoreInstr.ecall, (if c.machine then 11#64 else 8#64), 0#64), (.ebreak, 3#64, c.pc), (.illegal,
      2#64, 0#64)]) ∧
    (∃ (s : State) (p : Fin 9) (c : Core) (rs1 : Fin 32) (off : BitVec 12), s.alive = true ∧ s.pairs.p[p].isolated = false ∧
      s.pairs.p[p].debugHalt = false ∧ (s.pairs.running = true → p.val ≠ s.pairs.spare.val) ∧ s.pairs.p[p].core = c ∧ c.wfi =
      false ∧ (c.get rs1 + off.signExtend 64).toNat % 8 ≠ 0) ∧
    (∃ (s : State) (p : Fin 9) (c : Core), s.alive = true ∧ s.pairs.p[p].isolated = false ∧ s.pairs.p[p].debugHalt = false ∧
      (s.pairs.running = true → p.val ≠ s.pairs.spare.val) ∧ s.pairs.p[p].core = c ∧ c.wfi = false ∧ c.machine = true) ∧
    (∃ (s : State) (p : Fin 9) (c : Core), s.alive = true ∧ s.pairs.p[p].isolated = false ∧ s.pairs.p[p].debugHalt = false ∧
      (s.pairs.running = true → p.val ≠ s.pairs.spare.val) ∧ s.pairs.p[p].core = c ∧ c.wfi = false ∧ c.machine = false) ∧
    (∃ (s : State) (p : Fin 9) (c : Core) (i : CoreInstr), s.alive = true ∧ s.pairs.p[p].isolated = false ∧
      s.pairs.p[p].debugHalt = false ∧ (s.pairs.running = true → p.val ≠ s.pairs.spare.val) ∧ s.pairs.p[p].core = c ∧ c.wfi =
      false ∧ (i = .wfi ∧ c.machine = false ∧ c.tw = true ∨ ∃ dbl rm rd rs1 rs2 rs3, i = .fp .add dbl rm rd rs1 rs2 rs3 ∧
      (rm.val = 5 ∨ rm.val = 6))) :=
  ⟨⟨tRun, 0, Core.reset, .ecall, 11, 0, by decide⟩,
   ⟨tRun.modPairs fun q => { q with p := q.p.set 0 { Pair.reset with core := { Core.reset with x := Core.reset.x.set 31 1 } } },
     0, { Core.reset with x := Core.reset.x.set 31 1 }, 31, 0, by decide⟩,
   ⟨tRun, 0, Core.reset, by decide⟩,
   ⟨tRun.modPairs fun q => { q with p := q.p.set 0 { Pair.reset with core := { Core.reset with machine := false } } }, 0,
     { Core.reset with machine := false }, by decide⟩,
   ⟨State.reset.modPairs fun q =>
     { q with p := q.p.set 1 { Pair.reset with core := { Core.reset with machine := false, tw := true } } }, 1,
     { Core.reset with machine := false, tw := true }, .wfi, by decide⟩⟩

/-- Witnesses of the hypotheses of `Obligations.FabricAccess`, one for each clause (its part on fabric access). -/
theorem witness_FabricAccess_first :
    (∃ (s : State) (who : Initiator) (a : Addr) (g : Nat) (q : FabReq), Inv s ∧ s.acts who = true ∧ 0x105B0000 ≤ a.toNat ∧
      a.toNat + 64 ≤ 0x107C0000 ∧ isBe who = false ∧ s.regionOk who a.toNat 8 false = true ∧ s.regionOk who a.toNat 8 true =
      true ∧ q = { kind := .read, addr := a, size := 8, data := [], ecc := .ok, line := 0 } ∧ s.grantAt who q s.now = some g) ∧
    (∃ (s : State) (who : Initiator) (a : Addr) (g : Nat) (bs : List Byte) (q : FabReq) (b : _), Inv s ∧ s.acts who = true ∧
      0x105B0000 ≤ a.toNat ∧ a.toNat + 64 ≤ 0x107C0000 ∧ isBe who = false ∧ s.regionOk who a.toNat 8 false = true ∧ s.regionOk
      who a.toNat 8 true = true ∧ bs.length = 8 ∧ q =
      { kind := .write, addr := a, size := 8, data := bs, ecc := .ok, line := 0 } ∧ s.grantAt who q s.now = some g ∧ (b <
      a.toNat ∨ a.toNat + 8 ≤ b)) ∧
    (∃ (s : State) (who : Initiator) (a : Addr) (g : Nat) (bs : List Byte) (q : FabReq) (w : _), Inv s ∧ s.acts who = true ∧
      0x105B0000 ≤ a.toNat ∧ a.toNat + 64 ≤ 0x107C0000 ∧ isBe who = false ∧ s.regionOk who a.toNat 8 false = true ∧ s.regionOk
      who a.toNat 8 true = true ∧ bs.length = 8 ∧ q =
      { kind := .write, addr := a, size := 8, data := bs, ecc := .ok, line := 0 } ∧ s.grantAt who q s.now = some g ∧ w ≠
      who.code) ∧
    (∃ (s : State) (who : Initiator) (a : Addr) (g : Nat) (x : DWord) (q : FabReq) (b : _), Inv s ∧ s.acts who = true ∧
      0x105B0000 ≤ a.toNat ∧ a.toNat + 64 ≤ 0x107C0000 ∧ isBe who = false ∧ s.regionOk who a.toNat 8 false = true ∧ s.regionOk
      who a.toNat 8 true = true ∧ q = { kind := .amo .add, addr := a, size := 8, data := toLe 8 x.toNat, ecc := .ok, line := 0 }
      ∧ s.grantAt who q s.now = some g ∧ (b < a.toNat ∨ a.toNat + 8 ≤ b)) :=
  ⟨⟨State.reset, .security, 0x10600000, 0, { kind := .read, addr := 0x10600000, size := 8, data := [], ecc := .ok, line := 0 },
    ⟨by decide, by decide⟩, by decide, by decide, by decide, by decide, by decide, by decide, rfl, by decide⟩,
   ⟨State.reset, .security, 0x105B0000, 0, List.replicate 8 1,
     { kind := .write, addr := 0x105B0000, size := 8, data := List.replicate 8 1, ecc := .ok, line := 0 }, 0, ⟨by decide,
     by decide⟩, by decide, by decide, by decide, by decide, by decide, by decide, by decide, rfl, by decide⟩,
   ⟨State.reset, .security, 0x107BFFC0, 0, List.replicate 8 1,
     { kind := .write, addr := 0x107BFFC0, size := 8, data := List.replicate 8 1, ecc := .ok, line := 0 }, 0, ⟨by decide,
     by decide⟩, by decide, by decide, by decide, by decide, by decide, by decide, by decide, rfl, by decide⟩,
   ⟨State.reset, .security, 0x107BFFC0, 0, 1,
     { kind := .amo .add, addr := 0x107BFFC0, size := 8, data := toLe 8 (1#64).toNat, ecc := .ok, line := 0 }, 0x107BFFC8, ⟨by
     decide, by decide⟩, by decide, by decide, by decide, by decide, by decide, by decide, rfl, by decide⟩⟩

/-- Witnesses of the hypotheses of `Obligations.FabricAccess`, one for each clause (its part on fabric reservation). -/
theorem witness_FabricAccess_FabricReservation :
    (∃ (s : State) (who : Initiator) (a : Addr) (g : Nat) (bs : List Byte) (q : FabReq), Inv s ∧ s.acts who = true ∧ 0x105B0000
      ≤ a.toNat ∧ a.toNat + 64 ≤ 0x107C0000 ∧ isBe who = false ∧ s.regionOk who a.toNat 8 false = true ∧ s.regionOk who a.toNat
      8 true = true ∧ bs.length = 8 ∧ q = { kind := .lr, addr := a, size := 8, data := [], ecc := .ok, line := 0 } ∧ s.grantAt
      who q s.now = some g) ∧
    (∃ (s : State) (who : Initiator) (a : Addr) (g : Nat) (bs : List Byte) (q : FabReq), Inv s ∧ s.acts who = true ∧ 0x105B0000
      ≤ a.toNat ∧ a.toNat + 64 ≤ 0x107C0000 ∧ isBe who = false ∧ s.regionOk who a.toNat 8 false = true ∧ s.regionOk who a.toNat
      8 true = true ∧ bs.length = 8 ∧ q = { kind := .sc, addr := a, size := 8, data := bs, ecc := .ok, line := 0 } ∧ s.grantAt
      who q s.now = some g ∧ (who.code, a.toNat / 64) ∈ s.fab.resv) ∧
    (∃ (s : State) (who : Initiator) (a : Addr) (g : Nat) (bs : List Byte) (q : FabReq), Inv s ∧ s.acts who = true ∧ 0x105B0000
      ≤ a.toNat ∧ a.toNat + 64 ≤ 0x107C0000 ∧ isBe who = false ∧ s.regionOk who a.toNat 8 false = true ∧ s.regionOk who a.toNat
      8 true = true ∧ bs.length = 8 ∧ q = { kind := .sc, addr := a, size := 8, data := bs, ecc := .ok, line := 0 } ∧ s.grantAt
      who q s.now = some g ∧ (who.code, a.toNat / 64) ∉ s.fab.resv) :=
  ⟨⟨State.reset, .security, 0x107BFFC0, 0, List.replicate 8 1,
    { kind := .lr, addr := 0x107BFFC0, size := 8, data := [], ecc := .ok, line := 0 }, ⟨by decide, by decide⟩, by decide,
    by decide, by decide, by decide, by decide, by decide, by decide, rfl, by decide⟩,
   ⟨State.reset.modFab fun f => { f with resv := [(8, 0x107BFFC0 / 64)] }, .security, 0x107BFFC0, 0, List.replicate 8 1,
     { kind := .sc, addr := 0x107BFFC0, size := 8, data := List.replicate 8 1, ecc := .ok, line := 0 }, ⟨by decide, by decide⟩,
     by decide, by decide, by decide, by decide, by decide, by decide, by decide, rfl, by decide⟩,
   ⟨State.reset, .security, 0x107BFFC0, 0, List.replicate 8 1,
     { kind := .sc, addr := 0x107BFFC0, size := 8, data := List.replicate 8 1, ecc := .ok, line := 0 }, ⟨by decide, by decide⟩,
     by decide, by decide, by decide, by decide, by decide, by decide, by decide, rfl, by decide⟩⟩

set_option maxRecDepth 8000 in
/-- Witnesses of the hypotheses of `Obligations.FabricErrors`, one for each clause. -/
theorem witness_FabricErrors :
    (∃ (s : State) (who : Initiator) (q : FabReq) (g : Nat) (cause : Nat), s.acts who = true ∧ s.grantAt who q s.now = some g ∧
      isBe who = false ∧ s.sil.queue.length < 64 ∧ ((targetOf q.addr.toNat = .unmapped ∧ cause = 3) ∨ (0x10000000 ≤ q.addr.toNat
      ∧ q.addr.toNat < 0x105B0000 ∧ cause = 1) ∨ (0x105B0000 ≤ q.addr.toNat ∧ q.addr.toNat < 0x107C0000 ∧ cause = 0 ∧ s.regionOk
      who q.addr.toNat q.size (kindWrites q.kind) = false)) ∧ s.fab.errValid = false) ∧
    (∃ (s : State) (who : Initiator) (q : FabReq) (g : Nat) (cause : Nat), s.acts who = true ∧ s.grantAt who q s.now = some g ∧
      isBe who = false ∧ s.sil.queue.length < 64 ∧ ((targetOf q.addr.toNat = .unmapped ∧ cause = 3) ∨ (0x10000000 ≤ q.addr.toNat
      ∧ q.addr.toNat < 0x105B0000 ∧ cause = 1) ∨ (0x105B0000 ≤ q.addr.toNat ∧ q.addr.toNat < 0x107C0000 ∧ cause = 0 ∧ s.regionOk
      who q.addr.toNat q.size (kindWrites q.kind) = false)) ∧ s.fab.errValid = true) ∧
    (∃ (s : State) (who : Initiator), s.acts who = true ∧ isBe who = true ∧ s.acc.locked = true ∧ s.fab.waiting = []) ∧
    (∃ (s : State) (who : Initiator) (q : FabReq), s.acts who = true ∧ isBe who = false ∧ s.grantAt who q s.now = none) :=
  ⟨⟨State.reset, .security, { kind := .read, addr := 0x60000000, size := 8, data := [], ecc := .ok, line := 0 }, 0, 3, by decide⟩,
   ⟨State.reset.modFab fun f => { f with errValid := true }, .security,
     { kind := .write, addr := 0x105AFFF8, size := 8, data := List.replicate 8 1, ecc := .ok, line := 0 }, 0, 1, by decide⟩,
   ⟨tRun, .bestEffort 2, by decide⟩,
   ⟨tRun, .security, { kind := .read, addr := 0x10600000, size := 8, data := [], ecc := .ok, line := 0 }, by decide⟩⟩

/-- Witnesses of the hypotheses of `Obligations.LockstepAndMigration`, one for each clause (its part on lockstep failures). -/
theorem witness_LockstepAndMigration_LockstepFailures :
    (∃ (s : State) (p : Fin 8) (r : Fin 7) (q : Fin 9), s.alive = true ∧ s.pairs.failed[p] = false ∧ s.pairs.spareRole = 15 ∧
      s.pairs.committed = false ∧ p ≠ s.pairs.spare ∧ s.pairs.roleOf p = some r ∧ q ≠ p.castSucc) ∧
    (∃ (s : State) (p : Fin 8) (q : Fin 8), s.alive = true ∧ p ≠ q ∧ s.pairs.failed[p] = false ∧ s.pairs.failed[q] = false ∧
      s.mayHold = true) :=
  ⟨⟨tRun, 6, 6, 1, by decide⟩,
   ⟨tRun, 0, 7, by decide⟩⟩

/-- Witnesses of the hypotheses of `Obligations.LockstepAndMigration`, one for each clause (its part on role migration). -/
theorem witness_LockstepAndMigration_RoleMigration :
    (∃ (s : State) (who : Initiator) (v : Word) (r : Fin 7), s.acts who = true ∧ isSuperSec who = true ∧ v.getLsbD 8 = true ∧
      (v.extractLsb' 0 3).toNat = r.val ∧ s.pairs.failed[s.pairs.place[r]] = true ∧ s.pairs.spareRole = 15 ∧ s.pairs.armed =
      false ∧ s.pairs.running = false ∧ s.pairs.broken = false) ∧
    (∃ (s : State) (r : Fin 7), s.notesRun = true ∧ s.fs.started = true ∧ s.pairs.broken = false ∧ s.pairs.armed = true ∧
      s.pairs.migRole = r.val ∧ s.pairs.armedAt + 160 ≤ s.fs.tickAt) ∧
    (∃ (s : State) (r : Fin 7), s.alive = true ∧ s.pairs.running = true ∧ s.pairs.broken = false ∧ s.pairs.migRole = r.val ∧
      s.pairs.log[r] = none ∧ r.val ∉ [1, 2, 3, 4, 5]) ∧
    (∃ (s : State) (r : Fin 7) (o : _), s.alive = true ∧ s.pairs.running = true ∧ s.pairs.broken = false ∧ s.pairs.migRole =
      r.val ∧ s.pairs.log[r] = none ∧ o < 0x40000) :=
  ⟨⟨tRun.modPairs fun q => { q with failed := q.failed.set 6 true }, .security, 0x106, 6, by decide⟩,
   ⟨(tRun.modFs fun f => { f with tickAt := 160 }).modPairs fun q => { q with armed := true, migRole := 6 }, 6, by decide⟩,
   ⟨tRun.modPairs fun q => { q with running := true, migRole := 6 }, 6, by decide⟩,
   ⟨tRun.modPairs fun q => { q with running := true, migRole := 1 }, 1, 0, by decide⟩⟩

/-- Witnesses of the hypotheses of `Obligations.SolverJobs`, one for each clause (its part on jobs are queued). -/
theorem witness_SolverJobs_JobsAreQueued :
    (∃ (s : State) (who : Initiator) (n : Fin 4) (v : Word) (o : Nat), s.acts who = true ∧ s.granted who (0x10 + n.val) = true ∧
      o = (v.extractLsb' 6 17).toNat * 64 ∧ s.se[n].enable = true ∧ 0x5B0000 ≤ o ∧ o + 64 ≤ 0x7C0000 ∧ s.se[n].queue.length < 16
      ∧ v.getLsbD 0 = false) ∧
    (∃ (s : State) (who : Initiator) (n : Fin 4) (v : Word) (o : Nat), s.acts who = true ∧ s.granted who (0x10 + n.val) = true ∧
      o = (v.extractLsb' 6 17).toNat * 64 ∧ s.se[n].enable = true ∧ 0x5B0000 ≤ o ∧ o + 64 ≤ 0x7C0000 ∧ s.se[n].queue.length < 16
      ∧ v.getLsbD 0 = true) ∧
    (∃ (s : State) (who : Initiator) (n : Fin 4) (v : Word) (o : Nat), s.acts who = true ∧ s.granted who (0x10 + n.val) = true ∧
      o = (v.extractLsb' 6 17).toNat * 64 ∧ s.se[n].enable = false) ∧
    (∃ (s : State) (who : Initiator) (n : Fin 4) (v : Word) (o : Nat), s.acts who = true ∧ s.granted who (0x10 + n.val) = true ∧
      o = (v.extractLsb' 6 17).toNat * 64 ∧ s.se[n].enable = true ∧ 0x5B0000 ≤ o ∧ o + 64 ≤ 0x7C0000 ∧ 16 ≤
      s.se[n].queue.length) ∧
    (∃ (s : State) (who : Initiator) (n : Fin 4) (v : Word) (o : Nat), s.acts who = true ∧ s.granted who (0x10 + n.val) = true ∧
      o = (v.extractLsb' 6 17).toNat * 64 ∧ s.se[n].enable = true ∧ (o < 0x5B0000 ∨ 0x7C0000 < o + 64)) ∧
    (∃ (s : State) (n : Fin 4) (o : Nat) (g : Nat) (k : Nat) (rest : List Queued), s.alive = true ∧ s.se[n].queue =
      { ofs := o, got := none, at_ := k } :: rest ∧ s.nextSlot (9 + n.val) (s.now + 10) (fun _ => true) = some g) :=
  ⟨⟨tSolve 0 id, .security, 0, 0x005B0000, 0x5B0000, by decide, by decide, rfl, by decide⟩,
   ⟨tSolve 0 id, .security, 0, 0x007BFFC1, 0x7BFFC0, by decide, by decide, rfl, by decide⟩,
   ⟨tRun, .security, 0, 0x005B0000, 0x5B0000, by decide, by decide, rfl, by decide⟩,
   ⟨tSolve 0 fun e => { e with queue := List.replicate 16 { ofs := 0x5B0000, got := none, at_ := 0 } }, .security, 0,
     0x005B0000, (((0x005B0000 : Word).extractLsb' 6 17).toNat * 64), by decide, by decide, rfl, by decide⟩,
   ⟨tSolve 0 id, .security, 0, 0x007C0000, 0x7C0000, by decide, by decide, rfl, by decide⟩,
   ⟨(tSolve 0 fun e => { e with queue := [{ ofs := 0x5B0000, got := none, at_ := 0 }] }).modFab fun f =>
     { f with slots := [0x49] }, 0, 0x5B0000, 2560, 0, [], by decide⟩⟩

/-- Witnesses of the hypotheses of `Obligations.SolverJobs`, one for each clause (its part on jobs start). -/
theorem witness_SolverJobs_JobsStart :
    (∃ (s : State) (b : State) (n : Fin 4) (o : Nat) (at_ : Nat) (k : Nat) (sh : Nat) (d : Desc) (rest : List Queued) (m : Fin
      4), s.solving = true ∧ s.se[n].canStart = true ∧ s.se[n].queue = { ofs := o, got := some (d, at_), at_ := k } :: rest ∧
      s.waitsForGroup n d = false ∧ b = ({ s with now := max s.now s.se[n].startsAt }).solveAmends n ∧ sh = (if d.shift = true ∧
      b.warmValid n d = true ∧ noIter d.program = false then b.shiftCost n d.problem else 0) ∧ b.descCause n d ≠ 0 ∧ m ≠ n) ∧
    (∃ (s : State) (b : State) (n : Fin 4) (o : Nat) (at_ : Nat) (k : Nat) (sh : Nat) (d : Desc) (rest : List Queued) (m : Fin
      4), s.solving = true ∧ s.se[n].canStart = true ∧ s.se[n].queue = { ofs := o, got := some (d, at_), at_ := k } :: rest ∧
      s.waitsForGroup n d = false ∧ b = ({ s with now := max s.now s.se[n].startsAt }).solveAmends n ∧ sh = (if d.shift = true ∧
      b.warmValid n d = true ∧ noIter d.program = false then b.shiftCost n d.problem else 0) ∧ b.descCause n d = 0 ∧ b.stopAt d
      < s.se[n].startsAt + (32 + sh) * 5 ∧ m ≠ n) ∧
    (∃ (s : State) (b : State) (n : Fin 4) (o : Nat) (at_ : Nat) (k : Nat) (sh : Nat) (d : Desc) (rest : List Queued), s.solving
      = true ∧ s.se[n].canStart = true ∧ s.se[n].queue = { ofs := o, got := some (d, at_), at_ := k } :: rest ∧ s.waitsForGroup
      n d = false ∧ b = ({ s with now := max s.now s.se[n].startsAt }).solveAmends n ∧ sh = (if d.shift = true ∧ b.warmValid n d
      = true ∧ noIter d.program = false then b.shiftCost n d.problem else 0) ∧ b.descCause n d = 0 ∧ s.se[n].startsAt + (32 +
      sh) * 5 ≤ b.stopAt d ∧ d.inPtr = 0 ∧ d.auxPtr = 0 ∧ sh = 0 ∧ d.warmSlot = 0xFF) ∧
    (∃ (s : State) (b : State) (n : Fin 4) (o : Nat) (at_ : Nat) (k : Nat) (sh : Nat) (d : Desc) (rest : List Queued) (m : Fin
      4), s.solving = true ∧ s.se[n].canStart = true ∧ s.se[n].queue = { ofs := o, got := some (d, at_), at_ := k } :: rest ∧
      s.waitsForGroup n d = false ∧ b = ({ s with now := max s.now s.se[n].startsAt }).solveAmends n ∧ sh = (if d.shift = true ∧
      b.warmValid n d = true ∧ noIter d.program = false then b.shiftCost n d.problem else 0) ∧ b.descCause n d = 0 ∧
      s.se[n].startsAt + (32 + sh) * 5 ≤ b.stopAt d ∧ m ≠ n) ∧
    (∃ (s : State) (n : Fin 4) (d : Desc) (x : Nat), s.solving = true ∧ s.se[n].head = some d ∧ s.waitsForGroup n d = true ∧
      s.groupReady d = true ∧ x = ((members d.coop).map fun m => s.se[m].startsAt).foldl max 0) ∧
    (∃ (s : State) (n : Fin 4) (d : Desc) (x : Nat) (m : Fin 4), s.solving = true ∧ s.se[n].head = some d ∧ s.waitsForGroup n d
      = true ∧ s.groupReady d = true ∧ x = ((members d.coop).map fun m => s.se[m].startsAt).foldl max 0) ∧
    (∃ (s : State) (n : Fin 4) (o : Nat) (at_ : Nat) (k : Nat) (d : Desc) (rest : List Queued), s.solving = true ∧ s.se[n].queue
      = { ofs := o, got := some (d, at_), at_ := k } :: rest ∧ s.waitsForGroup n d = true ∧ s.groupReady d = false ∧ bitAt
      d.coop n.val = true ∧ s.se[n].job = none ∧ s.stopAt d ≤ s.noteEnd) :=
  ⟨⟨tSolve 0 fun e => { e with queue := [{ ofs := 0x5B0000, got := some ({ tDesc 200 0 with clean := false }, 0), at_ := 0 }] },
    _, 0, 0x5B0000, 0, 0, _, { tDesc 200 0 with clean := false }, [], 1, by decide, by decide, by decide, by decide, rfl, rfl,
    by decide⟩,
   ⟨tSolve 0 fun e => { e with queue := [{ ofs := 0x5B0000, got := some (tDesc 100 0, 0), at_ := 0 }] }, _, 0, 0x5B0000, 0, 0,
     _, tDesc 100 0, [], 1, by decide, by decide, by decide, by decide, rfl, rfl, by decide⟩,
   ⟨tSolve 0 fun e => { e with queue := [{ ofs := 0x5B0000, got := some (tDesc 200 0, 0), at_ := 0 }] }, _, 0, 0x5B0000, 0, 0,
     _, tDesc 200 0, [], by decide, by decide, by decide, by decide, rfl, rfl, by decide⟩,
   ⟨tSolve 0 fun e => { e with queue := [{ ofs := 0x5B0000, got := some (tDesc 101 0, 0), at_ := 0 }] }, _, 0, 0x5B0000, 0, 0,
     _, tDesc 101 0, [], 1, by decide, by decide, by decide, by decide, rfl, rfl, by decide⟩,
   ⟨(tSolve 3 fun e => { e with coop := 3, queue := [{ ofs := 0x5B0000, got := some (tDesc 101 3, 0), at_ := 0 }] }).modSe 1 fun
     e => { e with enable := true, coop := 3, queue := [{ ofs := 0x5B0040, got := some (tDesc 101 3, 0), at_ := 0 }] }, 0, tDesc
     101 3, (((members (tDesc 101 3).coop).map fun m => ((tSolve 3 fun e =>
     { e with coop := 3, queue := [{ ofs := 0x5B0000, got := some (tDesc 101 3, 0), at_ := 0 }] }).modSe 1 fun e =>
     { e with enable := true, coop := 3, queue := [{ ofs := 0x5B0040, got := some (tDesc 101 3, 0),
                                                     at_ := 0 }] }).se[m].startsAt).foldl max 0), by decide, by decide,
     by decide, by decide, rfl⟩,
   ⟨(tSolve 3 fun e => { e with coop := 3, queue := [{ ofs := 0x5B0000, got := some (tDesc 101 3, 0), at_ := 0 }] }).modSe 1 fun
     e => { e with enable := true, coop := 3, queue := [{ ofs := 0x5B0040, got := some (tDesc 101 3, 0), at_ := 0 }] }, 0, tDesc
     101 3, (((members (tDesc 101 3).coop).map fun m => ((tSolve 3 fun e =>
     { e with coop := 3, queue := [{ ofs := 0x5B0000, got := some (tDesc 101 3, 0), at_ := 0 }] }).modSe 1 fun e =>
     { e with enable := true, coop := 3, queue := [{ ofs := 0x5B0040, got := some (tDesc 101 3, 0), at_ := 0 }] }).se[(1 : Fin
     4)].startsAt).foldl max 0), 1, by decide, by decide, by decide, by decide, rfl⟩,
   ⟨tSolve 3 fun e => { e with queue := [{ ofs := 0x5B0000, got := some (tDesc 101 3, 0), at_ := 0 }] }, 0, 0x5B0000, 0, 0,
     tDesc 101 3, [], by decide⟩⟩

/-- Witnesses of the hypotheses of `Obligations.SolverOperations`, one for each clause. -/
theorem witness_SolverOperations :
    (∃ (s : State) (n : Fin 4) (j : Job) (d : Nat) (x : Nat) (y : Nat) (c : Nat) (rest : List SolverOp) (sums : List Int) (m :
      Fin 4), Inv s ∧ s.solving = true ∧ s.se[n].job = some j ∧ j.ops = .vadd d x y :: rest ∧ j.old = [] ∧ (∀ i, i = d ∨ i = x ∨
      i = y → (s.blk n j.d.problem i).kind = 0 ∧ (s.blk n j.d.problem i).rows = sums.length ∧ (s.blk n j.d.problem i).scale =
      (s.blk n j.d.problem d).scale) ∧ sums = ((s.words (s.blk n j.d.problem x)).zip (s.words (s.blk n j.d.problem y))).map (fun
      p => p.1 + p.2) ∧ (∀ v ∈ sums, saturates v = false) ∧ (s.blk n j.d.problem d).base + 4 * sums.length ≤ seBase n + 0x77C000
      ∧ sums.length ≤ 16384 ∧ j.sat < 2 ^ 32 ∧ j.sat - j.satBase ≤ j.d.satLimit ∧ c = j.cycles + s.leadCost n j + (ceilDiv
      sums.length 64 + 4) ∧ s.reaches j c = true ∧ m ≠ n) ∧
    (∃ (s : State) (n : Fin 4) (j : Job) (d : Nat) (x : Nat) (y : Nat) (c : Nat) (rest : List SolverOp) (sums : List Int) (a :
      _), Inv s ∧ s.solving = true ∧ s.se[n].job = some j ∧ j.ops = .vadd d x y :: rest ∧ j.old = [] ∧ (∀ i, i = d ∨ i = x ∨ i =
      y → (s.blk n j.d.problem i).kind = 0 ∧ (s.blk n j.d.problem i).rows = sums.length ∧ (s.blk n j.d.problem i).scale = (s.blk
      n j.d.problem d).scale) ∧ sums = ((s.words (s.blk n j.d.problem x)).zip (s.words (s.blk n j.d.problem y))).map (fun p =>
      p.1 + p.2) ∧ (∀ v ∈ sums, saturates v = false) ∧ (s.blk n j.d.problem d).base + 4 * sums.length ≤ seBase n + 0x77C000 ∧
      sums.length ≤ 16384 ∧ j.sat < 2 ^ 32 ∧ j.sat - j.satBase ≤ j.d.satLimit ∧ c = j.cycles + s.leadCost n j + (ceilDiv
      sums.length 64 + 4) ∧ s.reaches j c = true ∧ (a < (s.blk n j.d.problem d).base ∨ (s.blk n j.d.problem d).base + 4 *
      sums.length ≤ a) ∧ (a < seBase n + 0x77C000 ∨ seBase n + 0x800000 ≤ a)) ∧
    (∃ (s : State) (n : Fin 4) (j : Job) (x : Nat) (c : Nat) (rest : List SolverOp) (m : Fin 4), s.solving = true ∧ s.se[n].job
      = some j ∧ j.d.coop = 0 ∧ j.ops = .loadg x :: rest ∧ j.old = [] ∧ j.sat < 2 ^ 32 ∧ j.d.satLimit < j.sat - j.satBase ∧
      s.se[n].draining = false ∧ c = j.cycles + s.leadCost n j + (ceilDiv (s.blk n j.d.problem x).len 64 + 6) ∧ s.reaches j c =
      true ∧ c < s.stopCycles j ∧ m ≠ n) ∧
    (∃ (s : State) (n : Fin 4) (j : Job) (x : Nat) (c : Nat) (rest : List SolverOp), s.solving = true ∧ s.se[n].job = some j ∧
      j.d.coop = 0 ∧ j.ops = .loadg x :: rest ∧ j.old = [] ∧ j.sat < 2 ^ 32 ∧ j.d.satLimit < j.sat - j.satBase ∧
      s.se[n].draining = false ∧ c = j.cycles + s.leadCost n j + (ceilDiv (s.blk n j.d.problem x).len 64 + 6) ∧ s.reaches j c =
      true ∧ c = s.stopCycles j) :=
  ⟨⟨tBusy (tDesc 200 0) [.vadd 0 1 2] id, 0, { tJob (tDesc 200 0) with ops := [.vadd 0 1 2] }, 0, 1, 2,
    (({ tJob (tDesc 200 0) with ops := [.vadd 0 1 2] }).cycles + (tBusy (tDesc 200 0) [.vadd 0 1 2] id).leadCost (0 : Fin 4)
    ({ tJob (tDesc 200 0) with ops := [.vadd 0 1 2] }) + (ceilDiv ([11, 22]).length 64 + 4)), [], [11, 22], 1, ⟨by decide,
    by decide⟩, by decide, by decide, by decide, by decide, by rintro i (rfl | rfl | rfl) <;> decide, rfl, by decide, by decide,
    by decide, by decide, by decide, rfl, by decide⟩,
   ⟨tBusy (tDesc 200 0) [.vadd 0 1 2] id, 0, { tJob (tDesc 200 0) with ops := [.vadd 0 1 2] }, 0, 1, 2,
     (({ tJob (tDesc 200 0) with ops := [.vadd 0 1 2] }).cycles + (tBusy (tDesc 200 0) [.vadd 0 1 2] id).leadCost (0 : Fin 4)
     ({ tJob (tDesc 200 0) with ops := [.vadd 0 1 2] }) + (ceilDiv ([11, 22]).length 64 + 4)), [], [11, 22], 0x20002008, ⟨by
     decide, by decide⟩, by decide, by decide, by decide, by decide, by rintro i (rfl | rfl | rfl) <;> decide, rfl, by decide,
     by decide, by decide, by decide, by decide, rfl, by decide⟩,
   ⟨tBusy (tDesc 200 0) [.loadg 0] fun j => { j with sat := 11 }, 0, { tJob (tDesc 200 0) with sat := 11, ops := [.loadg 0] },
     0, (({ tJob (tDesc 200 0) with sat := 11, ops := [.loadg 0] }).cycles + (tBusy (tDesc 200 0) [.loadg 0] fun j =>
     { j with sat := 11 }).leadCost (0 : Fin 4) ({ tJob (tDesc 200 0) with sat := 11, ops := [.loadg 0] }) + (ceilDiv ((tBusy
     (tDesc 200 0) [.loadg 0] fun j => { j with sat := 11 }).blk (0 : Fin 4)
     ({ tJob (tDesc 200 0) with sat := 11, ops := [.loadg 0] }).d.problem (0)).len 64 + 6)), [], 1, by decide, by decide,
     by decide, by decide, by decide, by decide, by decide, by decide, rfl, by decide⟩,
   ⟨tBusy (tDesc 101 0) [.loadg 0] fun j => { j with sat := 11, cycles := 799994 }, 0,
     { tJob (tDesc 101 0) with sat := 11, cycles := 799994, ops := [.loadg 0] }, 0,
     (({ tJob (tDesc 101 0) with sat := 11, cycles := 799994, ops := [.loadg 0] }).cycles + (tBusy (tDesc 101 0) [.loadg 0] fun
     j => { j with sat := 11, cycles := 799994 }).leadCost (0 : Fin 4)
     ({ tJob (tDesc 101 0) with sat := 11, cycles := 799994, ops := [.loadg 0] }) + (ceilDiv ((tBusy (tDesc 101 0) [.loadg 0]
     fun j => { j with sat := 11, cycles := 799994 }).blk (0 : Fin 4)
     ({ tJob (tDesc 101 0) with sat := 11, cycles := 799994, ops := [.loadg 0] }).d.problem (0)).len 64 + 6)), [], by decide,
     by decide, by decide, by decide, by decide, by decide, by decide, by decide, rfl, by decide, rfl⟩⟩

/-- Witnesses of the hypotheses of `Obligations.SolverEnds`, one for each clause (its part on jobs end). -/
theorem witness_SolverEnds_JobsEnd :
    (∃ (s : State) (v : State) (n : Fin 4) (j : Job) (i : Job) (b : Bound) (c : Nat) (k : _) (st : _) (m : Fin 4), s.solving =
      true ∧ s.se[n].job = some j ∧ j.d.coop = 0 ∧ j.ops = [] ∧ j.rangePend = none ∧ s.se[n].draining = false ∧ v = s.evalRes
      [n] ∧ v.se[n].job = some i ∧ b = v.bound n j [n] ∧ c = v.boundCycle n b ∧ v.reaches i c = true ∧ k = v.boundaryJob n j b
      (j.cycleAt c) ∧ k.endsAt b.conv j.cancel.isSome = some st ∧ (∀ x, j.cancel = some x → x < j.cycleAt c) ∧ m ≠ n) ∧
    (∃ (s : State) (v : State) (n : Fin 4) (j : Job) (i : Job) (b : Bound) (c : Nat) (k : _), s.solving = true ∧ s.se[n].job =
      some j ∧ j.d.coop = 0 ∧ j.ops = [] ∧ j.rangePend = none ∧ s.se[n].draining = false ∧ v = s.evalRes [n] ∧ v.se[n].job =
      some i ∧ b = v.bound n j [n] ∧ c = v.boundCycle n b ∧ v.reaches i c = true ∧ k = v.boundaryJob n i b (j.cycleAt c) ∧
      (v.boundaryJob n j b (j.cycleAt c)).endsAt b.conv j.cancel.isSome = none ∧ (∀ x, j.cancel = some x → x < j.cycleAt c) ∧
      j.d.program ≠ 4) ∧
    (∃ (s : State) (v : State) (n : Fin 4) (j : Job) (i : Job) (b : Bound) (c : Nat) (k : _), s.solving = true ∧ s.se[n].job =
      some j ∧ j.d.coop = 0 ∧ j.ops = [] ∧ j.rangePend = none ∧ s.se[n].draining = false ∧ v = s.evalRes [n] ∧ v.se[n].job =
      some i ∧ b = v.bound n j [n] ∧ c = v.boundCycle n b ∧ v.reaches i c = true ∧ k = v.boundaryJob n i b (j.cycleAt c) ∧
      (v.boundaryJob n j b (j.cycleAt c)).endsAt b.conv j.cancel.isSome = none ∧ (∀ x, j.cancel = some x → x < j.cycleAt c) ∧
      j.held = none) ∧
    (∃ (s : State) (v : State) (n : Fin 4) (j : Job) (i : Job) (b : Bound) (c : Nat) (k : _) (h : _), s.solving = true ∧
      s.se[n].job = some j ∧ j.d.coop = 0 ∧ j.ops = [] ∧ j.rangePend = none ∧ s.se[n].draining = false ∧ v = s.evalRes [n] ∧
      v.se[n].job = some i ∧ b = v.bound n j [n] ∧ c = v.boundCycle n b ∧ v.reaches i c = true ∧ k = v.boundaryJob n i b
      (j.cycleAt c) ∧ (v.boundaryJob n j b (j.cycleAt c)).endsAt b.conv j.cancel.isSome = none ∧ (∀ x, j.cancel = some x → x <
      j.cycleAt c) ∧ j.held = some h ∧ h.key ≤ b.key) ∧
    (∃ (s : State) (v : State) (n : Fin 4) (j : Job) (i : Job) (b : Bound) (c : Nat) (k : _) (m : Fin 4), s.solving = true ∧
      s.se[n].job = some j ∧ j.d.coop = 0 ∧ j.ops = [] ∧ j.rangePend = none ∧ s.se[n].draining = false ∧ v = s.evalRes [n] ∧
      v.se[n].job = some i ∧ b = v.bound n j [n] ∧ c = v.boundCycle n b ∧ v.reaches i c = true ∧ k = v.boundaryJob n i b
      (j.cycleAt c) ∧ (v.boundaryJob n j b (j.cycleAt c)).endsAt b.conv j.cancel.isSome = none ∧ (∀ x, j.cancel = some x → x <
      j.cycleAt c) ∧ m ≠ n) ∧
    (∃ (s : State) (v : State) (n : Fin 4) (j : Job) (i : Job) (b : Bound) (c : Nat), s.solving = true ∧ s.se[n].job = some j ∧
      j.d.coop = 0 ∧ j.ops = [] ∧ j.rangePend = none ∧ s.se[n].draining = false ∧ v = s.evalRes [n] ∧ v.se[n].job = some i ∧ b =
      v.bound n j [n] ∧ c = v.boundCycle n b ∧ v.reaches i c = true ∧ j.d.program = 7 ∧ j.d.cls = 1 ∧ s.scalar n j.d.problem
      (s.problem n j.d.problem).primal ≤ j.d.tolP) ∧
    (∃ (s : State) (n : Fin 4) (j : Job) (m : Fin 4), s.solving = true ∧ s.se[n].job = some j ∧ j.d.coop = 0 ∧ j.rangePend =
      none ∧ s.se[n].draining = false ∧ s.stopAt j.d ≤ s.noteEnd ∧ s.stopDue [n] ((s.evalRes [n]).bound n j [n]) = true ∧ (∀ x,
      j.cancel = some x → x < s.stopAt j.d) ∧ m ≠ n) :=
  ⟨⟨tBusy (tDesc 200 0) [] id, ((tBusy (tDesc 200 0) [] id).evalRes [(0 : Fin 4)]), 0, tJob (tDesc 200 0), tJob (tDesc 200 0),
    ((((tBusy (tDesc 200 0) [] id).evalRes [(0 : Fin 4)])).bound (0 : Fin 4) (tJob (tDesc 200 0)) [(0 : Fin 4)]), ((((tBusy
    (tDesc 200 0) [] id).evalRes [(0 : Fin 4)])).boundCycle (0 : Fin 4) (((((tBusy (tDesc 200 0) [] id).evalRes [(0 : Fin
    4)])).bound (0 : Fin 4) (tJob (tDesc 200 0)) [(0 : Fin 4)]))), ((((tBusy (tDesc 200 0) [] id).evalRes [(0 : Fin
    4)])).boundaryJob (0 : Fin 4) (tJob (tDesc 200 0)) (((((tBusy (tDesc 200 0) [] id).evalRes [(0 : Fin 4)])).bound (0 : Fin 4)
    (tJob (tDesc 200 0)) [(0 : Fin 4)])) ((tJob (tDesc 200 0)).cycleAt (((((tBusy (tDesc 200 0) [] id).evalRes [(0 : Fin
    4)])).boundCycle (0 : Fin 4) (((((tBusy (tDesc 200 0) [] id).evalRes [(0 : Fin 4)])).bound (0 : Fin 4) (tJob (tDesc 200 0))
    [(0 : Fin 4)])))))), 0, 1, by decide, by decide, by decide, by decide, by decide, by decide, rfl, by decide, rfl, rfl,
    by decide, rfl, by decide⟩,
   ⟨tBusy { tDesc 200 0 with tolP := 4 } [] id, ((tBusy { tDesc 200 0 with tolP := 4 } [] id).evalRes [(0 : Fin 4)]), 0, tJob
     { tDesc 200 0 with tolP := 4 }, tJob { tDesc 200 0 with tolP := 4 }, ((((tBusy { tDesc 200 0 with tolP := 4 } []
     id).evalRes [(0 : Fin 4)])).bound (0 : Fin 4) (tJob { tDesc 200 0 with tolP := 4 }) [(0 : Fin 4)]), ((((tBusy
     { tDesc 200 0 with tolP := 4 } [] id).evalRes [(0 : Fin 4)])).boundCycle (0 : Fin 4) (((((tBusy
     { tDesc 200 0 with tolP := 4 } [] id).evalRes [(0 : Fin 4)])).bound (0 : Fin 4) (tJob { tDesc 200 0 with tolP := 4 }) [(0 :
     Fin 4)]))), ((((tBusy { tDesc 200 0 with tolP := 4 } [] id).evalRes [(0 : Fin 4)])).boundaryJob (0 : Fin 4) (tJob
     { tDesc 200 0 with tolP := 4 }) (((((tBusy { tDesc 200 0 with tolP := 4 } [] id).evalRes [(0 : Fin 4)])).bound (0 : Fin 4)
     (tJob { tDesc 200 0 with tolP := 4 }) [(0 : Fin 4)])) ((tJob { tDesc 200 0 with tolP := 4 }).cycleAt (((((tBusy
     { tDesc 200 0 with tolP := 4 } [] id).evalRes [(0 : Fin 4)])).boundCycle (0 : Fin 4) (((((tBusy
     { tDesc 200 0 with tolP := 4 } [] id).evalRes [(0 : Fin 4)])).bound (0 : Fin 4) (tJob { tDesc 200 0 with tolP := 4 }) [(0 :
     Fin 4)])))))), by decide, by decide, by decide, by decide, by decide, by decide, rfl, by decide, rfl, rfl, by decide, rfl,
     by decide⟩,
   ⟨tBusy { tDesc 200 0 with tolP := 4 } [] id, ((tBusy { tDesc 200 0 with tolP := 4 } [] id).evalRes [(0 : Fin 4)]), 0, tJob
     { tDesc 200 0 with tolP := 4 }, tJob { tDesc 200 0 with tolP := 4 }, ((((tBusy { tDesc 200 0 with tolP := 4 } []
     id).evalRes [(0 : Fin 4)])).bound (0 : Fin 4) (tJob { tDesc 200 0 with tolP := 4 }) [(0 : Fin 4)]), ((((tBusy
     { tDesc 200 0 with tolP := 4 } [] id).evalRes [(0 : Fin 4)])).boundCycle (0 : Fin 4) (((((tBusy
     { tDesc 200 0 with tolP := 4 } [] id).evalRes [(0 : Fin 4)])).bound (0 : Fin 4) (tJob { tDesc 200 0 with tolP := 4 }) [(0 :
     Fin 4)]))), ((((tBusy { tDesc 200 0 with tolP := 4 } [] id).evalRes [(0 : Fin 4)])).boundaryJob (0 : Fin 4) (tJob
     { tDesc 200 0 with tolP := 4 }) (((((tBusy { tDesc 200 0 with tolP := 4 } [] id).evalRes [(0 : Fin 4)])).bound (0 : Fin 4)
     (tJob { tDesc 200 0 with tolP := 4 }) [(0 : Fin 4)])) ((tJob { tDesc 200 0 with tolP := 4 }).cycleAt (((((tBusy
     { tDesc 200 0 with tolP := 4 } [] id).evalRes [(0 : Fin 4)])).boundCycle (0 : Fin 4) (((((tBusy
     { tDesc 200 0 with tolP := 4 } [] id).evalRes [(0 : Fin 4)])).bound (0 : Fin 4) (tJob { tDesc 200 0 with tolP := 4 }) [(0 :
     Fin 4)])))))), by decide, by decide, by decide, by decide, by decide, by decide, rfl, by decide, rfl, rfl, by decide, rfl,
     by decide⟩,
   ⟨tBusy { tDesc 200 0 with tolP := 4 } [] fun j =>
     { j with held := some { key := 5, primal := 5, dual := 0, obj := 0, words := [] } }, ((tBusy { tDesc 200 0 with tolP := 4 }
     [] fun j => { j with held := some { key := 5, primal := 5, dual := 0, obj := 0, words := [] } }).evalRes [(0 : Fin 4)]), 0,
     { tJob { tDesc 200 0 with tolP := 4 } with held := some { key := 5, primal := 5, dual := 0, obj := 0, words := [] } },
     { tJob { tDesc 200 0 with tolP := 4 } with held := some { key := 5, primal := 5, dual := 0, obj := 0, words := [] } },
     ((((tBusy { tDesc 200 0 with tolP := 4 } [] fun j =>
     { j with held := some { key := 5, primal := 5, dual := 0, obj := 0, words := [] } }).evalRes [(0 : Fin 4)])).bound (0 : Fin
     4) ({ tJob { tDesc 200 0 with tolP := 4 } with held := some { key := 5, primal := 5, dual := 0, obj := 0, words := [] } })
     [(0 : Fin 4)]), ((((tBusy { tDesc 200 0 with tolP := 4 } [] fun j =>
     { j with held := some { key := 5, primal := 5, dual := 0, obj := 0, words := [] } }).evalRes [(0 : Fin 4)])).boundCycle (0
     : Fin 4) (((((tBusy { tDesc 200 0 with tolP := 4 } [] fun j =>
     { j with held := some { key := 5, primal := 5, dual := 0, obj := 0, words := [] } }).evalRes [(0 : Fin 4)])).bound (0 : Fin
     4) ({ tJob { tDesc 200 0 with tolP := 4 } with held := some { key := 5, primal := 5, dual := 0, obj := 0, words := [] } })
     [(0 : Fin 4)]))), ((((tBusy { tDesc 200 0 with tolP := 4 } [] fun j =>
     { j with held := some { key := 5, primal := 5, dual := 0, obj := 0, words := [] } }).evalRes [(0 : Fin 4)])).boundaryJob (0
     : Fin 4)
     ({ tJob { tDesc 200 0 with tolP := 4 } with held := some { key := 5, primal := 5, dual := 0, obj := 0, words := [] } })
     (((((tBusy { tDesc 200 0 with tolP := 4 } [] fun j =>
     { j with held := some { key := 5, primal := 5, dual := 0, obj := 0, words := [] } }).evalRes [(0 : Fin 4)])).bound (0 : Fin
     4) ({ tJob { tDesc 200 0 with tolP := 4 } with held := some { key := 5, primal := 5, dual := 0, obj := 0, words := [] } })
     [(0 : Fin 4)]))
     (({ tJob { tDesc 200 0 with tolP := 4 } with held := some { key := 5, primal := 5, dual := 0, obj := 0,
                                                                 words := [] } }).cycleAt (((((tBusy
     { tDesc 200 0 with tolP := 4 } [] fun j =>
     { j with held := some { key := 5, primal := 5, dual := 0, obj := 0, words := [] } }).evalRes [(0 : Fin 4)])).boundCycle (0
     : Fin 4) (((((tBusy { tDesc 200 0 with tolP := 4 } [] fun j =>
     { j with held := some { key := 5, primal := 5, dual := 0, obj := 0, words := [] } }).evalRes [(0 : Fin 4)])).bound (0 : Fin
     4) ({ tJob { tDesc 200 0 with tolP := 4 } with held := some { key := 5, primal := 5, dual := 0, obj := 0, words := [] } })
     [(0 : Fin 4)])))))), { key := 5, primal := 5, dual := 0, obj := 0, words := [] }, by decide, by decide, by decide,
     by decide, by decide, by decide, rfl, by decide, rfl, rfl, by decide, rfl, by decide⟩,
   ⟨tBusy { tDesc 200 0 with tolP := 4 } [] id, ((tBusy { tDesc 200 0 with tolP := 4 } [] id).evalRes [(0 : Fin 4)]), 0, tJob
     { tDesc 200 0 with tolP := 4 }, tJob { tDesc 200 0 with tolP := 4 }, ((((tBusy { tDesc 200 0 with tolP := 4 } []
     id).evalRes [(0 : Fin 4)])).bound (0 : Fin 4) (tJob { tDesc 200 0 with tolP := 4 }) [(0 : Fin 4)]), ((((tBusy
     { tDesc 200 0 with tolP := 4 } [] id).evalRes [(0 : Fin 4)])).boundCycle (0 : Fin 4) (((((tBusy
     { tDesc 200 0 with tolP := 4 } [] id).evalRes [(0 : Fin 4)])).bound (0 : Fin 4) (tJob { tDesc 200 0 with tolP := 4 }) [(0 :
     Fin 4)]))), ((((tBusy { tDesc 200 0 with tolP := 4 } [] id).evalRes [(0 : Fin 4)])).boundaryJob (0 : Fin 4) (tJob
     { tDesc 200 0 with tolP := 4 }) (((((tBusy { tDesc 200 0 with tolP := 4 } [] id).evalRes [(0 : Fin 4)])).bound (0 : Fin 4)
     (tJob { tDesc 200 0 with tolP := 4 }) [(0 : Fin 4)])) ((tJob { tDesc 200 0 with tolP := 4 }).cycleAt (((((tBusy
     { tDesc 200 0 with tolP := 4 } [] id).evalRes [(0 : Fin 4)])).boundCycle (0 : Fin 4) (((((tBusy
     { tDesc 200 0 with tolP := 4 } [] id).evalRes [(0 : Fin 4)])).bound (0 : Fin 4) (tJob { tDesc 200 0 with tolP := 4 }) [(0 :
     Fin 4)])))))), 1, by decide, by decide, by decide, by decide, by decide, by decide, rfl, by decide, rfl, rfl, by decide,
     rfl, by decide⟩,
   ⟨tBusy (tDesc 200 0) [] id, ((tBusy (tDesc 200 0) [] id).evalRes [(0 : Fin 4)]), 0, tJob (tDesc 200 0), tJob (tDesc 200 0),
     ((((tBusy (tDesc 200 0) [] id).evalRes [(0 : Fin 4)])).bound (0 : Fin 4) (tJob (tDesc 200 0)) [(0 : Fin 4)]), ((((tBusy
     (tDesc 200 0) [] id).evalRes [(0 : Fin 4)])).boundCycle (0 : Fin 4) (((((tBusy (tDesc 200 0) [] id).evalRes [(0 : Fin
     4)])).bound (0 : Fin 4) (tJob (tDesc 200 0)) [(0 : Fin 4)]))), by decide, by decide, by decide, by decide, by decide,
     by decide, rfl, by decide, rfl, rfl, by decide⟩,
   ⟨tBusy (tDesc 101 0) [] fun j => { j with cycles := 800000 }, 0, { tJob (tDesc 101 0) with cycles := 800000 }, 1, by decide⟩⟩

/-- Witnesses of the hypotheses of `Obligations.SolverEnds`, one for each clause (its part on solver commands). -/
theorem witness_SolverEnds_SolverCommands :
    (∃ (s : State) (n : Fin 4) (r : OutRec) (rest : List OutRec), s.alive = true ∧ s.se[n].out = r :: rest ∧ (s.fs.started =
      true → r.at_ ≤ s.noteEnd) ∧ s.se[n].hrPend = false) ∧
    (∃ (s : State) (n : Fin 4) (r : OutRec) (rest : List OutRec), s.alive = true ∧ s.se[n].out = r :: rest ∧ (s.fs.started =
      true → r.at_ ≤ s.noteEnd) ∧ s.run.producer n.val = true ∧ (s.fab.producer n.val).queue.length < 4 ∧ (s.fab.producer
      n.val).held = []) ∧
    (∃ (s : State) (n : Fin 4) (r : OutRec) (rest : List OutRec) (m : Fin 4), s.alive = true ∧ s.se[n].out = r :: rest ∧
      (s.fs.started = true → r.at_ ≤ s.noteEnd) ∧ m ≠ n) ∧
    (∃ (s : State) (who : Initiator) (n : Fin 4) (v : Word) (o : Nat) (q : _) (pre : _) (rest : _) (m : Fin 4), s.acts who =
      true ∧ s.granted who (0x10 + n.val) = true ∧ o = (v.extractLsb' 6 17).toNat * 64 ∧ s.se[n].queue = pre ++ q :: rest ∧
      q.ofs = o ∧ (∀ p ∈ pre, p.ofs ≠ o) ∧ m ≠ n) ∧
    (∃ (s : State) (who : Initiator) (n : Fin 4) (v : Word) (o : Nat) (j : _), s.acts who = true ∧ s.granted who (0x10 + n.val)
      = true ∧ o = (v.extractLsb' 6 17).toNat * 64 ∧ (∀ q ∈ s.se[n].queue, q.ofs ≠ o) ∧ s.se[n].job = some j ∧ j.ofs = o ∧
      (j.iters = 0 ∨ j.boundAt + 5 ≤ s.now)) ∧
    (∃ (s : State) (who : Initiator) (n : Fin 4) (v : Word) (o : Nat), s.acts who = true ∧ s.granted who (0x10 + n.val) = true ∧
      o = (v.extractLsb' 6 17).toNat * 64 ∧ (∀ q ∈ s.se[n].queue, q.ofs ≠ o) ∧ (∀ j, s.se[n].job = some j → j.ofs ≠ o) ∧ (∀ x,
      s.se[n].out.find? (·.ran) = some x → x.ofs ≠ o) ∧ (∀ e, s.se[n].lastEnd = some e → e.1 ≠ o ∨ e.2 + 5 ≤ s.now)) ∧
    (∃ (s : State) (who : Initiator) (n : Fin 4) (v : Word) (o : Nat) (x : _), s.acts who = true ∧ s.granted who (0x10 + n.val)
      = true ∧ o = (v.extractLsb' 6 17).toNat * 64 ∧ (∀ q ∈ s.se[n].queue, q.ofs ≠ o) ∧ s.se[n].job = none ∧ s.se[n].out.find?
      (·.ran) = some x ∧ x.ofs = o) ∧
    (∃ (s : State) (who : Initiator) (n : Fin 4) (m : Fin 4), s.acts who = true ∧ s.granted who (0x10 + n.val) = true ∧
      s.se[n].job = none ∧ m ≠ n) ∧
    (∃ (s : State) (who : Initiator) (n : Fin 4) (j : _), s.acts who = true ∧ s.granted who (0x10 + n.val) = true ∧ s.se[n].job
      = some j ∧ (j.iters = 0 ∨ j.boundAt + 5 ≤ s.now) ∧ (∀ q ∈ s.se[n].queue, q.at_ / 40 ≠ s.now / 40)) ∧
    (∃ (s : State) (who : Initiator) (n : Fin 4), s.acts who = true ∧ s.granted who (0x10 + n.val) = true ∧ s.se[n].running =
      false) ∧
    (∃ (s : State) (who : Initiator) (n : Fin 4), s.acts who = true ∧ s.granted who (0x10 + n.val) = true ∧ s.se[n].running =
      true) ∧
    (∃ (s : State) (who : Initiator) (n : Fin 4), s.acts who = true ∧ s.granted who (0x10 + n.val) = true ∧ s.se[n].job = none ∧
      (s.se[n].out.any (·.ran)) = true) ∧
    (∃ (s : State) (n : Fin 4) (r : AmdRecord) (due : Nat) (p : _), s.alive = true ∧ s.se[n].amends = [(r, due)] ∧ s.amendWaits
      n (r, due) = false ∧ r.index ≤ p ∧ p < r.index + r.count) ∧
    (∃ (s : State) (n : Fin 4) (r : AmdRecord) (due : Nat) (m : Fin 4), s.alive = true ∧ s.se[n].amends = [(r, due)] ∧
      s.amendWaits n (r, due) = false ∧ m ≠ n) ∧
    (∃ (s : State) (n : Fin 4) (r : AmdRecord) (due : Nat), s.alive = true ∧ s.se[n].amends = [(r, due)] ∧ s.amendWaits n (r,
      due) = true) :=
  ⟨⟨tRun.modSe 0 fun e => { e with out := [tOut] }, 0, tOut, [], by decide⟩,
   ⟨(tCfg (fun c =>
     { c with solve := { c.solve with problems := [default] }, mem := { c.mem with rings := [(0, 0x10600000, 1, 5)] } })
     tRun).modSe 0 fun e => { e with out := [tOut] }, 0, tOut, [], by decide⟩,
   ⟨tRun.modSe 0 fun e => { e with out := [tOut] }, 0, tOut, [], 1, by decide⟩,
   ⟨tSolve 0 fun e =>
     { e with queue := [{ ofs := 0x5B0040, got := none, at_ := 0 }, { ofs := 0x5B0000, got := none, at_ := 0 }] }, .security, 0,
     0x005B0000, (((0x005B0000 : Word).extractLsb' 6 17).toNat * 64), { ofs := 0x5B0000, got := none, at_ := 0 },
     [{ ofs := 0x5B0040, got := none, at_ := 0 }], [], 1, by decide, by decide, rfl, by decide⟩,
   ⟨tSolve 0 fun e => { e with job := some (tJob (tDesc 200 0)) }, .security, 0, 0x005B0000, (((0x005B0000 : Word).extractLsb' 6
     17).toNat * 64), tJob (tDesc 200 0), by decide, by decide, rfl, by decide⟩,
   ⟨tSolve 0 fun e => { e with queue := [{ ofs := 0x5B0000, got := none, at_ := 0 }] }, .security, 0, 0x005B0040, (((0x005B0040
     : Word).extractLsb' 6 17).toNat * 64), by decide, by decide, rfl, by decide⟩,
   ⟨tSolve 0 fun e => { e with out := [tOut] }, .security, 0, 0x005B0000, (((0x005B0000 : Word).extractLsb' 6 17).toNat * 64),
     tOut, by decide, by decide, rfl, by decide⟩,
   ⟨tSolve 0 id, .security, 0, 1, by decide⟩,
   ⟨tSolve 0 fun e => { e with job := some (tJob (tDesc 200 0)) }, .security, 0, tJob (tDesc 200 0), by decide⟩,
   ⟨tSolve 0 id, .security, 0, by decide⟩,
   ⟨tSolve 0 fun e => { e with job := some (tJob (tDesc 200 0)) }, .security, 0, by decide⟩,
   ⟨tSolve 0 fun e => { e with out := [tOut] }, .security, 0, by decide⟩,
   ⟨tSolve 0 fun e => { e with amends := [({ (default : AmdRecord) with count := 2 }, 0)], cache := [(0, true, false)] }, 0,
     { (default : AmdRecord) with count := 2 }, 0, 1, by decide⟩,
   ⟨tSolve 0 fun e => { e with amends := [({ (default : AmdRecord) with count := 2 }, 0)] }, 0,
     { (default : AmdRecord) with count := 2 }, 0, 1, by decide⟩,
   ⟨tSolve 0 fun e => { e with job := some (tJob (tDesc 200 0)), amends := [({ (default : AmdRecord) with count := 2 }, 0)] },
     0, { (default : AmdRecord) with count := 2 }, 0, by decide⟩⟩

/-- Witnesses of the hypotheses of `Obligations.Dispatch`, one for each clause (its part on networks are published). -/
theorem witness_Dispatch_NetworksArePublished :
    (∃ (s : State) (c : NetCfg) (x : NetState) (b : _), s.planActs = true ∧ s.plan.judged = false ∧ s.fs.hpos =
      s.run.solve.hydDl ∧ s.run.dist.nets = [c] ∧ s.plan.nets = [x] ∧ s.findRec c.hyd s.plan.hydTag = some b ∧ leAt b 0 1 = 0) ∧
    (∃ (s : State) (c : NetCfg) (x : NetState), s.planActs = true ∧ s.plan.judged = false ∧ s.fs.hpos = s.run.solve.hydDl ∧
      s.run.dist.nets = [c] ∧ s.plan.nets = [x] ∧ s.findRec c.hyd s.plan.hydTag = none ∧ s.run.solve.hydHold ≤ x.rejects + 1) ∧
    (∃ (s : State) (c : NetCfg) (x : NetState), s.planActs = true ∧ s.plan.published = false ∧ s.fs.hpos = s.run.solve.trackTn ∧
      s.run.dist.nets = [c] ∧ s.plan.nets = [x] ∧ s.disp = none) ∧
    (∃ (s : State) (c : NetCfg) (x : NetState) (b : _), s.planActs = true ∧ s.plan.published = false ∧ s.fs.hpos =
      s.run.solve.trackTn ∧ s.run.dist.nets = [c] ∧ s.plan.nets = [x] ∧ s.findRec c.tr s.plan.trTag = some b ∧ leAt b 0 1 = 0) ∧
    (∃ (s : State) (c : NetCfg) (x : NetState), s.planActs = true ∧ s.plan.published = false ∧ s.fs.hpos = s.run.solve.trackTn ∧
      s.run.dist.nets = [c] ∧ s.plan.nets = [x] ∧ s.findRec c.tr s.plan.trTag = none) :=
  ⟨⟨(tNet (fun p => { p with hydTag := 7 }) ([0, 0] ++ zeros 58 ++ [7])).modFab fun f =>
    { f with prod := [(0, { Producer.reset with fill := 1 })] }, default, NetState.start, [0, 0] ++ zeros 58 ++ [7, 0, 0, 0],
    by decide⟩,
   ⟨tNet (fun p => { p with hydTag := 8, nets := [{ NetState.start with rejects := 1 }] }) ([0, 0] ++ zeros 58 ++ [7]), default,
     { NetState.start with rejects := 1 }, by decide⟩,
   ⟨tNet (fun p => { p with trTag := 8 }) ([0, 0] ++ zeros 58 ++ [7]), default, NetState.start, by decide⟩,
   ⟨(tNet (fun p => { p with trTag := 7 }) ([0, 0] ++ zeros 58 ++ [7])).modFab fun f =>
     { f with prod := [(0, { Producer.reset with fill := 1 })] }, default, NetState.start, [0, 0] ++ zeros 58 ++ [7, 0, 0, 0],
     by decide⟩,
   ⟨tNet (fun p => { p with trTag := 7 }) [], default, NetState.start, by decide⟩⟩

/-- Witnesses of the hypotheses of `Obligations.Dispatch`, one for each clause (its part on protection acts). A hypothesis that
compares with an opaque value is left out: nothing in Lean can evaluate it, and the complementary case is stated beside it. -/
theorem witness_Dispatch_ProtectionActs :
    (∃ (s : State) (c : DispatchCfg) (j : JobCfg) (objs : List Nat) (o : _), s.planActs = true ∧ s.disp = some c ∧ c.prot = some
      j ∧ (∃ o ∈ objs, (c.trip.any fun r => r.obj == o) = true) ∧ s.plan.prot = none ∧ o ∈ objs ∧ (c.trip.any fun r => r.obj ==
      o) = true) ∧
    (∃ (s : State) (c : DispatchCfg) (j : JobCfg) (objs : List Nat) (o : _), s.planActs = true ∧ s.disp = some c ∧ c.prot = some
      j ∧ (∃ o ∈ objs, (c.trip.any fun r => r.obj == o) = true) ∧ s.plan.prot = none ∧ o ∈ s.plan.tripped) ∧
    (∃ (s : State) (c : DispatchCfg) (j : JobCfg) (objs : List Nat) (f : _), s.planActs = true ∧ s.disp = some c ∧ c.prot = some
      j ∧ (∃ o ∈ objs, (c.trip.any fun r => r.obj == o) = true) ∧ s.plan.prot = some f) ∧
    (∃ (s : State) (c : DispatchCfg) (j : JobCfg) (objs : List Nat), s.planActs = true ∧ s.disp = some c ∧ c.prot = some j ∧ (∀
      o ∈ objs, (c.trip.any fun r => r.obj == o) = false)) ∧
    (∃ (s : State) (c : DispatchCfg) (j : JobCfg) (tag : Nat) (trig : Nat) (b : _), s.planActs = true ∧ s.disp = some c ∧ c.prot
      = some j ∧ s.plan.prot = some (tag, trig) ∧ s.plan.latched = [] ∧ s.findRec j tag = some b) ∧
    (∃ (s : State) (c : DispatchCfg) (j : JobCfg) (tag : Nat) (trig : Nat), s.planActs = true ∧ s.disp = some c ∧ c.prot = some
      j ∧ s.plan.prot = some (tag, trig) ∧ s.plan.latched = [] ∧ s.findRec j tag = none ∧ tag ≤ s.fs.tnc) ∧
    (∃ (s : State) (c : DispatchCfg) (j : JobCfg) (tag : Nat) (trig : Nat), s.planActs = true ∧ s.disp = some c ∧ c.prot = some
      j ∧ s.plan.prot = some (tag, trig) ∧ s.plan.latched = [] ∧ s.findRec j tag = none ∧ s.fs.tnc < tag) :=
  ⟨⟨tProt id [], { (default : DispatchCfg) with prot := some default, trip := [{ (default : TripCfg) with obj := 4 }] }, default,
    [4], 4, by decide⟩,
   ⟨tProt (fun p => { p with tripped := [4] }) [],
     { (default : DispatchCfg) with prot := some default, trip := [{ (default : TripCfg) with obj := 4 }] }, default, [4], 4,
     by decide⟩,
   ⟨tProt (fun p => { p with prot := some (100, 97) }) [],
     { (default : DispatchCfg) with prot := some default, trip := [{ (default : TripCfg) with obj := 4 }] }, default, [4], (100,
     97), by decide⟩,
   ⟨tProt id [], { (default : DispatchCfg) with prot := some default, trip := [{ (default : TripCfg) with obj := 4 }] },
     default, [5], by decide⟩,
   ⟨(tProt (fun p => { p with prot := some (7, 4) }) ([0, 0] ++ zeros 58 ++ [7])).modFab fun f =>
     { f with prod := [(0, { Producer.reset with fill := 1 })] },
     { (default : DispatchCfg) with prot := some default, trip := [{ (default : TripCfg) with obj := 4 }] }, default, 7, 4, [0,
     0] ++ zeros 58 ++ [7, 0, 0, 0], by decide⟩,
   ⟨tProt (fun p => { p with prot := some (100, 97) }) [],
     { (default : DispatchCfg) with prot := some default, trip := [{ (default : TripCfg) with obj := 4 }] }, default, 100, 97,
     by decide⟩,
   ⟨tProt (fun p => { p with prot := some (101, 98) }) [],
     { (default : DispatchCfg) with prot := some default, trip := [{ (default : TripCfg) with obj := 4 }] }, default, 101, 98,
     by decide⟩⟩

/-- Witnesses of the hypotheses of `Obligations.LoopSamples`, one for each clause (its part on loop sample rules). -/
theorem witness_LoopSamples_LoopSampleRules :
    (∃ (c : LoopSection) (x : Int) (y : Int), y = rndDiv (c.b0 * x + c.s1) (2 ^ 29) ∧ -(2 ^ 31 - 1) < y ∧ y < 2 ^ 31 - 1 ∧ -((2
      ^ 31 - 1) * 2 ^ 29) ≤ c.b1 * x - c.a1 * y + c.s2 ∧ c.b1 * x - c.a1 * y + c.s2 ≤ (2 ^ 31 - 1) * 2 ^ 29 ∧ -((2 ^ 31 - 1) * 2
      ^ 29) ≤ c.b2 * x - c.a2 * y ∧ c.b2 * x - c.a2 * y ≤ (2 ^ 31 - 1) * 2 ^ 29) ∧
    (∃ (l : Loop) (pv : Int × Quality), l.causes = [] ∧ pv.2 ≠ .bad ∧ l.umin ≤ l.umax ∧ l.rlim ≠ 0 ∧ l.umin ≤ l.uLast ∧ l.uLast
      ≤ l.umax) ∧
    (∃ (l : Loop) (pv : Int × Quality), l.causes ≠ [] ∧ pv.2 ≠ .bad ∧ (l.causes.filter (· != 1)) ≠ []) :=
  ⟨⟨{ (default : LoopSection) with b0 := 273804165, b1 := -268435456, a1 := -536870912, s1 := 500000 * 2 ^ 29 }, 1000, 500510,
    rfl, by decide⟩,
   ⟨{ (default : Loop) with umax := 500200, rlim := 10, uLast := 500200 }, (1000, .good), by decide⟩,
   ⟨{ (default : Loop) with causes := [0] }, (1000, .good), by decide⟩⟩

/-- Witnesses of the hypotheses of `Obligations.LoopSamples`, one for each clause (its part on loop pass samples). -/
theorem witness_LoopSamples_LoopPassSamples :
    (∃ (s : State) (n : Fin 2) (i : Fin 1024) (l : Loop) (r : Sampled) (k : _), s.passing = true ∧ s.loops.passTnc ≠ some
      s.fs.tnc ∧ (∀ m : Fin 2, s.loops.le[m].pass = none ∧ s.loops.le[m].amd = [] ∧ s.loops.le[m].failing = none ∧
      s.loops.le[m].hosting = false) ∧ s.loops.le[n].enable = true ∧ s.loops.le[n].failed = false ∧ s.loops.le[n].takeover =
      false ∧ s.loops.le[partner n].enable = false ∧ s.loops.le[partner n].own = [] ∧ s.loops.le[n].own = [(i.val, l)] ∧
      l.enabled = true ∧ s.fs.tnc % divisor l.rate = l.phase ∧ r = l.sample i.val (s.loops.le[n].entry l.input)
      (s.loops.le[n].entry l.spEntry) ∧ k ≠ 2048 * l.destKind + l.destEntry) ∧
    (∃ (s : State) (n : Fin 2) (i : Nat) (p : LoopPass) (old : Loop) (cur : Loop), s.notesRun = true ∧ s.fs.started = true ∧
      s.loops.le[n].pass = some p ∧ s.loops.le[partner n].pass = none ∧ p.at_ = s.fs.tickAt + 32000 ∧ p.main = [] ∧ p.check =
      [(i, old)] ∧ p.mism = [i] ∧ p.copy = none ∧ p.wk.cycles + 62 ≤ 76800 ∧ s.loops.le[n].loop? i = some cur ∧
      s.loops.le[n].takeover = false ∧ s.loops.le[n].mismatches < 65535) :=
  ⟨⟨tRun.modLe 0 fun e => { e with enable := true, own := [(4, { (default : Loop) with enabled := true })] }, 0, 4,
    { (default : Loop) with enabled := true }, (({ (default : Loop) with enabled := true }).sample (4 : Fin 1024).val
    ((tRun.modLe 0 fun e => { e with enable := true, own := [(4, { (default : Loop) with enabled := true })] }).loops.le[(0 :
    Fin 2)].entry ({ (default : Loop) with enabled := true }).input) ((tRun.modLe 0 fun e =>
    { e with enable := true, own := [(4, { (default : Loop) with enabled := true })] }).loops.le[(0 : Fin 2)].entry
    ({ (default : Loop) with enabled := true }).spEntry)), 1, by decide, by decide, by decide, by decide, by decide, by decide,
    by decide, by decide, by decide, by decide, by decide, rfl, by decide⟩,
   ⟨tRun.modLe 0 fun e =>
     { e with own := [(4, default)], pass := some { tnc := 100, at_ := 32000, main := [], check := [(4, default)], mism := [4],
                                                    copy := none, wk := default } }, 0, 4,
     { tnc := 100, at_ := 32000, main := [], check := [(4, default)], mism := [4], copy := none, wk := default }, default,
     default, by decide⟩⟩

/-- Witnesses of the hypotheses of `Obligations.LoopCommands`, one for each clause (its part on loop commands). -/
theorem witness_LoopCommands_first :
    (∃ (s : State) (s1 : State) (who : Initiator) (n : Fin 2) (i : Fin 1024) (l : Loop), s.acts who = true ∧ s.granted who (0x14
      + n.val) = true ∧ s1 = s.settleLoops ∧ s1.loops.le[n].loop? i.val = some l ∧ s1.loops.le[n].takeover = false ∧ s1.running
      = true ∧ s1.amdBusy n = false ∧ l.enabled = false ∧ l.spKind = 0) ∧
    (∃ (s : State) (s1 : State) (who : Initiator) (n : Fin 2) (i : Fin 1024) (l : Loop), s.acts who = true ∧ s.granted who (0x14
      + n.val) = true ∧ s1 = s.settleLoops ∧ s1.loops.le[n].loop? i.val = some l ∧ s1.loops.le[n].takeover = false ∧ s1.running
      = true ∧ s1.amdBusy n = false ∧ l.enabled = false ∧ l.spKind ≠ 0 ∧ (s1.loops.le[n].entry l.spEntry).2 ≠ .bad) ∧
    (∃ (s : State) (s1 : State) (who : Initiator) (n : Fin 2) (i : Fin 1024) (l : Loop) (x : _), s.acts who = true ∧ s.granted
      who (0x14 + n.val) = true ∧ s1 = s.settleLoops ∧ s1.loops.le[n].loop? i.val = some l ∧ s1.loops.le[n].takeover = false ∧
      s1.running = true ∧ s1.amdBusy n = false ∧ l.enabled = false ∧ l.spKind ≠ 0 ∧ (s1.loops.le[n].entry l.spEntry).2 = .bad ∧
      l.tPrev = some x) ∧
    (∃ (s : State) (s1 : State) (who : Initiator) (n : Fin 2) (i : Fin 1024) (l : Loop) (k : _), s.acts who = true ∧ s.granted
      who (0x14 + n.val) = true ∧ s1 = s.settleLoops ∧ s1.loops.le[n].loop? i.val = some l ∧ s1.loops.le[n].takeover = false ∧
      s1.running = true ∧ s1.amdBusy n = false ∧ l.enabled = false ∧ k ≠ i.val) ∧
    (∃ (s : State) (s1 : State) (who : Initiator) (n : Fin 2) (i : Fin 1024) (l : Loop), s.acts who = true ∧ s.granted who (0x14
      + n.val) = true ∧ s1 = s.settleLoops ∧ s1.loops.le[n].loop? i.val = some l ∧ s1.loops.le[n].takeover = false ∧ s1.running
      = true ∧ s1.amdBusy n = false ∧ l.enabled = true) ∧
    (∃ (s : State) (s1 : State) (who : Initiator) (n : Fin 2) (i : Fin 1024) (l : Loop), s.acts who = true ∧ s.granted who (0x14
      + n.val) = true ∧ s1 = s.settleLoops ∧ s1.loops.le[n].loop? i.val = some l ∧ s1.loops.le[n].takeover = false ∧ s1.running
      = true ∧ s1.amdBusy n = false ∧ 0 ∉ l.causes) ∧
    (∃ (s : State) (s1 : State) (who : Initiator) (n : Fin 2) (i : Fin 1024) (l : Loop) (c : _), s.acts who = true ∧ s.granted
      who (0x14 + n.val) = true ∧ s1 = s.settleLoops ∧ s1.loops.le[n].loop? i.val = some l ∧ s1.loops.le[n].takeover = false ∧
      s1.running = true ∧ s1.amdBusy n = false ∧ (s1.loops.le[n].entry l.input).2 ≠ .bad ∧ c ≠ 0 ∧ c ≠ 2 ∧ c ≠ 3) ∧
    (∃ (s : State) (s1 : State) (who : Initiator) (n : Fin 2) (i : Fin 1024) (l : Loop), s.acts who = true ∧ s.granted who (0x14
      + n.val) = true ∧ s1 = s.settleLoops ∧ s1.loops.le[n].loop? i.val = some l ∧ s1.loops.le[n].takeover = false ∧ s1.running
      = false ∧ bitAt s1.loops.le[n].err 2 = false) :=
  ⟨⟨tRun.modLe 0 fun e => { e with own := [(1023, default)] }, ((tRun.modLe 0 fun e =>
    { e with own := [(1023, default)] }).settleLoops), .security, 0, 1023, default, by decide, by decide, rfl, by decide⟩,
   ⟨tRun.modLe 0 fun e => { e with own := [(1023, { (default : Loop) with spKind := 1 })] }, ((tRun.modLe 0 fun e =>
     { e with own := [(1023, { (default : Loop) with spKind := 1 })] }).settleLoops), .security, 0, 1023,
     { (default : Loop) with spKind := 1 }, by decide, by decide, rfl, by decide⟩,
   ⟨tRun.modLe 0 fun e =>
     { e with own := [(1023, { (default : Loop) with spKind := 1, tPrev := some 5 })], inp := [(0, (0, .bad))] }, ((tRun.modLe 0
     fun e =>
     { e with own := [(1023, { (default : Loop) with spKind := 1, tPrev := some 5 })], inp := [(0, (0, .bad))] }).settleLoops),
     .security, 0, 1023, { (default : Loop) with spKind := 1, tPrev := some 5 }, 5, by decide, by decide, rfl, by decide⟩,
   ⟨tRun.modLe 0 fun e => { e with own := [(1023, { (default : Loop) with spKind := 1 })], inp := [(0, (0, .bad))] },
     ((tRun.modLe 0 fun e =>
     { e with own := [(1023, { (default : Loop) with spKind := 1 })], inp := [(0, (0, .bad))] }).settleLoops), .security, 0,
     1023, { (default : Loop) with spKind := 1 }, 0, by decide, by decide, rfl, by decide⟩,
   ⟨tRun.modLe 0 fun e => { e with own := [(1023, { (default : Loop) with enabled := true })] }, ((tRun.modLe 0 fun e =>
     { e with own := [(1023, { (default : Loop) with enabled := true })] }).settleLoops), .security, 0, 1023,
     { (default : Loop) with enabled := true }, by decide, by decide, rfl, by decide⟩,
   ⟨tRun.modLe 0 fun e => { e with own := [(1023, default)] }, ((tRun.modLe 0 fun e =>
     { e with own := [(1023, default)] }).settleLoops), .security, 0, 1023, default, by decide, by decide, rfl, by decide⟩,
   ⟨tRun.modLe 0 fun e => { e with own := [(1023, default)] }, ((tRun.modLe 0 fun e =>
     { e with own := [(1023, default)] }).settleLoops), .security, 0, 1023, default, 1, by decide, by decide, rfl, by decide⟩,
   ⟨(tRun.modSys fun y => { y with state := .start }).modLe 0 fun e => { e with own := [(1023, default)] }, (((tRun.modSys fun y
     => { y with state := .start }).modLe 0 fun e => { e with own := [(1023, default)] }).settleLoops), .security, 0, 1023,
     default, by decide, by decide, rfl, by decide⟩⟩

/-- Witnesses of the hypotheses of `Obligations.LoopCommands`, one for each clause (its part on loop record writes). -/
theorem witness_LoopCommands_LoopRecordWrites :
    (∃ (s : State) (s1 : State) (who : Initiator) (n : Fin 2) (l : Loop), s.acts who = true ∧ s.granted who (0x14 + n.val) =
      true ∧ s1 = s.settleLoops ∧ s1.loops.le[n].takeover = false ∧ s1.loops.le[n].loop? s1.loops.le[n].waddrLoop = some l ∧
      s1.loops.le[n].err = 0 ∧ (s1.sys.state = .commissioning ∨ s1.sys.state = .test) ∧ s1.amdBusy n = false ∧
      s1.loops.le[n].waddrWord = 8) ∧
    (∃ (s : State) (s1 : State) (who : Initiator) (n : Fin 2) (l : Loop), s.acts who = true ∧ s.granted who (0x14 + n.val) =
      true ∧ s1 = s.settleLoops ∧ s1.loops.le[n].takeover = false ∧ s1.loops.le[n].loop? s1.loops.le[n].waddrLoop = some l ∧
      s1.loops.le[n].err = 0 ∧ (s1.sys.state = .service ∨ s1.sys.state = .recovery) ∧ s1.loops.le[n].waddrWord = 8) ∧
    (∃ (s : State) (s1 : State) (who : Initiator) (n : Fin 2) (l : Loop), s.acts who = true ∧ s.granted who (0x14 + n.val) =
      true ∧ s1 = s.settleLoops ∧ s1.loops.le[n].takeover = false ∧ s1.loops.le[n].loop? s1.loops.le[n].waddrLoop = some l ∧
      s1.loops.le[n].err = 0 ∧ s1.running = true ∧ s1.loops.le[n].waddrWord ∈ [0, 3, 10, 12, 14, 15, 16, 17, 18, 19]) :=
  ⟨⟨(tRun.modSys fun y => { y with state := .test }).modLe 0 fun e =>
    { e with own := [(5, default)], waddrLoop := 5, waddrWord := 8 }, (((tRun.modSys fun y => { y with state := .test }).modLe 0
    fun e => { e with own := [(5, default)], waddrLoop := 5, waddrWord := 8 }).settleLoops), .security, 0, default, by decide,
    by decide, rfl, by decide⟩,
   ⟨tRun.modLe 0 fun e => { e with own := [(5, default)], waddrLoop := 5, waddrWord := 8 }, ((tRun.modLe 0 fun e =>
     { e with own := [(5, default)], waddrLoop := 5, waddrWord := 8 }).settleLoops), .security, 0, default, by decide,
     by decide, rfl, by decide⟩,
   ⟨tRun.modLe 0 fun e => { e with own := [(5, default)], waddrLoop := 5, waddrWord := 19 }, ((tRun.modLe 0 fun e =>
     { e with own := [(5, default)], waddrLoop := 5, waddrWord := 19 }).settleLoops), .security, 0, default, by decide,
     by decide, rfl, by decide⟩⟩

/-- Witnesses of the hypotheses of `Obligations.LoopEngineStops`, one for each clause. -/
theorem witness_LoopEngineStops :
    (∃ (s : State) (s1 : State) (who : Initiator) (n : Fin 2) (i : _) (l : _), s.acts who = true ∧ s.granted who (0x14 + n.val)
      = true ∧ s1 = s.settleLoops ∧ s1.loops.le[n].enable = true ∧ i ∈ s1.loops.le[n].ids ∧ s1.loops.le[n].loop? i = some l) ∧
    (∃ (s : State) (n : Fin 2) (i : Nat) (rest : List Nat) (p : LoopPass) (l : Loop), s.notesRun = true ∧ s.fs.started = true ∧
      s.loops.le[n].pass = some p ∧ s.loops.le[partner n].pass = none ∧ p.at_ = s.fs.tickAt + 32000 ∧ p.main = i :: rest ∧
      s.loops.le[n].loop? i = some l ∧ l.enabled = true ∧ 76800 < p.wk.cycles + (l.sample i (s.loops.le[n].entry l.input)
      (s.loops.le[n].entry l.spEntry)).cost) ∧
    (∃ (s : State) (s1 : State) (n : Fin 2), s.acting = true ∧ s1 = s.settleLoops ∧ s1.failDue n = true ∧ s1.failDue (partner n)
      = false ∧ s1.loops.le[partner n].failed = false) :=
  ⟨⟨tRun.modLe 0 fun e => { e with enable := true, own := [(1023, default)] }, ((tRun.modLe 0 fun e =>
    { e with enable := true, own := [(1023, default)] }).settleLoops), .security, 0, 1023, default, by decide, by decide, rfl,
    by decide⟩,
   ⟨tRun.modLe 0 fun e =>
     { e with own := [(4, { (default : Loop) with enabled := true })], pass := some { tnc := 100, at_ := 32000, main := [4, 5],
                                                                                      check := [], mism := [], copy := none,
                                                                                      wk := { (default : PassWork) with cycles := 76800 } } },
     0, 4, [5],
     { tnc := 100, at_ := 32000, main := [4, 5], check := [], mism := [], copy := none,
       wk := { (default : PassWork) with cycles := 76800 } }, { (default : Loop) with enabled := true }, by decide⟩,
   ⟨tRun.modLe 1 fun e => { e with failing := some 99 }, ((tRun.modLe 1 fun e => { e with failing := some 99 }).settleLoops), 1,
     by decide, rfl, by decide⟩⟩

/-- Witnesses of the hypotheses of `Obligations.TaskCycle`, one for each clause. -/
theorem witness_TaskCycle :
    (∃ (s : State) (p : Fin 4) (t : Fin 8) (c : PartCfg) (k : TaskCfg), s.partCfg p = some c ∧ s.taskCfg p t = some k ∧
      s.partRuns p = true ∧ s.fs.tnc % k.period = 0 ∧ s.prog.p[p].tasks[t].rel ≠ some s.fs.tnc ∧ s.prog.p[p].forces = []) ∧
    (∃ (s : State) (p : Fin 4) (t : Fin 8) (c : PartCfg) (k : TaskCfg) (r : _) (a : _), s.partCfg p = some c ∧ s.taskCfg p t =
      some k ∧ s.partRuns p = true ∧ s.fs.tnc % k.period = 0 ∧ s.prog.p[p].tasks[t].rel ≠ some s.fs.tnc ∧ s.run.mem.images =
      [(p.val + 1, t.val, r)] ∧ (a < r.1 ∨ r.1 + k.inLen ≤ a)) ∧
    (∃ (s : State) (p : Fin 4) (t : Fin 8) (c : PartCfg) (k : TaskCfg), s.partCfg p = some c ∧ s.taskCfg p t = some k ∧
      s.partRuns p = true ∧ s.fs.tnc % k.period = 0 ∧ s.prog.p[p].tasks[t].rel ≠ some s.fs.tnc ∧ s.run.mem.images = []) ∧
    (∃ (s : State) (p : Fin 4) (t : Fin 8) (c : PartCfg) (k : TaskCfg) (outs : List (Nat × Int × Quality)) (item : _), s.partCfg
      p = some c ∧ s.taskCfg p t = some k ∧ s.partRuns p = true ∧ s.prog.p[p].tasks[t].running = true ∧ s.now + k.cCommit * 10 ≤
      s.commitBy k s.prog.p[p].tasks[t].rel ∧ s.prog.p[p].tasks[t].forces = [] ∧ ((∀ o ∈ outs, o.1 ≠ item) ∨ item ∉
      ((c.bind.outs[t.val]?).getD []).map (·.item))) ∧
    (∃ (s : State) (p : Fin 4) (t : Fin 8) (c : PartCfg) (k : TaskCfg) (q : Fin 4), s.partCfg p = some c ∧ s.taskCfg p t = some
      k ∧ s.partRuns p = true ∧ s.prog.p[p].tasks[t].running = true ∧ s.now + k.cCommit * 10 ≤ s.commitBy k
      s.prog.p[p].tasks[t].rel ∧ q ≠ p) ∧
    (∃ (s : State) (p : Fin 4) (t : Fin 8) (c : PartCfg) (k : TaskCfg) (a : _), s.partCfg p = some c ∧ s.taskCfg p t = some k ∧
      s.partRuns p = true ∧ s.prog.p[p].tasks[t].running = true ∧ s.now + k.cCommit * 10 ≤ s.commitBy k s.prog.p[p].tasks[t].rel
      ∧ (∀ b ∈ s.prog.p[p].tasks[t].own, s.dataOfs p + b.1 ≠ a)) ∧
    (∃ (s : State) (p : Fin 4) (t : Fin 8) (c : PartCfg) (k : TaskCfg), s.partCfg p = some c ∧ s.taskCfg p t = some k ∧
      s.partRuns p = true ∧ s.prog.p[p].tasks[t].running = true ∧ s.now + k.cCommit * 10 ≤ s.commitBy k s.prog.p[p].tasks[t].rel
      ∧ s.pairs.log[partRole p] = none ∧ s.run.mem.images = []) ∧
    (∃ (s : State) (p : Fin 4) (t : Fin 8) (c : PartCfg) (k : TaskCfg) (r : _) (a : _), s.partCfg p = some c ∧ s.taskCfg p t =
      some k ∧ s.partRuns p = true ∧ s.prog.p[p].tasks[t].running = true ∧ s.now + k.cCommit * 10 ≤ s.commitBy k
      s.prog.p[p].tasks[t].rel ∧ s.pairs.log[partRole p] = none ∧ s.run.mem.images = [(p.val + 1, t.val, r)] ∧ (a < r.2 ∨ r.2 +
      k.outLen ≤ a)) ∧
    (∃ (s : State) (p : Fin 4) (t : Fin 8) (k : TaskCfg) (j : Fin 8), s.taskCfg p t = some k ∧ s.partLive p = true ∧
      s.prog.p[p].tasks[t].running = true ∧ j ≠ t) ∧
    (∃ (s : State) (p : Fin 4) (t : Fin 8) (k : TaskCfg) (q : Fin 4), s.taskCfg p t = some k ∧ s.partLive p = true ∧
      s.prog.p[p].tasks[t].running = true ∧ q ≠ p) :=
  ⟨⟨tPart id, 0, 0, tPartCfg, { (default : TaskCfg) with period := 2, cCommit := 1, margin := 4096 }, by decide⟩,
   ⟨tCfg (fun c => { c with mem := { c.mem with images := [(1, 0, (0x10610000, 0x10620000))] } }) (tPart id), 0, 0, tPartCfg,
     { (default : TaskCfg) with period := 2, cCommit := 1, margin := 4096 }, (0x10610000, 0x10620000), 0x10630000, by decide⟩,
   ⟨tPart id, 0, 0, tPartCfg, { (default : TaskCfg) with period := 2, cCommit := 1, margin := 4096 }, by decide⟩,
   ⟨tPart fun x => { x with tasks := tTasks x }, 0, 0, tPartCfg,
     { (default : TaskCfg) with period := 2, cCommit := 1, margin := 4096 }, [(3, 1, .good)], 2, by decide⟩,
   ⟨tPart fun x => { x with tasks := tTasks x }, 0, 0, tPartCfg,
     { (default : TaskCfg) with period := 2, cCommit := 1, margin := 4096 }, 1, by decide⟩,
   ⟨tPart fun x => { x with tasks := tTasks x }, 0, 0, tPartCfg,
     { (default : TaskCfg) with period := 2, cCommit := 1, margin := 4096 }, 62, by decide⟩,
   ⟨tPart fun x => { x with tasks := tTasks x }, 0, 0, tPartCfg,
     { (default : TaskCfg) with period := 2, cCommit := 1, margin := 4096 }, by decide⟩,
   ⟨tCfg (fun c => { c with mem := { c.mem with images := [(1, 0, (0x10610000, 0x10620000))] } }) (tPart fun x =>
     { x with tasks := tTasks x }), 0, 0, tPartCfg, { (default : TaskCfg) with period := 2, cCommit := 1, margin := 4096 },
     (0x10610000, 0x10620000), 0x10630000, by decide⟩,
   ⟨tPart fun x => { x with tasks := tTasks x }, 0, 0, { (default : TaskCfg) with period := 2, cCommit := 1, margin := 4096 },
     1, by decide⟩,
   ⟨tPart fun x => { x with tasks := tTasks x }, 0, 0, { (default : TaskCfg) with period := 2, cCommit := 1, margin := 4096 },
     1, by decide⟩⟩

/-- Witnesses of the hypotheses of `Obligations.RecoveryAndCheckpoints`, one for each clause. -/
theorem witness_RecoveryAndCheckpoints :
    (∃ (s : State) (p : Fin 4) (t : Nat) (n : Nat) (tn : Nat) (q : Fin 4), s.notesRun = true ∧ s.prog.p[p].recNext = some (t, n,
      tn) ∧ tn ≠ s.fs.tnc ∧ s.now ≠ s.fs.tickAt ∧ q ≠ p) ∧
    (∃ (s : State) (p : Fin 4) (t : Nat) (n : Nat) (tn : Nat), s.notesRun = true ∧ s.prog.p[p].recNext = some (t, n, tn) ∧ tn ≠
      s.fs.tnc ∧ s.running = true ∧ s.sys.mode = .service) ∧
    (∃ (s : State) (who : Initiator) (p : Fin 4), s.acts who = true ∧ s.progGranted who = true ∧ s.prog.p[p].recovery = true) ∧
    (∃ (s : State) (who : Initiator) (p : Fin 4), s.acts who = true ∧ s.progGranted who = true ∧ (s.sys.state = .commissioning ∨
      s.sys.state = .test) ∧ (s.partCfg p).isSome = true ∧ s.prog.p[p].recovery = false ∧ s.prog.p[p].recNext = none) ∧
    (∃ (s : State) (who : Initiator), s.acts who = true ∧ s.progGranted who = true ∧ s.sys.state ≠ .commissioning ∧ s.sys.state
      ≠ .test) ∧
    (∃ (s : State) (p : Fin 4) (tnc : Nat) (st : Nat) (a : Nat) (b : Nat) (dst : Nat) (full : Bool), Inv s ∧ s.alive = true ∧
      s.prog.p[p].ckpt = some (tnc, full, st) ∧ s.ckptBufs p = some (a, b) ∧ s.prog.p[p].seq < 2 ^ 64 ∧ dst = (if s.ckptNewest p
      = some a then b else a) ∧ (a + 256 + s.prog.p[p].dataLen ≤ b ∨ b + 256 + s.prog.p[p].dataLen ≤ a) ∧ s.prog.p[p].seq = 1) ∧
    (∃ (s : State) (p : Fin 4) (tnc : Nat) (st : Nat) (a : Nat) (b : Nat) (dst : Nat) (full : Bool) (x : _), Inv s ∧ s.alive =
      true ∧ s.prog.p[p].ckpt = some (tnc, full, st) ∧ s.ckptBufs p = some (a, b) ∧ s.prog.p[p].seq < 2 ^ 64 ∧ dst = (if
      s.ckptNewest p = some a then b else a) ∧ (a + 256 + s.prog.p[p].dataLen ≤ b ∨ b + 256 + s.prog.p[p].dataLen ≤ a) ∧ (x <
      dst ∨ dst + 256 + s.prog.p[p].dataLen ≤ x) ∧ (s.prog.p[p].seq = 1 → x < (if dst = a then b else a) + 252 ∨ (if dst = a
      then b else a) + 256 ≤ x)) ∧
    (∃ (s : State) (p : Fin 4) (t : Fin 8) (k : TaskCfg), s.taskCfg p t = some k ∧ s.partLive p = true ∧
      s.prog.p[p].tasks[t].running = true ∧ s.prog.p[p].recNext = none ∧ s.run.str.overrunN = min (s.prog.p[p].tasks[t].consec +
      1) 255) :=
  ⟨⟨{ tPart fun x => { x with recNext := some (0, 3, 99) } with now := 40 }, 0, 0, 3, 99, 1, by decide⟩,
   ⟨tPart fun x => { x with recNext := some (0, 3, 99) }, 0, 0, 3, 99, by decide⟩,
   ⟨tPart fun x => { x with recovery := true }, .security, 0, by decide⟩,
   ⟨(tPart id).modSys fun y => { y with state := .test }, .security, 0, by decide⟩,
   ⟨tPart id, .security, by decide⟩,
   ⟨tPart fun x => { x with ckpt := some (100, true, 0), seq := 1 }, 0, 100, 0, 0x30000000, 0x30010000, 0x30000000, true, ⟨by
     decide, by decide⟩, by decide, by decide, by decide, by decide, rfl, by decide⟩,
   ⟨tPart fun x => { x with ckpt := some (100, true, 0), seq := 2 ^ 64 - 1 }, 0, 100, 0, 0x30000000, 0x30010000, 0x30000000,
     true, 0x30000140, ⟨by decide, by decide⟩, by decide, by decide, by decide, by decide, rfl, by decide⟩,
   ⟨tCfg (fun c => { c with str := { c.str with overrunN := 1 } }) (tPart fun x => { x with tasks := tTasks x }), 0, 0,
     { (default : TaskCfg) with period := 2, cCommit := 1, margin := 4096 }, by decide⟩⟩

/-- Witnesses of the hypotheses of `Obligations.ForcesAreSet`, one for each clause. -/
theorem witness_ForcesAreSet :
    (∃ (s : State) (who : Initiator) (p : Fin 4) (c : PartCfg) (y : Symbol), s.acts who = true ∧ s.progGranted who = true ∧
      s.sys.state = .commissioning ∧ s.partCfg p = some c ∧ findSym s.prog.p[p].symmap s.prog.forceSym = some y ∧
      s.sil.queue.length < 64 ∧ bitAt y.flags 2 = true ∧ (∀ f ∈ s.prog.p[p].forces, f.symbol ≠ s.prog.forceSym) ∧
      s.prog.p[p].forces.length < c.forceMax) ∧
    (∃ (s : State) (who : Initiator) (p : Fin 4) (c : PartCfg) (y : Symbol), s.acts who = true ∧ s.progGranted who = true ∧
      s.sys.state = .commissioning ∧ s.partCfg p = some c ∧ findSym s.prog.p[p].symmap s.prog.forceSym = some y ∧
      s.sil.queue.length < 64 ∧ (∀ f ∈ s.prog.p[p].forces, f.symbol ≠ s.prog.forceSym) ∧ c.forceMax ≤ s.prog.p[p].forces.length) ∧
    (∃ (s : State) (who : Initiator) (p : Fin 4) (c : PartCfg) (y : Symbol), s.acts who = true ∧ s.progGranted who = true ∧
      s.sys.state = .commissioning ∧ s.partCfg p = some c ∧ findSym s.prog.p[p].symmap s.prog.forceSym = some y ∧
      s.sil.queue.length < 64 ∧ bitAt y.flags 2 = false ∧ s.prog.p[p].forces.length < c.forceMax) ∧
    (∃ (s : State) (who : Initiator) (p : Fin 4) (c : PartCfg) (y : Symbol) (f : Force) (g : Force), s.acts who = true ∧
      s.progGranted who = true ∧ s.sys.state = .commissioning ∧ s.partCfg p = some c ∧ findSym s.prog.p[p].symmap
      s.prog.forceSym = some y ∧ s.sil.queue.length < 64 ∧ f ∈ s.prog.p[p].forces ∧ f.symbol = s.prog.forceSym ∧ g.symbol ≠
      s.prog.forceSym) ∧
    (∃ (s : State) (who : Initiator) (p : Fin 4) (c : PartCfg) (y : Symbol) (q : Fin 4), s.acts who = true ∧ s.progGranted who =
      true ∧ s.sys.state = .commissioning ∧ s.partCfg p = some c ∧ findSym s.prog.p[p].symmap s.prog.forceSym = some y ∧
      s.sil.queue.length < 64 ∧ q ≠ p) ∧
    (∃ (s : State) (who : Initiator) (p : Fin 4) (y : Symbol), s.acts who = true ∧ s.progGranted who = true ∧ s.sys.state ≠
      .commissioning ∧ findSym s.prog.p[p].symmap s.prog.forceSym = some y) ∧
    (∃ (s : State) (p : Fin 4) (t : Fin 8) (c : PartCfg) (k : TaskCfg) (f : Force) (pos : Nat), s.partCfg p = some c ∧ s.taskCfg
      p t = some k ∧ s.partRuns p = true ∧ s.fs.tnc % k.period = 0 ∧ s.prog.p[p].tasks[t].rel ≠ some s.fs.tnc ∧
      s.prog.p[p].forces = [f] ∧ c.bind.inSym = [(f.symbol, t.val, pos)] ∧ pos < s.prog.p[p].tasks[t].latched.length) ∧
    (∃ (s : State) (p : Fin 4) (t : Fin 8) (c : PartCfg) (k : TaskCfg) (f : Force) (item : Nat), s.partCfg p = some c ∧
      s.taskCfg p t = some k ∧ s.partRuns p = true ∧ s.prog.p[p].tasks[t].running = true ∧ s.now + k.cCommit * 10 ≤ s.commitBy k
      s.prog.p[p].tasks[t].rel ∧ s.prog.p[p].tasks[t].forces = [f] ∧ c.bind.outSym = [(f.symbol, item)] ∧ item ∈
      ((c.bind.outs[t.val]?).getD []).map (·.item)) :=
  ⟨⟨((tPart id).modSys fun y => { y with state := .commissioning }).modProg fun p => { p with forceSym := 1 }, .security, 0,
    tPartCfg, { id := 1, type := 4, flags := 4, size := 2, ofs := 0 }, by decide⟩,
   ⟨((tPart fun x => { x with forces := [{ symbol := 2, value := 0 }] }).modSys fun y =>
     { y with state := .commissioning }).modProg fun p => { p with forceSym := 1 }, .security, 0, tPartCfg,
     { id := 1, type := 4, flags := 4, size := 2, ofs := 0 }, by decide⟩,
   ⟨((tPart id).modSys fun y => { y with state := .commissioning }).modProg fun p => { p with forceSym := 2 }, .security, 0,
     tPartCfg, { id := 2, type := 4, flags := 0, size := 2, ofs := 8 }, by decide⟩,
   ⟨((tPart fun x => { x with forces := [{ symbol := 1, value := 0 }] }).modSys fun y =>
     { y with state := .commissioning }).modProg fun p => { p with forceSym := 1 }, .security, 0, tPartCfg,
     { id := 1, type := 4, flags := 4, size := 2, ofs := 0 }, { symbol := 1, value := 0 }, { symbol := 2, value := 0 },
     by decide⟩,
   ⟨((tPart id).modSys fun y => { y with state := .commissioning }).modProg fun p => { p with forceSym := 1 }, .security, 0,
     tPartCfg, { id := 1, type := 4, flags := 4, size := 2, ofs := 0 }, 1, by decide⟩,
   ⟨(tPart id).modProg fun p => { p with forceSym := 1 }, .security, 0, { id := 1, type := 4, flags := 4, size := 2, ofs := 0 },
     by decide⟩,
   ⟨tCfg (fun c =>
     { c with prog := { c.prog with parts := [{ tPartCfg with bind := { (default : PartBind) with inSym := [(1, 0, 1)] } }] } })
     (tPart fun x =>
     { x with forces := [{ symbol := 1, value := 5 }], tasks := x.tasks.set 0 { x.tasks[0] with latched := [(0, .good), (0,
                                                                                                .good)] } }), 0, 0,
     { tPartCfg with bind := { (default : PartBind) with inSym := [(1, 0, 1)] } },
     { (default : TaskCfg) with period := 2, cCommit := 1, margin := 4096 }, { symbol := 1, value := 5 }, 1, by decide⟩,
   ⟨tCfg (fun c =>
     { c with prog := { c.prog with parts := [{ tPartCfg with bind := { (default : PartBind) with outSym := [(1, 9)],
                                                                                                  outs := [[{ item := 9,
                                                                                                              ofs := 0,
                                                                                                              type := 4,
                                                                                                              dest := .setpoint,
                                                                                                              safe := false }]] } }] } })
     (tPart fun x =>
     { x with tasks := x.tasks.set 0 { x.tasks[0] with running := true, rel := some 100, forces := [{ symbol := 1,
                                                                                                      value := 5 }] } }), 0, 0,
     { tPartCfg with bind := { (default : PartBind) with outSym := [(1, 9)], outs := [[{ item := 9, ofs := 0, type := 4,
                                                                                         dest := .setpoint,
                                                                                         safe := false }]] } },
     { (default : TaskCfg) with period := 2, cCommit := 1, margin := 4096 }, { symbol := 1, value := 5 }, 9, by decide⟩⟩

/-- Witnesses of the hypotheses of `Obligations.OnlineChange`, one for each clause. -/
theorem witness_OnlineChange :
    (∃ (s : State) (who : Initiator) (p : Fin 4) (c : PartCfg) (g : Package), s.acts who = true ∧ s.progGranted who = true ∧
      s.partCfg p = some c ∧ s.package s.prog.olcSrc p = (g, true) ∧ s.stageErr p c g true = 0) ∧
    (∃ (s : State) (who : Initiator) (p : Fin 4) (c : PartCfg) (g : Package), s.acts who = true ∧ s.progGranted who = true ∧
      s.partCfg p = some c ∧ s.package s.prog.olcSrc p = (g, true) ∧ s.sys.state = .recovery) ∧
    (∃ (s : State) (who : Initiator) (p : Fin 4) (c : PartCfg) (g : Package), s.acts who = true ∧ s.progGranted who = true ∧
      s.partCfg p = some c ∧ s.package s.prog.olcSrc p = (g, true) ∧ s.sys.state = .service ∧ s.partRuns p = true ∧
      s.prog.p[p].olc = 0 ∧ g.oldDig ≠ s.prog.p[p].digest) ∧
    (∃ (s : State) (p : Fin 4) (g : Package) (o : Nat), s.alive = true ∧ s.prog.p[p].olc = 1 ∧ s.prog.p[p].pkg = some g ∧ o =
      (if s.prog.p[p].bankB then 0 else 0x40000)) ∧
    (∃ (s : State) (who : Initiator) (p : Fin 4), s.acts who = true ∧ s.progGranted who = true ∧ (s.prog.p[p].olc = 1 ∨
      s.prog.p[p].olc = 2)) ∧
    (∃ (s : State) (who : Initiator) (p : Fin 4), s.acts who = true ∧ s.progGranted who = true ∧ s.prog.p[p].olc = 3) ∧
    (∃ (s : State) (p : Fin 4) (c : PartCfg) (g : Package), s.notesRun = true ∧ s.partCfg p = some c ∧ s.prog.p[p].olc = 3 ∧
      s.prog.p[p].pkg = some g ∧ s.fs.tnc < s.prog.p[p].switchAt ∧ s.switchTime c s.prog.p[p].switchAt < s.fs.tickAt + 40 *
      s.fs.noteLen ∧ (s.prog.p[p].recovery = true ∨ (∃ k : Fin 8, s.prog.p[p].tasks[k].running = true ∨ 0 <
      s.prog.p[p].tasks[k].consec) ∨ (s.pairs.migRole = p.val + 1 ∧ (s.pairs.armed = true ∨ s.pairs.running = true)))) ∧
    (∃ (s : State) (p : Fin 4) (c : PartCfg) (g : Package), s.notesRun = true ∧ s.partCfg p = some c ∧ s.prog.p[p].olc = 3 ∧
      s.prog.p[p].pkg = some g ∧ s.fs.tnc < s.prog.p[p].switchAt ∧ s.switchTime c s.prog.p[p].switchAt < s.fs.tickAt + 40 *
      s.fs.noteLen ∧ s.prog.p[p].recovery = false ∧ (∀ k : Fin 8, s.prog.p[p].tasks[k].consec = 0 ∧ s.prog.p[p].tasks[k].running
      = false) ∧ (s.pairs.migRole ≠ p.val + 1 ∨ (s.pairs.armed = false ∧ s.pairs.running = false)) ∧ s.pairs.log[partRole p] =
      none ∧ s.fs.tnc + 1 = s.prog.p[p].switchAt) ∧
    (∃ (s : State) (p : Fin 4) (c : PartCfg) (g : Package) (q : Fin 4), s.notesRun = true ∧ s.partCfg p = some c ∧
      s.prog.p[p].olc = 3 ∧ s.prog.p[p].pkg = some g ∧ s.fs.tnc < s.prog.p[p].switchAt ∧ s.switchTime c s.prog.p[p].switchAt <
      s.fs.tickAt + 40 * s.fs.noteLen ∧ s.prog.p[p].recovery = false ∧ (∀ k : Fin 8, s.prog.p[p].tasks[k].consec = 0 ∧
      s.prog.p[p].tasks[k].running = false) ∧ (s.pairs.migRole ≠ p.val + 1 ∨ (s.pairs.armed = false ∧ s.pairs.running = false))
      ∧ s.pairs.log[partRole p] = none ∧ q ≠ p) :=
  ⟨⟨tStaged .service (zeros 64), .security, 0, tPartCfg, _, by decide, by decide, by decide, rfl, by decide⟩,
   ⟨tStaged .recovery (zeros 64), .security, 0, tPartCfg, _, by decide, by decide, by decide, rfl, by decide⟩,
   ⟨tStaged .service [], .security, 0, tPartCfg, _, by decide, by decide, by decide, rfl, by decide⟩,
   ⟨tPart fun x => { x with olc := 1, pkg := some default }, 0, default, 0x40000, by decide, by decide, by decide, rfl⟩,
   ⟨tPart fun x => { x with olc := 2 }, .security, 0, by decide⟩,
   ⟨tPart fun x => { x with olc := 3 }, .security, 0, by decide⟩,
   ⟨tPart fun x => { x with olc := 3, pkg := some default, switchAt := 101, recovery := true }, 0, tPartCfg, default, by decide⟩,
   ⟨tPart fun x => { x with olc := 3, pkg := some default, switchAt := 101 }, 0, tPartCfg, default, by decide⟩,
   ⟨tPart fun x => { x with olc := 3, pkg := some default, switchAt := 101 }, 0, tPartCfg, default, 1, by decide⟩⟩

/-- Witnesses of the hypotheses of `Obligations.Metering`, one for each clause (its part on meter samples). -/
theorem witness_Metering_MeterSamples :
    (∃ (s : State) (bits : List (Fin 96 × List Bool)) (c : ChanCfg) (k : Fin 96) (n : Nat) (b : Bool), s.metering = true ∧
      s.refLost = false ∧ (s.run.meter.chans.map (·.ch)).Nodup ∧ c ∈ s.run.meter.chans ∧ c.ch = k.val ∧ 256 ≤ n ∧ bits = [(k,
      List.replicate n b)]) ∧
    (∃ (s : State) (bits : List (Fin 96 × List Bool)) (p : _), s.metering = true ∧ s.refLost = false ∧ bits = [] ∧
      (s.run.meter.ac.map (·.pt)).Nodup ∧ p ∈ s.run.meter.ac ∧ p.pt < 32 ∧ s.run.meter.dc = [] ∧ (∀ k ∈ p.chans, ∃ x ∈
      s.run.meter.chans, x.ch = k) ∧ s.windowDue p.pt = false) ∧
    (∃ (s : State), s.alive = true ∧ s.acc.locked = true ∧ s.mtrStandby = true ∧ s.refLost = true) ∧
    (∃ (s : State), s.alive = true ∧ s.acc.locked = true ∧ s.mtrStandby = true ∧ s.refLost = false ∧ s.mtr.capEdge = true) :=
  ⟨⟨tCfg (fun c => { c with meter := { c.meter with chans := [{ (default : ChanCfg) with ch := 95 }] } }) tRun, [(95,
    List.replicate 256 true)], { (default : ChanCfg) with ch := 95 }, 95, 256, true, by decide, by decide, by decide, by decide,
    by decide, by decide, rfl⟩,
   ⟨tCfg (fun c =>
     { c with meter := { c.meter with chans := [{ (default : ChanCfg) with ch := 1 }],
                                      ac := [{ (default : PointCfg) with pt := 31, ch := [1, 1] }] } }) tRun, [],
     { (default : PointCfg) with pt := 31, ch := [1, 1] }, by decide, by decide, rfl, by decide⟩,
   ⟨tCfg (fun c => { c with meter := { c.meter with mclk := [.twinShared], chans := [{ (default : ChanCfg) with ch := 88 }] } })
     (tRun.modMtr fun m => { m with lost := m.lost.set 11 true }), by decide⟩,
   ⟨tCfg (fun c => { c with meter := { c.meter with mclk := [.twinShared], chans := [{ (default : ChanCfg) with ch := 88 }] } })
     (tRun.modMtr fun m => { m with capEdge := true }), by decide⟩⟩

/-- Witnesses of the hypotheses of `Obligations.Metering`, one for each clause (its part on meter windows). -/
theorem witness_Metering_MeterWindows :
    (∃ (s : State) (pt : Fin 48) (p : PointCfg) (ep : Int) (k : _), s.alive = true ∧ s.acc.locked = true ∧ s.windowDue pt.val =
      true ∧ s.run.meter.point? pt.val = some p ∧ p.kind ≠ 3 ∧ ep = s.run.meter.scaled p (s.mtr.pt pt.val).win.vi ∧ k ≠ pt.val) ∧
    (∃ (s : State) (pt : Fin 48) (p : PointCfg) (ep : Int), s.alive = true ∧ s.acc.locked = true ∧ s.windowDue pt.val = true ∧
      s.run.meter.point? pt.val = some p ∧ p.kind ≠ 3 ∧ ep = s.run.meter.scaled p (s.mtr.pt pt.val).win.vi ∧ (s.mtr.pt
      pt.val).win.n < 800) ∧
    (∃ (s : State) (pt : Fin 48) (p : PointCfg) (ep : Int) (r : _), s.alive = true ∧ s.acc.locked = true ∧ s.windowDue pt.val =
      true ∧ s.run.meter.point? pt.val = some p ∧ p.kind ≠ 3 ∧ ep = s.run.meter.scaled p (s.mtr.pt pt.val).win.vi ∧ r < 7) :=
  ⟨⟨(tCfg (fun c => { c with meter := { c.meter with dc := [{ (default : PointCfg) with pt := 15, kind := 5 }] } }) tRun).modMtr
    fun m => { m with edges := 1504, pts := [(47, { (default : MPoint) with win := { (default : Win) with n := 1 } })] }, 47,
    { (default : PointCfg) with pt := 15, kind := 5 }, _, 0, by decide, by decide, by decide, by decide, by decide, rfl,
    by decide⟩,
   ⟨(tCfg (fun c => { c with meter := { c.meter with ac := [{ (default : PointCfg) with pt := 31, kind := 1 }] } }) tRun).modMtr
     fun m => { m with edges := 992, pts := [(31, { (default : MPoint) with win := { (default : Win) with n := 1 } })] }, 31,
     { (default : PointCfg) with pt := 31, kind := 1 }, _, by decide, by decide, by decide, by decide, by decide, rfl,
     by decide⟩,
   ⟨(tCfg (fun c => { c with meter := { c.meter with ac := [{ (default : PointCfg) with pt := 31, kind := 1 }] } }) tRun).modMtr
     fun m => { m with edges := 992, pts := [(31, { (default : MPoint) with win := { (default : Win) with n := 1 } })] }, 31,
     { (default : PointCfg) with pt := 31, kind := 1 }, _, 6, by decide, by decide, by decide, by decide, by decide, rfl,
     by decide⟩⟩

/-- Witnesses of the hypotheses of `Obligations.MeterClocksAndCaptures`, one for each clause. -/
theorem witness_MeterClocksAndCaptures :
    (∃ (s : State) (g : Fin 12), s.alive = true ∧ s.acc.locked = true ∧ s.mtrStandby = true ∧ s.run.meter.usesGroup g.val = true
      ∧ s.mtr.lost[g] = false) ∧
    (∃ (s : State) (g : Fin 12) (c : _) (x : _), s.alive = true ∧ s.acc.locked = true ∧ s.mtr.lost[g] = true ∧ Tbl.get? c
      s.mtr.dec = some x) ∧
    (∃ (s : State) (who : Initiator), s.acts who = true ∧ isSuperSec who = true ∧ s.acc.locked = true ∧ s.mtr.capReq = false) ∧
    (∃ (s : State) (a : _), s.alive = true ∧ s.mtr.capReq = true ∧ s.mtr.capEdge = true ∧ s.pwr.deferred = none ∧ (∀ x,
      (s.settleMirror true).mtr.latest = some x → x.seq + 1 < 2 ^ 64) ∧ s.mirrorOk true = true ∧ s.mirrorOk false = true ∧ (∀ b
      ∈ [s.run.mem.mtrMirror.1, s.run.mem.mtrMirror.2], a < b ∨ b + 24576 ≤ a)) ∧
    (∃ (s : State) (x : _), s.alive = true ∧ s.mtr.capReq = true ∧ s.mtr.capEdge = true ∧ s.pwr.deferred = none ∧ (∀ x,
      (s.settleMirror true).mtr.latest = some x → x.seq + 1 < 2 ^ 64) ∧ s.mirrorOk true = true ∧ s.mirrorOk false = true ∧
      s.mtr.bufs = (some x, none) ∧ s.mtr.writing = none) :=
  ⟨⟨tCfg (fun c => { c with meter := { c.meter with mclk := [.twinShared], chans := [{ (default : ChanCfg) with ch := 88 }] } })
    tRun, 11, by decide⟩,
   ⟨tRun.modMtr fun m => { m with lost := m.lost.set 11 true, dec := [(95, default)] }, 11, 95, default, by decide⟩,
   ⟨tRun, .security, by decide⟩,
   ⟨tCfg (fun c =>
     { c with mem := { c.mem with regions := { base := 0x30000000, size := 0x20000, owner := 15, read := true,
                                               write := true } :: c.mem.regions, mtrMirror := (0x30000000, 0x30010000) } })
     (tRun.modMtr fun m => { m with capReq := true, capEdge := true, bufs := (some default, none) }), 0x30030000, by decide⟩,
   ⟨tCfg (fun c =>
     { c with mem := { c.mem with regions := { base := 0x30000000, size := 0x20000, owner := 15, read := true,
                                               write := true } :: c.mem.regions, mtrMirror := (0x30000000, 0x30010000) } })
     (tRun.modMtr fun m => { m with capReq := true, capEdge := true, bufs := (some default, none) }), default, by decide⟩⟩

/-- Witnesses of the hypotheses of `Obligations.ThermalAndPulses`, one for each clause (its part on thermal points). A
hypothesis that compares with an opaque value is left out: nothing in Lean can evaluate it, and the complementary case is stated
beside it. -/
theorem witness_ThermalAndPulses_ThermalPoints :
    (∃ (s : State) (c : ThermCfg) (i : ThermIn) (th : Nat) (x : ThermSt), s.alive = true ∧ s.acc.locked = true ∧
      s.run.meter.therm = [c] ∧ s.mtr.thermIn = some (th, [i]) ∧ i.pt = c.pt ∧ x = Tbl.getD s.mtr.therm c.pt default ∧ c.usable
      i.flow i.tf i.tr = false) ∧
    (∃ (s : State) (c : ThermCfg) (i : ThermIn) (th : Nat) (x : ThermSt), s.alive = true ∧ s.acc.locked = true ∧
      s.run.meter.therm = [c] ∧ s.mtr.thermIn = some (th, [i]) ∧ i.pt = c.pt ∧ x = Tbl.getD s.mtr.therm c.pt default ∧ c.rate =
      true) :=
  ⟨⟨(tCfg (fun c => { c with meter := { c.meter with therm := [default] } }) tRun).modMtr fun m =>
    { m with thermIn := some (100, [default]) }, default, default, 100, default, by decide, by decide, by decide, by decide,
    by decide, rfl, by decide⟩,
   ⟨(tCfg (fun c => { c with meter := { c.meter with therm := [{ (default : ThermCfg) with rate := true, kpa := 600 }] } })
     tRun).modMtr fun m =>
     { m with thermIn := some (100, [{ (default : ThermIn) with tf := (80000, .good), tr := (40000, .good) }]) },
     { (default : ThermCfg) with rate := true, kpa := 600 },
     { (default : ThermIn) with tf := (80000, .good), tr := (40000, .good) }, 100, default, by decide, by decide, by decide,
     by decide, by decide, rfl, by decide⟩⟩

/-- Witnesses of the hypotheses of `Obligations.ThermalAndPulses`, one for each clause (its part on pulses and meter reads). -/
theorem witness_ThermalAndPulses_PulsesAndMeterReads :
    (∃ (s : State) (j : Fin 16) (c : PulseCfg) (x : PulseSt) (on : Nat) (k : Fin 48), s.notesRun = true ∧
      s.run.meter.pulses[j.val]? = some c ∧ s.mtr.pulses[j.val]? = some x ∧ x.onAt = some on ∧ s.fs.tnc = on + c.notes
      s.fs.period ∧ k.val ≠ c.ch) ∧
    (∃ (s : State) (who : Initiator) (ofs : BitVec 16) (v : Nat) (a : _), s.acts who = true ∧ s.mtr.reg64 ofs.toNat = some v ∧
      s.mtr.shadows = [((who.code, ofs.toNat), a)]) :=
  ⟨⟨(tCfg (fun c => { c with meter := { c.meter with pulses := [{ (default : PulseCfg) with ch := 47, width := 1 }] } })
    tRun).modMtr fun m => { m with pulses := [{ (default : PulseSt) with onAt := some 99 }] }, 0,
    { (default : PulseCfg) with ch := 47, width := 1 }, { (default : PulseSt) with onAt := some 99 }, 99, 46, by decide⟩,
   ⟨tRun.modMtr fun m => { m with shadows := [((8, 0x17F0), 5)] }, .security, 0x17F0, 0, 5, by decide⟩⟩

/-- Witnesses of the hypotheses of `Obligations.MessageBuffers`, one for each clause (its part on receive buffers). -/
theorem witness_MessageBuffers_ReceiveBuffers :
    (∃ (s : State) (n : Fin 8) (k : Fin 64) (f : CanFrame) (m : Fin 8), s.canUp n = true ∧ (f.fdf = false ∨ bitAt s.can[n].ctrl
      2 = true) ∧ s.stnOf n f = none ∧ (f.rtr = false ∨ f.fdf = true) ∧ s.can[n].tec < 256 ∧ (s.can[n].buf k.val).accepts f =
      true ∧ (∀ j, j < k.val → (s.can[n].buf j).accepts f = false) ∧ m ≠ n) ∧
    (∃ (s : State) (n : Fin 8) (k : Fin 64) (f : CanFrame) (j : _), s.canUp n = true ∧ (f.fdf = false ∨ bitAt s.can[n].ctrl 2 =
      true) ∧ s.stnOf n f = none ∧ (f.rtr = false ∨ f.fdf = true) ∧ s.can[n].tec < 256 ∧ (s.can[n].buf k.val).accepts f = true ∧
      (∀ j, j < k.val → (s.can[n].buf j).accepts f = false) ∧ j ≠ k.val) ∧
    (∃ (s : State) (who : Initiator) (n : Fin 8) (m : Fin 8), s.acts who = true ∧ s.granted who (0x20 + n.val) = true ∧ m ≠ n) ∧
    (∃ (s : State) (who : Initiator) (n : Fin 8) (k : Fin 64) (j : _), s.acts who = true ∧ s.granted who (0x20 + n.val) = true ∧
      j ≠ k.val) :=
  ⟨⟨tRun.modCan 0 fun p => { p with state := .active, bufs := [(63, { MsgBuf.reset with cfg := 0x40000000 })] }, 0, 63, tFrame
    false 5 (zeros 8), 1, by decide⟩,
   ⟨tRun.modCan 0 fun p => { p with state := .active, bufs := [(63, { MsgBuf.reset with cfg := 0x40000000 })] }, 0, 63, tFrame
     false 5 (zeros 8), 62, by decide⟩,
   ⟨tRun, .security, 0, 1, by decide⟩,
   ⟨tRun, .security, 0, 0, 1, by decide⟩⟩

/-- Witnesses of the hypotheses of `Obligations.MessageBuffers`, one for each clause (its part on transmit buffers). -/
theorem witness_MessageBuffers_TransmitBuffers :
    (∃ (s : State) (who : Initiator) (n : Fin 8) (k : Fin 64) (m : Fin 8), s.acts who = true ∧ s.granted who (0x20 + n.val) =
      true ∧ (s.can[n].buf k.val).cfg / 2 ^ 30 % 4 = 2 ∧ (s.can[n].buf k.val).pend = none ∧ m ≠ n) ∧
    (∃ (s : State) (who : Initiator) (n : Fin 8) (k : Fin 64) (m : Fin 8), s.acts who = true ∧ s.granted who (0x20 + n.val) =
      true ∧ (s.can[n].buf k.val).pend.isSome = true ∧ m ≠ n) ∧
    (∃ (s : State) (n : Fin 8) (k : Fin 64) (at_ : Int) (tries : Nat) (m : Fin 8), s.alive = true ∧ (s.can[n].buf k.val).pend =
      some (at_, tries) ∧ at_ + ((s.can[n].buf k.val).cfg / 2 ^ 15 % 256 : Nat) ≤ (if s.fs.started then (s.fs.tnc : Int) else
      -1) ∧ m ≠ n) ∧
    (∃ (s : State) (s1 : State) (n : Fin 8) (k : Nat) (tries : Nat) (at_ : Int) (tdcv : BitVec 8) (tdc : Bool) (m : Fin 8),
      s.canUp n = true ∧ s.restricted n = false ∧ s.can[n].dominant = false ∧ s.can[n].stop ≠ 2 ∧ s1 = s.mbExpire n ∧
      s1.can[n].offered = some (.inl k) ∧ (s1.can[n].buf k).pend = some (at_, tries) ∧ s1.can[n].tec < 248 ∧ tdc = (bitAt
      s1.can[n].ctrl 4 && bitAt s1.can[n].ctrl 3 && bitAt (s1.can[n].buf k).cfg 28 && bitAt (s1.can[n].buf k).cfg 27) ∧ (tdc =
      true → tdcv.toNat + s1.can[n].btd % 128 ≤ 127) ∧ m ≠ n) ∧
    (∃ (s : State) (s1 : State) (n : Fin 8) (k : Nat) (tries : Nat) (at_ : Int) (tdcv : BitVec 8) (tdc : Bool) (m : Fin 8),
      s.canUp n = true ∧ s.restricted n = false ∧ s.can[n].dominant = false ∧ s.can[n].stop ≠ 2 ∧ s1 = s.mbExpire n ∧
      s1.can[n].offered = some (.inl k) ∧ (s1.can[n].buf k).pend = some (at_, tries) ∧ s1.can[n].tec < 248 ∧ tdc = (bitAt
      s1.can[n].ctrl 4 && bitAt s1.can[n].ctrl 3 && bitAt (s1.can[n].buf k).cfg 28 && bitAt (s1.can[n].buf k).cfg 27) ∧ tdc =
      true ∧ 127 < tdcv.toNat + s1.can[n].btd % 128 ∧ m ≠ n) ∧
    (∃ (s : State) (who : Initiator) (n : Fin 8) (v : Word) (m : Fin 8), s.acts who = true ∧ s.granted who (0x20 + n.val) = true
      ∧ s.can[n].dominant = false ∧ v.extractLsb' 30 2 ≠ 3#2 ∧ (v.extractLsb' 30 2 = 2#2 → v.extractLsb' 15 8 ≠ 0#8) ∧ m ≠ n) ∧
    (∃ (s : State) (who : Initiator) (n : Fin 8) (v : Word), s.acts who = true ∧ s.granted who (0x20 + n.val) = true ∧
      s.can[n].dominant = false ∧ (v.extractLsb' 30 2 = 3#2 ∨ (v.extractLsb' 30 2 = 2#2 ∧ v.extractLsb' 15 8 = 0#8))) ∧
    (∃ (s : State) (who : Initiator) (n : Fin 8), s.acts who = true ∧ s.granted who (0x20 + n.val) = true ∧ s.can[n].dominant =
      true) :=
  ⟨⟨tRun.modCan 0 fun p => { p with bufs := [(63, { MsgBuf.reset with cfg := 0x80008000 })] }, .security, 0, 63, 1, by decide⟩,
   ⟨tRun.modCan 0 fun p => { p with bufs := [(63, { MsgBuf.reset with cfg := 0x80008000, pend := some (100, 0) })] }, .security,
     0, 63, 1, by decide⟩,
   ⟨tRun.modCan 0 fun p => { p with bufs := [(63, { MsgBuf.reset with cfg := 0x80008000, pend := some (99, 0) })] }, 0, 63, 99,
     0, 1, by decide⟩,
   ⟨tRun.modCan 0 fun p => { p with state := .active, ctrl := 32, bufs := [(2, { MsgBuf.reset with pend := some (101, 0) })] },
     ((tRun.modCan 0 fun p =>
     { p with state := .active, ctrl := 32, bufs := [(2, { MsgBuf.reset with pend := some (101, 0) })] }).mbExpire (0 : Fin 8)),
     0, 2, 0, 101, 0, ((bitAt (((tRun.modCan 0 fun p =>
     { p with state := .active, ctrl := 32, bufs := [(2, { MsgBuf.reset with pend := some (101, 0) })] }).mbExpire (0 : Fin
     8))).can[(0 : Fin 8)].ctrl 4 && bitAt (((tRun.modCan 0 fun p =>
     { p with state := .active, ctrl := 32, bufs := [(2, { MsgBuf.reset with pend := some (101, 0) })] }).mbExpire (0 : Fin
     8))).can[(0 : Fin 8)].ctrl 3 && bitAt ((((tRun.modCan 0 fun p =>
     { p with state := .active, ctrl := 32, bufs := [(2, { MsgBuf.reset with pend := some (101, 0) })] }).mbExpire (0 : Fin
     8))).can[(0 : Fin 8)].buf (2)).cfg 28 && bitAt ((((tRun.modCan 0 fun p =>
     { p with state := .active, ctrl := 32, bufs := [(2, { MsgBuf.reset with pend := some (101, 0) })] }).mbExpire (0 : Fin
     8))).can[(0 : Fin 8)].buf (2)).cfg 27)), 1, by decide, by decide, by decide, by decide, rfl, by decide, by decide,
     by decide, rfl, by decide⟩,
   ⟨tRun.modCan 0 fun p =>
     { p with state := .active, ctrl := 56, btd := 100, bufs := [(2, { MsgBuf.reset with pend := some (101, 0),
                                                                                         cfg := 0x18000000 })] }, ((tRun.modCan
     0 fun p =>
     { p with state := .active, ctrl := 56, btd := 100, bufs := [(2, { MsgBuf.reset with pend := some (101, 0),
                                                                                         cfg := 0x18000000 })] }).mbExpire (0 :
     Fin 8)), 0, 2, 0, 101, 28, ((bitAt (((tRun.modCan 0 fun p =>
     { p with state := .active, ctrl := 56, btd := 100, bufs := [(2, { MsgBuf.reset with pend := some (101, 0),
                                                                                         cfg := 0x18000000 })] }).mbExpire (0 :
     Fin 8))).can[(0 : Fin 8)].ctrl 4 && bitAt (((tRun.modCan 0 fun p =>
     { p with state := .active, ctrl := 56, btd := 100, bufs := [(2, { MsgBuf.reset with pend := some (101, 0),
                                                                                         cfg := 0x18000000 })] }).mbExpire (0 :
     Fin 8))).can[(0 : Fin 8)].ctrl 3 && bitAt ((((tRun.modCan 0 fun p =>
     { p with state := .active, ctrl := 56, btd := 100, bufs := [(2, { MsgBuf.reset with pend := some (101, 0),
                                                                                         cfg := 0x18000000 })] }).mbExpire (0 :
     Fin 8))).can[(0 : Fin 8)].buf (2)).cfg 28 && bitAt ((((tRun.modCan 0 fun p =>
     { p with state := .active, ctrl := 56, btd := 100, bufs := [(2, { MsgBuf.reset with pend := some (101, 0),
                                                                                         cfg := 0x18000000 })] }).mbExpire (0 :
     Fin 8))).can[(0 : Fin 8)].buf (2)).cfg 27)), 1, by decide, by decide, by decide, by decide, rfl, by decide, by decide,
     by decide, rfl, rfl, by decide⟩,
   ⟨tRun, .security, 0, 0x80008000, 1, by decide⟩,
   ⟨tRun, .security, 0, 0x80000000, by decide⟩,
   ⟨tRun.modCan 0 fun p => { p with dominant := true }, .security, 0, by decide⟩⟩

/-- Witnesses of the hypotheses of `Obligations.CanErrorsAndModes`, one for each clause (its part on can error states). -/
theorem witness_CanErrorsAndModes_CanErrorStates :
    (∃ (s : State) (n : Fin 8) (m : Fin 8), s.canUp n = true ∧ s.restricted n = false ∧ s.can[n].state = .active ∧ s.can[n].tec
      < 128 ∧ s.can[n].rec_ < 128 ∧ m ≠ n) ∧
    (∃ (s : State) (n : Fin 8) (l : Fin 7) (m : Fin 8), s.canUp n = true ∧ s.restricted n = false ∧ l.val ≠ 3 ∧ 248 ≤
      s.can[n].tec ∧ m ≠ n) ∧
    (∃ (s : State) (n : Fin 8) (l : Fin 7) (k : _), s.canUp n = true ∧ s.restricted n = false ∧ l.val ≠ 3 ∧ 248 ≤ s.can[n].tec ∧
      (s.can[n].buf k).pend.isSome = true) ∧
    (∃ (s : State) (n : Fin 8), s.alive = true ∧ s.can[n].state = .busOff ∧ (bitAt s.can[n].ctrl 6 = true ∨ s.can[n].recover =
      true)) ∧
    (∃ (s : State) (who : Initiator) (n : Fin 8), s.acts who = true ∧ s.granted who (0x20 + n.val) = true ∧ s.can[n].state =
      .busOff ∧ s.can[n].ctrl < 256 ∧ s.acc.locked = false ∧ s.can[n].ctrl % 4 = 1) ∧
    (∃ (s : State) (who : Initiator) (n : Fin 8), s.acts who = true ∧ s.granted who (0x20 + n.val) = true ∧ s.can[n].state =
      .busOff ∧ s.can[n].ctrl < 256 ∧ s.acc.locked = true) :=
  ⟨⟨tRun.modCan 0 fun p => { p with state := .active, tec := 127, rec_ := 127 }, 0, 1, by decide⟩,
   ⟨tRun.modCan 0 fun p => { p with state := .passive, tec := 248 }, 0, 1, 1, by decide⟩,
   ⟨tRun.modCan 0 fun p =>
     { p with state := .passive, tec := 248, bufs := [(63, { MsgBuf.reset with cfg := 0x80008000, pend := some (99, 0) })] }, 0,
     1, 63, by decide⟩,
   ⟨tRun.modCan 0 fun p => { p with state := .busOff, recover := true }, 0, by decide⟩,
   ⟨State.reset.modCan 0 fun p => { p with state := .busOff, ctrl := 1 }, .security, 0, by decide⟩,
   ⟨tRun.modCan 0 fun p => { p with state := .busOff }, .security, 0, by decide⟩⟩

/-- Witnesses of the hypotheses of `Obligations.CanErrorsAndModes`, one for each clause (its part on can bus and listening). -/
theorem witness_CanErrorsAndModes_CanBusAndListening :
    (∃ (s : State) (n : Fin 8) (m : Fin 8), s.alive = true ∧ s.can[n].state ≠ .disabled ∧ s.can[n].dominant = false ∧
      s.sil.queue.length < 64 ∧ m ≠ n) ∧
    (∃ (s : State) (n : Fin 8), s.alive = true ∧ s.can[n].cfgWait = []) ∧
    (∃ (s : State) (n : Fin 8) (k : _) (v : _), s.alive = true ∧ s.can[n].cfgWait = [(k, 1, v)]) ∧
    (∃ (s : State) (who : Initiator) (n : Fin 8), s.acts who = true ∧ s.granted who (0x20 + n.val) = true ∧ s.can[n].ctrl < 256
      ∧ s.acc.locked = true ∧ s.sys.state = .commissioning ∧ s.can[n].listen = true) ∧
    (∃ (s : State) (who : Initiator) (n : Fin 8) (c : _), s.acts who = true ∧ s.granted who (0x20 + n.val) = true ∧
      s.can[n].ctrl < 256 ∧ s.acc.locked = true ∧ s.sys.state ≠ .commissioning ∧ c ∈ [Instr.listen who n, Instr.normal who n]) ∧
    (∃ (s : State) (who : Initiator) (n : Fin 8) (c : _), s.acts who = true ∧ s.granted who (0x20 + n.val) = true ∧
      s.can[n].ctrl < 256 ∧ s.acc.locked = true ∧ s.sil.queue.length < 64 ∧ s.sys.state = .commissioning ∧ c ∈ [Instr.listen who
      n, Instr.normal who n]) :=
  ⟨⟨tRun.modCan 0 fun p => { p with state := .active }, 0, 1, by decide⟩,
   ⟨(tRun.modSys fun y => { y with state := .commissioning }).modCan 0 fun p => { p with state := .active, listen := true }, 0,
     by decide⟩,
   ⟨(tRun.modSys fun y => { y with state := .commissioning }).modCan 0 fun p =>
     { p with state := .active, listen := true, cfgWait := [(0, 1, 0)] }, 0, 0, 0, by decide⟩,
   ⟨(tRun.modSys fun y => { y with state := .commissioning }).modCan 0 fun p => { p with state := .active, listen := true },
     .security, 0, by decide⟩,
   ⟨tRun, .security, 0, Instr.listen .security 0, by decide⟩,
   ⟨tRun.modSys fun y => { y with state := .commissioning }, .security, 0, Instr.normal .security 0, by decide⟩⟩

/-- Witnesses of the hypotheses of `Obligations.Stations`, one for each clause (its part on station inputs). -/
theorem witness_Stations_StationInputs :
    (∃ (s : State) (n : Fin 8) (f : CanFrame) (i : Nat) (c : StnCfg) (x : Station) (m : Fin 8), s.canUp n = true ∧ s.can[n].tec
      < 256 ∧ s.stnOf n f = some (i, 0) ∧ s.stnCfg n i = some c ∧ s.can[n].stn? i = some x ∧ c.inLen ≤ 64 ∧ (f.fdf = false ∨
      bitAt s.can[n].ctrl 2 = true) ∧ f.data.length = fdLen c.inLen ∧ x.state = .good ∧ m ≠ n) ∧
    (∃ (s : State) (n : Fin 8) (f : CanFrame) (i : Nat) (c : StnCfg) (x : Station), s.canUp n = true ∧ s.can[n].tec < 256 ∧
      s.stnOf n f = some (i, 0) ∧ s.stnCfg n i = some c ∧ s.can[n].stn? i = some x ∧ c.inLen ≤ 64 ∧ (f.fdf = false ∨ bitAt
      s.can[n].ctrl 2 = true) ∧ f.data.length = fdLen c.inLen ∧ x.state = .good ∧ (∀ r ∈ s.run.mem.stnBufs, ¬(r.1 = n.val ∧
      r.2.1 = i))) ∧
    (∃ (s : State) (n : Fin 8) (f : CanFrame) (i : Nat) (c : StnCfg) (x : Station) (a : _) (b : _), s.canUp n = true ∧
      s.can[n].tec < 256 ∧ s.stnOf n f = some (i, 0) ∧ s.stnCfg n i = some c ∧ s.can[n].stn? i = some x ∧ c.inLen ≤ 64 ∧ (f.fdf
      = false ∨ bitAt s.can[n].ctrl 2 = true) ∧ f.data.length = fdLen c.inLen ∧ x.state = .good ∧ s.run.mem.stnBufs = [(n.val,
      i, a, b)]) ∧
    (∃ (s : State) (n : Fin 8) (f : CanFrame) (i : Nat) (c : StnCfg) (x : Station) (m : Fin 8), s.canUp n = true ∧ s.can[n].tec
      < 256 ∧ s.stnOf n f = some (i, 0) ∧ s.stnCfg n i = some c ∧ s.can[n].stn? i = some x ∧ c.inLen ≤ 64 ∧ (f.fdf = false ∨
      bitAt s.can[n].ctrl 2 = true) ∧ f.data.length ≠ fdLen c.inLen ∧ s.can[n].incomplete < 65535 ∧ m ≠ n) ∧
    (∃ (s : State) (n : Fin 8) (f : CanFrame) (h : CanFrame) (i : Nat) (c : StnCfg) (x : Station) (m : Fin 8), s.canUp n = true
      ∧ s.can[n].tec < 256 ∧ s.stnOf n f = some (i, 1) ∧ s.stnCfg n i = some c ∧ s.can[n].stn? i = some x ∧ 64 < c.inLen ∧
      x.state = .good ∧ x.held = some h ∧ f.data.length = fdLen (c.inLen - 62) ∧ leAt f.data 0 1 = leAt h.data 0 1 + 128 ∧ leAt
      h.data 0 1 < 128 ∧ x.lastSeq ≠ some (leAt h.data 0 1) ∧ (f.sof.toNat + 2 ^ 32 - h.sof.toNat) % 2 ^ 32 ≤ 10 * c.setWin ∧
      (f.fdf = false ∨ bitAt s.can[n].ctrl 2 = true) ∧ m ≠ n) ∧
    (∃ (s : State) (n : Fin 8) (i : Fin 64) (c : StnCfg) (x : Station) (h : CanFrame) (gone : Nat) (m : Fin 8), s.alive = true ∧
      s.stnCfg n i.val = some c ∧ s.can[n].stn? i.val = some x ∧ x.held = some h ∧ s.can[n].incomplete < 65535 ∧ gone = (s.now /
      400 % 2 ^ 32 + 2 ^ 32 - h.sof.toNat) % 2 ^ 32 ∧ m ≠ n) ∧
    (∃ (s : State) (n : Fin 8) (f : CanFrame) (c : _) (m : Fin 8), s.canUp n = true ∧ s.can[n].tec < 256 ∧ f.fdf = true ∧ bitAt
      s.can[n].ctrl 2 = false ∧ c ∈ [Instr.stationInputFrame n f, Instr.stationHeartbeat n f, Instr.canMbRxFrame n f] ∧ m ≠ n) :=
  ⟨⟨tStn 8 id tGood, 0, tFrame true 0 (zeros 8), 0,
    { (default : StnCfg) with inLen := 8, hbDiv := 10, missN := 1, setWin := 100 }, tGood, 1, by decide⟩,
   ⟨tStn 8 id tGood, 0, tFrame true 0 (zeros 8), 0,
     { (default : StnCfg) with inLen := 8, hbDiv := 10, missN := 1, setWin := 100 }, tGood, by decide⟩,
   ⟨tCfg (fun c => { c with mem := { c.mem with stnBufs := [(0, 0, 0x10600000, 0x10600040)] } }) (tStn 8 id tGood), 0, tFrame
     true 0 (zeros 8), 0, { (default : StnCfg) with inLen := 8, hbDiv := 10, missN := 1, setWin := 100 }, tGood, 0x10600000,
     0x10600040, by decide⟩,
   ⟨tStn 8 id tGood, 0, tFrame true 0 (zeros 12), 0,
     { (default : StnCfg) with inLen := 8, hbDiv := 10, missN := 1, setWin := 100 }, tGood, 1, by decide⟩,
   ⟨tStn 70 id { tGood with held := some (tFrame true 0 ([127] ++ zeros 63)) }, 0, tFrame true 1 ([255] ++ zeros 7), tFrame true
     0 ([127] ++ zeros 63), 0, { (default : StnCfg) with inLen := 70, hbDiv := 10, missN := 1, setWin := 100 },
     { tGood with held := some (tFrame true 0 ([127] ++ zeros 63)) }, 1, by decide⟩,
   ⟨tStn 70 id { tGood with held := some (tFrame true 0 ([127] ++ zeros 63)) }, 0, 0,
     { (default : StnCfg) with inLen := 70, hbDiv := 10, missN := 1, setWin := 100 },
     { tGood with held := some (tFrame true 0 ([127] ++ zeros 63)) }, tFrame true 0 ([127] ++ zeros 63), (((tStn 70 id
     { tGood with held := some (tFrame true 0 ([127] ++ zeros 63)) }).now / 400 % 2 ^ 32 + 2 ^ 32 - (tFrame true 0 ([127] ++
     zeros 63)).sof.toNat) % 2 ^ 32), 1, by decide, by decide, by decide, by decide, by decide, rfl, by decide⟩,
   ⟨(tStn 8 id tGood).modCan 0 fun p => { p with ctrl := 32 }, 0, tFrame true 0 (zeros 8), Instr.stationInputFrame 0 (tFrame
     true 0 (zeros 8)), 1, by decide⟩⟩

/-- Witnesses of the hypotheses of `Obligations.Stations`, one for each clause (its part on station heartbeats). -/
theorem witness_Stations_StationHeartbeats :
    (∃ (s : State) (n : Fin 8) (f : CanFrame) (i : Nat) (x : Station) (m : Fin 8), s.canUp n = true ∧ s.stnOf n f = some (i, 3)
      ∧ s.can[n].stn? i = some x ∧ f.data.length = 8 ∧ leAt f.data 0 1 = 1 ∧ x.state = .lost ∧ s.can[n].tec < 256 ∧ (f.fdf =
      false ∨ bitAt s.can[n].ctrl 2 = true) ∧ m ≠ n) ∧
    (∃ (s : State) (n : Fin 8) (i : Fin 64) (c : StnCfg) (x : Station) (m : Fin 8), s.notesRun = true ∧ s.stnCfg n i.val = some
      c ∧ s.can[n].stn? i.val = some x ∧ s.fs.tnc % c.hbDiv = 0 ∧ x.checked ≠ some s.fs.tnc ∧ x.beat = true ∧ m ≠ n) ∧
    (∃ (s : State) (n : Fin 8) (i : Fin 64) (c : StnCfg) (x : Station) (m : Fin 8), s.notesRun = true ∧ s.stnCfg n i.val = some
      c ∧ s.can[n].stn? i.val = some x ∧ s.fs.tnc % c.hbDiv = 0 ∧ x.checked ≠ some s.fs.tnc ∧ x.beat = false ∧ c.missN ≤
      x.misses + 1 ∧ x.misses + 1 ≤ 16 ∧ x.state ≠ .lost ∧ s.can[n].losses < 65535 ∧ m ≠ n) :=
  ⟨⟨tStn 8 id { Station.start with state := .lost }, 0, tFrame true 3 ([1] ++ zeros 7), 0, { Station.start with state := .lost },
    1, by decide⟩,
   ⟨tStn 8 id { tGood with beat := true }, 0, 0, { (default : StnCfg) with inLen := 8, hbDiv := 10, missN := 1, setWin := 100 },
     { tGood with beat := true }, 1, by decide⟩,
   ⟨tStn 8 id { tGood with misses := 15 }, 0, 0, { (default : StnCfg) with inLen := 8, hbDiv := 10, missN := 1, setWin := 100 },
     { tGood with misses := 15 }, 1, by decide⟩⟩

/-- Witnesses of the hypotheses of `Obligations.EthernetAndExchange`, one for each clause (its part on ethernet frames). -/
theorem witness_EthernetAndExchange_EthernetFrames :
    (∃ (s : State) (n : Fin 4) (f : EthIn) (i : _) (p : _) (m : Fin 4), s.alive = true ∧ s.net.eth[n].enable = true ∧ f.fcsOk =
      true ∧ f.len ≤ 1522 ∧ f.waiting + f.len ≤ 65536 ∧ s.ifaceOf n f.vid = some i ∧ f.kind = .udp p ∧ bitAt i.roles 3 = false ∧
      m ≠ n) ∧
    (∃ (s : State) (n : Fin 4) (f : EthIn), s.alive = true ∧ s.net.eth[n].enable = true ∧ (f.fcsOk = false ∨ 1522 < f.len) ∧
      s.net.eth[n].dFcs < 255) ∧
    (∃ (s : State) (n : Fin 4) (f : EthIn), s.alive = true ∧ s.net.eth[n].enable = true ∧ f.fcsOk = true ∧ f.len ≤ 1522 ∧ 65536
      < f.waiting + f.len ∧ s.net.eth[n].dFifo < 255) ∧
    (∃ (s : State) (n : Fin 4) (f : EthIn), s.alive = true ∧ s.net.eth[n].enable = true ∧ f.fcsOk = true ∧ f.len ≤ 1522 ∧
      f.waiting + f.len ≤ 65536 ∧ s.ifaceOf n f.vid = none) :=
  ⟨⟨(tComms id).modEth 0 fun e => { e with enable := true }, 0,
    { len := 1522, fcsOk := true, vid := 5, kind := .udp 502, waiting := 64014 },
    { (default : IfCfg) with roles := 2, vid := 5 }, 502, 1, by decide⟩,
   ⟨(tComms id).modEth 0 fun e => { e with enable := true }, 0,
     { len := 1523, fcsOk := true, vid := 5, kind := .udp 502, waiting := 0 }, by decide⟩,
   ⟨(tComms id).modEth 0 fun e => { e with enable := true }, 0,
     { len := 1522, fcsOk := true, vid := 5, kind := .udp 502, waiting := 64015 }, by decide⟩,
   ⟨(tComms id).modEth 0 fun e => { e with enable := true }, 0,
     { len := 64, fcsOk := true, vid := 6, kind := .udp 502, waiting := 0 }, by decide⟩⟩

/-- Witnesses of the hypotheses of `Obligations.EthernetAndExchange`, one for each clause (its part on ethernet ports). -/
theorem witness_EthernetAndExchange_EthernetPorts :
    (∃ (s : State) (n : Fin 4) (up : Bool), s.alive = true ∧ s.net.eth[n].enable = true ∧ s.net.eth[n].link ≠ up) ∧
    (∃ (s : State) (who : Initiator) (n : Fin 4), s.acts who = true ∧ s.granted who (0x30 + n.val) = true ∧ s.acc.locked =
      false) ∧
    (∃ (s : State) (who : Initiator) (n : Fin 4), s.acts who = true ∧ s.granted who (0x30 + n.val) = true ∧ s.acc.locked = true
      ∧ s.sil.queue.length < 64) :=
  ⟨⟨tRun.modEth 0 fun e => { e with enable := true }, 0, true, by decide⟩,
   ⟨State.reset, .security, 0, by decide⟩,
   ⟨tRun, .security, 0, by decide⟩⟩

/-- Witnesses of the hypotheses of `Obligations.EthernetAndExchange`, one for each clause (its part on substation reports). A
hypothesis that compares with an opaque value is left out: nothing in Lean can evaluate it, and the complementary case is stated
beside it. -/
theorem witness_EthernetAndExchange_SubstationReports :
    (∃ (s : State) (x : XsxIn) (e : Nat) (c : Nat) (waits : Bool), Inv s ∧ s.alive = true ∧ s.net.xsx.enable = true ∧ e =
      s.xsxEnd (leAt x.bytes 12 2) ∧ c = (s.now + 9) / 10 + 14 + 24 * (6 + (18 + leAt x.bytes 12 2 + 135) / 136) ∧ waits =
      (!s.net.xsx.held.isEmpty || (s.xsxCause x.bytes == 0 && s.notesRun && s.fs.baseBy (decide (s.nextTick ≤ e)))) ∧ waits =
      true) ∧
    (∃ (s : State) (x : XsxIn) (e : Nat) (c : Nat) (a : _), Inv s ∧ s.alive = true ∧ s.net.xsx.enable = true ∧ e = s.xsxEnd
      (leAt x.bytes 12 2) ∧ c = (s.now + 9) / 10 + 14 + 24 * (6 + (18 + leAt x.bytes 12 2 + 135) / 136) ∧ s.regionOk .xsx
      (s.substAt (leAt x.bytes 2 2)) 64 true = true ∧ (a < s.substAt (leAt x.bytes 2 2) ∨ s.substAt (leAt x.bytes 2 2) + 64 ≤
      a)) ∧
    (∃ (s : State) (x : XsxIn) (e : Nat) (c : Nat) (waits : Bool), Inv s ∧ s.alive = true ∧ s.net.xsx.enable = true ∧ e =
      s.xsxEnd (leAt x.bytes 12 2) ∧ c = (s.now + 9) / 10 + 14 + 24 * (6 + (18 + leAt x.bytes 12 2 + 135) / 136) ∧ waits =
      (!s.net.xsx.held.isEmpty || (s.xsxCause x.bytes == 0 && s.notesRun && s.fs.baseBy (decide (s.nextTick ≤ e)))) ∧ waits =
      false ∧ s.xsxCause x.bytes ≠ 0) ∧
    (∃ (s : State) (x : XsxIn) (e : Nat) (c : Nat) (waits : Bool), Inv s ∧ s.alive = true ∧ s.net.xsx.enable = true ∧ e =
      s.xsxEnd (leAt x.bytes 12 2) ∧ c = (s.now + 9) / 10 + 14 + 24 * (6 + (18 + leAt x.bytes 12 2 + 135) / 136) ∧ waits =
      (!s.net.xsx.held.isEmpty || (s.xsxCause x.bytes == 0 && s.notesRun && s.fs.baseBy (decide (s.nextTick ≤ e)))) ∧ waits =
      false ∧ x.bytes.length ≠ 32 + leAt x.bytes 12 2) :=
  ⟨⟨tRun.modXsx fun x => { x with enable := true, held := [{ iface := 0, addr := [], port := 0, bytes := [] }] },
    { iface := 0, addr := [], port := 0, bytes := [] }, _, _, _, ⟨by decide, by decide⟩, by decide, by decide, rfl, rfl, rfl,
    rfl⟩,
   ⟨State.reset.modXsx fun x => { x with enable := true }, { iface := 0, addr := [], port := 0, bytes := zeros 32 }, _, _,
     1000000000000, ⟨by decide, by decide⟩, by decide, by decide, rfl, rfl, by decide⟩,
   ⟨tRun.modXsx fun x => { x with enable := true }, { iface := 0, addr := [], port := 0, bytes := [] }, _, _, false, ⟨by decide,
     by decide⟩, by decide, by decide, rfl, rfl, rfl, rfl, by decide⟩,
   ⟨tRun.modXsx fun x => { x with enable := true }, { iface := 0, addr := [], port := 0, bytes := [] }, _, _, false, ⟨by decide,
     by decide⟩, by decide, by decide, rfl, rfl, rfl, rfl, by decide⟩⟩

/-- Witnesses of the hypotheses of `Obligations.PrecisionTime`, one for each clause (its part on precision time). -/
theorem witness_PrecisionTime_first :
    (∃ (s : State) (who : Initiator), s.acts who = true ∧ s.granted who 0x34 = true ∧ s.now / 32 < s.net.ptp.rollEdge) ∧
    (∃ (s : State) (who : Initiator), s.acts who = true ∧ s.granted who 0x34 = true ∧ s.now / 32 + 1 < s.net.ptp.rollEdge) ∧
    (∃ (s : State), s.alive = true ∧ s.fs.src ≠ 2) ∧
    (∃ (s : State) (n : Fin 4) (m : PtpMsg), s.alive = true ∧ s.net.ptp.enable = true ∧ s.net.eth[n].enable = true ∧
      s.run.comms.ptpOn n m.iface = true ∧ s.run.producer (16 + n.val) = true ∧ (s.fab.producer (16 + n.val)).queue.length < 4 ∧
      (s.fab.producer (16 + n.val)).held = [] ∧ m.source.length = 10) :=
  ⟨⟨tRun.modPtp fun q => { q with time := 10 ^ 9 }, .security, by decide⟩,
   ⟨tRun, .security, by decide⟩,
   ⟨tRun, by decide⟩,
   ⟨((tCfg (fun c => { c with comms := { c.comms with ifs := [{ (default : IfCfg) with roles := 4 }] } }) tRun).modEth 0 fun e
     => { e with enable := true }).modPtp fun q => { q with enable := true }, 0,
     { type := 0, sent := false, seq := 0, domain := 0, iface := 0, source := List.replicate 10 0 }, by decide⟩⟩

/-- Witnesses of the hypotheses of `Obligations.PrecisionTime`, one for each clause (its part on precision time shadows). -/
theorem witness_PrecisionTime_PrecisionTimeShadows :
    (∃ (s : State) (who : Initiator) (a : Nat) (b : Nat), s.acts who = true ∧ Tbl.get? who.code s.net.ptp.shTime = some (a, b)) ∧
    (∃ (s : State) (who : Initiator) (a : Nat), s.acts who = true ∧ Tbl.get? who.code s.net.ptp.shRef = some a) :=
  ⟨⟨tRun.modPtp fun q => { q with shTime := [(8, (1, 2))] }, .security, 1, 2, by decide⟩,
   ⟨tRun.modPtp fun q => { q with shRef := [(8, 1)] }, .security, 1, by decide⟩⟩

/-- Witnesses of the hypotheses of `Obligations.Modbus`, one for each clause (its part on modbus reads). -/
theorem witness_Modbus_ModbusReads :
    (∃ (s : State) (c : Fin 8) (x : MbConn) (a : BitVec 16) (e : _), s.acts (.role 6) = true ∧ s.net.mb[c] = some x ∧ s.now <
      x.used + s.run.comms.mbIdle * 4000000000 ∧ s.run.comms.mapAt 0 a.toNat = some e) ∧
    (∃ (s : State) (c : Fin 8) (x : MbConn) (a : BitVec 16) (e : _), s.acts (.role 6) = true ∧ s.net.mb[c] = some x ∧ s.now <
      x.used + s.run.comms.mbIdle * 4000000000 ∧ s.run.comms.mapAt 1 a.toNat = some e) ∧
    (∃ (s : State) (c : Fin 8) (x : MbConn) (a : BitVec 16) (e : _) (v : _), s.acts (.role 6) = true ∧ s.net.mb[c] = some x ∧
      s.now < x.used + s.run.comms.mbIdle * 4000000000 ∧ s.run.comms.mapAt 2 a.toNat = some e ∧ mbWords e.type = 1 ∧ (a.toNat -
      e.start) % e.width = 0 ∧ v = mbBits e.type (s.mapVal e ((a.toNat - e.start) / e.width)).1) ∧
    (∃ (s : State) (c : Fin 8) (x : MbConn) (a : BitVec 16) (e : _) (v : _), s.acts (.role 6) = true ∧ s.net.mb[c] = some x ∧
      s.now < x.used + s.run.comms.mbIdle * 4000000000 ∧ s.run.comms.mapAt 3 a.toNat = some e ∧ mbWords e.type = 1 ∧ (a.toNat -
      e.start) % e.width = 0 ∧ v = mbBits e.type (s.mapVal e ((a.toNat - e.start) / e.width)).1) ∧
    (∃ (s : State) (c : Fin 8) (x : MbConn) (a : BitVec 16), s.acts (.role 6) = true ∧ s.net.mb[c] = some x ∧ s.now < x.used +
      s.run.comms.mbIdle * 4000000000 ∧ s.run.comms.mapAt 0 a.toNat = none) ∧
    (∃ (s : State) (c : Fin 8) (x : MbConn) (a : BitVec 16), s.acts (.role 6) = true ∧ s.net.mb[c] = some x ∧ s.now < x.used +
      s.run.comms.mbIdle * 4000000000 ∧ s.run.comms.mapAt 2 a.toNat = none) :=
  ⟨⟨(tComms fun c => { c with mbIdle := 1 }).modNet fun n =>
    { n with mb := n.mb.set 7 (some { addr := [], used := 0, reply := none }) }, 7, { addr := [], used := 0, reply := none }, 3,
    _, by decide, by decide, by decide, rfl⟩,
   ⟨(tComms fun c => { c with mbIdle := 1 }).modNet fun n =>
     { n with mb := n.mb.set 7 (some { addr := [], used := 0, reply := none }) }, 7, { addr := [], used := 0, reply := none },
     3, _, by decide, by decide, by decide, rfl⟩,
   ⟨(tComms fun c => { c with mbIdle := 1 }).modNet fun n =>
     { n with mb := n.mb.set 7 (some { addr := [], used := 0, reply := none }) }, 7, { addr := [], used := 0, reply := none },
     3, _, _, by decide, by decide, by decide, rfl, by decide, by decide, rfl⟩,
   ⟨(tComms fun c => { c with mbIdle := 1 }).modNet fun n =>
     { n with mb := n.mb.set 7 (some { addr := [], used := 0, reply := none }) }, 7, { addr := [], used := 0, reply := none },
     3, _, _, by decide, by decide, by decide, rfl, by decide, by decide, rfl⟩,
   ⟨(tComms fun c => { c with mbIdle := 1 }).modNet fun n =>
     { n with mb := n.mb.set 7 (some { addr := [], used := 0, reply := none }) }, 7, { addr := [], used := 0, reply := none },
     4, by decide, by decide, by decide, rfl⟩,
   ⟨(tComms fun c => { c with mbIdle := 1 }).modNet fun n =>
     { n with mb := n.mb.set 7 (some { addr := [], used := 0, reply := none }) }, 7, { addr := [], used := 0, reply := none },
     4, by decide, by decide, by decide, rfl⟩⟩

/-- Witnesses of the hypotheses of `Obligations.Modbus`, one for each clause (its part on modbus writes). -/
theorem witness_Modbus_ModbusWrites :
    (∃ (s : State) (c : Fin 8) (x : MbConn), s.acts (.role 6) = true ∧ s.net.mb[c] = some x ∧ s.now < x.used +
      s.run.comms.mbIdle * 4000000000 ∧ s.mbRefused = true) ∧
    (∃ (s : State) (c : Fin 8) (x : MbConn) (a : BitVec 16) (e : MapEntry), s.acts (.role 6) = true ∧ s.net.mb[c] = some x ∧
      s.now < x.used + s.run.comms.mbIdle * 4000000000 ∧ s.mbRefused = false ∧ s.run.comms.mapAt 2 a.toNat = some e ∧ e.type = 4
      ∧ (a.toNat - e.start) % e.width = 0 ∧ s.mbWritable e ((a.toNat - e.start) / e.width) = true) ∧
    (∃ (s : State) (c : Fin 8) (x : MbConn) (a : BitVec 16) (e : MapEntry), s.acts (.role 6) = true ∧ s.net.mb[c] = some x ∧
      s.now < x.used + s.run.comms.mbIdle * 4000000000 ∧ s.mbRefused = false ∧ s.run.comms.mapAt 0 a.toNat = some e ∧ e.type = 0
      ∧ s.mbWritable e ((a.toNat - e.start) / e.width) = true) ∧
    (∃ (s : State) (c : Fin 8) (x : MbConn) (a : BitVec 16), s.acts (.role 6) = true ∧ s.net.mb[c] = some x ∧ s.now < x.used +
      s.run.comms.mbIdle * 4000000000 ∧ s.mbRefused = false ∧ s.run.comms.mapAt 2 a.toNat = none) :=
  ⟨⟨((tComms fun c => { c with mbIdle := 1 }).modNet fun n =>
    { n with mb := n.mb.set 0 (some { addr := [], used := 0, reply := none }) }).modSys fun y => { y with state := .drydown },
    0, { addr := [], used := 0, reply := none }, by decide⟩,
   ⟨((tComms fun c => { c with mbIdle := 1 }).modNet fun n =>
     { n with mb := n.mb.set 0 (some { addr := [], used := 0, reply := none }) }).modPart 0 fun x =>
     { x with symmap := [3, 0, 0, 0, 4, 0, 2] ++ zeros 9 }, 0, { addr := [], used := 0, reply := none }, 3,
     { (default : MapEntry) with table := 2, flags := 1, count := 4, type := 4, sub := 1 }, by decide, by decide, by decide,
     by decide, rfl, by decide⟩,
   ⟨((tComms fun c => { c with mbIdle := 1 }).modNet fun n =>
     { n with mb := n.mb.set 0 (some { addr := [], used := 0, reply := none }) }).modPart 0 fun x =>
     { x with symmap := [3, 0, 0, 0, 4, 0, 2] ++ zeros 9 }, 0, { addr := [], used := 0, reply := none }, 3,
     { (default : MapEntry) with table := 0, flags := 1, count := 4, type := 0, sub := 1 }, by decide, by decide, by decide,
     by decide, rfl, by decide⟩,
   ⟨(tComms fun c => { c with mbIdle := 1 }).modNet fun n =>
     { n with mb := n.mb.set 0 (some { addr := [], used := 0, reply := none }) }, 0, { addr := [], used := 0, reply := none },
     9, by decide, by decide, by decide, by decide, rfl⟩⟩

/-- Witnesses of the hypotheses of `Obligations.Modbus`, one for each clause (its part on modbus server). -/
theorem witness_Modbus_ModbusServer :
    (∃ (s : State) (c : Fin 8) (x : MbConn) (fc : Byte), s.acts (.role 6) = true ∧ s.net.mb[c] = some x ∧ s.now < x.used +
      s.run.comms.mbIdle * 4000000000 ∧ fc < 128#8 ∧ mbImplemented fc.toNat = false) ∧
    (∃ (s : State) (addr : List Byte) (c : Fin 8), s.scada = true ∧ s.run.comms.admits addr = true ∧ s.mbSweep.net.mb[c] = none
      ∧ (∀ k : Fin 8, k < c → s.mbSweep.net.mb[k] ≠ none)) ∧
    (∃ (s : State) (addr : List Byte), s.scada = true ∧ (s.run.comms.admits addr = false ∨ ∀ k : Fin 8, s.mbSweep.net.mb[k] ≠
      none)) ∧
    (∃ (s : State) (c : Fin 8) (x : MbConn), s.net.mb[c] = some x ∧ x.used + s.run.comms.mbIdle * 4000000000 ≤ s.now) :=
  ⟨⟨(tComms fun c => { c with mbIdle := 1 }).modNet fun n =>
    { n with mb := n.mb.set 0 (some { addr := [], used := 0, reply := none }) }, 0, { addr := [], used := 0, reply := none }, 7,
    by decide⟩,
   ⟨tComms id, [1, 2, 3, 4], 0, by decide⟩,
   ⟨tComms fun c => { c with mbIdle := 1 }, [1, 2, 3, 5], by decide⟩,
   ⟨{ (tComms fun c => { c with mbIdle := 1 }).modNet fun n => { n with mb := n.mb.set 0 (some { addr := [], used := 0,
                                                                                                 reply := none }) } with now := 4000000000 },
     0, { addr := [], used := 0, reply := none }, by decide⟩⟩

/-- Witnesses of the hypotheses of `Obligations.ServiceSessions`, one for each clause. -/
theorem witness_ServiceSessions :
    (∃ (s : State) (b : State) (x : Fin 2) (f : SvcIn) (k : List Byte), s.svcUp = true ∧ b = s.svcClear x ∧ b.net.svc[x] = none
      ∧ svcForm f = true ∧ f.len = 36 ∧ slice f.payload 2 2 = zeros 2 ∧ f.tag = zeros 16 ∧ b.svcRoot = some k) ∧
    (∃ (s : State) (b : State) (x : Fin 2) (f : SvcIn) (q : SvcSess), s.svcUp = true ∧ b = s.svcClear x ∧ b.net.svc[x] = some q
      ∧ svcForm f = true ∧ q.ready = false ∧ f.len = 0 ∧ f.seq = q.seqIn ∧ f.tag = svcTag q.key (svcHeader 3 f.flags f.seq
      f.len) f.payload) ∧
    (∃ (s : State) (b : State) (x : Fin 2) (f : SvcIn) (q : SvcSess), s.svcUp = true ∧ b = s.svcClear x ∧ b.net.svc[x] = some q
      ∧ svcForm f = true ∧ q.ready = false ∧ f.len = 0 ∧ f.tag ≠ svcTag q.key (svcHeader 3 f.flags f.seq f.len) f.payload) ∧
    (∃ (s : State) (b : State) (x : Fin 2) (f : SvcIn) (q : SvcSess) (y : Fin 2), s.svcUp = true ∧ b = (s.svcClear
      x).settleExport ∧ b.net.svc[x] = some q ∧ svcForm f = true ∧ q.ready = true ∧ f.seq = q.seqIn ∧ f.len = 0 ∧ f.tag = svcTag
      q.key (svcHeader 0xFF f.flags f.seq f.len) f.payload ∧ y ≠ x) ∧
    (∃ (s : State) (x : Fin 2) (q : SvcSess), s.net.svc[x] = some q ∧ q.used + 1200000000000 ≤ s.now) ∧
    (∃ (s : State) (x : Fin 2) (q : SvcSess) (y : Fin 2), s.net.svc[x] = some q ∧ y ≠ x) :=
  ⟨⟨(tComms id).modKey fun k => { k with slots := [(9, tSlot .secret 128 [])] }, (((tComms id).modKey fun k =>
    { k with slots := [(9, tSlot .secret 128 [])] }).svcClear (0 : Fin 2)), 0,
    { magic := true, flags := 0, seq := 0, len := 36, payload := zeros 36, tag := zeros 16 }, [], by decide, rfl, by decide⟩,
   ⟨tSvc false, ((tSvc false).svcClear (0 : Fin 2)), 0, tSvcIn 3 [], tSess false, by decide, rfl, by decide, by decide,
     by decide, by decide, by decide, rfl⟩,
   ⟨tSvc false, ((tSvc false).svcClear (0 : Fin 2)), 0, { tSvcIn 3 [] with tag := svcTag [] (svcHeader 3 0 0 0) [] ++ [0] },
     tSess false, by decide, rfl, by decide, by decide, by decide, by decide, fun h => tNe (svcTag [] (svcHeader 3 0 0 0) [])
     h.symm⟩,
   ⟨tSvc true, (((tSvc true).svcClear (0 : Fin 2)).settleExport), 0, tSvcIn 0xFF [], tSess true, 1, by decide, rfl, by decide,
     by decide, by decide, by decide, by decide, rfl, by decide⟩,
   ⟨{ tSvc true with now := 1200000000000 }, 0, tSess true, by decide⟩,
   ⟨tSvc true, 0, tSess true, 1, by decide⟩⟩

/-- Witnesses of the hypotheses of `Obligations.ServiceCommands`, one for each clause (its part on service reads). -/
theorem witness_ServiceCommands_ServiceReads :
    (∃ (s : State) (b : State) (x : Fin 2) (f : SvcIn) (q : SvcSess) (c : _), s.svcUp = true ∧ b = (s.svcClear x).settleExport ∧
      b.net.svc[x] = some q ∧ q.ready = true ∧ svcForm f = true ∧ f.seq = q.seqIn ∧ f.len = 0 ∧ f.tag = svcTag q.key (svcHeader
      0x10 f.flags f.seq f.len) f.payload ∧ b.disp = some c) ∧
    (∃ (s : State) (b : State) (x : Fin 2) (f : SvcIn) (q : SvcSess), s.svcUp = true ∧ b = (s.svcClear x).settleExport ∧
      b.net.svc[x] = some q ∧ q.ready = true ∧ svcForm f = true ∧ f.seq = q.seqIn ∧ f.tag = svcTag q.key (svcHeader 0x11 f.flags
      f.seq f.len) f.payload ∧ b.run.hdr.estate = false) ∧
    (∃ (s : State) (b : State) (x : Fin 2) (f : SvcIn) (q : SvcSess), s.svcUp = true ∧ b = (s.svcClear x).settleExport ∧
      b.net.svc[x] = some q ∧ q.ready = true ∧ svcForm f = true ∧ f.seq = q.seqIn ∧ f.tag = svcTag q.key (svcHeader 0x11 f.flags
      f.seq f.len) f.payload ∧ b.run.hdr.estate = true ∧ f.len = 9 ∧ leAt f.payload 0 1 ≤ 2) ∧
    (∃ (s : State) (b : State) (x : Fin 2) (f : SvcIn) (q : SvcSess), s.svcUp = true ∧ b = (s.svcClear x).settleExport ∧
      b.net.svc[x] = some q ∧ q.ready = true ∧ svcForm f = true ∧ f.seq = q.seqIn ∧ f.tag = svcTag q.key (svcHeader 0x12 f.flags
      f.seq f.len) f.payload ∧ b.run.hdr.estate = false) ∧
    (∃ (s : State) (b : State) (x : Fin 2) (f : SvcIn) (q : SvcSess), s.svcUp = true ∧ b = (s.svcClear x).settleExport ∧
      b.net.svc[x] = some q ∧ q.ready = true ∧ svcForm f = true ∧ f.seq = q.seqIn ∧ f.tag = svcTag q.key (svcHeader 0x12 f.flags
      f.seq f.len) f.payload ∧ b.run.hdr.estate = true ∧ f.len = 9) ∧
    (∃ (s : State) (b : State) (x : Fin 2) (f : SvcIn) (q : SvcSess) (j : Fin 8), s.svcUp = true ∧ b = (s.svcClear
      x).settleExport ∧ b.net.svc[x] = some q ∧ q.ready = true ∧ svcForm f = true ∧ f.seq = q.seqIn ∧ f.tag = svcTag q.key
      (svcHeader 0x13 f.flags f.seq f.len) f.payload ∧ f.len = 1 ∧ f.payload = toLe 1 j.val ∧ b.sil.exporting = none ∧
      b.sil.caps[j].valid = false) ∧
    (∃ (s : State) (b : State) (x : Fin 2) (f : SvcIn) (q : SvcSess) (j : Fin 8), s.svcUp = true ∧ b = (s.svcClear
      x).settleExport ∧ b.net.svc[x] = some q ∧ q.ready = true ∧ svcForm f = true ∧ f.seq = q.seqIn ∧ f.tag = svcTag q.key
      (svcHeader 0x13 f.flags f.seq f.len) f.payload ∧ f.len = 1 ∧ f.payload = toLe 1 j.val ∧ b.sil.exporting = none ∧
      b.sil.caps[j].valid = true) ∧
    (∃ (s : State) (x : Fin 2) (q : SvcSess) (e : SilExport) (y : List Byte), s.sil.exporting = some e ∧ e.endAt ≤ s.now ∧
      e.link = some x ∧ e.body = some y ∧ y.length ≤ 65536 ∧ s.net.svc[x] = some q ∧ q.ready = true) :=
  ⟨⟨tCfg (fun c => { c with dist := { c.dist with disp := some default } }) (tSvc true), (((tCfg (fun c =>
    { c with dist := { c.dist with disp := some default } }) (tSvc true)).svcClear (0 : Fin 2)).settleExport), 0, tSvcIn 0x10
    [], tSess true, default, by decide, rfl, by decide, by decide, by decide, by decide, by decide, rfl, by decide⟩,
   ⟨tCfg (fun c => { c with hdr := { c.hdr with estate := false } }) (tSvc true), (((tCfg (fun c =>
     { c with hdr := { c.hdr with estate := false } }) (tSvc true)).svcClear (0 : Fin 2)).settleExport), 0, tSvcIn 0x11 [],
     tSess true, by decide, rfl, by decide, by decide, by decide, by decide, rfl, by decide⟩,
   ⟨tSvc true, (((tSvc true).svcClear (0 : Fin 2)).settleExport), 0, tSvcIn 0x11 ([2] ++ zeros 8), tSess true, by decide, rfl,
     by decide, by decide, by decide, by decide, rfl, by decide⟩,
   ⟨tCfg (fun c => { c with hdr := { c.hdr with estate := false } }) (tSvc true), (((tCfg (fun c =>
     { c with hdr := { c.hdr with estate := false } }) (tSvc true)).svcClear (0 : Fin 2)).settleExport), 0, tSvcIn 0x12 [],
     tSess true, by decide, rfl, by decide, by decide, by decide, by decide, rfl, by decide⟩,
   ⟨tSvc true, (((tSvc true).svcClear (0 : Fin 2)).settleExport), 0, tSvcIn 0x12 (zeros 9), tSess true, by decide, rfl,
     by decide, by decide, by decide, by decide, rfl, by decide⟩,
   ⟨tSvc true, (((tSvc true).svcClear (0 : Fin 2)).settleExport), 0, tSvcIn 0x13 [7], tSess true, 7, by decide, rfl, by decide,
     by decide, by decide, by decide, rfl, by decide⟩,
   ⟨(tSvc true).modSil fun l => { l with caps := l.caps.set 7 { Capture.blank with valid := true } }, ((((tSvc true).modSil fun
     l => { l with caps := l.caps.set 7 { Capture.blank with valid := true } }).svcClear (0 : Fin 2)).settleExport), 0, tSvcIn
     0x13 [7], tSess true, 7, by decide, rfl, by decide, by decide, by decide, by decide, rfl, by decide⟩,
   ⟨(tSvc true).modSil fun l => { l with exporting := some { endAt := 0, link := some 0, seq := 0, body := some [1] } }, 0,
     tSess true, { endAt := 0, link := some 0, seq := 0, body := some [1] }, [1], by decide⟩⟩

/-- Witnesses of the hypotheses of `Obligations.ServiceCommands`, one for each clause (its part on service writes). -/
theorem witness_ServiceCommands_ServiceWrites :
    (∃ (s : State) (b : State) (x : Fin 2) (f : SvcIn) (q : SvcSess) (r : _), s.svcUp = true ∧ b = (s.svcClear x).settleExport ∧
      b.net.svc[x] = some q ∧ q.ready = true ∧ svcForm f = true ∧ f.seq = q.seqIn ∧ f.tag = svcTag q.key (svcHeader 0x20 f.flags
      f.seq f.len) f.payload ∧ 8 ≤ f.len ∧ leAt f.payload 0 1 ≤ 3 ∧ (f.payload.drop 1).take 3 = zeros 3 ∧ b.staging (leAt
      f.payload 0 1) = some r ∧ leAt f.payload 4 4 + (f.payload.drop 8).length ≤ r.2 ∧ (leAt f.payload 0 1 = 3 ∨ 2 ≤
      b.key.level)) ∧
    (∃ (s : State) (b : State) (x : Fin 2) (f : SvcIn) (q : SvcSess), s.svcUp = true ∧ b = (s.svcClear x).settleExport ∧
      b.net.svc[x] = some q ∧ q.ready = true ∧ svcForm f = true ∧ f.seq = q.seqIn ∧ f.tag = svcTag q.key (svcHeader 0x20 f.flags
      f.seq f.len) f.payload ∧ 8 ≤ f.len ∧ leAt f.payload 0 1 < 3 ∧ (f.payload.drop 1).take 3 = zeros 3 ∧ b.key.level < 2) ∧
    (∃ (s : State) (b : State) (x : Fin 2) (f : SvcIn) (q : SvcSess) (r : _), s.svcUp = true ∧ b = (s.svcClear x).settleExport ∧
      b.net.svc[x] = some q ∧ q.ready = true ∧ svcForm f = true ∧ f.seq = q.seqIn ∧ f.tag = svcTag q.key (svcHeader 0x21 f.flags
      f.seq f.len) f.payload ∧ f.len = 8 ∧ (f.payload.drop 1).take 3 = zeros 3 ∧ b.staging (leAt f.payload 0 1) = some r ∧ leAt
      f.payload 4 4 ≤ r.2 ∧ leAt f.payload 0 1 = 3) ∧
    (∃ (s : State) (b : State) (x : Fin 2) (f : SvcIn) (q : SvcSess) (r : _), s.svcUp = true ∧ b = (s.svcClear x).settleExport ∧
      b.net.svc[x] = some q ∧ q.ready = true ∧ svcForm f = true ∧ f.seq = q.seqIn ∧ f.tag = svcTag q.key (svcHeader 0x21 f.flags
      f.seq f.len) f.payload ∧ f.len = 8 ∧ (f.payload.drop 1).take 3 = zeros 3 ∧ b.staging (leAt f.payload 0 1) = some r ∧ leAt
      f.payload 4 4 ≤ r.2 ∧ leAt f.payload 0 1 = 0 ∧ 2 ≤ b.key.level ∧ b.acc.busy = none ∧ b.acc.work = none) ∧
    (∃ (s : State) (b : State) (x : Fin 2) (f : SvcIn) (q : SvcSess), s.svcUp = true ∧ b = (s.svcClear x).settleExport ∧
      b.net.svc[x] = some q ∧ q.ready = true ∧ svcForm f = true ∧ f.seq = q.seqIn ∧ f.tag = svcTag q.key (svcHeader 0x22 f.flags
      f.seq f.len) f.payload ∧ f.len = 16 ∧ b.key.level < 2) ∧
    (∃ (s : State) (b : State) (x : Fin 2) (f : SvcIn) (q : SvcSess), s.svcUp = true ∧ b = (s.svcClear x).settleExport ∧
      b.net.svc[x] = some q ∧ q.ready = true ∧ svcForm f = true ∧ f.seq = q.seqIn ∧ f.tag = svcTag q.key (svcHeader 0x22 f.flags
      f.seq f.len) f.payload ∧ f.len = 16 ∧ 2 ≤ b.key.level ∧ b.granted (.role 6) 0x70 = true) ∧
    (∃ (s : State) (b : State) (x : Fin 2) (f : SvcIn) (q : SvcSess), s.svcUp = true ∧ b = (s.svcClear x).settleExport ∧
      b.net.svc[x] = some q ∧ q.ready = true ∧ svcForm f = true ∧ f.seq = q.seqIn ∧ f.tag = svcTag q.key (svcHeader 0x23 f.flags
      f.seq f.len) f.payload ∧ f.len = 2 ∧ b.key.level < 2) ∧
    (∃ (s : State) (b : State) (x : Fin 2) (f : SvcIn) (q : SvcSess), s.svcUp = true ∧ b = (s.svcClear x).settleExport ∧
      b.net.svc[x] = some q ∧ q.ready = true ∧ svcForm f = true ∧ f.seq = q.seqIn ∧ f.tag = svcTag q.key (svcHeader 0x23 f.flags
      f.seq f.len) f.payload ∧ f.len = 2 ∧ 2 ≤ b.key.level ∧ f.payload = [5, 0] ∧ b.acc.busy = none ∧ b.acc.work = none) :=
  ⟨⟨tCfg (fun c => { c with mem := { c.mem with staging := [(0x90000000, 64), (0, 0), (0, 0), (0x91000000, 64)] } }) (tSvc true),
    (((tCfg (fun c => { c with mem := { c.mem with staging := [(0x90000000, 64), (0, 0), (0, 0), (0x91000000, 64)] } }) (tSvc
    true)).svcClear (0 : Fin 2)).settleExport), 0, tSvcIn 0x20 ([3, 0, 0, 0, 60, 0, 0, 0] ++ zeros 4), tSess true, (0x91000000,
    64), by decide, rfl, by decide, by decide, by decide, by decide, rfl, by decide⟩,
   ⟨tSvc true, (((tSvc true).svcClear (0 : Fin 2)).settleExport), 0, tSvcIn 0x20 ([2, 0, 0, 0, 0, 0, 0, 0]), tSess true,
     by decide, rfl, by decide, by decide, by decide, by decide, rfl, by decide⟩,
   ⟨tCfg (fun c => { c with mem := { c.mem with staging := [(0, 0), (0, 0), (0, 0), (0x80000000, 64)] } }) (tSvc true), (((tCfg
     (fun c => { c with mem := { c.mem with staging := [(0, 0), (0, 0), (0, 0), (0x80000000, 64)] } }) (tSvc true)).svcClear (0
     : Fin 2)).settleExport), 0, tSvcIn 0x21 ([3, 0, 0, 0, 64, 0, 0, 0]), tSess true, (0x80000000, 64), by decide, rfl,
     by decide, by decide, by decide, by decide, rfl, by decide⟩,
   ⟨(tCfg (fun c => { c with mem := { c.mem with staging := [(0x80000000, 64)] } }) (tSvc true)).modKey fun k =>
     { k with level := 2, openEnd := 1000 }, ((((tCfg (fun c => { c with mem := { c.mem with staging := [(0x80000000, 64)] } })
     (tSvc true)).modKey fun k => { k with level := 2, openEnd := 1000 }).svcClear (0 : Fin 2)).settleExport), 0, tSvcIn 0x21
     ([0, 0, 0, 0, 64, 0, 0, 0]), tSess true, (0x80000000, 64), by decide, rfl, by decide, by decide, by decide, by decide, rfl,
     by decide⟩,
   ⟨tCfg (fun c => { c with mem := { c.mem with grants := [(0x70, 6)] } }) ((tSvc true).modKey fun k => { k with level := 2 }),
     (((tCfg (fun c => { c with mem := { c.mem with grants := [(0x70, 6)] } }) ((tSvc true).modKey fun k =>
     { k with level := 2 })).svcClear (0 : Fin 2)).settleExport), 0, tSvcIn 0x22 (zeros 16), tSess true, by decide, rfl,
     by decide, by decide, by decide, by decide, rfl, by decide⟩,
   ⟨(tCfg (fun c => { c with mem := { c.mem with grants := [(0x70, 6)] } }) (tSvc true)).modKey fun k =>
     { k with level := 2, openEnd := 1000 }, ((((tCfg (fun c => { c with mem := { c.mem with grants := [(0x70, 6)] } }) (tSvc
     true)).modKey fun k => { k with level := 2, openEnd := 1000 }).svcClear (0 : Fin 2)).settleExport), 0, tSvcIn 0x22 (zeros
     16), tSess true, by decide, rfl, by decide, by decide, by decide, by decide, rfl, by decide⟩,
   ⟨(tSvc true).modKey fun k => { k with level := 1 }, ((((tSvc true).modKey fun k => { k with level := 1 }).svcClear (0 : Fin
     2)).settleExport), 0, tSvcIn 0x23 (zeros 2), tSess true, by decide, rfl, by decide, by decide, by decide, by decide, rfl,
     by decide⟩,
   ⟨(tSvc true).modKey fun k => { k with level := 2, openEnd := 1000 }, ((((tSvc true).modKey fun k =>
     { k with level := 2, openEnd := 1000 }).svcClear (0 : Fin 2)).settleExport), 0, tSvcIn 0x23 [5, 0], tSess true, by decide,
     rfl, by decide, by decide, by decide, by decide, rfl, by decide⟩⟩

/-- Witnesses of the hypotheses of `Obligations.FieldIo`, one for each clause (its part on field inputs). -/
theorem witness_FieldIo_FieldInputs :
    (∃ (s : State) (c : Fin 48), s.alive = true ∧ (s.dioCfg c.val).mode ≠ 0 ∧ s.linkUp (bankOf c) = true ∧ (s.notesRun = true →
      s.now < s.nextTick)) ∧
    (∃ (s : State) (c : Fin 48) (level : Bool), s.alive = true ∧ (s.dioCfg c.val).mode ≠ 0 ∧ s.linkUp (bankOf c) = true ∧
      s.notesRun = true ∧ s.nextTick ≤ s.now ∧ (s.dioCfg c.val).mode = 3 ∧ level = true ∧ s.dio.ch[c].filt = false) :=
  ⟨⟨(tCfg (fun c => { c with dio := { c.dio with ch := List.replicate 48 { (default : DioChanCfg) with mode := 5 } } })
    tRun).modDio fun d => { d with bank := d.bank.set 5 { DioBank.reset with link := .up } }, 47, by decide⟩,
   ⟨{ (tCfg (fun c => { c with dio := { c.dio with ch := List.replicate 47 default ++ [{ (default : DioChanCfg) with mode := 3 }] } }) (tRun.modDio fun d => { d with bank := d.bank.set 5 { d.bank[5] with link := .up } })) with now := 4000000 },
     47, true, by decide, by decide, by decide, by decide, by decide, by decide, rfl, by decide⟩⟩

/-- Witnesses of the hypotheses of `Obligations.FieldIo`, one for each clause (its part on field faults and links). -/
theorem witness_FieldIo_FieldFaultsAndLinks :
    (∃ (s : State) (c : Fin 48), s.alive = true ∧ (s.dioCfg c.val).mode = 5) ∧
    (∃ (s : State) (c : Fin 48) (k : Fin 48), s.alive = true ∧ bankOf k = bankOf c) ∧
    (∃ (s : State) (b : Fin 6) (k : Fin 48), s.alive = true ∧ s.linkUp b = true ∧ bankOf k = b) ∧
    (∃ (s : State) (b : Fin 6) (k : Fin 48), s.alive = true ∧ s.linkUp b = true ∧ bankOf k ≠ b) ∧
    (∃ (s : State) (b : Fin 6) (k : Fin 48), s.alive = true ∧ s.dio.bank[b].link = .down ∧ bankOf k = b) ∧
    (∃ (s : State) (b : Fin 6) (k : Fin 48), s.alive = true ∧ s.dio.bank[b].link = .down ∧ bankOf k ≠ b) :=
  ⟨⟨tCfg (fun c => { c with dio := { c.dio with ch := List.replicate 48 { (default : DioChanCfg) with mode := 5 } } }) tRun, 47,
    by decide⟩,
   ⟨tCfg (fun c => { c with dio := { c.dio with ch := List.replicate 48 { (default : DioChanCfg) with mode := 5 } } }) tRun, 47,
     40, by decide⟩,
   ⟨tRun.modDio fun d => { d with bank := d.bank.set 5 { DioBank.reset with link := .up } }, 5, 47, by decide⟩,
   ⟨tRun.modDio fun d => { d with bank := d.bank.set 5 { DioBank.reset with link := .up } }, 5, 39, by decide⟩,
   ⟨tRun.modDio fun d => { d with enable := 32, bank := d.bank.set 5 { DioBank.reset with link := .down } }, 5, 40, by decide⟩,
   ⟨tRun.modDio fun d => { d with enable := 32, bank := d.bank.set 5 { DioBank.reset with link := .down } }, 5, 39, by decide⟩⟩

/-- Witnesses of the hypotheses of `Obligations.KeysAreMade`, one for each clause (its part on key command is queued). -/
theorem witness_KeysAreMade_KeyCommandIsQueued :
    (∃ (s : State) (s1 : State) (who : Initiator) (v : Word) (r : KeyReq), s.acts who = true ∧ s.keyGranted who = true ∧ s1 =
      s.settleAcc ∧ r =
      { cmd := (v.extractLsb' 24 8).toNat, aux := (v.extractLsb' 12 9).toNat, slot := (v.extractLsb' 0 9).toNat,
        arg := s.key.arg, who := who, uart := none } ∧ r.cmd ∈ [1, 2, 3, 6, 7, 8, 9] ∧ s1.keyGate r = 0 ∧ s1.key.run = none ∧
      s1.key.queue = [] ∧ s1.key.revoked = []) ∧
    (∃ (s : State) (s1 : State) (who : Initiator) (v : Word) (r : KeyReq), s.acts who = true ∧ s.keyGranted who = true ∧ s1 =
      s.settleAcc ∧ r =
      { cmd := (v.extractLsb' 24 8).toNat, aux := (v.extractLsb' 12 9).toNat, slot := (v.extractLsb' 0 9).toNat,
        arg := s.key.arg, who := who, uart := none } ∧ r.cmd ∈ [1, 2, 3, 6, 7, 8, 9] ∧ s1.keyGate r = 0 ∧ s1.key.run.isSome =
      true) ∧
    (∃ (s : State) (s1 : State) (who : Initiator) (v : Word) (r : KeyReq), s.acts who = true ∧ s.keyGranted who = true ∧ s1 =
      s.settleAcc ∧ r =
      { cmd := (v.extractLsb' 24 8).toNat, aux := (v.extractLsb' 12 9).toNat, slot := (v.extractLsb' 0 9).toNat,
        arg := s.key.arg, who := who, uart := none } ∧ r.cmd ∈ [1, 2, 3, 6, 7, 8, 9] ∧ 8 ≤ s1.key.queue.length ∧ s1.keyLevel ≤
      s1.key.level ∧ s1.key.journal = []) :=
  ⟨⟨tOpen id, ((tOpen id).settleAcc), .security, 0x020001FF,
    { cmd := 2, aux := 0, slot := 511, arg := 0, who := .security, uart := none }, by decide, by decide, rfl, rfl, by decide⟩,
   ⟨tOpen fun k => { k with run := some (tKey 2 0 9 none KeySlot.blank KeySlot.blank) }, ((tOpen fun k =>
     { k with run := some (tKey 2 0 9 none KeySlot.blank KeySlot.blank) }).settleAcc), .security, 0x020001FF,
     { cmd := 2, aux := 0, slot := 511, arg := 0, who := .security, uart := none }, by decide, by decide, rfl, rfl, by decide⟩,
   ⟨tOpen fun k => { k with queue := List.replicate 8 (tKey 2 0 9 none KeySlot.blank KeySlot.blank).req }, ((tOpen fun k =>
     { k with queue := List.replicate 8 (tKey 2 0 9 none KeySlot.blank KeySlot.blank).req }).settleAcc), .security, 0x02000009,
     { cmd := 2, aux := 0, slot := 9, arg := 0, who := .security, uart := none }, by decide, by decide, rfl, rfl, by decide⟩⟩

/-- Witnesses of the hypotheses of `Obligations.KeysAreMade`, one for each clause (its part on keys are made). -/
theorem witness_KeysAreMade_first :
    (∃ (s : State) (u : KeyRun) (id : Nat) (policy : Nat), s.alive = true ∧ s.key.run = some u ∧ s.key.queue = [] ∧ fixedSlot
      u.req.slot = none ∧ u.req.slot ≠ 4 ∧ u.req.cmd = 1 ∧ u.slot.state = .empty ∧ s.keyFields u.req 0 = some (id, .secret,
      policy) ∧ leNat (s.keyArg u.req 8 1) ≤ 64 ∧ leNat (s.keyArg u.req 9 1) ≤ 64 ∧ allZero (s.keyArg u.req 10 6) = true ∧
      s.argOk u.req (16 + leNat (s.keyArg u.req 8 1) + leNat (s.keyArg u.req 9 1)) false = true ∧ (u.aux.state = .active ∨
      u.aux.state = .pending) ∧ u.aux.type = .secret ∧ u.aux.may 0 = true ∧ u.aux.depth < 7) ∧
    (∃ (s : State) (u : KeyRun) (id : Nat) (policy : Nat), s.alive = true ∧ s.key.run = some u ∧ s.key.queue = [] ∧ fixedSlot
      u.req.slot = none ∧ u.req.slot ≠ 4 ∧ u.req.cmd = 2 ∧ u.slot.state = .empty ∧ s.keyFields u.req 0 = some (id, .secret,
      policy) ∧ s.argOk u.req 8 false = true) ∧
    (∃ (s : State) (u : KeyRun) (id : Nat) (policy : Nat), s.alive = true ∧ s.key.run = some u ∧ s.key.queue = [] ∧ fixedSlot
      u.req.slot = none ∧ u.req.slot ≠ 4 ∧ u.req.cmd = 3 ∧ u.slot.state = .empty ∧ s.keyFields u.req 0 = some (id, .pk, policy)
      ∧ s.argOk u.req 1968 false = true ∧ allZero (s.keyArg u.req 8 8) = true) ∧
    (∃ (s : State) (u : KeyRun), s.alive = true ∧ s.key.run = some u ∧ s.key.queue = [] ∧ fixedSlot u.req.slot = none ∧
      u.req.slot ≠ 4 ∧ u.req.cmd = 6 ∧ (u.slot.state = .empty ∨ u.slot.state = .orphaned) ∧ s.key.hasChildren u.req.slot =
      false) :=
  ⟨⟨tKeyRun (tKey 1 10 9 (some ([1, 0, 0, 0, 1, 0, 1] ++ zeros 9)) KeySlot.blank { tSlot .secret 1 [] with depth := 6 }), tKey 1
    10 9 (some ([1, 0, 0, 0, 1, 0, 1] ++ zeros 9)) KeySlot.blank { tSlot .secret 1 [] with depth := 6 }, 1, 1, by decide⟩,
   ⟨tKeyRun (tKey 2 0 6 (some [1, 0, 0, 0, 1, 0, 1, 0]) KeySlot.blank KeySlot.blank), tKey 2 0 6 (some [1, 0, 0, 0, 1, 0, 1, 0])
     KeySlot.blank KeySlot.blank, 1, 1, by decide⟩,
   ⟨{ tKeyRun (tKey 3 0 511 none KeySlot.blank KeySlot.blank) with mem := [(0, 1), (4, 3), (6, 8)] }, tKey 3 0 511 none
     KeySlot.blank KeySlot.blank, 1, 8, by decide⟩,
   ⟨tKeyRun (tKey 6 0 9 none KeySlot.blank KeySlot.blank), tKey 6 0 9 none KeySlot.blank KeySlot.blank, by decide⟩⟩

/-- Witnesses of the hypotheses of `Obligations.KeysAreReplaced` (its part on key is replaced). -/
theorem witness_KeysAreReplaced_KeyIsReplaced :
    ∃ (s : State) (u : KeyRun) (id : Nat) (policy : Nat), s.alive = true ∧ s.key.run = some u ∧ s.key.queue = [] ∧ u.req.cmd = 4
      ∧ leNat (s.keyArg u.req 0 1) = 1 ∧ s.keyFields u.req 8 = some (id, .secret, policy) ∧ s.argOk u.req 16 false = true ∧
      u.slot.type = .secret ∧ s.key.replaceErr u.req.slot false = 0 :=
  ⟨(tKeyRun (tKey 4 0 9 (some ([1] ++ zeros 7 ++ [1, 0, 0, 0, 1, 0, 1, 0])) (tSlot .secret 1 []) KeySlot.blank)).modKey fun k =>
    { k with slots := [(9, tSlot .secret 1 [])] }, tKey 4 0 9 (some ([1] ++ zeros 7 ++ [1, 0, 0, 0, 1, 0, 1, 0])) (tSlot .secret
    1 []) KeySlot.blank, 1, 1, by decide⟩

/-- Witnesses of the hypotheses of `Obligations.KeysAreReplaced`, one for each clause (its part on key invalidation). -/
theorem witness_KeysAreReplaced_KeyInvalidation :
    (∃ (s : State) (s1 : State) (who : Initiator) (k : Fin 512), s.acts who = true ∧ s.keyGranted who = true ∧ s1 = s.settleAcc
      ∧ s1.key.run = none ∧ (s1.keyLevel ≤ s1.key.level ∨ 496 ≤ k.val) ∧ (s.key.slot k.val).live = true ∧ (s.key.slot
      k.val).locked = false ∧ (s.key.slots.any fun x => x.2.locked && s.key.under k.val x.1) = false) ∧
    (∃ (s : State) (k : _), s.alive = true ∧ s.key.run = none ∧ s.key.revoked ≠ [] ∧ s.key.queue = [] ∧ k ∈ s.key.revoked ∧
      fixedSlot k = none) ∧
    (∃ (s : State) (k : _) (r : _), s.alive = true ∧ s.key.run = none ∧ s.key.revoked ≠ [] ∧ s.key.queue = [] ∧ r ∈
      s.key.revoked ∧ k ∉ s.key.revoked ∧ s.key.under r k = true ∧ fixedSlot k = none ∧ s.key.slot k ≠ KeySlot.blank) ∧
    (∃ (s : State) (k : _), s.alive = true ∧ s.key.run = none ∧ s.key.revoked ≠ [] ∧ s.key.queue = [] ∧ (∀ r, r ∈ s.key.revoked
      → s.key.under r k = false)) :=
  ⟨⟨tOpen fun k => { k with slots := [(9, tSlot .secret 1 [])] }, ((tOpen fun k =>
    { k with slots := [(9, tSlot .secret 1 [])] }).settleAcc), .security, 9, by decide, by decide, rfl, by decide⟩,
   ⟨State.reset.modKey fun k => { k with journal := [.revoke [9]] }, 9, by decide⟩,
   ⟨State.reset.modKey fun k =>
     { k with journal := [.revoke [9]], slots := [(10, { tSlot .secret 1 [] with parent := some 9 })] }, 10, 9, by decide⟩,
   ⟨State.reset.modKey fun k => { k with journal := [.revoke [9]] }, 10, by decide⟩⟩

/-- Witnesses of the hypotheses of `Obligations.KeysAreUsed`, one for each clause (its part on keys are used). A hypothesis that
compares with an opaque value is left out: nothing in Lean can evaluate it, and the complementary case is stated beside it. -/
theorem witness_KeysAreUsed_first :
    (∃ (s : State) (u : KeyRun) (cl : _) (sg : _), Inv s ∧ s.alive = true ∧ s.key.run = some u ∧ s.key.queue = [] ∧ u.req.uart =
      none ∧ u.req.cmd = 7 ∧ cl = leNat (s.keyArg u.req 64 1) ∧ s.argOk u.req (72 + cl) false = true ∧ s.argOk u.req (72 + cl +
      3309) true = true ∧ allZero (s.keyArg u.req 65 7) = true ∧ u.slot.useErr .sk 2 = 0 ∧ sg = s.mldsa u.slot.mat (s.keyArg
      u.req 0 64) (s.keyArg u.req 72 cl)) ∧
    (∃ (s : State) (u : KeyRun) (cl : _) (sg : _) (a : _), Inv s ∧ s.alive = true ∧ s.key.run = some u ∧ s.key.queue = [] ∧
      u.req.uart = none ∧ u.req.cmd = 7 ∧ cl = leNat (s.keyArg u.req 64 1) ∧ s.argOk u.req (72 + cl) false = true ∧ s.argOk
      u.req (72 + cl + 3309) true = true ∧ allZero (s.keyArg u.req 65 7) = true ∧ u.slot.useErr .sk 2 = 0 ∧ sg = s.mldsa
      u.slot.mat (s.keyArg u.req 0 64) (s.keyArg u.req 72 cl) ∧ (a < u.req.arg + (72 + cl) ∨ u.req.arg + (72 + cl) + 3309 ≤ a)) ∧
    (∃ (s : State) (u : KeyRun) (cl : _), Inv s ∧ s.alive = true ∧ s.key.run = some u ∧ s.key.queue = [] ∧ u.req.uart = none ∧
      u.req.cmd = 8 ∧ cl = leNat (s.keyArg u.req 64 1) ∧ s.argOk u.req (72 + cl + 3309) false = true ∧ allZero (s.keyArg u.req
      65 7) = true ∧ u.slot.useErr .pk 3 = 0) ∧
    (∃ (s : State) (u : KeyRun) (addr : _) (len : _) (ol : _) (sl : _), Inv s ∧ s.alive = true ∧ s.key.run = some u ∧
      s.key.queue = [] ∧ u.req.uart = none ∧ u.req.cmd = 9 ∧ addr = leNat (s.keyArg u.req 0 8) ∧ len = leNat (s.keyArg u.req 8
      4) ∧ ol = leNat (s.keyArg u.req 12 1) ∧ sl = leNat (s.keyArg u.req 13 1) ∧ (ol = 16 ∨ ol = 32) ∧ sl ≤ 32 ∧ leNat (s.keyArg
      u.req 14 2) = 0 ∧ s.argOk u.req (16 + sl) false = true ∧ s.argOk u.req (16 + sl + ol) true = true ∧ s.argOk
      { u.req with arg := addr, uart := none } len false = true ∧ u.slot.useErr .secret 1 = 0) ∧
    (∃ (s : State) (u : KeyRun) (body : _) (sg : _), Inv s ∧ s.alive = true ∧ s.key.run = some u ∧ s.key.queue = [] ∧ u.req.uart
      = none ∧ u.req.cmd = 0x0A ∧ s.argOk u.req 32 false = true ∧ s.argOk u.req (32 + 3949) true = true ∧ body = s.quoteBody
      (s.keyArg u.req 0 32) ∧ sg = s.mldsa (s.key.slot 3).mat (Config.shake256 body 64) (ascii "XJ9640 quote")) :=
  ⟨⟨tKeyRun (tKey 7 0 9 none (tSlot .sk 4 []) KeySlot.blank), tKey 7 0 9 none (tSlot .sk 4 []) KeySlot.blank, 0, (tKeyRun (tKey 7
    0 9 none (tSlot .sk 4 []) KeySlot.blank)).mldsa [] (zeros 64) [], ⟨by decide, by decide⟩, by decide, by decide, by decide,
    by decide, by decide, rfl, by decide, by decide, by decide, by decide, rfl⟩,
   ⟨tKeyRun (tKey 7 0 9 none (tSlot .sk 4 []) KeySlot.blank), tKey 7 0 9 none (tSlot .sk 4 []) KeySlot.blank, 0, (tKeyRun (tKey
     7 0 9 none (tSlot .sk 4 []) KeySlot.blank)).mldsa [] (zeros 64) [], 71, ⟨by decide, by decide⟩, by decide, by decide,
     by decide, by decide, by decide, rfl, by decide, by decide, by decide, by decide, rfl, by decide⟩,
   ⟨tKeyRun (tKey 8 0 9 none (tSlot .pk 8 []) KeySlot.blank), tKey 8 0 9 none (tSlot .pk 8 []) KeySlot.blank, 0, ⟨by decide,
     by decide⟩, by decide, by decide, by decide, by decide, by decide, rfl, by decide⟩,
   ⟨{ tKeyRun (tKey 9 0 9 none (tSlot .secret 2 []) KeySlot.blank) with mem := [(12, 16)] }, tKey 9 0 9 none (tSlot .secret 2
     []) KeySlot.blank, 0, 0, 16, 0, ⟨by decide, by decide⟩, by decide, by decide, by decide, by decide, by decide, rfl, rfl,
     rfl, rfl, by decide⟩,
   ⟨tKeyRun (tKey 10 0 0 none KeySlot.blank KeySlot.blank), tKey 10 0 0 none KeySlot.blank KeySlot.blank, _, _, ⟨by decide,
     by decide⟩, by decide, by decide, by decide, by decide, by decide, by decide, by decide, rfl, rfl⟩⟩

/-- Witnesses of the hypotheses of `Obligations.KeysAreUsed` (its part on counter advances). -/
theorem witness_KeysAreUsed_CounterAdvances :
    ∃ (s : State) (u : KeyRun) (k : Fin 32), s.alive = true ∧ s.key.run = some u ∧ s.key.queue = [] ∧ u.req.cmd = 0x0B ∧
      u.req.aux = k.val ∧ 8 ≤ k.val ∧ s.key.otp[k] ≤ u.req.slot ∧ u.req.slot ≤ 64 :=
  ⟨tKeyRun (tKey 11 31 64 none KeySlot.blank KeySlot.blank), tKey 11 31 64 none KeySlot.blank KeySlot.blank, 31, by decide⟩

/-- Witnesses of the hypotheses of `Obligations.SealedAccess`, one for each clause (its part on nonce is issued). -/
theorem witness_SealedAccess_NonceIsIssued :
    (∃ (s : State) (s1 : State) (who : Initiator), s.acts who = true ∧ s.accGranted who = true ∧ s1 = s.settleAcc) ∧
    (∃ (s : State) (n : List Byte) (at_ : Nat), s.alive = true ∧ s.key.nonce = some (n, at_)) :=
  ⟨⟨tRun, tRun.settleAcc, .security, by decide, by decide, rfl⟩,
   ⟨tRun.modKey fun k => { k with nonce := some ([], 0) }, [], 0, by decide⟩⟩

/-- Witnesses of the hypotheses of `Obligations.SealedAccess`, one for each clause (its part on access opens). A hypothesis that
compares with an opaque value is left out: nothing in Lean can evaluate it, and the complementary case is stated beside it. -/
theorem witness_SealedAccess_AccessOpens :
    (∃ (s : State) (s1 : State) (who : Initiator) (level : Fin 4) (k : Nat) (m : Nat) (at_ : Nat) (n : List Byte), s.acts who =
      true ∧ s.accGranted who = true ∧ s1 = s.settleAcc ∧ s1.key.lockEnd = none ∧ s.crPolicy = some (k, m) ∧ s1.key.nonce = some
      (n, at_) ∧ 1 ≤ level.val ∧ level.val ≤ m ∧ 60 ≤ s.key.expiry ∧ s.key.expiry ≤ 28800) ∧
    (∃ (s : State) (s1 : State) (who : Initiator) (level : Fin 4) (k : Nat) (m : Nat) (at_ : Nat) (n : List Byte), s.acts who =
      true ∧ s.accGranted who = true ∧ s1 = s.settleAcc ∧ s1.key.lockEnd = none ∧ s.crPolicy = some (k, m) ∧ s1.key.nonce = some
      (n, at_) ∧ 1 ≤ level.val ∧ level.val ≤ m ∧ 60 ≤ s.key.expiry ∧ s.key.expiry ≤ 28800) ∧
    (∃ (s : State) (s1 : State) (who : Initiator) (level : Fin 4) (k : Nat), s.acts who = true ∧ s.accGranted who = true ∧ s1 =
      s.settleAcc ∧ s1.key.lockEnd = none ∧ s.acc.locked = true ∧ s.run.trust.methods.testBit 0 = true ∧ 1 ≤ level.val ∧
      level.val ≤ s.run.trust.pwMax ∧ s.run.trust.pwSlot[level.val - 1]? = some k ∧ s.key.usable k = true ∧ (s.key.slot k).type
      = .password ∧ 8 ≤ s.key.pwLen ∧ s.key.pwLen ≤ 64 ∧ s.key.pw.length = 16 ∧ s.key.fails < 63 ∧ pwDigest ((s.key.slot
      k).mat.take 16) level.val ((wordBytes s.key.pw).take s.key.pwLen) = (s.key.slot k).mat.drop 16) ∧
    (∃ (s : State) (s1 : State) (who : Initiator) (level : Fin 4) (k : Nat), s.acts who = true ∧ s.accGranted who = true ∧ s1 =
      s.settleAcc ∧ s1.key.lockEnd = none ∧ s.acc.locked = true ∧ s.run.trust.methods.testBit 0 = true ∧ 1 ≤ level.val ∧
      level.val ≤ s.run.trust.pwMax ∧ s.run.trust.pwSlot[level.val - 1]? = some k ∧ s.key.usable k = true ∧ (s.key.slot k).type
      = .password ∧ 8 ≤ s.key.pwLen ∧ s.key.pwLen ≤ 64 ∧ s.key.pw.length = 16 ∧ s.key.fails < 63 ∧ pwDigest ((s.key.slot
      k).mat.take 16) level.val ((wordBytes s.key.pw).take s.key.pwLen) ≠ (s.key.slot k).mat.drop 16) :=
  ⟨⟨State.reset.modKey fun k => { k with nonce := some ([], 0), expiry := 28800 }, ((State.reset.modKey fun k =>
    { k with nonce := some ([], 0), expiry := 28800 }).settleAcc), .security, 3, 5, 3, 0, [], by decide, by decide, rfl,
    by decide⟩,
   ⟨State.reset.modKey fun k => { k with nonce := some ([], 0), expiry := 60 }, ((State.reset.modKey fun k =>
     { k with nonce := some ([], 0), expiry := 60 }).settleAcc), .security, 1, 5, 3, 0, [], by decide, by decide, rfl,
     by decide⟩,
   ⟨(tCfg (fun c => { c with trust := { c.trust with methods := 1, pwMax := 1, pwSlot := [9] } }) tRun).modKey fun k =>
     { k with slots := [(9, tSlot .password 0 (zeros 16 ++ pwDigest (zeros 16) 1 (zeros 8)))], pw := List.replicate 16 0,
              pwLen := 8 }, (((tCfg (fun c => { c with trust := { c.trust with methods := 1, pwMax := 1, pwSlot := [9] } })
     tRun).modKey fun k =>
     { k with slots := [(9, tSlot .password 0 (zeros 16 ++ pwDigest (zeros 16) 1 (zeros 8)))], pw := List.replicate 16 0,
              pwLen := 8 }).settleAcc), .security, 1, 9, by decide, by decide, rfl, by decide, by decide, by decide, by decide,
     by decide, by decide, by decide, by decide, by decide, by decide, by decide, by decide, rfl⟩,
   ⟨(tCfg (fun c => { c with trust := { c.trust with methods := 1, pwMax := 1, pwSlot := [9] } }) tRun).modKey fun k =>
     { k with slots := [(9, tSlot .password 0 (zeros 16 ++ (pwDigest (zeros 16) 1 (zeros 8) ++ [0])))],
              pw := List.replicate 16 0, pwLen := 8 }, (((tCfg (fun c =>
     { c with trust := { c.trust with methods := 1, pwMax := 1, pwSlot := [9] } }) tRun).modKey fun k =>
     { k with slots := [(9, tSlot .password 0 (zeros 16 ++ (pwDigest (zeros 16) 1 (zeros 8) ++ [0])))],
              pw := List.replicate 16 0, pwLen := 8 }).settleAcc), .security, 1, 9, by decide, by decide, rfl, by decide,
     by decide, by decide, by decide, by decide, by decide, by decide, by decide, by decide, by decide, by decide, by decide,
     fun h => tNe (pwDigest (zeros 16) 1 (zeros 8)) h⟩⟩

/-- Witnesses of the hypotheses of `Obligations.SealedAccess`, one for each clause (its part on access closes). -/
theorem witness_SealedAccess_AccessCloses :
    (∃ (s : State) (who : Initiator), s.acts who = true ∧ s.accGranted who = true) ∧
    (∃ (s : State), s.alive = true ∧ s.bootOnly = false) ∧
    (∃ (s : State), s.alive = true ∧ s.key.level ≠ 0) ∧
    (∃ (s : State) (at_ : Nat), s.alive = true ∧ s.key.lockEnd = some at_) :=
  ⟨⟨tRun, .security, by decide⟩,
   ⟨tRun, by decide⟩,
   ⟨tRun.modKey fun k => { k with level := 3 }, by decide⟩,
   ⟨tRun.modKey fun k => { k with lockEnd := some 5 }, 5, by decide⟩⟩

/-- Witnesses of the hypotheses of `Obligations.ServiceUart`, one for each clause. -/
theorem witness_ServiceUart :
    (∃ (s : State) (s1 : State) (level : Byte) (expiry : Word) (k : Nat) (m : Nat) (at_ : Nat) (n : List Byte), s.alive = true ∧
      s1 = s.settleAcc ∧ s1.key.lockEnd = none ∧ s.crPolicy = some (k, m) ∧ s1.key.nonce = some (n, at_) ∧ 1 ≤ level.toNat ∧
      level.toNat ≤ 3 ∧ level.toNat ≤ m ∧ 60 ≤ expiry.toNat ∧ expiry.toNat ≤ 28800 ∧ (∀ g ∈ s1.key.gone, crResponse (s.key.slot
      k).mat n level.toNat expiry.toNat ≠ crResponse (s.key.slot k).mat g level.toNat expiry.toNat)) ∧
    (∃ (s : State) (s1 : State) (level : Byte) (expiry : Word) (k : Nat) (m : Nat) (at_ : Nat) (n : List Byte) (g : List Byte),
      s.alive = true ∧ s1 = s.settleAcc ∧ s1.key.lockEnd = none ∧ s.crPolicy = some (k, m) ∧ s1.key.nonce = some (n, at_) ∧ g ∈
      s1.key.gone ∧ 1 ≤ level.toNat ∧ level.toNat ≤ 3 ∧ level.toNat ≤ m ∧ 60 ≤ expiry.toNat ∧ expiry.toNat ≤ 28800) ∧
    (∃ (s : State) (s1 : State) (level : Byte) (pw : List Byte) (k : Nat), s.alive = true ∧ s.bootOnly = false ∧ s1 =
      s.settleAcc ∧ s1.key.lockEnd = none ∧ s.acc.locked = true ∧ s.run.trust.methods.testBit 0 = true ∧ 1 ≤ level.toNat ∧
      level.toNat ≤ 3 ∧ level.toNat ≤ s.run.trust.pwMax ∧ s.run.trust.pwSlot[level.toNat - 1]? = some k ∧ s.key.usable k = true
      ∧ (s.key.slot k).type = .password ∧ 8 ≤ pw.length ∧ pw.length ≤ 64 ∧ pwDigest ((s.key.slot k).mat.take 16) level.toNat pw
      = (s.key.slot k).mat.drop 16) ∧
    (∃ (s : State) (s1 : State) (level : Byte) (pw : List Byte) (k : Nat), s.alive = true ∧ s.bootOnly = false ∧ s1 =
      s.settleAcc ∧ s1.key.lockEnd = none ∧ s.acc.locked = true ∧ s.run.trust.methods.testBit 0 = true ∧ 1 ≤ level.toNat ∧
      level.toNat ≤ 3 ∧ level.toNat ≤ s.run.trust.pwMax ∧ s.run.trust.pwSlot[level.toNat - 1]? = some k ∧ s.key.usable k = true
      ∧ (s.key.slot k).type = .password ∧ 8 ≤ pw.length ∧ pw.length ≤ 64 ∧ pwDigest ((s.key.slot k).mat.take 16) level.toNat pw
      ≠ (s.key.slot k).mat.drop 16) ∧
    (∃ (s : State) (s1 : State) (cmd : Byte) (slot : BitVec 16) (aux : BitVec 16) (arg : List Byte) (r : KeyReq), s.alive = true
      ∧ s.bootOnly = false ∧ s1 = s.settleAcc ∧ s.uartOpen = true ∧ 2 ≤ s1.key.level ∧ cmd.toNat ∈ [1, 2, 3, 6, 7, 8, 9] ∧
      s.key.run = none ∧ s.key.queue = [] ∧ s.key.revoked = [] ∧ r =
      { cmd := cmd.toNat, aux := aux.toNat, slot := slot.toNat, arg := 0, who := .security, uart := some arg } ∧ s1.keyGate r =
      0) ∧
    (∃ (s : State) (s1 : State) (value : List Byte), s.alive = true ∧ s.bootOnly = false ∧ s1 = s.settleAcc ∧ s.uartOpen = true
      ∧ 2 ≤ s1.key.level ∧ (s.key.slot 4).state = .empty ∧ value.length = 32) :=
  ⟨⟨State.reset.modKey fun k => { k with nonce := some ([], 0) }, ((State.reset.modKey fun k =>
    { k with nonce := some ([], 0) }).settleAcc), 3, 60, 5, 3, 0, [], by decide, rfl, by decide⟩,
   ⟨State.reset.modKey fun k => { k with nonce := some ([], 0), gone := [[7]] }, ((State.reset.modKey fun k =>
     { k with nonce := some ([], 0), gone := [[7]] }).settleAcc), 3, 60, 5, 3, 0, [], [7], by decide, rfl, by decide⟩,
   ⟨(tCfg (fun c => { c with trust := { c.trust with methods := 1, pwMax := 1, pwSlot := [9] } }) tRun).modKey fun k =>
     { k with slots := [(9, tSlot .password 0 (zeros 16 ++ pwDigest (zeros 16) 1 (zeros 8)))] }, (((tCfg (fun c =>
     { c with trust := { c.trust with methods := 1, pwMax := 1, pwSlot := [9] } }) tRun).modKey fun k =>
     { k with slots := [(9, tSlot .password 0 (zeros 16 ++ pwDigest (zeros 16) 1 (zeros 8)))] }).settleAcc), 1, zeros 8, 9,
     by decide, by decide, rfl, by decide, by decide, by decide, by decide, by decide, by decide, by decide, by decide,
     by decide, by decide, by decide, rfl⟩,
   ⟨(tCfg (fun c => { c with trust := { c.trust with methods := 1, pwMax := 1, pwSlot := [9] } }) tRun).modKey fun k =>
     { k with slots := [(9, tSlot .password 0 (zeros 16 ++ (pwDigest (zeros 16) 1 (zeros 8) ++ [0])))] }, (((tCfg (fun c =>
     { c with trust := { c.trust with methods := 1, pwMax := 1, pwSlot := [9] } }) tRun).modKey fun k =>
     { k with slots := [(9, tSlot .password 0 (zeros 16 ++ (pwDigest (zeros 16) 1 (zeros 8) ++ [0])))] }).settleAcc), 1, zeros
     8, 9, by decide, by decide, rfl, by decide, by decide, by decide, by decide, by decide, by decide, by decide, by decide,
     by decide, by decide, by decide, fun h => tNe (pwDigest (zeros 16) 1 (zeros 8)) h⟩,
   ⟨(tOpen id).modPwr fun p => { p with fwOk := true }, (((tOpen id).modPwr fun p => { p with fwOk := true }).settleAcc), 2, 9,
     0, [], { cmd := 2, aux := 0, slot := 9, arg := 0, who := .security, uart := some [] }, by decide, by decide, rfl,
     by decide, by decide, by decide, by decide, by decide, by decide, rfl, by decide⟩,
   ⟨(tOpen id).modPwr fun p => { p with fwOk := true }, (((tOpen id).modPwr fun p => { p with fwOk := true }).settleAcc), zeros
     32, by decide, by decide, rfl, by decide⟩⟩

/-- Witnesses of the hypotheses of `Obligations.PowerSupply`, one for each clause (its part on power comes and goes). -/
theorem witness_PowerSupply_PowerComesAndGoes :
    (∃ (s : State), s.pwr.powered = false) ∧
    (∃ (s : State) (b : Bool), s.alive = true ∧ s.pwr.isIn b = true ∧ s.pwr.isIn (!b) = true) ∧
    (∃ (s : State) (b : Bool), s.alive = true ∧ s.pwr.isIn b = true ∧ s.pwr.isIn (!b) = false) ∧
    (∃ (s : State) (b : Bool), s.alive = true ∧ s.pwr.isIn b = false ∧ s.pwr.qual = true) ∧
    (∃ (s : State), s.pwr.powered = true ∧ s.pwr.halted = true ∧ s.pwr.aOk = false ∧ s.pwr.bOk = false) ∧
    (∃ (s : State), s.pwr.powered = true ∧ s.pwr.aOk = false ∧ s.pwr.bOk = false ∧ s.acc.work = none) :=
  ⟨⟨State.reset.modPwr fun p => { p with powered := false }, by decide⟩,
   ⟨tRun.modPwr fun p => { p with bOk := true }, true, by decide⟩,
   ⟨tRun, false, by decide⟩,
   ⟨tRun.modPwr fun p => { p with qual := true }, true, by decide⟩,
   ⟨tRun.modPwr fun p => { p with halted := true, aOk := false }, by decide⟩,
   ⟨State.reset.modPwr fun p => { p with aOk := false }, by decide⟩⟩

/-- Witnesses of the hypotheses of `Obligations.PowerSupply`, one for each clause (its part on supply monitors). -/
theorem witness_PowerSupply_SupplyMonitors :
    (∃ (s : State) (mv : BitVec 16), s.pwr.powered = true ∧ (s.pwr.aOk = true ∨ s.pwr.bOk = true) ∧ mv < 2200#16) ∧
    (∃ (s : State) (mv : BitVec 16), s.pwr.powered = true ∧ (s.pwr.aOk = true ∨ s.pwr.bOk = true) ∧ 2300#16 < mv) ∧
    (∃ (s : State) (mv : BitVec 16), s.pwr.powered = true ∧ (s.pwr.aOk = true ∨ s.pwr.bOk = true) ∧ 2200#16 ≤ mv ∧ mv ≤ 2300#16) :=
  ⟨⟨tRun, 2199, by decide⟩,
   ⟨tRun, 2301, by decide⟩,
   ⟨tRun, 2200, by decide⟩⟩

/-- Witnesses of the hypotheses of `Obligations.Drydown`, one for each clause. -/
theorem witness_Drydown :
    (∃ (s : State) (d : DrydownRun), s.pwr.powered = true ∧ s.pwr.halted = false ∧ s.pwr.qual = true ∧ s.sys.state ≠ .boot ∧
      s.pwr.aOk = false ∧ s.pwr.bOk = false ∧ d.aBack = false ∧ d.bBack = false ∧ d.times.length = 6) ∧
    (∃ (s : State) (d : DrydownRun), s.pwr.powered = true ∧ s.pwr.halted = false ∧ s.pwr.qual = true ∧ s.sys.state ≠ .boot ∧
      d.times.length < 6 ∧ d.clock = false) ∧
    (∃ (s : State) (d : DrydownRun), s.pwr.powered = true ∧ s.pwr.halted = false ∧ s.pwr.qual = true ∧ s.sys.state ≠ .boot ∧
      d.times.length < 6 ∧ d.clock = true) ∧
    (∃ (s : State), s.pwr.powered = true ∧ s.pwr.halted = false ∧ s.pwr.qual = true ∧ s.sys.state = .boot) ∧
    (∃ (s : State) (who : Initiator) (d : DrydownRun), s.acts who = true ∧ isSuperSec who = true ∧ s.sys.state ≠ .boot ∧ 6 ≤
      d.times.length ∧ s.pwr.aOk = true) ∧
    (∃ (s : State) (who : Initiator), s.acts who = true ∧ isSuperSec who = true ∧ s.sys.state = .boot) :=
  ⟨⟨tRun.modPwr fun p => { p with qual := true, aOk := false }, tDry 6, by decide⟩,
   ⟨tRun.modPwr fun p => { p with qual := true, aOk := false }, tDry 5, by decide⟩,
   ⟨tRun.modPwr fun p => { p with qual := true }, { tDry 3 with clock := true }, by decide⟩,
   ⟨State.reset.modPwr fun p => { p with qual := true }, by decide⟩,
   ⟨tRun, .security, tDry 6, by decide⟩,
   ⟨State.reset, .security, by decide⟩⟩

/-- Witnesses of the hypotheses of `Obligations.ResetsAndModes`, one for each clause (its part on resets take effect). -/
theorem witness_ResetsAndModes_ResetsTakeEffect :
    (∃ (s : State) (j : Fin 8) (who : _), s.alive = true ∧ s.pwr.deferred = none ∧ s.sil.running = none ∧ bitAt s.sil.hold j.val
      = false ∧ s.acts who = true ∧ isSuperSec who = true) ∧
    (∃ (s : State) (j : Fin 8), s.alive = true ∧ s.pwr.deferred = none ∧ s.sil.running = none ∧ bitAt s.sil.hold j.val = false ∧
      s.pwr.wdtPaused = false) ∧
    (∃ (s : State) (k : ResetKind) (r : Nat × Capture), s.alive = true ∧ s.pwr.deferred = some k ∧ s.sil.running = some r ∧
      s.mtr.capReq = false ∧ (k = .resetN ∨ k = .watchdog ∨ k = .software)) ∧
    (∃ (s : State), s.pwr.powered = true ∧ s.pwr.halted = false) :=
  ⟨⟨tRun, 0, .security, by decide⟩,
   ⟨tRun, 0, by decide⟩,
   ⟨(tRun.modPwr fun p => { p with deferred := some .watchdog }).modSil fun l => { l with running := some (7, Capture.blank) },
     .watchdog, (7, Capture.blank), by decide⟩,
   ⟨tRun, by decide⟩⟩

/-- Witnesses of the hypotheses of `Obligations.ResetsAndModes`, one for each clause (its part on watchdog is kicked). -/
theorem witness_ResetsAndModes_WatchdogIsKicked :
    (∃ (s : State) (who : Initiator) (v : Word), s.acts who = true ∧ isSuper who = true ∧ v.extractLsb' 0 8 = 0x5A#8) ∧
    (∃ (s : State) (who : Initiator) (v : Word), s.acts who = true ∧ isSuper who = true ∧ v.extractLsb' 0 8 = 0xA5#8 ∧
      s.pwr.kicked = true ∧ s.pwr.wdtPaused = false) ∧
    (∃ (s : State) (who : Initiator) (v : Word), s.acts who = true ∧ isSuper who = true ∧ v.extractLsb' 0 8 ≠ 0x5A#8 ∧
      (v.extractLsb' 0 8 = 0xA5#8 → s.pwr.kicked = false) ∧ s.sil.queue.length < 64) :=
  ⟨⟨tRun, .role 0, 0x5A, by decide⟩,
   ⟨tRun.modPwr fun p => { p with kicked := true }, .role 0, 0xA5, by decide⟩,
   ⟨tRun, .role 0, 0xA5, by decide⟩⟩

/-- Witnesses of the hypotheses of `Obligations.ResetsAndModes`, one for each clause (its part on modes and debug). -/
theorem witness_ResetsAndModes_ModesAndDebug :
    (∃ (s : State) (s1 : State) (who : Initiator) (v : Word), s.acts who = true ∧ isSuperSec who = true ∧ v.extractLsb' 0 4 =
      4#4 ∧ s1 = s.settleAcc ∧ s.running = true ∧ s.sys.mode = .service ∧ 2 ≤ s1.key.level) ∧
    (∃ (s : State) (s1 : State) (who : Initiator) (v : Word), s.acts who = true ∧ isSuperSec who = true ∧ v.extractLsb' 0 4 =
      4#4 ∧ s1 = s.settleAcc ∧ s.running = true ∧ s.sys.mode = .service ∧ s1.key.level < 2) ∧
    (∃ (s : State) (s1 : State) (who : Initiator) (v : Word), s.acts who = true ∧ isSuperSec who = true ∧ v.extractLsb' 0 4 =
      4#4 ∧ s1 = s.settleAcc ∧ s.running = true ∧ s.sys.mode = .commissioning) ∧
    (∃ (s : State) (s1 : State) (who : Initiator) (v : Word), s.acts who = true ∧ isSuperSec who = true ∧ v.extractLsb' 0 4 =
      4#4 ∧ s1 = s.settleAcc ∧ s.running = false) ∧
    (∃ (s : State) (p : Fin 9), s.alive = true ∧ s.debugOpen = true ∧ (s.sys.state = .commissioning ∨ s.sys.state = .test) ∧ p ≠
      8 ∧ s.pairs.place[(0 : Fin 7)].castSucc = p) :=
  ⟨⟨tRun.modKey fun k => { k with level := 2, openEnd := 1000 }, ((tRun.modKey fun k =>
    { k with level := 2, openEnd := 1000 }).settleAcc), .security, 4, by decide, by decide, by decide, rfl, by decide⟩,
   ⟨tRun.modKey fun k => { k with level := 1 }, ((tRun.modKey fun k => { k with level := 1 }).settleAcc), .security, 4,
     by decide, by decide, by decide, rfl, by decide⟩,
   ⟨tRun.modSys fun y => { y with state := .commissioning, mode := .commissioning }, ((tRun.modSys fun y =>
     { y with state := .commissioning, mode := .commissioning }).settleAcc), .security, 4, by decide, by decide, by decide, rfl,
     by decide⟩,
   ⟨State.reset, State.reset.settleAcc, .security, 4, by decide, by decide, by decide, rfl, by decide⟩,
   ⟨(tCfg (fun c => { c with trust := { c.trust with methods := 8 } }) (tRun.modSys fun y => { y with state := .test })).modKey
     fun k => { k with level := 3, openEnd := 1000 }, 0, by decide⟩⟩

/-- Witnesses of the hypotheses of `Obligations.AccordSlots`, one for each clause (its part on accord slots). A hypothesis that
compares with an opaque value is left out: nothing in Lean can evaluate it, and the complementary case is stated beside it. -/
theorem witness_AccordSlots_first :
    (∃ (s : State) (s1 : State) (who : Initiator) (b : List Byte), s.acts who = true ∧ (who = .role 0 ∨ who = .security) ∧ s1 =
      s.settleAcd ∧ s1.acc.busy = none ∧ s1.acc.fallback = false ∧ s1.acc.active = some .a ∧ b = Mem.readN s.mem s.acc.src
      s.acc.len) ∧
    (∃ (s : State) (s1 : State) (who : Initiator) (b : List Byte), s.acts who = true ∧ (who = .role 0 ∨ who = .security) ∧ s1 =
      s.settleAcd ∧ s1.acc.busy = none ∧ s1.acc.fallback = false ∧ s1.acc.active = some .a ∧ b = Mem.readN s.mem s.acc.src
      s.acc.len) ∧
    (∃ (s : State) (t : State) (w : AcdWork), s.acc.work = some w ∧ w.slot = some .b ∧ w.bad = none ∧ w.endAt ≤ s.now ∧ t =
      s.settleAcd) :=
  ⟨⟨tRun, tRun.settleAcd, .security, (Mem.readN tRun.mem tRun.acc.src tRun.acc.len), by decide, by decide, rfl, by decide,
    by decide, by decide, rfl⟩,
   ⟨tRun, tRun.settleAcd, .security, (Mem.readN tRun.mem tRun.acc.src tRun.acc.len), by decide, by decide, rfl, by decide,
     by decide, by decide, rfl⟩,
   ⟨tRun.modAcc fun a =>
     { a with busy := some .load, work := some { slot := some .b, bytes := [1], seq := 0, bad := none, level := 0,
                                                 endAt := 0 } }, ((tRun.modAcc fun a =>
     { a with busy := some .load, work := some { slot := some .b, bytes := [1], seq := 0, bad := none, level := 0,
                                                 endAt := 0 } }).settleAcd),
     { slot := some .b, bytes := [1], seq := 0, bad := none, level := 0, endAt := 0 }, by decide, by decide, by decide,
     by decide, rfl⟩⟩

/-- Witnesses of the hypotheses of `Obligations.AccordSlots`, one for each clause (its part on accord commands refused). -/
theorem witness_AccordSlots_AccordCommandsRefused :
    (∃ (s : State) (s1 : State) (who : Initiator), s.acts who = true ∧ who ≠ .role 0 ∧ who ≠ .security ∧ s.sil.queue.length < 64
      ∧ s1 = s.settleAcd) ∧
    (∃ (s : State) (s1 : State) (who : Initiator) (x : AcdCmd), s.acts who = true ∧ (who = .role 0 ∨ who = .security) ∧ s1 =
      s.settleAcd ∧ s1.acc.busy = some x) :=
  ⟨⟨tRun, tRun.settleAcd, .role 5, by decide, by decide, by decide, by decide, rfl⟩,
   ⟨tRun.modAcc fun a => { a with busy := some .configure }, ((tRun.modAcc fun a =>
     { a with busy := some .configure }).settleAcd), .security, .configure, by decide, by decide, rfl, by decide⟩⟩

/-- Witnesses of the hypotheses of `Obligations.AccordSlots`, one for each clause (its part on accord commands). A hypothesis
that compares with an opaque value is left out: nothing in Lean can evaluate it, and the complementary case is stated beside it.
-/
theorem witness_AccordSlots_AccordCommands :
    (∃ (s : State) (s1 : State) (who : Initiator) (b : Bool) (x : Slot), s.acts who = true ∧ (who = .role 0 ∨ who = .security) ∧
      s1 = s.settleAcd ∧ s1.acc.busy = none ∧ s.running = true ∧ x = (if b then .b else .a)) ∧
    (∃ (s : State) (s1 : State) (who : Initiator) (b : Bool) (x : Slot), s.acts who = true ∧ (who = .role 0 ∨ who = .security) ∧
      s1 = s.settleAcd ∧ s1.acc.busy = none ∧ s.running = true ∧ x = (if b then .b else .a)) ∧
    (∃ (s : State) (s1 : State) (who : Initiator), s.acts who = true ∧ (who = .role 0 ∨ who = .security) ∧ s1 = s.settleAcd ∧
      s1.acc.busy = none ∧ s.running = false) ∧
    (∃ (s : State) (s1 : State) (who : Initiator), s.acts who = true ∧ (who = .role 0 ∨ who = .security) ∧ s1 = s.settleAcd ∧
      s1.acc.busy = none ∧ s.sys.state = .service ∧ s.run.hdr.rollback ≤ s1.key.otp[1]) ∧
    (∃ (s : State) (s1 : State) (who : Initiator), s.acts who = true ∧ (who = .role 0 ∨ who = .security) ∧ s1 = s.settleAcd ∧
      s1.acc.busy = none ∧ s.sys.state = .service ∧ s1.key.otp[1] < s.run.hdr.rollback) ∧
    (∃ (s : State) (t : State) (w : AcdWork), s.acc.work = some w ∧ w.slot = none ∧ w.endAt ≤ s.now ∧ t = s.settleAcd) :=
  ⟨⟨tRun, tRun.settleAcd, .security, false, ((if false then .b else .a)), by decide, by decide, rfl, by decide, by decide, rfl⟩,
   ⟨tRun, tRun.settleAcd, .security, true, ((if true then .b else .a)), by decide, by decide, rfl, by decide, by decide, rfl⟩,
   ⟨State.reset, State.reset.settleAcd, .security, by decide, by decide, rfl, by decide⟩,
   ⟨tRun, tRun.settleAcd, .security, by decide, by decide, rfl, by decide⟩,
   ⟨tCfg (fun c => { c with hdr := { c.hdr with rollback := 3 } }) tRun, ((tCfg (fun c =>
     { c with hdr := { c.hdr with rollback := 3 } }) tRun).settleAcd), .security, by decide, by decide, rfl, by decide⟩,
   ⟨tRun.modAcc fun a =>
     { a with busy := some .commitRollback, work := some { slot := none, bytes := [], seq := 0, bad := none, level := 3,
                                                           endAt := 0 } }, ((tRun.modAcc fun a =>
     { a with busy := some .commitRollback, work := some { slot := none, bytes := [], seq := 0, bad := none, level := 3,
                                                           endAt := 0 } }).settleAcd),
     { slot := none, bytes := [], seq := 0, bad := none, level := 3, endAt := 0 }, by decide, by decide, by decide, rfl⟩⟩

set_option maxRecDepth 8000 in
/-- Witnesses of the hypotheses of `Obligations.AccordIsApplied`, one for each clause (its part on accord is applied). -/
theorem witness_AccordIsApplied_first :
    (∃ (s : State) (x : Slot) (bnc : Nat), s.alive = true ∧ s.running = true ∧ s.acc.stopped = false ∧ s.acc.target = some (x,
      bnc) ∧ s.acc.halted = none ∧ s.fs.hpos = 0 ∧ s.fs.bpos = 0 ∧ s.tickBnc ≠ bnc ∧ s.now < s.fs.tickAt + 1000000) ∧
    (∃ (s : State) (x : Slot) (bnc : Nat) (at_ : Nat), s.alive = true ∧ s.running = true ∧ s.acc.stopped = false ∧ s.acc.target
      = some (x, bnc) ∧ s.acc.halted = some at_ ∧ s.now < at_) ∧
    (∃ (s : State) (x : Slot) (bnc : Nat) (at_ : Nat), s.alive = true ∧ s.running = true ∧ s.acc.stopped = false ∧ s.acc.target
      = some (x, bnc) ∧ s.acc.halted = some at_ ∧ at_ ≤ s.now ∧ (s.configureStop.solversQuiet = false ∨
      s.configureStop.mtr.capReq = true)) ∧
    (∃ (s : State) (s1 : State) (x : Slot) (bnc : Nat) (l : _), s.alive = true ∧ s.running = true ∧ s.acc.target = some (x, bnc)
      ∧ (s.acc.stopped = true ∨ s.acc.halted.any (fun a => decide (a ≤ s.now)) = true) ∧ s1 = (if s.acc.stopped then s else
      s.configureStop) ∧ s1.solversQuiet = true ∧ s1.mtr.capReq = false ∧ accordSects (s.acc.slot x) none = .ok l ∧ roleUnplaced
      (RunCfg.ofBytes (s.acc.slot x) l).str s.pairs.down = false) ∧
    (∃ (s : State) (x : Slot) (bnc : Nat), s.alive = true ∧ s.sys.state = .configure ∧ s.acc.target = some (x, bnc) ∧
      s.acc.locked = true ∧ s.run.str.twin = true) ∧
    (∃ (s : State) (x : Slot) (bnc : Nat), s.alive = true ∧ s.sys.state = .configure ∧ s.acc.target = some (x, bnc) ∧
      s.acc.locked = true ∧ s.run.str.twin = false) :=
  ⟨⟨((tRun.modFs fun f => { f with hpos := 0, bpos := 0, bnc := 1 }).modAcc fun a =>
    { a with target := some (.a, 0), busy := some .configure }).modSe 0 fun e =>
    { e with enable := true, job := some (tJob (tDesc 200 0)) }, .a, 0, by decide⟩,
   ⟨((tRun.modFs fun f => { f with hpos := 0, bpos := 0, bnc := 1 }).modAcc fun a =>
     { a with target := some (.a, 0), busy := some .configure, halted := some 1000 }).modSe 0 fun e =>
     { e with enable := true, job := some (tJob (tDesc 200 0)) }, .a, 0, 1000, by decide⟩,
   ⟨((tRun.modFs fun f => { f with hpos := 0, bpos := 0, bnc := 1 }).modAcc fun a =>
     { a with target := some (.a, 0), busy := some .configure, halted := some 0 }).modSe 0 fun e =>
     { e with enable := true, job := some (tJob (tDesc 200 0)) }, .a, 0, 0, by decide⟩,
   ⟨(tRun.modFs fun f => { f with hpos := 0, bpos := 0, bnc := 1 }).modAcc fun a =>
     { a with target := some (.a, 0), stopped := true, slotA := tBare }, ((if ((tRun.modFs fun f =>
     { f with hpos := 0, bpos := 0, bnc := 1 }).modAcc fun a =>
     { a with target := some (.a, 0), stopped := true, slotA := tBare }).acc.stopped then ((tRun.modFs fun f =>
     { f with hpos := 0, bpos := 0, bnc := 1 }).modAcc fun a =>
     { a with target := some (.a, 0), stopped := true, slotA := tBare }) else ((tRun.modFs fun f =>
     { f with hpos := 0, bpos := 0, bnc := 1 }).modAcc fun a =>
     { a with target := some (.a, 0), stopped := true, slotA := tBare }).configureStop)), .a, 0, _, by decide, by decide,
     by decide, by decide, rfl, by decide, by decide, rfl, by decide⟩,
   ⟨((tTwin id).modSys fun y => { y with state := .configure }).modAcc fun a => { a with target := some (.a, 0) }, .a, 0,
     by decide⟩,
   ⟨(tRun.modSys fun y => { y with state := .configure }).modAcc fun a =>
     { a with target := some (.a, 0), busy := some .configure }, .a, 0, by decide⟩⟩

/-- Witnesses of the hypotheses of `Obligations.AccordIsApplied`, one for each clause (its part on boot chooses images). A
hypothesis that compares with an opaque value is left out: nothing in Lean can evaluate it, and the complementary case is stated
beside it. -/
theorem witness_AccordIsApplied_BootChoosesImages :
    (∃ (s : State), s.alive = true ∧ s.sys.state = .boot ∧ s.pwr.fwOk = false) ∧
    (∃ (s : State) (x : Slot), s.alive = true ∧ s.sys.state = .boot ∧ s.pwr.fwOk = true ∧ s.acc.ptr = x) ∧
    (∃ (s : State) (x : Slot) (e : _), s.alive = true ∧ s.sys.state = .boot ∧ s.pwr.fwOk = true ∧ s.acc.ptr = x ∧ s.validateAcd
      (s.acc.slot x) (s.acc.slot x).length .boot none = .error e) ∧
    (∃ (s : State) (x : Slot) (e : _) (d : _), s.alive = true ∧ s.sys.state = .boot ∧ s.pwr.fwOk = true ∧ s.acc.ptr = x ∧
      s.validateAcd (s.acc.slot x) (s.acc.slot x).length .boot none = .error e ∧ s.validateAcd (s.acc.slot x.other) (s.acc.slot
      x.other).length .boot none = .error d) :=
  ⟨⟨State.reset, by decide⟩,
   ⟨State.reset.modPwr fun p => { p with fwOk := true }, .a, by decide⟩,
   ⟨State.reset.modPwr fun p => { p with fwOk := true }, .a, _, by decide, by decide, by decide, by decide, rfl⟩,
   ⟨State.reset.modPwr fun p => { p with fwOk := true }, .a, _, _, by decide, by decide, by decide, by decide, rfl, rfl⟩⟩

/-- Witnesses of the hypotheses of `Obligations.Amendments`, one for each clause. A hypothesis that compares with an opaque
value is left out: nothing in Lean can evaluate it, and the complementary case is stated beside it. -/
theorem witness_Amendments :
    (∃ (s : State) (s1 : State) (who : Initiator) (b : List Byte), s.acts who = true ∧ (who = .role 0 ∨ who = .security) ∧ s1 =
      s.settleAcd ∧ s1.acc.busy = none ∧ s.running = true ∧ s1.acc.pending.length + s1.acc.journal.length < 8 ∧ b = Mem.readN
      s.mem s.acc.src s.acc.len) ∧
    (∃ (s : State) (s1 : State) (who : Initiator) (b : List Byte) (e : _), s.acts who = true ∧ (who = .role 0 ∨ who = .security)
      ∧ s1 = s.settleAcd ∧ s1.acc.busy = none ∧ s.running = true ∧ s1.acc.pending.length + s1.acc.journal.length < 8 ∧ b =
      Mem.readN s.mem s.acc.src s.acc.len ∧ s1.amdCheck b s.acc.len true = .error e) ∧
    (∃ (s : State) (m : Amendment) (r : AmdRecord) (x : Slot), s.notesRun = true ∧ s.fs.hpos = 0 ∧ s.fs.bpos = 0 ∧ s.acc.pending
      = [m] ∧ m.due = s.tickBnc ∧ m.records = [r] ∧ r.sect = 10 ∧ s.acc.active = some x) ∧
    (∃ (s : State) (b : List Byte) (rest : List (Slot × List Byte)), s.alive = true ∧ s.acc.journal = (.a, b) :: rest) :=
  ⟨⟨tRun, tRun.settleAcd, .security, (Mem.readN tRun.mem tRun.acc.src tRun.acc.len), by decide, by decide, rfl, by decide,
    by decide, by decide, rfl⟩,
   ⟨tRun, tRun.settleAcd, .security, [], _, by decide, by decide, rfl, by decide, by decide, by decide, rfl, rfl⟩,
   ⟨(tRun.modFs fun f => { f with hpos := 0, bpos := 0, bnc := 7 }).modAcc fun a =>
     { a with pending := [{ (default : Amendment) with due := 7, records := [{ (default : AmdRecord) with sect := 10 }] }] },
     { (default : Amendment) with due := 7, records := [{ (default : AmdRecord) with sect := 10 }] },
     { (default : AmdRecord) with sect := 10 }, .a, by decide⟩,
   ⟨tRun.modAcc fun a => { a with journal := [(.a, [1])] }, [1], [], by decide⟩⟩

/-- Witnesses of the hypotheses of `Obligations.RegisterWrites`, one for each clause. -/
theorem witness_RegisterWrites :
    (∃ (s : State) (who : Initiator) (n : Fin 4) (v : Word), s.acts who = true ∧ s.granted who (0x30 + n.val) = true ∧ v.getLsbD
      8 = false ∧ s.acc.locked = false) ∧
    (∃ (s : State) (who : Initiator) (n : Fin 4) (v : Word), s.acts who = true ∧ s.granted who (0x30 + n.val) = true ∧ v.getLsbD
      8 = false ∧ s.acc.locked = true ∧ s.sil.queue.length < 64) ∧
    (∃ (s : State) (who : Initiator) (n : Fin 4), s.acts who = true ∧ s.granted who (0x30 + n.val) = false ∧ s.sil.queue.length
      < 64) ∧
    (∃ (a : Addr), (a.toNat < 0x40000000 ∨ 0x40800000 ≤ a.toNat)) :=
  ⟨⟨State.reset, .security, 0, 0, by decide⟩,
   ⟨tRun, .security, 0, 0, by decide⟩,
   ⟨tRun, .role 5, 0, by decide⟩,
   ⟨0x3FFFFFFF, by decide⟩⟩

/-- Witnesses of the hypotheses of `Obligations.Twin`, one for each clause (its part on twin interlock). -/
theorem witness_Twin_TwinInterlock :
    (∃ (s : State), s.twinUsed = true ∧ s.claimWanted = true ∧ s.twin.claimIn = false ∧ s.twin.claimOut = false ∧ s.acting =
      true) ∧
    (∃ (s : State), s.twinUsed = true ∧ s.claimWanted = true ∧ (s.twin.claimIn = true ∨ s.acting = false)) ∧
    (∃ (s : State) (t0 : Nat), s.twinUsed = true ∧ s.twin.claimOut = true ∧ s.twin.claimIn = false ∧ s.twin.gate = false ∧
      s.twin.settleFrom = some t0) ∧
    (∃ (s : State), s.twinUsed = true ∧ s.twin.claimIn = false ∧ s.twin.gate = true) ∧
    (∃ (s : State), s.twinUsed = true ∧ s.twin.claimIn = false ∧ s.twin.gate = false ∧ s.twin.claimOut = true ∧ s.twin.state =
      .standby) ∧
    (∃ (s : State), s.twinUsed = true ∧ s.twin.claimIn = false ∧ s.twin.gate = false ∧ s.twin.claimOut = false ∧ s.twin.state =
      .seeking) ∧
    (∃ (s : State), s.twinUsed = true ∧ s.twin.claimIn = true ∧ s.twin.claimOut = true) ∧
    (∃ (s : State) (k : Nat), s.twinUsed = true ∧ s.twin.backoff = some k ∧ k ≤ s.fs.tnc ∧ s.twin.claimIn = false ∧
      s.twin.claimOut = false ∧ s.acting = true) ∧
    (∃ (s : State) (k : Nat), s.twinUsed = true ∧ s.twin.backoff = some k ∧ k ≤ s.fs.tnc ∧ (s.twin.claimIn = true ∨
      s.twin.claimOut = true ∨ s.acting = false)) ∧
    (∃ (s : State) (k : Nat), s.twinUsed = true ∧ s.twin.backoff = some k ∧ s.fs.tnc < k) :=
  ⟨⟨tTwin fun t => { t with state := .standby, missed := 3 }, by decide⟩,
   ⟨tTwin fun t => { t with state := .standby, missed := 3, claimIn := true }, by decide⟩,
   ⟨tTwin fun t => { t with state := .standby, claimOut := true, settleFrom := some 0 }, 0, by decide⟩,
   ⟨tTwin fun t => { t with state := .active, claimOut := true, gate := true }, by decide⟩,
   ⟨tTwin fun t => { t with state := .standby, claimOut := true }, by decide⟩,
   ⟨tTwin fun t => { t with state := .seeking }, by decide⟩,
   ⟨tTwin fun t => { t with state := .standby, claimOut := true, claimIn := true }, by decide⟩,
   ⟨tTwin fun t => { t with state := .standby, backoff := some 3 }, 3, by decide⟩,
   ⟨tTwin fun t => { t with backoff := some 100, claimIn := true }, 100, by decide⟩,
   ⟨tTwin fun t => { t with backoff := some 101 }, 101, by decide⟩⟩

/-- Witnesses of the hypotheses of `Obligations.Twin`, one for each clause (its part on twin mirror). A hypothesis that compares
with an opaque value is left out: nothing in Lean can evaluate it, and the complementary case is stated beside it. -/
theorem witness_Twin_TwinMirror :
    (∃ (s : State) (f : TwinIn), s.twinUsed = true ∧ s.twinTagOk 1 f = false) ∧
    (∃ (s : State) (f : TwinIn), s.twinUsed = true ∧ s.twinTagOk 2 f = false) ∧
    (∃ (s : State) (f : TwinIn), s.twinUsed = true ∧ s.twinTagOk 3 f = false) ∧
    (∃ (s : State) (f : TwinIn), s.twinUsed = true ∧ s.twinTagOk 4 f = false) ∧
    (∃ (s : State) (f : TwinIn), s.twinUsed = true ∧ s.twinTagOk 5 f = false) ∧
    (∃ (s : State) (f : TwinIn), s.twinUsed = true ∧ (∀ q, s.twin.seqIn = some q → f.seq = (q + 1) % 2 ^ 32) ∧ s.twinTagOk 1 f =
      true ∧ s.twin.state = .seeking ∧ leAt f.payload 0 1 = 2) ∧
    (∃ (s : State) (f : TwinIn) (p : Fin 4), s.twinUsed = true ∧ (∀ q, s.twin.seqIn = some q → f.seq = (q + 1) % 2 ^ 32) ∧
      s.twinTagOk 2 f = true ∧ s.twin.state = .standby ∧ s.twin.digestDiff = false ∧ f.part = p.val + 1 ∧ s.twin.stale[p] =
      false ∧ f.commit = s.twin.applied[p] + 1) ∧
    (∃ (s : State) (f : TwinIn) (p : Fin 4), s.twinUsed = true ∧ (∀ q, s.twin.seqIn = some q → f.seq = (q + 1) % 2 ^ 32) ∧
      s.twinTagOk 2 f = true ∧ s.twin.state = .standby ∧ s.twin.digestDiff = false ∧ f.part = p.val + 1 ∧ s.twin.stale[p] =
      false ∧ f.commit = s.twin.applied[p] + 1) ∧
    (∃ (s : State) (f : TwinIn), s.twinUsed = true ∧ (∀ q, s.twin.seqIn = some q → f.seq = (q + 1) % 2 ^ 32) ∧ s.twinTagOk 3 f =
      true ∧ s.twin.state = .standby ∧ s.twin.digestDiff = false) ∧
    (∃ (s : State) (f : TwinIn), s.twinUsed = true ∧ (∀ q, s.twin.seqIn = some q → f.seq = (q + 1) % 2 ^ 32) ∧ s.twinTagOk 4 f =
      true ∧ s.twin.state = .standby ∧ s.twin.digestDiff = false) ∧
    (∃ (s : State) (f : TwinIn) (p : Fin 4), s.twinUsed = true ∧ (∀ q, s.twin.seqIn = some q → f.seq = (q + 1) % 2 ^ 32) ∧
      s.twinTagOk 5 f = true ∧ s.twin.state = .active ∧ f.part = p.val + 1) ∧
    (∃ (s : State) (who : Initiator) (v : Word), s.acts who = true ∧ s.granted who 0x71 = true ∧ v.extractLsb' 16 16 = 0x9640#16
      ∧ v.extractLsb' 0 4 = 1#4 ∧ s.twin.state = .active ∧ s.twin.partnerState = .standby ∧ s.twin.partnerSync = true) ∧
    (∃ (s : State) (who : Initiator) (v : Word), s.acts who = true ∧ s.granted who 0x71 = true ∧ v.extractLsb' 16 16 = 0x9640#16
      ∧ v.extractLsb' 0 4 = 1#4 ∧ s.twin.state ≠ .active) :=
  ⟨⟨tTwin id, { tTwinIn 1 0 0 [] with tag := twinTag (tTwin id).twinKey (twinHeader 1 1 0 0 0) [] ++ [0] }, by decide, by simp
    [State.twinTagOk, tTwinIn, tSvcIn, tTwin]⟩,
   ⟨tTwin id, { tTwinIn 2 0 0 [] with tag := twinTag (tTwin id).twinKey (twinHeader 2 1 0 0 0) [] ++ [0] }, by decide, by simp
     [State.twinTagOk, tTwinIn, tSvcIn, tTwin]⟩,
   ⟨tTwin id, { tTwinIn 3 0 0 [] with tag := twinTag (tTwin id).twinKey (twinHeader 3 1 0 0 0) [] ++ [0] }, by decide, by simp
     [State.twinTagOk, tTwinIn, tSvcIn, tTwin]⟩,
   ⟨tTwin id, { tTwinIn 4 0 0 [] with tag := twinTag (tTwin id).twinKey (twinHeader 4 1 0 0 0) [] ++ [0] }, by decide, by simp
     [State.twinTagOk, tTwinIn, tSvcIn, tTwin]⟩,
   ⟨tTwin id, { tTwinIn 5 0 0 [] with tag := twinTag (tTwin id).twinKey (twinHeader 5 1 0 0 0) [] ++ [0] }, by decide, by simp
     [State.twinTagOk, tTwinIn, tSvcIn, tTwin]⟩,
   ⟨tTwin fun t => { t with state := .seeking }, tTwinIn 1 0 0 [2], by decide, by decide, beq_self_eq_true _, by decide⟩,
   ⟨tTwin fun t => { t with state := .standby, seqIn := some 0 }, tTwinIn 2 1 1 [], 0, by decide, by decide, beq_self_eq_true _,
     by decide⟩,
   ⟨tTwin fun t => { t with state := .standby, seqIn := some 0 }, tTwinIn 2 4 1 [], 3, by decide, by decide, beq_self_eq_true _,
     by decide⟩,
   ⟨tTwin fun t => { t with state := .standby, seqIn := some 0 }, tTwinIn 3 0 0 [], by decide, by decide, beq_self_eq_true _,
     by decide⟩,
   ⟨tTwin fun t => { t with state := .standby, seqIn := some 0 }, tTwinIn 4 0 0 [], by decide, by decide, beq_self_eq_true _,
     by decide⟩,
   ⟨tTwin fun t => { t with state := .active, seqIn := some 0 }, tTwinIn 5 4 0 [], 3, by decide, by decide, beq_self_eq_true _,
     by decide⟩,
   ⟨tTwin fun t => { t with state := .active, partnerState := .standby, partnerSync := true }, .security, 0x96400001, by decide⟩,
   ⟨tTwin fun t => { t with state := .standby }, .security, 0x96400001, by decide⟩⟩

end Sys2Proof.Tests
end

section
/-! The master copies and the result bank on the fabric (R97): the check that a request of those areas meets, what a request leaves
that fails its check, and what a read of system SRAM leaves that passes it. -/

namespace Sys2Proof.Machine

/-! ### The check (R95, R97) -/

theorem targetOf_eq_sram {a : Nat} (hlo : 0x10000000 ≤ a) (hhi : a < 0x10800000) : targetOf a = .sram := by
  simp only [targetOf]
  rw [if_neg (by omega), if_neg (by omega), if_pos ⟨hlo, hhi⟩]

theorem State.fabCause_masterCopy (s : State) (w : Initiator) (q : FabReq) (hlo : 0x10000000 ≤ q.addr.toNat)
    (hhi : q.addr.toNat < 0x105B0000) : s.fabCause w q = some 1 := by
  have ht : targetOf q.addr.toNat = .sram := targetOf_eq_sram hlo (by omega)
  simp [State.fabCause, ht, hhi]

theorem State.fabCause_resultBank_write (s : State) (w : Initiator) (q : FabReq) (hlo : 0x107C0000 ≤ q.addr.toNat)
    (hhi : q.addr.toNat < 0x10800000) (hw : kindWrites q.kind = true) : s.fabCause w q = some 1 := by
  have ht : targetOf q.addr.toNat = .sram := targetOf_eq_sram (by omega) hhi
  simp [State.fabCause, ht, hlo, hw]

/-- Outside the master copies, a request of system SRAM that writes nothing meets the region check alone. -/
theorem State.fabCause_sram_of_not_writes (s : State) (w : Initiator) (q : FabReq) (hlo : 0x105B0000 ≤ q.addr.toNat)
    (hhi : q.addr.toNat < 0x10800000) (hw : kindWrites q.kind = false) :
    s.fabCause w q = if s.regionOk w q.addr.toNat q.size false then none else some 0 := by
  have ht : targetOf q.addr.toNat = .sram := targetOf_eq_sram (by omega) hhi
  simp [State.fabCause, ht, hw, Nat.not_lt.2 hlo]

/-! ### A request that fails its check (R98) -/

/-- The fabric keeps the first access error that it records (R98). -/
theorem State.accessError_fab (e : AccessError) (s : State) :
    (s.accessError e).fab = if s.fab.errValid then s.fab else
      { s.fab with errValid := true, errCause := e.cause, errAccess := e.access, errOwner := e.owner, errPos := e.pos,
                   errAddr := e.addr } := by
  unfold State.accessError
  split <;> simp [*]

theorem State.accessError_frame (e : AccessError) (s : State) :
    s.accessError e = { s with fab := (s.accessError e).fab, hub := (s.accessError e).hub, sil := (s.accessError e).sil,
                               setBits := (s.accessError e).setBits } := by
  unfold State.accessError
  rw [State.log_frame, State.raise_frame]
  split <;> rfl

theorem State.fabError_frame (s : State) (w : Initiator) (q : FabReq) (c pos : Nat) :
    s.fabError w q c pos = { s with fab := (s.fabError w q c pos).fab, hub := (s.fabError w q c pos).hub,
                                    sil := (s.fabError w q c pos).sil, setBits := (s.fabError w q c pos).setBits } :=
  State.accessError_frame _ s

/-- A request that fails its check changes the fabric, the hub, the sillage and the record of bits set alone; its answer is an error,
and its cause, owner and address are recorded unless an earlier error stands (R98). -/
theorem State.serve_of_fabCause {s t : State} {w : Initiator} {q : FabReq} {r : Answer} {g c : Nat} (hc : s.fabCause w q = some c)
    (hs : s.serve w q g = (t, r)) :
    t = { s with fab := t.fab, hub := t.hub, sil := t.sil, setBits := t.setBits } ∧
      Tbl.get? w.code t.fab.answers = some r ∧ r.err = true ∧ t.fab.errValid = true ∧ t.fab.resv = s.fab.resv ∧
      (s.fab.errValid = false → t.fab.errCause = c ∧ t.fab.errOwner = w.code ∧ t.fab.errAddr = q.addr.toNat) := by
  simp only [State.serve, hc, Prod.mk.injEq] at hs
  obtain ⟨rfl, rfl⟩ := hs
  refine ⟨?_, by simp, rfl, ?_⟩
  · have hframe := s.fabError_frame w q c (g / fabV % 256)
    generalize s.fabError w q c (g / fabV % 256) = u at hframe ⊢
    exact congrArg (State.modFab _) hframe
  · simp only [State.modFab_fab, State.fabError, State.accessError_fab]
    split <;> simp [*]

/-! ### A read that passes its check (R93) -/

/-- A read of system SRAM that passes its check and meets no ECC error answers the bytes at its address, and leaves nothing but its
answer. -/
theorem State.serve_read_sram {s t : State} {w : Initiator} {q : FabReq} {r : Answer} {g : Nat}
    (ht : targetOf q.addr.toNat = .sram) (hk : q.kind = .read) (he : q.ecc = .ok) (hc : s.fabCause w q = none)
    (hs : s.serve w q g = (t, r)) :
    t = { s with fab := t.fab } ∧ Tbl.get? w.code t.fab.answers = some r ∧ r.err = false ∧
      r.data = Mem.le s.mem q.addr.toNat q.size := by
  have hbeat : isBeat w q = false := by cases w <;> simp [isBeat, ht]
  have hecc : s.fabEcc q = s := by simp [State.fabEcc, he]
  have hbad : eccBad q = false := by simp [eccBad, he]
  have hperf : s.perform w q = (s, Mem.le s.mem q.addr.toNat q.size) := by
    simp [State.perform, hbeat, hk, ht, State.fabBytes, Mem.le]
  simp only [State.serve, hc, hecc, hbad, hperf, Bool.false_eq_true, if_false, Prod.mk.injEq] at hs
  obtain ⟨rfl, rfl⟩ := hs
  exact ⟨rfl, by simp, rfl, rfl⟩

/-! ### The command -/

theorem exec_fabricRequest (w : Initiator) (q : FabReq) (s : State) : exec (.fabricRequest w q) s = execFabricRequest w q s := rfl

/-- A granted request of a real-time initiator, or of any initiator while no accord is applied, is served at its grant. -/
theorem exec_fabricRequest_of_grantAt {s : State} {w : Initiator} {q : FabReq} {g : Nat} (ha : s.acts w = true)
    (hrt : isBe w = false ∨ s.acc.locked = false) (hg : s.grantAt w q s.now = some g) :
    exec (.fabricRequest w q) s = .next (s.serve w q g).1 := by
  have hq : (isBe w && s.acc.locked) = false := by rcases hrt with h | h <;> simp [h]
  simp [exec_fabricRequest, execFabricRequest, ha, hq, hg]

/-- Settles O4: a request of a closed area fails its check with cause 1, and a read of the result bank meets the region check alone. -/
theorem masterCopiesAreClosed : Obligations.MasterCopiesAreClosed := by
  refine ⟨fun s w q g => exec_fabricRequest_of_grantAt, fun s t w q r g hs => ⟨?_, ?_⟩⟩
  · rintro (⟨hlo, hhi⟩ | ⟨hlo, hhi, hw⟩)
    · exact State.serve_of_fabCause (s.fabCause_masterCopy w q hlo hhi) hs
    · exact State.serve_of_fabCause (s.fabCause_resultBank_write w q hlo hhi hw) hs
  · intro hlo hend hsize _ hk he
    have hcause := s.fabCause_sram_of_not_writes w q (by omega) (by omega) (by rw [hk]; rfl)
    cases hr : s.regionOk w q.addr.toNat q.size false with
    | false =>
      obtain ⟨hframe, hanswer, herr, -⟩ := State.serve_of_fabCause (hcause.trans (by rw [hr]; rfl)) hs
      exact ⟨hframe, hanswer, herr, fun h => absurd (herr.symm.trans h) (by decide)⟩
    | true =>
      obtain ⟨hframe, hanswer, herr, hdata⟩ :=
        State.serve_read_sram (targetOf_eq_sram (by omega) (by omega)) hk he (hcause.trans (by rw [hr]; rfl)) hs
      exact ⟨by rw [hframe], hanswer, herr, fun _ => ⟨hdata, hframe⟩⟩

end Sys2Proof.Machine
end

section
/-! Lost entries of the sillage (R524, R525): what an entry leaves that finds the queue full, what the writer leaves when it accepts
the front of its queue, and the LOST count that the statement asks for and the model does not give above 32 bits. -/

namespace Sys2Proof.Machine

/-! ### A count that stops at its maximum -/

theorem satInc_of_le {m n : Nat} (h : n ≤ m) : satInc m n = min m (n + 1) := by
  simp only [satInc]; split <;> omega

theorem satInc_of_ge {m n : Nat} (h : m ≤ n) : satInc m n = n := if_neg (by omega)

/-! ### An entry that finds the queue full -/

/-- An entry that finds the queue full changes nothing of the sillage but the losses, LOST and the flag of SIL_STATUS. -/
theorem State.enter_full (e : SilEntry) (s : State) (h : 64 ≤ s.sil.queue.length) :
    (s.enter e).sil = { s.sil with
      losses := (s.sil.losses.1 + 1,
        if s.sil.losses.1 = 0 then (s.sil.head + s.sil.queue.length) % 2 ^ 32 else s.sil.losses.2),
      lost := satInc (2 ^ 32 - 1) s.sil.lost, lostFlag := true } := by
  simp only [State.enter, if_neg (Nat.not_lt.mpr h), State.raiseEn_sil, State.setBit_sil]

theorem State.enter_full_lost (e : SilEntry) (s : State) (h : 64 ≤ s.sil.queue.length) :
    (s.enter e).sil.lost = satInc (2 ^ 32 - 1) s.sil.lost := by rw [State.enter_full e s h]

/-- The first half of R525 for a LOST that is a value of its 32-bit register. -/
theorem State.enter_full_of_lost_le (e : SilEntry) (s : State) (hfull : 64 ≤ s.sil.queue.length)
    (hlost : s.sil.lost ≤ 2 ^ 32 - 1) :
    (s.enter e).sil.queue = s.sil.queue ∧ (s.enter e).sil.lost = min (2 ^ 32 - 1) (s.sil.lost + 1) ∧
      (s.enter e).sil.lostFlag = true ∧ (s.enter e).sil.losses.1 = s.sil.losses.1 + 1 ∧ (s.enter e).sil.head = s.sil.head := by
  rw [State.enter_full e s hfull]
  exact ⟨rfl, satInc_of_le hlost, rfl, rfl, rfl⟩

/-! ### An entry that the writer accepts -/

@[simp] theorem Sillage.accept_losses (e : SilEntry) (x : Sillage) : (x.accept e).losses = x.losses := by
  simp only [Sillage.accept, Sillage.store]; split <;> rfl

@[simp] theorem Sillage.accept_lost (e : SilEntry) (x : Sillage) : (x.accept e).lost = x.lost := by
  simp only [Sillage.accept, Sillage.store]; split <;> rfl

/-- The second half of R525: the room that the accepted entry makes takes one entry 0x142 when entries were lost. -/
theorem exec_sillageEntry_reports_losses (s : State) (e : SilEntry) (rest : List SilEntry) (ha : s.alive = true)
    (hq : s.sil.queue = e :: rest) :
    ∃ t, exec .sillageEntry s = .next t ∧ t = { s with now := max s.now s.sil.nextAt, sil := t.sil } ∧ t.sil.losses.1 = 0 ∧
      t.sil.lost = s.sil.lost ∧
      (s.sil.losses.1 = 0 → t.sil.queue = rest) ∧
      (s.sil.losses.1 ≠ 0 → ∃ n, t.sil.queue = rest ++ [n] ∧ n.num = 0x142 ∧ n.block = 0x0F ∧
        n.payload = toLe 4 s.sil.losses.1 ++ toLe 4 s.sil.losses.2) := by
  have hexec : exec .sillageEntry s = execSillageEntry s := rfl
  simp only [hexec, execSillageEntry, ha, hq, State.modSil_sil, State.to_sil, Sillage.accept_losses]
  split
  case isTrue hnone =>
    exact ⟨_, rfl, rfl, by simpa using hnone, by simp, fun _ => rfl, fun hl => absurd hnone hl⟩
  case isFalse hsome =>
    exact ⟨_, rfl, rfl, rfl, by simp, fun hl => absurd hl hsome, fun _ => ⟨_, rfl, rfl, rfl, rfl⟩⟩

/-- Refutes O3: its first clause ranges over states whose LOST is past 32 bits. With 64 entries queued and LOST = 2^32 the model's
saturating count stays at 2^32, where the statement asks for 2^32 - 1. For a LOST of at most 2^32 - 1 the clause holds
(`State.enter_full_of_lost_le`), and the second clause holds of every state (`exec_sillageEntry_reports_losses`). -/
theorem not_lostEntriesAreReported : ¬ Obligations.LostEntriesAreReported := by
  rintro ⟨hdrop, -⟩
  let e : SilEntry := { tb := 0, tnc := 0, block := 0x0F, inst := 0, cls := 2, num := 0x160, payload := [] }
  let s : State := State.reset.modSil fun l => { l with queue := List.replicate 64 e, lost := 2 ^ 32 }
  have hfull : 64 ≤ s.sil.queue.length := List.length_replicate.ge
  have hstays : (s.enter e).sil.lost = 2 ^ 32 :=
    (State.enter_full_lost e s hfull).trans (satInc_of_ge (Nat.sub_le (2 ^ 32) 1))
  obtain ⟨-, hlost, -⟩ := hdrop s e hfull
  have hasked : (s.enter e).sil.lost = 2 ^ 32 - 1 := hlost.trans (by decide)
  exact absurd (hstays.symm.trans hasked) (by decide)

end Sys2Proof.Machine
end
